-- ==== Sys2Proof/Word.lean ====
section
/-!
DEFINITION. Word.lean: the word types of the DV1024 (R8, R9) and their plainest arithmetic.
-/
namespace Sys2Proof

/-- One byte. -/
abbrev Byte := BitVec 8
/-- One 32-bit register or data word. -/
abbrev Word := BitVec 32
/-- One 64-bit word, such as legal time. -/
abbrev DWord := BitVec 64
/-- One 64-byte line, byte k in bits 8k+7 to 8k (R9: little-endian). -/
abbrev Line := BitVec 512

end Sys2Proof
end

