-- ==== Sys2Proof/Machine/Types.lean ====
section
/-!
DEFINITION. Machine/Types.lean: the plain data that commands carry: Seodex messages and flits (chapters 5 and 6), record
core operations (chapter 10), and the results the outside world reports.
-/
namespace Sys2Proof

/-- Who writes a register: the control port, the record core, or debug under GRANT bit 2 of R70, which R383 treats as the record
core. -/
inductive Src | cp | rc | dbg
deriving DecidableEq, Repr

/-- The request opcodes of Table 5-8, MOP 0x01 to 0x0A. -/
inductive ReqKind
  | readShared | readUnique | readOnce | readReserve | upgrade
  | writeFull | writePartial | writeConditional | cleanEvict | dirtyEvict
deriving DecidableEq, Repr

/-- A request message: its head (Table 5-6), the fields of Table 6-1, and for DATA heads the line and byte mask. -/
structure ReqMsg where
  kind : ReqKind
  mclass : Nat
  src : Nat
  dst : Nat
  txid : Nat
  fid : Nat
  peek : Bool
  tenant : Nat
  line : Nat
  rtag : Nat
  data : Line
  mask : BitVec 64
deriving DecidableEq, Repr

/-- The response opcodes MOP 0x20 to 0x24. -/
inductive RspKind | data | dataPoison | ack | retry | compAck
deriving DecidableEq, Repr

/-- A response message: its head and the fields of Table 6-3, with the line of a DATA head. -/
structure RspMsg where
  kind : RspKind
  mclass : Nat
  src : Nat
  dst : Nat
  tag : Nat
  htid : Nat
  state : Nat
  code : Nat
  line : Line
deriving DecidableEq, Repr

/-- A Doorbell message (Table 13-5). `low` holds bytes 8 to 15 as one number: NONCE, or FROM with COUNT above bit 48. -/
structure DoorMsg where
  mclass : Nat
  src : Nat
  dst : Nat
  tenant : Nat
  kind : Nat
  typ : Nat
  slot : Nat
  low : Nat
deriving DecidableEq, Repr

/-- A TimeOfDay message (chapter 12): bytes 4 to 15 as the chapter's fields. -/
structure TodMsg where
  mclass : Nat
  src : Nat
  dst : Nat
  tenant : Nat
  seconds : Nat
  utcOfs : Int
  speed : Nat
  speedValid : Bool
  timeValid : Bool
deriving DecidableEq, Repr

/-- One message of a sequenced flit. `other` is any MOP that only the hub sends, or none at all. -/
inductive Msg
  | req (m : ReqMsg)
  | rsp (m : RspMsg)
  | door (m : DoorMsg)
  | tod (m : TodMsg)
  | other (mop mclass src dst : Nat)
deriving DecidableEq, Repr

/-- The header of a received flit (Table 5-3), but for the SEQ that only sequenced flits use: ACK, NSLOT, CCLASS, CFREED, and its reserved bits taken together. `corr` are
the symbols corrected in the flit's codeword, given with the first of its flits (R168). -/
structure FlitHdr where
  ack : Nat
  nslot : Nat
  cclass : Nat
  cfreed : Nat
  resv : Nat
  corr : Nat
deriving DecidableEq, Repr

/-- A flit without messages as it comes to a port: the port and the flit's header. -/
structure PortFlit where
  port : Nat
  hdr : FlitHdr
deriving DecidableEq, Repr

/-- A flit whose CRC fails: the port it came to, and the symbols corrected in its codeword (R168). -/
structure BadFlit where
  port : Nat
  corr : Nat
deriving DecidableEq, Repr

/-- Agents of a port, by the bits of the MASK of a DETACH (R191). -/
structure PortMask where
  port : Nat
  mask : Nat
deriving DecidableEq, Repr

/-- A fetch of the record core: whether the instruction has two half-words, and what the caches' ECC finds (0 nothing). -/
structure FetchSite where
  wide : Bool
  ecc : Nat
deriving DecidableEq, Repr

/-- A message from the hub to an agent. -/
inductive OutMsg
  | snoop (kind sid tenant line : Nat)
  | rsp (kind : RspKind) (tag htid state code : Nat) (line : Line)
  | event (tenant kind source mseq info time : Nat)
  | receipt (tenant kind status slot seq count : Nat)
  | srcRead (bytes : List Nat)
  | notice (bytes : List Nat)
deriving DecidableEq, Repr

/-- The engines of agent 0, as the askers of one line access each, so that its answer reaches them: the evidence store
(payload line of an entry, receipt line, export line), the acquisition rings (data line, read index), the Lathes (list line,
result line), the record core (load, store, fetch, cache fill and write-back), Chisel's window accesses, debug, and the tenant
memory manager. (DEDUCED, log 9.) -/
inductive Ag0Who
  | evsSub (idx i : Nat)
  | evsRcpt (rid : Nat)
  | evsExp (reg i : Nat)
  | acqData (ring i : Nat)
  | acqWr (ring i : Nat)
  | acqRd (ring : Nat)
  | lthList (l i : Nat)
  | lthRes (l i : Nat)
  | rcFill (line : Nat)
  | rcWb (line : Nat)
  | rcDev (id : Nat)
  | chz (no i : Nat)
  | dbg
deriving DecidableEq, Repr

/-! ### Record core instructions (chapter 10) -/

/-- Register and immediate arithmetic of RV32I. -/
inductive AluFn | add | sub | sll | slt | sltu | xor | srl | sra | or | and
deriving DecidableEq, Repr

/-- Branch conditions of RV32I. -/
inductive BrFn | eq | ne | lt | ge | ltu | geu
deriving DecidableEq, Repr

/-- Integer, branch and jump instructions of RV32I; compressed forms are those of the instruction they stand for. -/
inductive RvAlu
  | lui (rd imm20 : Nat)
  | auipc (rd imm20 : Nat)
  | jal (rd : Nat) (off : Int)
  | jalr (rd rs1 : Nat) (imm : Int)
  | branch (f : BrFn) (rs1 rs2 : Nat) (off : Int)
  | imm (f : AluFn) (rd rs1 : Nat) (imm : Int)
  | reg (f : AluFn) (rd rs1 rs2 : Nat)
deriving DecidableEq, Repr

/-- The M extension. -/
inductive MulFn | mul | mulh | mulhsu | mulhu | div | divu | rem | remu
deriving DecidableEq, Repr

/-- The A extension's AMOs. -/
inductive AmoFn | swap | add | xor | and | or | min | max | minu | maxu
deriving DecidableEq, Repr

/-- Zicsr: CSRRW, CSRRS, CSRRC and their immediate forms. -/
inductive CsrFn | rw | rs | rc
deriving DecidableEq, Repr

/-- The CX instructions of Table 11-2. -/
inductive CxName
  | hinit | hupd | hfin | ginit | gaad | gupd | gout | gfin | verify | kdf | wait | poll | crd
  | sign | kset | kclr | cinc | carve | abort
deriving DecidableEq, Repr

/-- A CX instruction: its register numbers and funct3. -/
structure CxIn where
  name : CxName
  rd : Nat
  rs1 : Nat
  rs2 : Nat
  f3 : Nat
deriving DecidableEq, Repr

/-- CX instructions squashed before they retired (R436): their number, and the lines of the tenant-0 window for which their
operations had sent reads. -/
structure Squash where
  n : Nat
  lines : List Nat
deriving DecidableEq, Repr

/-- Instructions that may have to wait before they can complete, and a trap that waits for the store buffer. Widths are in
bytes; `c` marks a compressed form; `ecc` is what the TCM's check finds: 0 nothing, 1 corrected, 2 uncorrectable. `fetch` is the fetch of the
instruction at the pc, `icStore` a store to an IC register that a row of its own names. -/
inductive RvOp
  | load (w : Nat) (signed : Bool) (rd rs1 : Nat) (imm : Int) (c : Bool) (ecc : Nat)
  | store (w : Nat) (rs1 rs2 : Nat) (imm : Int) (c : Bool)
  | lr (rd rs1 : Nat) (ecc : Nat)
  | sc (rd rs1 rs2 : Nat) (spurious : Bool)
  | amo (f : AmoFn) (rd rs1 rs2 : Nat) (ecc : Nat)
  | fence
  | fenceI
  | mret
  | wfi
  | cx (i : CxIn)
  | fetch (wide : Bool) (ecc : Nat)
  | icStore (key : Nat) (w : Word)
  | trap (cause : Nat) (tval epc : Word)
deriving DecidableEq, Repr

end Sys2Proof
end

