-- ==== Sys2Proof/Syntax.lean ====
section
/-!
DEFINITION. Syntax.lean: the commands of the block, one constructor per row of the table, with the row's operands.

A command that is a write of one register carries who writes (`src`) and what the row does not fix: an index of the register in
its array (`p` a port, `c` a channel, `t` a tenant, `n` or `k` an element), and the word `w` or its fields. A command that is an
event outside carries what the world brings: a message, a pin's level and how long it held (`held`, `high`, `low`, `width`, in
ns), or what a circuit found (`ok`, `err`).
-/
namespace Sys2Proof

/-- A command. -/
inductive Instr
  /-- PORST_N_ASSERT (R62): A low pulse of at least 200 ns on PORST_N puts the whole device into power-on reset. -/
  | porstNAssert (low : Nat)
  /-- PORST_N_RELEASE (R65): PORST_N rises: the TCXO is detected and the sequence of Table 2-6 brings up TB, OTP, DAC, CP, RC and
  FLT. -/
  | porstNRelease (tcxo : Bool) (ticks : Nat)
  /-- TCXO_DETECT_TIMEOUT (R65): No TCXO within 10 ms of PORST_N release: the device holds at step 1, sets TCXO_ABSENT and keeps
  FAULT_N low. -/
  | tcxoDetectTimeout
  /-- WRST_N_ASSERT (R67): Warm reset puts every island except AON and TB into reset, letting a flash program in progress finish
  first. -/
  | wrstNAssert (low : Nat)
  /-- WRST_N_RELEASE (R67): On WRST_N release the device repeats steps 5 to 7 of Table 2-6, or the whole power-on sequence if reset
  was not yet complete. -/
  | wrstNRelease (tcxo : Bool) (ticks : Nat)
  /-- DROOP_RESET (R63): VDD_CORE below the droop threshold for more than 5 µs applies a power-on reset and sets DROOP. -/
  | droopReset (level : Nat) (dur : Nat) (tcxo : Bool) (ticks : Nat)
  /-- SUPPLY_LOSS (R61): Uncontrolled loss of the main supplies; only effect on evidence is torn-record handling. -/
  | supplyLoss
  /-- VBAT_LOSS (R64): VBAT falls below its minimum and the RTC is lost, flagged as RTC_LOST at the next PORST_N release. -/
  | vbatLoss
  /-- SUPPLY_MONITOR_EVENT (R726): A monitored supply leaves its band: latch bit 22 sets and SUPPLY is raised with the channel code. -/
  | supplyMonitorEvent (code : Nat)
  /-- SUPPLY_RETURN (R742): VDD_IO or VDDA returns within range and pins and analog blocks meet the manual again within 100 µs. -/
  | supplyReturn (code : Nat)
  /-- VALLEY_TARGET_WRITE (R44): A write of CP_VALLEY.TARGET starts an entry, an exit, a Dale transition, or is kept while BUSY. -/
  | valleyTargetWrite (src : Src) (w : Word)
  /-- RC_READY_WRITE (R406): Recorder firmware writes ISL_RC_CTRL.RC_READY, closing its tenant-0 window and letting the entry drain. -/
  | rcReadyWrite (req : Bool)
  /-- VALLEY_DRAIN_DONE (R53): Trackers, fetches, queues and Lathes have drained, and the entry proceeds to park ports, self-refresh
  and stop islands. -/
  | valleyDrainDone
  /-- VALLEY_RC_LIMIT_EXPIRY (R49): RC_READY did not arrive within RC_LIMIT and the entry is abandoned. -/
  | valleyRcLimitExpiry
  /-- VALLEY_DRAIN_LIMIT_EXPIRY (R49): The drain did not finish within DRAIN_LIMIT and the entry is abandoned. -/
  | valleyDrainLimitExpiry
  /-- WAKE_EDGE (R58): An edge of at least 20 ns on a latch source sets its asynchronous latch in AON. -/
  | wakeEdge (src : Nat) (rising : Bool) (width : Nat)
  /-- WAKE_REQ_WRITE (R45): The record core writes ISL_RC_CTRL.WAKE_REQ to request an exit to Open. -/
  | wakeReqWrite (ready : Bool)
  /-- PLL_LOCK (R37): A PLL restarted on Basin exit reaches lock and the islands it serves start. -/
  | pllLock (k : Nat)
  /-- VALLEY_EXIT_COMPLETE (R54): Every island of the new depth runs: CURRENT and BUSY update and the valley-exit event is raised. -/
  | valleyExitComplete
  /-- ISLAND_IDLE_STOP (R39): An on-demand island idle for 100 µs stops again. -/
  | islandIdleStop (isl : Nat)
  /-- AUTO_RETURN_REENTRY (R56): After a carve-due wake with AUTO_RETURN set, the device re-enters Basin once the submit queue is
  empty. -/
  | autoReturnReentry
  /-- PLL_LOCK_LOSS (R78): A PLL loses lock: CLK_LOCK is raised and the islands it serves stall until relock. -/
  | pllLockLoss (k : Nat)
  /-- REF_HOLD_EXPIRY (R78): With the TCXO failed, the core and DRAM PLLs hold frequency for 10 ms and CLK_REF is then raised. -/
  | refHoldExpiry
  /-- TRST_N_RESET (R69): TRST_N resets the TAP only. -/
  | trstNReset
  /-- EXTEST (R69): TAP instruction EXTEST selects boundary scan, available before unlock. -/
  | extest
  /-- IDCODE (R69): TAP instruction IDCODE returns 0x1D10_24A3. -/
  | idcode
  /-- SAMPLE_PRELOAD (R69): TAP instruction SAMPLE/PRELOAD for boundary scan. -/
  | samplePreload
  /-- BYPASS (R69): TAP instruction BYPASS, also selected by every undefined code and by DBG_ACCESS before unlock. -/
  | bypass
  /-- UNLOCK_CHAL (R69): Capture-DR of UNLOCK_CHAL loads 32 fresh challenge bytes. -/
  | unlockChal
  /-- UNLOCK_RESP (R69): Update-DR of UNLOCK_RESP checks challenge, GRANT, key hash and signature, and spends the challenge. -/
  | unlockResp (grant : Word) (sig : List Byte) (key : List Byte)
  /-- UNLOCK_RESP_STATUS (R69): Capture-DR of UNLOCK_RESP returns the unlock STATUS. -/
  | unlockRespStatus
  /-- DEBUG_UNLOCK_TIMEOUT (R69): The DEBUG_UNLOCK record not carved within 1 s: the grant stays closed with REC_FAIL. -/
  | debugUnlockTimeout
  /-- DBG_IC_READ (R70): DBG_ACCESS OP 1 reads IC space under the record core access map. -/
  | dbgIcRead (a : Nat)
  /-- DBG_IC_WRITE (R70): DBG_ACCESS OP 2 writes IC space under Table 10-4 and R383. -/
  | dbgIcWrite (a : Nat) (d : Word)
  /-- DBG_WINDOW_READ (R70): DBG_ACCESS OP 3 reads the tenant-0 window. -/
  | dbgWindowRead (a : Nat)
  /-- DBG_WINDOW_WRITE (R70): DBG_ACCESS OP 4 writes the tenant-0 window. -/
  | dbgWindowWrite (a : Nat) (d : Word)
  /-- DBG_HALT (R70): DBG_ACCESS OP 5 halts the record core. -/
  | dbgHalt
  /-- DBG_RESUME (R70): DBG_ACCESS OP 6 resumes the record core. -/
  | dbgResume
  /-- DBG_STEP (R70): DBG_ACCESS OP 7 single-steps the record core. -/
  | dbgStep
  /-- DBG_READ_REGISTER (R70): DBG_ACCESS OP 8 reads the PC or a register of the halted core. -/
  | dbgReadRegister (n : Nat)
  /-- DBG_WARM_RESET (R70): DBG_ACCESS OP 9 requests a warm reset and sets ISL_RESET_CAUSE.DBG. -/
  | dbgWarmReset (tcxo : Bool) (ticks : Nat)
  /-- CP_FRAME_RD (R91): An RD frame reads LEN + 1 words word by word and returns data, status and RCRC. -/
  | cpFrameRd (tag : Nat) (len : Nat) (addr : Nat) (ccrc : Byte) (late : Bool)
  /-- CP_FRAME_WR (R95): A WR frame writes LEN + 1 words, unless it repeats the kept frame. -/
  | cpFrameWr (tag : Nat) (len : Nat) (addr : Nat) (words : List Word) (ccrc : Byte) (late : Bool)
  /-- CP_FRAME_NOP (R94): A NOP frame accesses nothing and returns a status. -/
  | cpFrameNop (tag : Nat) (len : Nat) (addr : Nat) (ccrc : Byte) (late : Bool)
  /-- CP_FRAME_UNDEFINED_OP (R86): A frame with an undefined OPC is answered BADCRC or BADOP and accesses nothing. -/
  | cpFrameUndefinedOp (opc : Nat) (tag : Nat) (len : Nat) (addr : Nat) (ccrc : Byte) (late : Bool)
  /-- CP_CS_EARLY_RISE (R92): CP_CS_N rises before the CCRC ends: nothing is accessed and FRAMING sets. -/
  | cpCsEarlyRise
  /-- CP_CS_LATE_RISE (R92): CP_CS_N rises after the CCRC check: the frame completes, LATE_CS sets and PEND holds until done. -/
  | cpCsLateRise (opc : Nat) (tag : Nat) (len : Nat) (addr : Nat) (words : List Word) (ccrc : Byte)
  /-- CP_STALL_EXPIRY (R97): STALL_MAX wait bytes are reached: the device sends 0xA5 and the word is answered STALL_EXPIRED. -/
  | cpStallExpiry (between : Bool)
  /-- CP_PENDING_ACCESS_DONE (R97): An access still in progress after expiry or late CS completes and CP_LAST.PEND clears. -/
  | cpPendingAccessDone
  /-- CP_STALL_FAULT_TIMEOUT (R118): CP_LAST.PEND stays 1 for 10 ms and CP_STALL is raised. -/
  | cpStallFaultTimeout
  /-- REGISTER_WRITE (R121): A write to a register that has no row of its own acts by type as Table 4-1 lays down. -/
  | registerWrite (src : Src) (key : Nat) (w : Word)
  /-- UPDATE_STROBE (R128): A write of CP_UPDATE.STROBE strobes each group written 1, applying staged SH fields and armed tables. -/
  | updateStrobe (src : Src) (groups : Byte)
  /-- UPD_N_EDGE (R128): A qualified falling edge on UPD_N strobes the groups that select it. -/
  | updNEdge (high : Nat) (low : Nat)
  /-- SCHEDULED_STROBE (R132): Legal time reaches CP_UPD_AT while armed and the selected groups are strobed. -/
  | scheduledStrobe
  /-- UPD_ARM (R132): CP_UPD_TCTRL.ARM takes CP_UPD_AT and arms the scheduled strobe, firing at once if the time is past. -/
  | updArm (src : Src)
  /-- UPD_DISARM (R132): CP_UPD_TCTRL.DISARM cancels the pending scheduled strobe. -/
  | updDisarm (src : Src)
  /-- CP_LOCK_WRITE (R134): A write of CP_LOCK closes lock domains for good until PORST_N. -/
  | cpLockWrite (src : Src) (w : Word)
  /-- CP_LOCK_STRICT_WRITE (R138): A write of CP_LOCK_STRICT.STRICT makes every later lock violation escalate. -/
  | cpLockStrictWrite (src : Src) (w : Word)
  /-- PARITY_CHECK (R141): The periodic check of a configuration word runs at least every 50 µs. -/
  | parityCheck (key : Nat) (staged : Bool) (upset : Option Nat)
  /-- KEY_CHECK (R145): CP_TBL_CTRL.KEY_CHECK starts the check of the staged table key against the OTP hash. -/
  | keyCheck (src : Src)
  /-- KEY_CHECK_DONE (R145): The key check completes, setting KEY_OK or KEY_BAD. -/
  | keyCheckDone
  /-- CHECK (R146): CP_TBL_CTRL.CHECK starts the checks of Table 4-7 on the staging buffer. -/
  | check (src : Src)
  /-- TABLE_CHECK_DONE (R147): The check run ends in VERIFIED or REJECTED with a REASON. -/
  | tableCheckDone
  /-- ARM (R148): CP_TBL_CTRL.ARM rejudges checks, offers TABLE_CHANGE and starts copying the body to the inactive bank. -/
  | arm (src : Src)
  /-- TABLE_ARM_COPY_DONE (R148): The body copy completes, CP_TBL_ARMED bit k sets and STATE returns to EMPTY. -/
  | tableArmCopyDone
  /-- DISARM (R151): CP_TBL_CTRL.DISARM discards armed table K. -/
  | disarm (src : Src) (k : Nat)
  /-- CLEAR (R153): CP_TBL_CTRL.CLEAR returns STATE to EMPTY so the buffer takes writes again. -/
  | clear (src : Src)
  /-- STAGING_BUFFER_WRITE (R153): A write to the staging buffer is stored, or discarded with WR_IGN while the engine holds the
  image. -/
  | stagingBufferWrite (src : Src) (k : Nat) (w : Word)
  /-- PORT_SIGNAL_DETECT (R183): Signal is seen on every lane of the width and the port goes from DETECT to EQUALIZE. -/
  | portSignalDetect (p : Nat)
  /-- EQUALIZE_DONE (R183): Both sides show RX_READY for 16 frames and the port enters ALIGN. -/
  | equalizeDone (p : Nat)
  /-- EQUALIZE_TIMEOUT (R183): EQUALIZE exceeds 100 ms: TRAIN_FAIL sets and the port returns to DETECT. -/
  | equalizeTimeout (p : Nat)
  /-- ALIGN_LOCK (R183): The port locks to codewords, deskews and orders lanes and enters SYNC. -/
  | alignLock (p : Nat)
  /-- SYNC_TIMER (R184): In SYNC a SYNC flit is sent every 1 µs. -/
  | syncTimer (p : Nat)
  /-- SYNC (R184): A SYNC flit from the peer decides a fresh, resumed or failed session. -/
  | sync (f : PortFlit) (epoch : Nat) (las : Nat) (seen : Bool) (fresh : Bool) (adv : List Nat)
  /-- FLIT_RECEIVE_SEQUENCED (R173): A sequenced flit passing its CRC is classified new, duplicate or gap and acted on, with its ACK
  and credits. -/
  | flitReceiveSequenced (p : Nat) (h : FlitHdr) (seq : Nat) (data : Bool) (msgs : List Msg)
  /-- IDLE (R175): An IDLE flit is received and its ACK and credit fields acted on. -/
  | idle (p : Nat) (h : FlitHdr)
  /-- FLIT_CRC_FAIL (R169): A flit whose CRC fails is discarded whole and a NAK is sent. -/
  | flitCrcFail (f : BadFlit)
  /-- CODEWORD_UNCORRECTABLE (R168): An uncorrectable codeword is counted and its five flits treated as CRC failures. -/
  | codewordUncorrectable (p : Nat)
  /-- NAK (R177): A received NAK makes the transmitter resend every held flit from EXPECT onward. -/
  | nak (f : PortFlit) (expect : Nat)
  /-- NAK_TMR_EXPIRY (R174): NAK_TMR has run, allowing a repeat NAK with the same EXPECT. -/
  | nakTmrExpiry (p : Nat)
  /-- ACK_TMR_EXPIRY (R175): No flit sent for ACK_TMR after an acceptance: an IDLE flit is sent. -/
  | ackTmrExpiry (p : Nat)
  /-- REPLAY_TMR_EXPIRY (R177): The oldest held flit unacknowledged for REPLAY_TMR: every held flit from it is resent. -/
  | replayTmrExpiry (p : Nat)
  /-- TRANSMIT_FLIT (R180): A flit is sent once credit and replay-buffer room allow, carrying messages, ACK and credit reports. -/
  | transmitFlit (p : Nat)
  /-- LINK_CMD_RETRAIN (R183): LNK_CMD.RETRAIN retrains an ACTIVE port. -/
  | linkCmdRetrain (src : Src) (p : Nat)
  /-- PARTNER_TRAINING_FRAMES (R183): Training frames arrive from the partner and the hub enters RETRAIN, or leaves LPI. -/
  | partnerTrainingFrames (p : Nat)
  /-- CODEWORD_LOCK_LOSS (R183): Codeword lock is lost and the port enters RETRAIN. -/
  | codewordLockLoss (p : Nat)
  /-- RETRAIN_LIMIT_EXPIRY (R183): RETRAIN exceeds RETRAIN_LIMIT and the port enters DOWN. -/
  | retrainLimitExpiry (p : Nat)
  /-- DOWN_RETRY_TIMER (R182): 1 ms after DOWN the port tries again from DETECT. -/
  | downRetryTimer (p : Nat)
  /-- ATTACH_REQ (R186): ATTACH REQ is answered with GRANT of agent IDs and precise slots, or REFUSE. -/
  | attachReq (f : PortFlit) (nonce : Nat) (n : Nat) (part : Bool) (caching : Nat) (partner : Nat)
  /-- ATTACH_ACK (R189): ATTACH ACK completes the attach and sets LNK_EVT.ATTACHED. -/
  | attachAck (f : PortFlit)
  /-- CTRL_TMR_EXPIRY (R189): CTRL_TMR expires and the hub repeats GRANT or HUB_REQ. -/
  | ctrlTmrExpiry (p : Nat)
  /-- DETACH_REQ (R190): DETACH REQ starts an orderly detach of the agents in MASK. -/
  | detachReq (f : PortFlit) (nonce : Nat) (mask : Nat)
  /-- DETACH (R190): LNK_CMD.DETACH sends HUB_REQ for the agents of LNK_DETACH_MASK. -/
  | detach (src : Src) (p : Nat)
  /-- FORCE_DETACH (R192): LNK_CMD.FORCE_DETACH applies a surprise detach to every agent of the port. -/
  | forceDetach (src : Src) (p : Nat)
  /-- DETACH_TMR_EXPIRY (R191): DONE not sent within DETACH_TMR: a surprise detach applies to the agents in MASK. -/
  | detachTmrExpiry (m : PortMask)
  /-- ID_QUARANTINE_RELEASE (R193): A released ID with no SF entry or tracker left becomes free and its descriptor bits are cleared. -/
  | idQuarantineRelease (a : Nat)
  /-- LPI_ACK (R194): LPI_ACK arrives and the port moves to LPI. -/
  | lpiAck (f : PortFlit)
  /-- PARK_ACK (R195): PARK_ACK arrives and the port enters PARKED. -/
  | parkAck (p : Nat) (h : FlitHdr)
  /-- PARK_TIMEOUT (R195): 15 µs after PARK with no PARK_ACK the port enters PARKED. -/
  | parkTimeout (p : Nat)
  /-- READ_SHARED (R221): A ReadShared request is taken by the hub for tracker allocation and translation. -/
  | readShared (p : Nat) (m : ReqMsg)
  /-- READ_UNIQUE (R221): A ReadUnique request is taken by the hub. -/
  | readUnique (p : Nat) (m : ReqMsg)
  /-- READ_ONCE (R221): A ReadOnce request, with PEEK 0 or 1, is taken by the hub. -/
  | readOnce (p : Nat) (m : ReqMsg)
  /-- READ_RESERVE (R225): A ReadReserve request is taken by the hub. -/
  | readReserve (p : Nat) (m : ReqMsg)
  /-- UPGRADE (R261): An Upgrade request is taken by the hub. -/
  | upgrade (p : Nat) (m : ReqMsg)
  /-- WRITE_FULL (R223): A WriteFull request with its line is taken by the hub. -/
  | writeFull (p : Nat) (m : ReqMsg)
  /-- WRITE_PARTIAL (R223): A WritePartial request with its masked bytes is taken by the hub. -/
  | writePartial (p : Nat) (m : ReqMsg)
  /-- WRITE_CONDITIONAL (R226): A WriteConditional request is taken, or answered from the kept outcome for a repeated RTAG. -/
  | writeConditional (p : Nat) (m : ReqMsg)
  /-- CLEAN_EVICT (R258): A CleanEvict is taken by the hub. -/
  | cleanEvict (p : Nat) (m : ReqMsg)
  /-- DIRTY_EVICT (R258): A DirtyEvict with its line is taken by the hub. -/
  | dirtyEvict (p : Nat) (m : ReqMsg)
  /-- TRACKER_ALLOCATE (R273): A waiting request takes a general or urgent tracker and its credit is freed. -/
  | trackerAllocate
  /-- TRANSLATION_WALK_DONE (R303): A page-table walk ends and the waiting requests join their line queues or wait for a page
  transition. `ue` names the entry whose read met an uncorrectable error: 0 none, 1 the leaf, 2 that of the L1 table, 3 that of the
  L0 table. -/
  | translationWalkDone (key : Nat) (ue : Nat)
  /-- LINE_ACTIVATE (R211): A queued request becomes the line's active transaction and follows its row of Table 6-8. -/
  | lineActivate (tenant : Nat) (line : Nat) (err : Nat)
  /-- DATA (R219): A Data message from an agent is taken as a snoop response or as an image-source line. -/
  | data (p : Nat) (m : RspMsg)
  /-- DATA_POISON (R288): A DataPoison message from an agent is forwarded as poison and the mark written. -/
  | dataPoison (p : Nat) (m : RspMsg)
  /-- ACK (R219): An Ack message from an agent is taken as a snoop response or as the end of a SrcRead. -/
  | ack (p : Nat) (m : RspMsg)
  /-- COMPACK (R214): CompAck frees the tracker of its transaction. -/
  | compack (p : Nat) (m : RspMsg)
  /-- COMPACK_TIMEOUT (R214): No CompAck 1 ms after the response: the tracker is freed and HA_PROTO raised. -/
  | compackTimeout (htid : Nat)
  /-- DRAM_READ_RETURN (R228): DRAM data returns to the HA and is used or held or discarded. -/
  | dramReadReturn (htid : Nat) (err : Nat)
  /-- SNOOP_DEADLINE_EXPIRY (R244): A snoop deadline passes and the agent is declared unresponsive. -/
  | snoopDeadlineExpiry (sid : Nat) (a : Nat)
  /-- POISON_SWEEP_DONE (R245): The background poison sweep ends and KIND 2 notices are sent. -/
  | poisonSweepDone (a : Nat)
  /-- DETACH_SWEEP_DONE (R243): The detach sweep completes and DONE is sent. -/
  | detachSweepDone (p : Nat) (mask : Nat)
  /-- RESERVATION_EXPIRY (R225): 10 µs after a ReadReserve response the agent's reservation is lost. -/
  | reservationExpiry (a : Nat)
  /-- BACK_INVALIDATION_DONE (R234): Every holder of a victim has answered and the eviction-buffer entry is freed. -/
  | backInvalidationDone (sid : Nat)
  /-- EVB_ENTRY_FREE (R233): A general request waiting for an eviction-buffer entry takes one. -/
  | evbEntryFree
  /-- CREATE (R301): TMM CREATE checks the descriptor, builds an empty L0 table and sets LIVE. -/
  | create (src : Src) (t : Nat)
  /-- RELEASE (R328): TMM RELEASE sets RELEASING and starts drain and scan. -/
  | release (src : Src) (t : Nat)
  /-- RELEASE_SWEEP_DONE (R328): The release scan ends, frames return to pools, passes end and the tenant becomes FREE. -/
  | releaseSweepDone
  /-- MAP (R300): TMM MAP makes UNBACKED pages BLANK. -/
  | map (src : Src) (t : Nat)
  /-- UNMAP (R300): TMM UNMAP sweeps pages and makes them UNBACKED. -/
  | unmap (src : Src) (t : Nat)
  /-- PIN (R300): TMM PIN brings pages to RESIDENT and pins them. -/
  | pin (src : Src) (t : Nat)
  /-- UNPIN (R300): TMM UNPIN makes PINNED pages RESIDENT. -/
  | unpin (src : Src) (t : Nat)
  /-- LOAD_SLOT (R318): TMM LOAD_SLOT sets the slot LOADING and fetches its manifest and tree. -/
  | loadSlot (src : Src) (t : Nat)
  /-- LOAD_SLOT_FETCH_DONE (R318): Manifest and tree levels arrive and are verified: the slot becomes READY or FAILED. -/
  | loadSlotFetchDone
  /-- PREFETCH (R322): TMM PREFETCH fetches every IMAGE_PENDING page of a READY slot. -/
  | prefetch (src : Src) (t : Nat)
  /-- UNLOAD_SLOT (R327): TMM UNLOAD_SLOT frees an inactive slot's pages and tree and sets it EMPTY. -/
  | unloadSlot (src : Src) (t : Nat)
  /-- FLIP (R325): TMM FLIP is refused or accepted, stalling the image range and starting drain and sweep. -/
  | flip (src : Src) (t : Nat)
  /-- FLIP_SWEEP_DONE (R326): The old image's lines are swept: ACTIVE_SLOT switches, the stall is released and FLIP_DONE Events go
  out. -/
  | flipSweepDone
  /-- REFETCH (R323): TMM REFETCH clears POISON_PEND on every page of the slot. -/
  | refetch (src : Src) (t : Nat)
  /-- UNBIND (R330): TMM UNBIND refuses the agent's new requests and scans its lines. -/
  | unbind (src : Src) (t : Nat)
  /-- UNBIND_SCAN_DONE (R330): The scan ends and the binding bit is cleared. -/
  | unbindScanDone
  /-- TMM_BAD_OP (R299): A TMM_CMD write with an unlisted opcode ends with BAD_OP. -/
  | tmmBadOp (src : Src) (op : Nat) (t : Nat)
  /-- TMM_ENABLE (R337): TMM_CTRL.EN written 1 takes N channels and builds tenant 0's tables. -/
  | tmmEnable (src : Src) (foldBg : Bool)
  /-- DSC_BIND_WRITE (R330): A DSC_BIND_n write sets bits and leaves set bits of a LIVE tenant set. -/
  | dscBindWrite (src : Src) (t : Nat) (k : Nat) (w : Word)
  /-- BLANK_FILL_DONE (R305): A frame is zero-filled and the BLANK page becomes RESIDENT. -/
  | blankFillDone (key : Nat)
  /-- FOLD_SCAN (R313): Every PERIOD the fold scan clears ACC bits and marks pages cold. -/
  | foldScan
  /-- FOLD_JOB_DONE (R314): A fold job ends with the page FOLDED, dropped, or kept RESIDENT. -/
  | foldJobDone (key : Nat) (chunks : Nat)
  /-- UNFOLD_DONE (R316): An unfold restores the page to RESIDENT. -/
  | unfoldDone (key : Nat) (crcOk : Bool)
  /-- PAGE_HASH_DONE (R321): A fetched page is hashed and becomes RESIDENT, or gets POISON_PEND. -/
  | pageHashDone (key : Nat)
  /-- SRC_FETCH_TIMEOUT (R320): A SrcRead Ack has not arrived within TMO and the fetch fails or repeats. -/
  | srcFetchTimeout (rid : Nat)
  /-- RUN_AHEAD_FETCH_START (R322): A fetch job comes free and the next queued run-ahead or prefetch page starts. -/
  | runAheadFetchStart
  /-- GRANT (R357): PAS_CMD GRANT admits or refuses a new pass. -/
  | grant (src : Src) (pass : Nat)
  /-- MODIFY (R357): PAS_CMD MODIFY changes a pass's units and rank under admission. -/
  | modify (src : Src) (pass : Nat)
  /-- REVOKE (R370): PAS_CMD REVOKE ends a pass and starts a recomputation. -/
  | revoke (src : Src) (pass : Nat)
  /-- PAS_BAD_OP (R357): A PAS_CMD write with an undefined OP ends with BAD_OP. -/
  | pasBadOp (src : Src) (op : Nat) (pass : Nat)
  /-- TRAIN (R341): DRC_CTRL.TRAIN starts training a channel at the BIN selected. -/
  | train (src : Src) (c : Nat)
  /-- DRC_TRAIN_DONE (R341): Training ends READY or FAILED and DRC_CAP is set. -/
  | drcTrainDone (c : Nat) (ok : Bool) (mib : Nat)
  /-- MR4_POLL (R348): Every POLL the DRC reads MR4 and sets the refresh rate. -/
  | mr4Poll (c : Nat) (rate : Nat) (hot : Bool)
  /-- REFRESH_DUE (R348): A refresh falls due in a channel. -/
  | refreshDue (c : Nat)
  /-- DRC_COMMAND_ISSUE (R358): A DRC takes its next command in the order of Table 9-6. -/
  | drcCommandIssue (c : Nat) (must : Bool)
  /-- PATROL_SCRUB (R346): Patrol scrub reads the next line and writes back corrected or poisoned lines. -/
  | patrolScrub (c : Nat) (err : Nat)
  /-- CORRECTIVE_WRITE (R345): A queued corrected line is written back within 1 ms. -/
  | correctiveWrite (c : Nat)
  /-- CE_WINDOW_EXPIRY (R347): The one-hour corrected-error window ends and the count restarts. -/
  | ceWindowExpiry (c : Nat)
  /-- ACCEL (R347): DRC_SCRUB.ACCEL starts an hour of accelerated scrub. -/
  | accel (src : Src) (c : Nat) (w : Word)
  /-- ACCEL_SCRUB_END (R347): The accelerated hour ends. -/
  | accelScrubEnd (c : Nat)
  /-- DRC_RECALIBRATION (R374): A periodic recalibration runs and may send the channel to FAILED. -/
  | drcRecalibration (c : Nat) (ok : Bool)
  /-- RV_ALU (R377): An RV32I or C integer, branch or jump instruction executes. `miss`: it was mispredicted, with what that
  squashed. -/
  | rvAlu (op : RvAlu) (c : Bool) (miss : Option Squash)
  /-- RV_MUL_DIV (R378): An M-extension instruction executes. -/
  | rvMulDiv (f : MulFn) (rd : Nat) (rs1 : Nat) (rs2 : Nat)
  /-- ILLEGAL_INSTRUCTION (R377): An unimplemented encoding raises illegal-instruction. -/
  | illegalInstruction (bits : Word)
  /-- RV_LOAD (R380): A load to TCM, the window or IC space is checked and performed or faults. -/
  | rvLoad (w : Nat) (signed : Bool) (rd : Nat) (rs1 : Nat) (imm : Int) (c : Bool) (ecc : Nat)
  /-- RV_STORE (R387): A store enters the store buffer or goes to a device region or IC space. -/
  | rvStore (w : Nat) (rs1 : Nat) (rs2 : Nat) (imm : Int) (c : Bool)
  /-- LR (R394): LR loads and reserves its granule. -/
  | lr (rd : Nat) (rs1 : Nat) (ecc : Nat)
  /-- SC (R394): SC stores if the reservation holds and loses it either way. -/
  | sc (rd : Nat) (rs1 : Nat) (rs2 : Nat) (spurious : Bool)
  /-- AMO (R393): An AMO runs in TCM or a cacheable region after draining the buffer. -/
  | amo (f : AmoFn) (rd : Nat) (rs1 : Nat) (rs2 : Nat) (ecc : Nat)
  /-- FENCE (R388): FENCE or FENCE.TSO drains the whole store buffer. -/
  | fence
  /-- FENCE_I (R392): FENCE.I drains the buffer and makes stored code visible to fetch. -/
  | fenceI
  /-- CSR_ACCESS (R379): A Zicsr instruction reads or writes a CSR, time capturing legal time. -/
  | csrAccess (f : CsrFn) (imm : Bool) (n : Nat) (rd : Nat) (src : Nat)
  /-- ECALL (R398): ECALL traps with cause 8 or 11. -/
  | ecall
  /-- EBREAK (R398): EBREAK traps with cause 3. -/
  | ebreak
  /-- MRET (R388): MRET drains the buffer, loses the reservation and returns from the trap. -/
  | mret
  /-- WFI (R407): WFI drains the buffer and rests the core until an interrupt. -/
  | wfi
  /-- INTERRUPT_TAKEN (R398): An enabled interrupt becomes due and the core enters its trap handler. -/
  | interruptTaken (sq : Squash)
  /-- STORE_BUFFER_DRAIN (R388): A store-buffer entry drains to TCM, the D-cache or the fabric. -/
  | storeBufferDrain (k : Nat)
  /-- LOAD_FILL_RETURN (R412): A load miss's fill arrives, or DataPoison raises an access fault. -/
  | loadFillReturn
  /-- LR_RESERVATION_EXPIRY (R394): 1,024 cycles after an LR the reservation is lost. -/
  | lrReservationExpiry
  /-- LR_SNOOP_HOLD_EXPIRY (R395): After 64 cycles the core stops delaying snoops to the reserved granule. -/
  | lrSnoopHoldExpiry
  /-- TIMECMP_MATCH (R409): Legal time reaches RCC_TIMECMP and MTI rises. -/
  | timecmpMatch
  /-- DFLUSH (R411): RCC_CACHE_CMD.DFLUSH writes back and invalidates the D-cache. -/
  | dflush (src : Src)
  /-- DFLUSH_DONE (R411): The D-cache flush completes and BUSY clears. -/
  | dflushDone
  /-- IINV (R392): RCC_CACHE_CMD.IINV invalidates the I-cache. -/
  | iinv (src : Src)
  /-- RGN_LOCK_WRITE (R410): RCC_CTRL.RGN_LOCK written 1 locks the region table. -/
  | rgnLockWrite (src : Src) (order : Bool)
  /-- ORDER_WRITE (R390): A write of RCC_CTRL.ORDER drains the buffer and switches ordering mode. -/
  | orderWrite (src : Src) (order : Bool) (lock : Bool)
  /-- BOOT_IMAGE_CHECK (R402): A boot copy's flash read completes and the checks of Table 10-9 pass or fail it. -/
  | bootImageCheck (readOk : Bool)
  /-- RETRY (R404): RCC_BOOT_CTRL.RETRY restarts the boot ROM from step 2. -/
  | retry (src : Src) (spi : Bool)
  /-- BOOT_OFFER_REENTER (R403): A kept BOOT offer enters the submit queue once an entry frees or genesis is accepted. -/
  | bootOfferReenter
  /-- CX_HINIT (R434): CX.HINIT queues initialisation of a hash context. -/
  | cxHinit (rd : Nat) (rs1 : Nat) (rs2 : Nat) (f3 : Nat)
  /-- CX_HUPD (R434): CX.HUPD queues hashing of a buffer into a context. -/
  | cxHupd (rd : Nat) (rs1 : Nat) (rs2 : Nat) (f3 : Nat)
  /-- CX_HFIN (R434): CX.HFIN queues finalisation of a hash context. -/
  | cxHfin (rd : Nat) (rs1 : Nat) (rs2 : Nat) (f3 : Nat)
  /-- CX_GINIT (R417): CX.GINIT queues initialisation of an AES-GCM context. -/
  | cxGinit (rd : Nat) (rs1 : Nat) (rs2 : Nat) (f3 : Nat)
  /-- CX_GAAD (R417): CX.GAAD queues AAD into a GCM context. -/
  | cxGaad (rd : Nat) (rs1 : Nat) (rs2 : Nat) (f3 : Nat)
  /-- CX_GUPD (R434): CX.GUPD queues encryption or decryption of up to 256 bytes. -/
  | cxGupd (rd : Nat) (rs1 : Nat) (rs2 : Nat) (f3 : Nat)
  /-- CX_GOUT (R432): CX.GOUT queues writing the output buffer. -/
  | cxGout (rd : Nat) (rs1 : Nat) (rs2 : Nat) (f3 : Nat)
  /-- CX_GFIN (R432): CX.GFIN queues tag generation or check. -/
  | cxGfin (rd : Nat) (rs1 : Nat) (rs2 : Nat) (f3 : Nat)
  /-- CX_VERIFY (R434): CX.VERIFY queues an ECDSA verification. -/
  | cxVerify (rd : Nat) (rs1 : Nat) (rs2 : Nat) (f3 : Nat)
  /-- CX_KDF (R416): CX.KDF queues a key derivation into a volatile slot. -/
  | cxKdf (rd : Nat) (rs1 : Nat) (rs2 : Nat) (f3 : Nat)
  /-- CX_WAIT (R440): CX.WAIT stalls until its ticket completes and returns the status. -/
  | cxWait (rd : Nat) (rs1 : Nat) (rs2 : Nat) (f3 : Nat)
  /-- CX_POLL (R429): CX.POLL returns a ticket's status at once. -/
  | cxPoll (rd : Nat) (rs1 : Nat) (rs2 : Nat) (f3 : Nat)
  /-- CX_CRD (R422): CX.CRD returns the monotonic counter. -/
  | cxCrd (rd : Nat) (rs1 : Nat) (rs2 : Nat) (f3 : Nat)
  /-- CX_SIGN (R419): CX.SIGN queues an ECDSA signature, started after retirement. -/
  | cxSign (rd : Nat) (rs1 : Nat) (rs2 : Nat) (f3 : Nat)
  /-- CX_KSET (R420): CX.KSET queues writing key bytes from TCM into a volatile slot. -/
  | cxKset (rd : Nat) (rs1 : Nat) (rs2 : Nat) (f3 : Nat)
  /-- CX_KCLR (R446): CX.KCLR queues clearing a volatile slot. -/
  | cxKclr (rd : Nat) (rs1 : Nat) (rs2 : Nat) (f3 : Nat)
  /-- CX_CINC (R422): CX.CINC queues an increment of the monotonic counter. -/
  | cxCinc (rd : Nat) (rs1 : Nat) (rs2 : Nat) (f3 : Nat)
  /-- CX_CARVE (R438): CX.CARVE queues the carve of a queue entry or a firmware record. -/
  | cxCarve (rd : Nat) (rs1 : Nat) (rs2 : Nat) (f3 : Nat)
  /-- CX_ABORT (R441): CX.ABORT at retirement stops a CARVE before step 6 or reports TOO_LATE or NOT_CARVE. -/
  | cxAbort (rd : Nat) (rs1 : Nat) (rs2 : Nat) (f3 : Nat)
  /-- CX_OPERATION_START (R428): A queued operation starts once its unit is free and, if committing, its instruction has retired. -/
  | cxOperationStart (no : Nat) (keyBad : Bool) (ctxUe : Bool)
  /-- CX_OPERATION_COMPLETE (R429): An operation completes, its working copy commits and the ticket status is kept. -/
  | cxOperationComplete (no : Nat) (lockBad : Bool)
  /-- CARVE_SIGN_DONE (R438): Signing at step 5 ends and the flash program of step 6 starts, writing EVS_HWM. -/
  | carveSignDone (lockBad : Bool)
  /-- CARVE_PROGRAM_DONE (R438): Step 6 ends: chain head updated, EVS_PENDING cleared, receipt issued and ticket completed. -/
  | carveProgramDone (code : Nat)
  /-- CARVE_PROGRAM_TIMEOUT (R504): The program did not end within 180 µs and the CARVE ends FLASH. -/
  | carveProgramTimeout
  /-- PPS_IN_EDGE (R455): A PPS_IN edge is timestamped, judged candidate or accepted, and its offset acted on. -/
  | ppsInEdge (falling : Bool) (held : Nat)
  /-- SLEW_END (R461): A slew removes its offset and the servo resumes. -/
  | slewEnd
  /-- PPS_LOSS (R456): 1.5 s without an accepted edge declares PPS loss and the bound starts growing. -/
  | ppsLoss
  /-- PPS_CANDIDATE_TIMEOUT (R487): A candidate edge not followed within its window increments TBU_PPS_BAD_COUNT. -/
  | ppsCandidateTimeout
  /-- TIME_OF_DAY (R458): A TimeOfDay message is accepted or rejected, labels an edge and updates UTC_OFS and speed. -/
  | timeOfDay (p : Nat) (m : TodMsg)
  /-- BOUND_RECOMPUTE (R464): Every 1 ms the holdover bound is recomputed. -/
  | boundRecompute
  /-- TIME_STEP_REOFFER (R463): A TIME_STEP offer answered BUSY is repeated every 1 ms. -/
  | timeStepReoffer
  /-- PPS_OUT_RISE (R467): PPS_OUT rises at a whole legal second unless suppressed. -/
  | ppsOutRise
  /-- PPS_OUT_FALL (R467): PPS_OUT falls after the width of its class. -/
  | ppsOutFall
  /-- RTC_SET (R469): At every legal second the TBU sets the RTC. -/
  | rtcSet
  /-- RTC_ALARM (R58): The RTC reaches TBU_RTC_ALARM and wake bit 19 sets. -/
  | rtcAlarm
  /-- TBU_ALARM (R479): Legal time reaches the armed TBU_ALARM and the alarm fires, setting wake bit 20. -/
  | tbuAlarm
  /-- TBU_ALARM_ARM (R479): TBU_ALARM_CTRL.ARM arms the legal-time alarm. -/
  | tbuAlarmArm (src : Src)
  /-- TBU_ALARM_DISARM (R479): TBU_ALARM_CTRL.DISARM cancels the alarm. -/
  | tbuAlarmDisarm (src : Src)
  /-- TCXO_FAIL (R484): No TCXO_IN edge for 200 ns: the TB clock changes to the internal oscillator at Q3 DEGRADED. -/
  | tcxoFail
  /-- TCXO_RETURN (R485): TCXO_IN runs in range for 10 ms and the TB clock returns to it. -/
  | tcxoReturn
  /-- TBU_TIME_LO_READ (R454): A read of TBU_TIME_LO captures the whole 64-bit legal time. -/
  | tbuTimeLoRead
  /-- MOT_EDGE (R474): A filtered MOT_A or MOT_B edge is counted and distance accumulated. -/
  | motEdge (b : Bool) (falling : Bool) (held : Nat)
  /-- MOT_OVERRATE (R472): A rate above 25 kHz held for 100 ms sets OVERRATE. -/
  | motOverrate (b : Bool)
  /-- MOT_EDGE_TIMEOUT (R473): 2 s without an edge sets the pulse frequency to 0. -/
  | motEdgeTimeout (b : Bool)
  /-- NO_GNSS_TIMEOUT (R477): No speed-valid message for 3 s brings PLAUS to NO_GNSS. -/
  | noGnssTimeout
  /-- PULSE_LOSS_TIMEOUT (R477): No MOT_A edge for PULSE_LOSS seconds while moving brings PLAUS to PULSE_LOST. -/
  | pulseLossTimeout
  /-- AB_SPEED_CHECK (R477): The per-second comparison of the two inputs' speeds updates B_MISMATCH. -/
  | abSpeedCheck
  /-- MOT_DIST_LO_READ (R474): A read of MOT_DIST_LO captures DIST_HI. -/
  | motDistLoRead
  /-- DOORBELL_SUBMIT (R494): A SUBMIT doorbell is judged and, if passing, its payload read started. -/
  | doorbellSubmit (p : Nat) (m : DoorMsg)
  /-- SUBMIT_PAYLOAD_READ_DONE (R494): The payload lines arrive and the entry is accepted, or answered POISON or BUS. -/
  | submitPayloadReadDone (idx : Nat)
  /-- RECEIPT_WRITE_ACK (R495): The receipt line write is acknowledged and the Receipt message is sent. -/
  | receiptWriteAck (rid : Nat)
  /-- DOORBELL_EXPORT (R513): An EXPORT doorbell starts copying records to the export ring. -/
  | doorbellExport (p : Nat) (m : DoorMsg)
  /-- EXPORT_WRITE_ACK (R513): An export write is acknowledged and the next record is copied or EXPORTED sent. -/
  | exportWriteAck (reg : Nat) (k : Nat)
  /-- DOORBELL_ACK (R514): An ACK doorbell raises EVS_ACK and is answered ACKED. -/
  | doorbellAck (p : Nat) (m : DoorMsg)
  /-- DROP (R502): EVS_CMD.DROP answers the oldest tenant entry REJECTED or FULL. -/
  | drop (src : Src) (status : Byte)
  /-- EVS_GENESIS (R712): EVS_GENESIS.GENESIS offers GENESIS at the head of the queue. -/
  | evsGenesis (src : Src)
  /-- EVS_REC_CTRL_WRITE (R493): A write of EVS_REC_n_CTRL enables a registration unless another names the tenant. -/
  | evsRecCtrlWrite (src : Src) (n : Nat) (w : Word)
  /-- SCAN_COMPLETE (R515): The restart scan ends: head, provenance and EVS_NEXT set and STATE chosen. -/
  | scanComplete
  /-- ERASE_EVALUATION (R522): At least every 100 ms sector eligibility is judged and an erase may start. -/
  | eraseEvaluation
  /-- SECTOR_ERASE_DONE (R525): An erase completes, or fails and is repeated once. -/
  | sectorEraseDone (ok : Bool)
  /-- EVS_X_READ (R526): EVS_X_CTRL OP READ reads flash into the buffer. -/
  | evsXRead (src : Src) (len : Byte) (cs : Bool)
  /-- EVS_X_PROGRAM (R526): EVS_X_CTRL OP PROGRAM programs flash from the buffer, refused in the partition. -/
  | evsXProgram (src : Src) (len : Byte) (cs : Bool)
  /-- EVS_X_ERASE (R526): EVS_X_CTRL OP ERASE erases a 4 KiB sector, refused in the partition except under R526. -/
  | evsXErase (src : Src) (len : Byte) (cs : Bool)
  /-- EVS_X_DONE (R526): A direct flash access completes with its RESULT. -/
  | evsXDone (ok : Bool)
  /-- FAULT_REOFFER (R501): A FAULT offer answered BUSY is repeated every 1 ms. -/
  | faultReoffer
  /-- REG_START (R535): ACQ_CTRL.REG_START starts a regular pass or releases a WAIT. -/
  | regStart (src : Src) (en : Bool)
  /-- REG_STOP (R535): ACQ_CTRL.REG_STOP lets started entries finish and starts no more. -/
  | regStop (src : Src) (en : Bool)
  /-- INJ_START (R541): ACQ_CTRL.INJ_START starts the injected sequence. -/
  | injStart (src : Src) (en : Bool)
  /-- IADC_START (R552): ACQ_CTRL.IADC_START starts an integration. -/
  | iadcStart (src : Src) (en : Bool)
  /-- IADC_STOP (R552): ACQ_CTRL.IADC_STOP ends an integration without a result. -/
  | iadcStop (src : Src) (en : Bool)
  /-- ATRIG_EDGE (R540): An accepted ATRIG edge triggers the sequences or IADC that select it. -/
  | atrigEdge (n : Nat) (rising : Bool) (held : Nat)
  /-- ACQ_TIMER_TICK (R540): The ACQ timer period expires and triggers what selects it. -/
  | acqTimerTick
  /-- ACQ_ENTRY_START (R536): A sequence entry starts once its slices are free. -/
  | acqEntryStart
  /-- SAR_CONVERSION_DONE (R528): A SAR conversion ends and its code is summed, recorded and delivered to Lathes. -/
  | sarConversionDone (sl : Nat) (uv : Int) (vref : Nat)
  /-- IADC_INTEGRATION_DONE (R550): An integration ends and its result is recorded. -/
  | iadcIntegrationDone (nv : Int) (vref : Nat) (left : Bool)
  /-- LINE_SYNC_EDGE (R551): A LINE_SYNC rising edge ends a line period and may end an integration. -/
  | lineSyncEdge (nv : Int) (vref : Nat) (left : Bool)
  /-- LINE_SYNC_LOSS (R551): 25 ms without a LINE_SYNC edge ends the integration suspect and moves to the 20 ms preset. -/
  | lineSyncLoss (nv : Int) (vref : Nat) (left : Bool)
  /-- CAL_SWAP (R554): A swap falls due and the spare replaces the next logical slice. -/
  | calSwap
  /-- CAL_DONE (R555): The slice leaving service is calibrated and becomes the spare, or is marked FAILED. -/
  | calDone (p : Nat) (found : Option (Int × Int))
  /-- RING_FLUSH_TIMER (R546): FLUSH µs without a record writes the partial line. -/
  | ringFlushTimer (n : Nat)
  /-- RING_WRITE_ACK (R546): A ring data write is acknowledged and WR is written. -/
  | ringWriteAck (n : Nat)
  /-- RING_RD_READ_RETURN (R547): The read of RD returns and writing resumes or the result is lost. -/
  | ringRdReadReturn (n : Nat)
  /-- ACQ_RING_ENABLE_WRITE (R565): A write of a ring's EN starts the ring with an EPOCH marker or flushes and stops it. -/
  | acqRingEnableWrite (src : Src) (n : Nat) (w : Word)
  /-- REF_OK_TIMER (R531): The settling time of a newly selected reference passes and REF_OK sets. -/
  | refOkTimer
  /-- REFIN_OUT_OF_RANGE (R568): REFIN leaves its range: REF_OK clears and ACQ_REF is raised. -/
  | refinOutOfRange
  /-- DAC_DATA_WRITE (R573): A write of DAC_DATA_n sets the data code, or is ignored for a Lathe-owned channel. -/
  | dacDataWrite (src : Src) (n : Nat) (w : Word)
  /-- DAC_LD_N_EDGE (R574): A qualified DAC_LD_N falling edge loads the groups that select it. -/
  | dacLdNEdge (high : Nat) (low : Nat)
  /-- DAC_RELEASE (R580): DAC_CMD.RELEASE clears FAULTED on channels allowed to be released. -/
  | dacRelease (src : Src) (mask : Nat)
  /-- PROG (R582): DAC_MTP_CMD.PROG starts programming a channel's row. -/
  | prog (src : Src) (ch : Nat)
  /-- DAC_MTP_DONE (R582): A row program ends OK or VERIFY. -/
  | dacMtpDone (ok : Bool)
  /-- DAC_CURRENT_LIMIT (R592): An output held against a short limits at 30 mA and DAC_ILIM is raised. -/
  | dacCurrentLimit (n : Nat) (on : Bool)
  /-- START (R611): LTH_CTRL.START runs the list or is refused. -/
  | start (src : Src) (n : Nat)
  /-- STOP (R620): LTH_CTRL.STOP ends the run at the current dwell end. -/
  | stop (src : Src) (n : Nat)
  /-- ABORT (R617): LTH_CTRL.ABORT aborts the Lathe, fault-loading its channels. -/
  | abort (src : Src) (n : Nat)
  /-- LTH_CLEAR (R618): LTH_CTRL.CLEAR returns a TRIPPED Lathe to IDLE. -/
  | lthClear (src : Src) (n : Nat)
  /-- LTH_MEASURE_START (R599): SETTLE after dwell start the measure strobe triggers ACQ and IADC. -/
  | lthMeasureStart (n : Nat)
  /-- LTH_DWELL_END (R599): The dwell ends, the result is written and the next point begins. -/
  | lthDwellEnd (n : Nat)
  /-- RANGE_STEP_END (R608): A transition step's HOLD ends and the next step or the transition's end follows. -/
  | rangeStepEnd (n : Nat)
  /-- LIST_FETCH_RETURN (R602): A list read returns four points, or aborts FETCH on poison or Retry. -/
  | listFetchReturn (n : Nat)
  /-- LIST_UNDERRUN_TIMEOUT (R602): A dwell extended 1 ms for a missing point aborts with FETCH. -/
  | listUnderrunTimeout (n : Nat)
  /-- LTH_RESULT_WRITE_ACK (R604): A fetched list's result write is answered, aborting FETCH on Retry. -/
  | lthResultWriteAck (n : Nat)
  /-- LTH_ANALOG_TRIP (R614): LTH_CMP_n active for 40 ns trips the Lathe. -/
  | lthAnalogTrip (n : Nat) (held : Nat)
  /-- CVU_DATA_B (R631): A write of CVU_n_DATA_B feeds one byte. -/
  | cvuDataB (src : Src) (n : Nat) (v : Byte)
  /-- CVU_DATA_H (R631): A write of CVU_n_DATA_H feeds two bytes. -/
  | cvuDataH (src : Src) (n : Nat) (v : BitVec 16)
  /-- CVU_DATA_W (R631): A write of CVU_n_DATA_W feeds four bytes. -/
  | cvuDataW (src : Src) (n : Nat) (v : Word)
  /-- CVU_CLEAR (R633): CVU_n_CTRL.CLEAR restarts the CRC and byte count. -/
  | cvuClear (src : Src) (n : Nat) (en : Bool)
  /-- CVU_EN_WRITE (R633): A write of CVU_n_CTRL.EN starts or stops a channel at an item boundary. -/
  | cvuEnWrite (src : Src) (n : Nat) (en : Bool)
  /-- CVU_RESULT_READ (R635): A read of CVU_n_RESULT returns the CRC and captures the byte count. -/
  | cvuResultRead (n : Nat)
  /-- PCU_CNT_LO_READ (R640): A read of PCU_CNT_n_LO captures bits [47:32] into HI. -/
  | pcuCntLoRead (n : Nat)
  /-- PCU_CNT_WRITE (R640): A write of a counter half sets those bits of the count. -/
  | pcuCntWrite (src : Src) (n : Nat) (hi : Bool) (w : Word)
  /-- BW_WINDOW_END (R643): A monitor window ends: LAST, MAX, MIN and WINDOWS update and the threshold is judged. -/
  | bwWindowEnd (m : Nat)
  /-- PCU_BW_CLEAR (R643): PCU_BW_m_CFG.CLEAR resets MAX, MIN and WINDOWS. -/
  | pcuBwClear (src : Src) (m : Nat) (w : Word)
  /-- TAGGED_ITEM_COMPLETE (R647): A tagged item completes and a sample entry is written. -/
  | taggedItemComplete (ha : Bool) (flags : Nat) (d : List Nat)
  /-- PCU_SBUF_CLEAR (R647): PCU_SBUF_CTRL.CLEAR empties the sample buffer. -/
  | pcuSbufClear (src : Src)
  /-- HA_POISON_LAST_READ (R293): A read of HA_POISON_LAST_0 returns the record then clears VALID and re-arms capture. -/
  | haPoisonLastRead
  /-- EVC_PEND_WRITE (R662): A write of EVC_PEND_k sets or clears pending bits. -/
  | evcPendWrite (src : Src) (k : Nat) (w : Word)
  /-- EVC_PCLR (R668): A write of EVC_PCLR_k clears pending bits atomically. -/
  | evcPclr (src : Src) (k : Nat) (w : Word)
  /-- EVC_PSET (R662): A write of EVC_PSET_k sets pending bits atomically. -/
  | evcPset (src : Src) (k : Nat) (w : Word)
  /-- EVC_MASK_MK_WRITE (R668): A masked write of EVC_MASK_MK_k changes selected mask bits atomically. -/
  | evcMaskMkWrite (src : Src) (k : Nat) (hi : Bool) (w : Word)
  /-- EVENT (R667): An Event message from a partner is discarded and BAD_MSG sets. -/
  | event (p : Nat) (agent : Nat)
  /-- ESC_CLEAR (R690): FLT_CTRL.ESC_CLEAR ends the escalation if no raised bit is set. -/
  | escClear (src : Src)
  /-- ESC_FORCE (R677): FLT_CTRL.ESC_FORCE raises SW_ESC. -/
  | escForce (src : Src)
  /-- FLT_RELEASE (R682): A write of FLT_RELEASE_0 or _1 releases contained units. -/
  | fltRelease (src : Src) (hi : Bool) (mask : Word)
  /-- FLT_RAISED_CLEAR (R689): Clearing a raised bit also zeroes that class's FLT_CNT. -/
  | fltRaisedClear (src : Src) (hi : Bool) (w : Word)
  /-- PROGRAM (R706): OTP PROGRAM fuses a row from OTP_STAGE. -/
  | program (src : Src) (row : Byte)
  /-- KEYGEN (R710): OTP KEYGEN generates and fuses slots 0 and 1 and the endorsement. -/
  | keygen (src : Src) (row : Byte)
  /-- SEAL (R708): OTP SEAL sets the lifecycle to PROVISIONED. -/
  | sealOtp (src : Src) (row : Byte)
  /-- RAISE_SVN (R709): OTP RAISE_SVN raises MIN_SVN. -/
  | raiseSvn (src : Src) (row : Byte)
  /-- REVOKE_FWKEY (R705): OTP REVOKE revokes a firmware-key slot. -/
  | revokeFwkey (src : Src) (row : Byte)
  /-- OTP_BAD_OP (R705): An OTP_CMD write with an unlisted OP ends BAD_OP. -/
  | otpBadOp (src : Src) (op : Byte) (row : Byte)
  /-- OTP_COMMAND_DONE (R705): An OTP command completes with its RESULT. -/
  | otpCommandDone (ok : Bool)
  /-- RESERVED_FTYPE_FLIT (R202): A flit that passes its CRC but carries a reserved FTYPE is taken as a protocol error: PROTO sets,
  LINK_PROTO is raised and the port enters RETRAIN. -/
  | reservedFtypeFlit (f : PortFlit)
  /-- DOORBELL_UNDEFINED_KIND (R494): A Doorbell message whose KIND is above 2 is judged under Table 13-6 and answered BAD_TYPE. -/
  | doorbellUndefinedKind (p : Nat) (m : DoorMsg)
  /-- INSTRUCTION_ACCESS_FAULT (R380): An instruction fetch from an address that is unlisted, not executable, refused by PMP, in a
  non-cacheable window region, or answered DataPoison raises an instruction access fault. `f.wide`: the instruction has two half-words. -/
  | instructionAccessFault (f : FetchSite)
  /-- VALLEY_ENTRY_COMPLETE (R53): A valley entry reaches its target depth: the Dale clocks have switched, or the DRAM has entered
  self-refresh and the islands have stopped; CURRENT takes the new depth and BUSY returns to 0. -/
  | valleyEntryComplete
  /-- REFIN_RETURN (R568): REFIN, while selected, comes back inside the range from 1.8 V to 3.3 V, so that REF_OK can set again and
  results stop being suspect. -/
  | refinReturn
deriving DecidableEq, Repr

end Sys2Proof
end

