-- ==== Sys2Proof/Machine/Bits.lean ====
section
/-!
DEFINITION. Machine/Bits.lean: bit fields of words, byte order, and the sparse store in canonical form that memory and
the register files are held in.
-/
namespace Sys2Proof.Machine

/-- Bits hi to lo of a word, as a number. -/
def bf (w : Word) (hi lo : Nat) : Nat := (w.toNat >>> lo) % 2 ^ (hi + 1 - lo)

/-- Bit b of a word. -/
def bit (w : Word) (b : Nat) : Bool := w.toNat.testBit b

/-- The mask with ones at bits hi to lo. -/
def fmask (hi lo : Nat) : Word := BitVec.ofNat 32 ((2 ^ (hi + 1 - lo) - 1) <<< lo)

/-- A word with bits hi to lo replaced by the low bits of v. -/
def setBf (w : Word) (hi lo v : Nat) : Word :=
  (w &&& ~~~ fmask hi lo) ||| (BitVec.ofNat 32 (v <<< lo) &&& fmask hi lo)

/-- A word with bit b set to v. -/
def setBit (w : Word) (b : Nat) (v : Bool) : Word := setBf w b b (if v then 1 else 0)

/-- A Boolean as 0 or 1. -/
def b2n (b : Bool) : Nat := if b then 1 else 0

/-- A word from its low n bits as numbers. -/
def w32 (n : Nat) : Word := BitVec.ofNat 32 n

/-- Byte i of a number, little-endian. -/
def byteOf (n i : Nat) : Byte := BitVec.ofNat 8 (n >>> (8 * i))

/-- The number whose little-endian bytes are the list (R9). -/
def ofBytesLE : List Byte → Nat
  | [] => 0
  | b :: t => b.toNat + 256 * ofBytesLE t

/-- The n little-endian bytes of a number (R9). -/
def toBytesLE : Nat → Nat → List Byte
  | 0, _ => []
  | k + 1, n => BitVec.ofNat 8 n :: toBytesLE k (n / 256)

/-- The number whose big-endian bytes are the list (R10). -/
def ofBytesBE (l : List Byte) : Nat := l.foldl (fun a b => 256 * a + b.toNat) 0

/-- The n big-endian bytes of a number (R10). -/
def toBytesBE (k n : Nat) : List Byte := (toBytesLE k n).reverse

/-- Sign extension of the low k bits of a number. -/
def sext (k n : Nat) : Int := if (n % 2 ^ k).testBit (k - 1) then (n % 2 ^ k : Int) - 2 ^ k else (n % 2 ^ k : Int)

/-- The low k bits of an integer in two's complement. -/
def unsx (k : Nat) (i : Int) : Nat := (i % (2 ^ k : Int)).toNat

/-- An integer saturated to signed k bits. -/
def satS (k : Nat) (i : Int) : Int :=
  if i < -(2 ^ (k - 1) : Int) then -(2 ^ (k - 1) : Int) else if i > 2 ^ (k - 1) - 1 then 2 ^ (k - 1) - 1 else i

/-- A number saturated at 2^k - 1. -/
def satU (k n : Nat) : Nat := if n < 2 ^ k then n else 2 ^ k - 1

/-- ⌈a / b⌉ on numbers. -/
def cdiv (a b : Nat) : Nat := (a + b - 1) / b

/-- Integer division rounded to the nearest, halves away from zero. -/
def rdiv (a : Int) (b : Nat) : Int :=
  if a < 0 then -(((-a).toNat * 2 + b) / (2 * b) : Nat) else ((a.toNat * 2 + b) / (2 * b) : Nat)

/-! ### Sparse stores

A store lists (key, value) pairs with keys strictly rising and no entry equal to what an unlisted key reads as, so that
equal stores are equal lists. -/

/-- A sparse store of values by number. -/
abbrev Store (α : Type) := List (Nat × α)

/-- The value at a key: the listed one, else what `d` gives. -/
def stGet {α : Type} (d : Nat → α) : Store α → Nat → α
  | [], k => d k
  | (a, v) :: t, k => if a = k then v else stGet d t k

/-- The store without a key. -/
def stDrop {α : Type} : Store α → Nat → Store α
  | [], _ => []
  | (a, v) :: t, k => if a = k then stDrop t k else (a, v) :: stDrop t k

/-- Insertion of a pair in key order. -/
def stIns {α : Type} : Store α → Nat → α → Store α
  | [], k, v => [(k, v)]
  | (a, w) :: t, k, v => if k < a then (k, v) :: (a, w) :: t else (a, w) :: stIns t k v

/-- The store with key `k` holding `v`; writing what an unlisted key reads as removes the entry. -/
def stSet {α : Type} [DecidableEq α] (d : Nat → α) (m : Store α) (k : Nat) (v : α) : Store α :=
  if v = d k then stDrop m k else stIns (stDrop m k) k v

/-- Canonical form, as a Bool: keys strictly rising above `lo`, no entry equal to the default. -/
def stWfFrom {α : Type} [DecidableEq α] (d : Nat → α) : Nat → Store α → Bool
  | _, [] => true
  | lo, (a, v) :: t => decide (lo ≤ a) && decide (v ≠ d a) && stWfFrom d (a + 1) t

/-- Canonical form of a store. -/
def stWf {α : Type} [DecidableEq α] (d : Nat → α) (m : Store α) : Bool := stWfFrom d 0 m

/-- Memory bytes written from a list at ascending addresses. -/
def memWrite (d : Nat → Byte) (m : List (Nat × Byte)) (a : Nat) : List Byte → List (Nat × Byte)
  | [] => m
  | b :: t => memWrite d (stSet d m a b) (a + 1) t

/-- n memory bytes from an address. -/
def memRead (d : Nat → Byte) (m : List (Nat × Byte)) (a : Nat) : Nat → List Byte
  | 0 => []
  | n + 1 => stGet d m a :: memRead d m (a + 1) n

/-- Element i of a list, or a default. -/
def nth {α : Type} (l : List α) (i : Nat) (x : α) : α := l.getD i x

/-- A list with element i replaced (unchanged if there is none). -/
def upd {α : Type} (l : List α) (i : Nat) (f : α → α) : List α := l.modify i f

end Sys2Proof.Machine
end

