-- ==== Sys2Proof/Machine/Crypto.lean ====
section
/-!
DEFINITION. Machine/Crypto.lean: the check values and cryptographic functions the spec names by their standards: CRC-8
(R87), CRC-32C (R169), SHA-256 and SHA-384 (FIPS 180-4), HMAC (FIPS 198-1), the KDF of R416 (SP 800-108r1), AES-256-GCM
(SP 800-38D) and ECDSA P-256 with RFC 6979 nonces (FIPS 186-5). The algorithms themselves are the standards'
(PRESUMED, notes/assumptions/10).
-/
namespace Sys2Proof.Machine

/-! ### Cyclic redundancy checks -/

/-- One byte step of CRC-8 SAE J1850, most significant bit first (R87). -/
def crc8Bits : Nat → Nat → Nat
  | 0, c => c
  | n + 1, c => crc8Bits n (if c.testBit 7 then ((c <<< 1) ^^^ 0x1D) % 256 else (c <<< 1) % 256)

/-- CRC-8 SAE J1850 over bytes (R87): initial 0xFF, polynomial 0x1D, final exclusive-or 0xFF. -/
def crc8 (l : List Byte) : Byte :=
  BitVec.ofNat 8 ((l.foldl (fun c b => crc8Bits 8 (c ^^^ b.toNat)) 0xFF) ^^^ 0xFF)

/-- Eight steps of a reflected 32-bit CRC. -/
def crcRBits (poly : Nat) : Nat → Nat → Nat
  | 0, c => c
  | n + 1, c => crcRBits poly n (if c.testBit 0 then (c >>> 1) ^^^ poly else c >>> 1)

/-- CRC-32C over bytes (R169): reflected polynomial 0x82F63B78, initial and final exclusive-or all ones. -/
def crc32c (l : List Byte) : Word :=
  BitVec.ofNat 32 ((l.foldl (fun c b => crcRBits 0x82F63B78 8 (c ^^^ b.toNat)) 0xFFFFFFFF) ^^^ 0xFFFFFFFF)

/-! ### SHA-256 and SHA-384 (FIPS 180-4)

Both are one construction over words of w bits. Their constants are one table: the fractional parts of the cube roots of the primes
in turn, to 64 bits for SHA-384 and, for the first 64 of them, to their upper 32 bits for SHA-256. So are their initial values, of
the square roots of the first primes, except that SHA-384 takes the ninth to sixteenth primes. -/

/-- Cube roots of primes 1 to 20: 64 bits of the fraction. -/
def firstPrimesCbrt : List Nat :=
  [0x428a2f98d728ae22, 0x7137449123ef65cd, 0xb5c0fbcfec4d3b2f, 0xe9b5dba58189dbbc,
   0x3956c25bf348b538, 0x59f111f1b605d019, 0x923f82a4af194f9b, 0xab1c5ed5da6d8118,
   0xd807aa98a3030242, 0x12835b0145706fbe, 0x243185be4ee4b28c, 0x550c7dc3d5ffb4e2,
   0x72be5d74f27b896f, 0x80deb1fe3b1696b1, 0x9bdc06a725c71235, 0xc19bf174cf692694,
   0xe49b69c19ef14ad2, 0xefbe4786384f25e3, 0x0fc19dc68b8cd5b5, 0x240ca1cc77ac9c65]

/-- Cube roots of primes 21 to 40: 64 bits of the fraction. -/
def secondPrimesCbrt : List Nat :=
  [0x2de92c6f592b0275, 0x4a7484aa6ea6e483, 0x5cb0a9dcbd41fbd4, 0x76f988da831153b5,
   0x983e5152ee66dfab, 0xa831c66d2db43210, 0xb00327c898fb213f, 0xbf597fc7beef0ee4,
   0xc6e00bf33da88fc2, 0xd5a79147930aa725, 0x06ca6351e003826f, 0x142929670a0e6e70,
   0x27b70a8546d22ffc, 0x2e1b21385c26c926, 0x4d2c6dfc5ac42aed, 0x53380d139d95b3df,
   0x650a73548baf63de, 0x766a0abb3c77b2a8, 0x81c2c92e47edaee6, 0x92722c851482353b]

/-- Cube roots of primes 41 to 60: 64 bits of the fraction. -/
def thirdPrimesCbrt : List Nat :=
  [0xa2bfe8a14cf10364, 0xa81a664bbc423001, 0xc24b8b70d0f89791, 0xc76c51a30654be30,
   0xd192e819d6ef5218, 0xd69906245565a910, 0xf40e35855771202a, 0x106aa07032bbd1b8,
   0x19a4c116b8d2d0c8, 0x1e376c085141ab53, 0x2748774cdf8eeb99, 0x34b0bcb5e19b48a8,
   0x391c0cb3c5c95a63, 0x4ed8aa4ae3418acb, 0x5b9cca4f7763e373, 0x682e6ff3d6b2b8a3,
   0x748f82ee5defb2fc, 0x78a5636f43172f60, 0x84c87814a1f0ab72, 0x8cc702081a6439ec]

/-- Cube roots of primes 61 to 80: 64 bits of the fraction. -/
def fourthPrimesCbrt : List Nat :=
  [0x90befffa23631e28, 0xa4506cebde82bde9, 0xbef9a3f7b2c67915, 0xc67178f2e372532b,
   0xca273eceea26619c, 0xd186b8c721c0c207, 0xeada7dd6cde0eb1e, 0xf57d4f7fee6ed178,
   0x06f067aa72176fba, 0x0a637dc5a2c898a6, 0x113f9804bef90dae, 0x1b710b35131c471b,
   0x28db77f523047d84, 0x32caab7b40c72493, 0x3c9ebe0a15c9bebc, 0x431d67c49c100d4c,
   0x4cc5d4becb3e42b6, 0x597f299cfc657e2a, 0x5fcb6fab3ad6faec, 0x6c44198c4a475817]

/-- The cube-root table. -/
def cbrtTable : List Nat := firstPrimesCbrt ++ (secondPrimesCbrt ++ (thirdPrimesCbrt ++ fourthPrimesCbrt))

/-- The upper half of each 64-bit entry. -/
def upperHalves (l : List Nat) : List Nat := l.map (fun x => x >>> 32)

/-- Rotation right of a w-bit word held as a number. -/
def rotr (w x n : Nat) : Nat := ((x >>> n) ||| (x <<< (w - n))) % 2 ^ w

/-- The parameters in which SHA-256 and SHA-512 differ: word width, rotation amounts, constants. -/
structure ShaPar where
  w : Nat
  bs0 : Nat × Nat × Nat
  bs1 : Nat × Nat × Nat
  ss0 : Nat × Nat × Nat
  ss1 : Nat × Nat × Nat
  k : List Nat
deriving DecidableEq, Repr

/-- The exclusive-or of three rotations. -/
def shaBig (p : ShaPar) (r : Nat × Nat × Nat) (x : Nat) : Nat := rotr p.w x r.1 ^^^ rotr p.w x r.2.1 ^^^ rotr p.w x r.2.2

/-- The exclusive-or of two rotations and a shift. -/
def shaSmall (p : ShaPar) (r : Nat × Nat × Nat) (x : Nat) : Nat := rotr p.w x r.1 ^^^ rotr p.w x r.2.1 ^^^ (x >>> r.2.2)

/-- The message schedule, newest word first: n further words. -/
def shaSched (p : ShaPar) : Nat → List Nat → List Nat
  | 0, l => l
  | n + 1, l =>
    shaSched p n (((shaSmall p p.ss1 (l.getD 1 0) + l.getD 6 0 + shaSmall p p.ss0 (l.getD 14 0) + l.getD 15 0) % 2 ^ p.w) :: l)

/-- One round on the working words a to h. -/
def shaRound (p : ShaPar) (v : List Nat) (kw : Nat × Nat) : List Nat :=
  match v with
  | [a, b, c, d, e, f, g, h] =>
    let t1 := h + shaBig p p.bs1 e + ((e &&& f) ^^^ ((2 ^ p.w - 1 - e) &&& g)) + kw.1 + kw.2
    let t2 := shaBig p p.bs0 a + ((a &&& b) ^^^ (a &&& c) ^^^ (b &&& c))
    [(t1 + t2) % 2 ^ p.w, a, b, c, (d + t1) % 2 ^ p.w, e, f, g]
  | _ => v

/-- The big-endian words of a block. -/
def shaWords (bytesPer : Nat) : Nat → List Byte → List Nat
  | 0, _ => []
  | n + 1, l => ofBytesBE (l.take bytesPer) :: shaWords bytesPer n (l.drop bytesPer)

/-- The compression of one block into the chaining words. -/
def shaBlock (p : ShaPar) (h : List Nat) (blk : List Byte) : List Nat :=
  let w := (shaSched p (p.k.length - 16) (shaWords (p.w / 8) 16 blk).reverse).reverse
  let v := (p.k.zip w).foldl (shaRound p) h
  (h.zip v).map (fun x => (x.1 + x.2) % 2 ^ p.w)

/-- The compression of n blocks in turn. -/
def shaBlocks (p : ShaPar) : Nat → List Nat → List Byte → List Nat
  | 0, h, _ => h
  | n + 1, h, l => shaBlocks p n (shaBlock p h (l.take (2 * p.w))) (l.drop (2 * p.w))

/-- The padded message: 0x80, zeros, the bit length in a quarter of a block word pair. -/
def shaPad (p : ShaPar) (l : List Byte) : List Byte :=
  let blk := 2 * p.w
  let lenB := p.w / 4
  let z := (blk - (l.length + 1 + lenB) % blk) % blk
  l ++ [0x80] ++ List.replicate z 0 ++ toBytesBE lenB (8 * l.length)

/-- The digest words written out big-endian. -/
def shaOut (p : ShaPar) (h : List Nat) : List Byte := h.flatMap (toBytesBE (p.w / 8))

/-- SHA-256's parameters. -/
def sha256Par : ShaPar := ⟨32, (2, 13, 22), (6, 11, 25), (7, 18, 3), (17, 19, 10), upperHalves (cbrtTable.take 64)⟩

/-- SHA-256 of a byte string: 32 bytes. -/
def sha256 (l : List Byte) : List Byte :=
  let m := shaPad sha256Par l
  shaOut sha256Par (shaBlocks sha256Par (m.length / 64)
    [0x6a09e667, 0xbb67ae85, 0x3c6ef372, 0xa54ff53a, 0x510e527f, 0x9b05688c, 0x1f83d9ab, 0x5be0cd19] m)

/-- SHA-512's parameters, which SHA-384 uses. -/
def sha512Par : ShaPar := ⟨64, (28, 34, 39), (14, 18, 41), (1, 8, 7), (19, 61, 6), cbrtTable⟩

/-- SHA-384 of a byte string: 48 bytes. -/
def sha384 (l : List Byte) : List Byte :=
  let m := shaPad sha512Par l
  (shaOut sha512Par (shaBlocks sha512Par (m.length / 128)
    [0xcbbb9d5dc1059ed8, 0x629a292a367cd507, 0x9159015a3070dd17, 0x152fecd8f70e5939, 0x67332667ffc00b31,
     0x8eb44a8768581511, 0xdb0c2e0d64f98fa7, 0x47b5481dbefa4fa4] m)).take 48

/-- The hash unit's digest: algorithm 0 SHA-256, 1 SHA-384 (Table 11-2). -/
def hashAlg (alg : Nat) (l : List Byte) : List Byte := if alg = 0 then sha256 l else sha384 l

/-! ### HMAC and the key derivation function -/

/-- Bytewise exclusive-or with a constant. -/
def xorByte (c : Byte) (l : List Byte) : List Byte := l.map (fun b => b ^^^ c)

/-- HMAC-SHA-256. -/
def hmac256 (key msg : List Byte) : List Byte :=
  let k0 := if key.length ≤ 64 then key else sha256 key
  let k := k0 ++ List.replicate (64 - k0.length) 0
  sha256 (xorByte 0x5C k ++ sha256 (xorByte 0x36 k ++ msg))

/-- The KDF of R416: one iteration, counter value 1 in 32 bits, the 32-byte label, then SP 800-108's zero byte, an empty
context and the 256-bit output length. -/
def kdf256 (key label : List Byte) : List Byte := hmac256 key (toBytesBE 4 1 ++ label ++ [0] ++ toBytesBE 4 256)

/-! ### AES-256 and GCM -/

/-- Doubling in the field of AES. -/
def gfDbl (x : Nat) : Nat := if x.testBit 7 then ((x <<< 1) ^^^ 0x11B) % 256 else x <<< 1

/-- Product in the field of AES, n bits of y from the lowest. -/
def gfMulN : Nat → Nat → Nat → Nat
  | 0, _, _ => 0
  | n + 1, x, y => (if y.testBit 0 then x else 0) ^^^ gfMulN n (gfDbl x) (y / 2)

/-- Product in the field of AES. -/
def gfMul (x y : Nat) : Nat := gfMulN 8 x y

/-- x to the power 2^(n+1) - 2 by repeated squaring, the inverse for n = 7. -/
def gfPow : Nat → Nat → Nat
  | 0, _ => 1
  | n + 1, x => let s := gfMul x x; gfMul s (gfPow n s)

/-- The S-box of AES. -/
def aesSub (x : Nat) : Nat :=
  let b := gfPow 7 x
  b ^^^ (rotr 8 b 7) ^^^ (rotr 8 b 6) ^^^ (rotr 8 b 5) ^^^ (rotr 8 b 4) ^^^ 0x63

/-- Next key words of AES-256, newest first: word number i, with `rc` the round constant next to be used. -/
def aesExpand : Nat → Nat → Nat → List (List Nat) → List (List Nat)
  | 0, _, _, l => l
  | n + 1, i, rc, l =>
    let t := l.getD 0 []
    let o := l.getD 7 []
    let t' := if i % 8 = 0 then
        match t with
        | [a, b, c, d] => [aesSub b ^^^ rc, aesSub c, aesSub d, aesSub a]
        | _ => t
      else if i % 8 = 4 then t.map aesSub else t
    aesExpand n (i + 1) (if i % 8 = 0 then gfDbl rc else rc) ((o.zipWith (· ^^^ ·) t') :: l)

/-- Lists of four from a list. -/
def quads : Nat → List Nat → List (List Nat)
  | 0, _ => []
  | n + 1, l => l.take 4 :: quads n (l.drop 4)

/-- The 15 round keys of AES-256, 16 bytes each. -/
def aesKeys (key : List Byte) : List (List Nat) :=
  let w := (aesExpand 52 8 1 (quads 8 (key.map BitVec.toNat)).reverse).reverse
  (List.range 15).map (fun i => (List.range 4).flatMap (fun j => w.getD (4 * i + j) []))

/-- ShiftRows after SubBytes. -/
def aesShift (s : List Nat) : List Nat :=
  (List.range 16).map (fun i => s.getD ((i + 4 * (i % 4)) % 16) 0)

/-- MixColumns on one column. -/
def aesMixCol : List Nat → List Nat
  | [a, b, c, d] =>
    [gfMul 2 a ^^^ gfMul 3 b ^^^ c ^^^ d, a ^^^ gfMul 2 b ^^^ gfMul 3 c ^^^ d,
     a ^^^ b ^^^ gfMul 2 c ^^^ gfMul 3 d, gfMul 3 a ^^^ b ^^^ c ^^^ gfMul 2 d]
  | l => l

/-- AES-256 encryption of one 16-byte block under the expanded key. -/
def aesBlock (ks : List (List Nat)) (blk : List Nat) : List Nat :=
  let s0 := blk.zipWith (· ^^^ ·) (ks.getD 0 [])
  let s := ((ks.drop 1).take 13).foldl (fun s k =>
    ((quads 4 (aesShift (s.map aesSub))).flatMap aesMixCol).zipWith (· ^^^ ·) k) s0
  (aesShift (s.map aesSub)).zipWith (· ^^^ ·) (ks.getD 14 [])

/-- Product in GCM's field, n bits of x from the highest. -/
def ghMulN : Nat → Nat → Nat → Nat → Nat
  | 0, _, _, z => z
  | n + 1, x, v, z =>
    ghMulN n x (if v.testBit 0 then (v >>> 1) ^^^ (0xE1 <<< 120) else v >>> 1) (if x.testBit n then z ^^^ v else z)

/-- GHASH over blocks of 16 bytes. -/
def ghash (h : Nat) (n : Nat) (y : Nat) (l : List Byte) : Nat :=
  match n with
  | 0 => y
  | k + 1 => ghash h k (ghMulN 128 (y ^^^ ofBytesBE (l.take 16)) h 0) (l.drop 16)

/-- A byte string padded with zeros to a multiple of 16. -/
def pad16 (l : List Byte) : List Byte := l ++ List.replicate ((16 - l.length % 16) % 16) 0

/-- Keystream byte p of GCM's counter mode (counter 2 for the first block) under a 96-bit IV. -/
def gcmStream (ks : List (List Nat)) (iv : List Byte) (p n : Nat) : List Byte :=
  ((List.range (p % 16 + n + 15)).take ((p % 16 + n + 15) / 16)).flatMap (fun i =>
    (aesBlock ks ((iv ++ toBytesBE 4 (2 + p / 16 + i)).map BitVec.toNat)).map (BitVec.ofNat 8)) |>.drop (p % 16) |>.take n

/-- The bytes combined with the keystream from stream position p. -/
def gcmCrypt (key iv : List Byte) (p : Nat) (l : List Byte) : List Byte :=
  l.zipWith (· ^^^ ·) (gcmStream (aesKeys key) iv p l.length)

/-- The 128-bit GCM tag over AAD and ciphertext. -/
def gcmTag (key iv aad ct : List Byte) : List Byte :=
  let ks := aesKeys key
  let h := ofBytesBE ((aesBlock ks (List.replicate 16 0)).map (BitVec.ofNat 8))
  let m := pad16 aad ++ pad16 ct ++ toBytesBE 8 (8 * aad.length) ++ toBytesBE 8 (8 * ct.length)
  let e := ofBytesBE ((aesBlock ks ((iv ++ toBytesBE 4 1).map BitVec.toNat)).map (BitVec.ofNat 8))
  toBytesBE 16 (ghash h (m.length / 16) 0 m ^^^ e)

/-! ### P-256 -/

/-- The field prime of P-256. -/
def p256P : Nat := 0xffffffff00000001000000000000000000000000ffffffffffffffffffffffff
/-- The group order of P-256. -/
def p256N : Nat := 0xffffffff00000000ffffffffffffffffbce6faada7179e84f3b9cac2fc632551
/-- The coefficient b of P-256. -/
def p256B : Nat := 0x5ac635d8aa3a93e7b3ebbd55769886bc651d06b0cc53b0f63bce3c3e27d2604b
/-- The base point of P-256. -/
def p256G : Nat × Nat :=
  (0x6b17d1f2e12c4247f8bce6e563a440f277037d812deb33a0f4a13945d898c296,
   0x4fe342e2fe1a7f9b8ee7eb4a7c0f9e162bce33576b315ececbb6406837bf51f5)

/-- x to the power e modulo m, over the n low bits of e from the highest. -/
def powMod (m x e : Nat) : Nat → Nat → Nat
  | 0, acc => acc
  | n + 1, acc => powMod m x e n (if e.testBit n then acc * acc % m * x % m else acc * acc % m)

/-- The inverse modulo a 256-bit prime. -/
def invMod (m x : Nat) : Nat := powMod m (x % m) (m - 2) 256 1

/-- A sum of points in Jacobian coordinates; z = 0 is the point at infinity. -/
def p256Dbl (q : Nat × Nat × Nat) : Nat × Nat × Nat :=
  let p := p256P
  let (x, y, z) := q
  if z = 0 ∨ y = 0 then (1, 1, 0) else
    let zz := z * z % p
    let m := 3 * ((x + p - zz) % p) * ((x + zz) % p) % p
    let yy := y * y % p
    let s := 4 * x * yy % p
    let x3 := (m * m + 2 * p - 2 * s % p) % p
    let y3 := (m * ((s + p - x3) % p) + p - 8 * (yy * yy % p) % p) % p
    (x3, y3, 2 * y * z % p)

/-- Sum of two points in Jacobian coordinates. -/
def p256Add (a b : Nat × Nat × Nat) : Nat × Nat × Nat :=
  let p := p256P
  let (x1, y1, z1) := a
  let (x2, y2, z2) := b
  if z1 = 0 then b else if z2 = 0 then a else
    let z1z := z1 * z1 % p
    let z2z := z2 * z2 % p
    let u1 := x1 * z2z % p
    let u2 := x2 * z1z % p
    let s1 := y1 * z2 % p * z2z % p
    let s2 := y2 * z1 % p * z1z % p
    if u1 = u2 then (if s1 = s2 then p256Dbl a else (1, 1, 0)) else
      let h := (u2 + p - u1) % p
      let r := (s2 + p - s1) % p
      let hh := h * h % p
      let hhh := h * hh % p
      let v := u1 * hh % p
      let x3 := (r * r + 3 * p - hhh - 2 * v % p) % p
      let y3 := (r * ((v + p - x3) % p) + p - s1 * hhh % p) % p
      (x3, y3, h * z1 % p * z2 % p)

/-- The multiple k of a point, over the n low bits of k from the highest. -/
def p256MulN (k : Nat) (q : Nat × Nat × Nat) : Nat → Nat × Nat × Nat → Nat × Nat × Nat
  | 0, acc => acc
  | n + 1, acc => p256MulN k q n (if k.testBit n then p256Add (p256Dbl acc) q else p256Dbl acc)

/-- The multiple k of an affine point, in Jacobian coordinates. -/
def p256Mul (k : Nat) (q : Nat × Nat) : Nat × Nat × Nat := p256MulN k (q.1, q.2, 1) 256 (1, 1, 0)

/-- The affine coordinates of a Jacobian point that is not at infinity. -/
def p256Affine (q : Nat × Nat × Nat) : Nat × Nat :=
  let zi := invMod p256P q.2.2
  let zi2 := zi * zi % p256P
  (q.1 * zi2 % p256P, q.2.1 * (zi2 * zi % p256P) % p256P)

/-- A pair of coordinates is a point of P-256. -/
def p256On (q : Nat × Nat) : Bool :=
  decide (q.1 < p256P) && decide (q.2 < p256P) &&
    decide (q.2 * q.2 % p256P = (q.1 * q.1 % p256P * q.1 + (p256P - 3) * q.1 + p256B) % p256P)

/-- The public key of a private scalar, x then y, 64 bytes (R10). -/
def p256Pub (d : Nat) : List Byte :=
  let q := p256Affine (p256Mul d p256G)
  toBytesBE 32 q.1 ++ toBytesBE 32 q.2

/-- A key of 64 bytes, x then y, is a point of P-256. -/
def p256KeyOk (key : List Byte) : Bool := p256On (ofBytesBE (key.take 32), ofBytesBE (key.drop 32))

/-- ECDSA verification of a 64-byte signature r, s over a digest's leftmost 256 bits under a 64-byte public key. -/
def p256Verify (key digest sig : List Byte) : Bool :=
  let q := (ofBytesBE (key.take 32), ofBytesBE (key.drop 32))
  let r := ofBytesBE (sig.take 32)
  let s := ofBytesBE (sig.drop 32)
  let e := ofBytesBE (digest.take 32)
  p256On q && decide (0 < r) && decide (r < p256N) && decide (0 < s) && decide (s < p256N) &&
    (let w := invMod p256N s
     let pt := p256Add (p256Mul (e * w % p256N) p256G) (p256Mul (r * w % p256N) q)
     decide (pt.2.2 ≠ 0) && decide ((p256Affine pt).1 % p256N = r))

/-- The candidate nonces of RFC 6979 with HMAC-SHA-256, in turn, until one gives a signature; `n` bounds the attempts. -/
def p256SignLoop (d e : Nat) : Nat → List Byte → List Byte → List Byte
  | 0, _, _ => List.replicate 64 0
  | n + 1, k, v =>
    let v1 := hmac256 k v
    let c := ofBytesBE v1
    let pt := p256Affine (p256Mul c p256G)
    let r := pt.1 % p256N
    let s := invMod p256N c * ((e + r * d) % p256N) % p256N
    if 0 < c ∧ c < p256N ∧ r ≠ 0 ∧ s ≠ 0 then toBytesBE 32 r ++ toBytesBE 32 s
    else
      let k1 := hmac256 k (v1 ++ [0])
      p256SignLoop d e n k1 (hmac256 k1 v1)

/-- The deterministic ECDSA signature r, s of a digest's leftmost 256 bits under a private scalar (RFC 6979). -/
def p256Sign (d : Nat) (digest : List Byte) : List Byte :=
  let e := ofBytesBE (digest.take 32)
  let h := toBytesBE 32 (e % p256N)
  let x := toBytesBE 32 d
  let v0 := List.replicate 32 (0x01 : Byte)
  let k1 := hmac256 (List.replicate 32 0) (v0 ++ [0] ++ x ++ h)
  let v1 := hmac256 k1 v0
  let k2 := hmac256 k1 (v1 ++ [1] ++ x ++ h)
  p256SignLoop d e 64 k2 (hmac256 k2 v1)

end Sys2Proof.Machine
end

