-- ==== Sys2Proof/Config.lean ====
section
/-!
DEFINITION. Config.lean: the values the spec leaves open, as constants without a body (nothing evaluates them and no proof
can see one), and what an implementation fixes.
-/
namespace Sys2Proof.Config

/-- A choice or a value the spec leaves open, numbered by the model's counter of free values. (DESIGN CHOICE, log 8.) -/
opaque freeNat : Nat → Nat

/-- The contents of a DRAM line that nothing has written since the channel's `epoch`-th training (R374: undefined).
(DESIGN CHOICE, log 4.) -/
opaque freeLine (epoch line : Nat) : Line

/-- The uncertainty of the frequency correction in 0.1 ppb while the accepted edge at that cycle is the last one (R464).
(DESIGN CHOICE, log 38.) -/
opaque freqUncert : Nat → Nat

/-- The magnitude of the servo's rate correction for offset `e` and TAU (Table 12-2). (DESIGN CHOICE, log 38.) -/
opaque servoRate (n : Nat) (e : Int) (tau : Nat) : Int

/-- The servo's new frequency correction for offset `e` and TAU (Table 12-2). (DESIGN CHOICE, log 38.) -/
opaque servoFreq (n : Nat) (e : Int) (tau : Nat) : Int

/-- The placing error of a PPS_OUT edge (R467). (DESIGN CHOICE, log 39.) -/
opaque ppsError : Nat → Int

/-- Whether the fitted flash suspends an erase for a program (EVS_FLASH_INFO). (DESIGN CHOICE, log 41.) -/
opaque flashSuspend : Bool

/-- What the boot ROM's stack leaves in the last 8 KiB of TCM (Table 10-8), by RC address. (DESIGN CHOICE, log 42.) -/
opaque romStack : Nat → Byte

/-- Whether a calibration value that falls between two integers is taken as the upper one (R610 states no rounding), for the
knots (x0, y0), (x1, y1) and the input x. (DESIGN CHOICE, log 40.) -/
opaque interpUp (x0 y0 x1 y1 x : Int) : Bool

/-- What a word of list RAM holds after the `loss`-th loss of the main supplies. (DESIGN CHOICE, log 61.) -/
opaque ramWord (loss word : Nat) : BitVec 32

/-- How far the droop threshold lies above 0.7235 V, in 0.1 mV (R63, R727: at most 40). (DESIGN CHOICE, log 19.) -/
opaque droopOver : Nat

end Sys2Proof.Config
end

