-- ==== Sys2Proof/Machine/RegMap.lean ====
section
/-!
DEFINITION. Machine/RegMap.lean: the register index (chapter 22, R746 to R750) with the field tables of the defining
chapters, one row per register or register array: its name, its address, its array dimensions, the island that holds it
(Table 22-1, 22-3), its update group (Table 4-2), whether WRST_N leaves it as it is ("(kept)"), and its fields with the
type codes of Table 0-4. A control port word w is given the key 0x1000_0000 + 4 w; an IC register its byte address.
-/
namespace Sys2Proof.Machine

/-- Type codes of Table 0-4 as Table 4-1 uses them; `cmd` is a command field (R123), `seq` the SEQ field of an SQ register,
`lk`, `shlk`, `cmdlk` the combinations RW+LK, SH+LK and a lockable command field. ST copies are read-only here. -/
inductive FTy | ro | rw | cmd | sq | seq | lv | mk | sh | wo | lk | shlk | cmdlk
deriving DecidableEq, Repr

/-- The condition, other than a lock domain, that locks an LK field (R135). -/
inductive FCond | none | keyOk | rgnLock
deriving DecidableEq, Repr

/-- One field of a register: bits hi to lo, type, lock domain of Table 4-4 (16 for none), locking condition, reset. -/
structure Fld where
  hi : Nat
  lo : Nat
  name : String
  ty : FTy
  dom : Nat
  cond : FCond
  reset : Nat
deriving DecidableEq, Repr

/-- One register, or one array of registers with its dimensions (count, stride), the first outermost. -/
structure RegRow where
  name : String
  base : Nat
  dims : List (Nat × Nat)
  isl : Nat
  islStep : Nat
  grp : Nat
  kept : Bool
  fields : List Fld
deriving DecidableEq, Repr

namespace Ad

/-- Key of CP_ID. -/
abbrev CP_ID : Nat := 0x10000000
/-- Key of CP_STATUS. -/
abbrev CP_STATUS : Nat := 0x10000004
/-- Key of CP_UPDATE. -/
abbrev CP_UPDATE : Nat := 0x10000008
/-- Key of CP_LOCK. -/
abbrev CP_LOCK : Nat := 0x1000000C
/-- Key of CP_VALLEY. -/
abbrev CP_VALLEY : Nat := 0x10000010
/-- Key of CP_LOCK_STRICT. -/
abbrev CP_LOCK_STRICT : Nat := 0x10000014
/-- Key of CP_LAST. -/
abbrev CP_LAST : Nat := 0x10000018
/-- Key of CP_CFG. -/
abbrev CP_CFG : Nat := 0x1000001C
/-- Key of CP_WA_BASE. -/
abbrev CP_WA_BASE : Nat := 0x10000080
/-- Key of CP_WA_CTRL. -/
abbrev CP_WA_CTRL : Nat := 0x10000084
/-- Key of CP_WA_ERRADDR. -/
abbrev CP_WA_ERRADDR : Nat := 0x10000088
/-- Key of CP_WB_BASE. -/
abbrev CP_WB_BASE : Nat := 0x10000090
/-- Key of CP_WB_CTRL. -/
abbrev CP_WB_CTRL : Nat := 0x10000094
/-- Key of CP_WB_ERRADDR. -/
abbrev CP_WB_ERRADDR : Nat := 0x10000098
/-- Key of CP_ERRCNT. -/
abbrev CP_ERRCNT : Nat := 0x100000A0
/-- Key of CP_TIME_LO. -/
abbrev CP_TIME_LO : Nat := 0x10000100
/-- Key of CP_TIME_HI. -/
abbrev CP_TIME_HI : Nat := 0x10000104
/-- Key of ISL_RESET_CAUSE. -/
abbrev ISL_RESET_CAUSE : Nat := 0x100000
/-- Key of ISL_RUN_0. -/
abbrev ISL_RUN_0 : Nat := 0x100004
/-- Key of ISL_RUN_1. -/
abbrev ISL_RUN_1 : Nat := 0x100008
/-- Key of ISL_WAKE_EN. -/
abbrev ISL_WAKE_EN : Nat := 0x100010
/-- Key of ISL_WAKE_EDGE. -/
abbrev ISL_WAKE_EDGE : Nat := 0x100014
/-- Key of ISL_WAKE_TARGET. -/
abbrev ISL_WAKE_TARGET : Nat := 0x100018
/-- Key of ISL_LATCH. -/
abbrev ISL_LATCH : Nat := 0x100020
/-- Key of ISL_LATCH_OVF. -/
abbrev ISL_LATCH_OVF : Nat := 0x100024
/-- Key of ISL_VALLEY_CFG. -/
abbrev ISL_VALLEY_CFG : Nat := 0x100030
/-- Key of ISL_RC_CTRL. -/
abbrev ISL_RC_CTRL : Nat := 0x100040
/-- Key of LNK_CFG. -/
abbrev LNK_CFG (i : Nat) : Nat := 0x200000 + 0x10000 * i
/-- Key of LNK_STATE. -/
abbrev LNK_STATE (i : Nat) : Nat := 0x200004 + 0x10000 * i
/-- Key of LNK_SEQ. -/
abbrev LNK_SEQ (i : Nat) : Nat := 0x200008 + 0x10000 * i
/-- Key of LNK_TMR_0. -/
abbrev LNK_TMR_0 (i : Nat) : Nat := 0x20000C + 0x10000 * i
/-- Key of LNK_TMR_1. -/
abbrev LNK_TMR_1 (i : Nat) : Nat := 0x200010 + 0x10000 * i
/-- Key of LNK_TMR_2. -/
abbrev LNK_TMR_2 (i : Nat) : Nat := 0x200014 + 0x10000 * i
/-- Key of LNK_ERR_CFG. -/
abbrev LNK_ERR_CFG (i : Nat) : Nat := 0x200018 + 0x10000 * i
/-- Key of LNK_CMD. -/
abbrev LNK_CMD (i : Nat) : Nat := 0x20001C + 0x10000 * i
/-- Key of LNK_DETACH_MASK. -/
abbrev LNK_DETACH_MASK (i : Nat) : Nat := 0x200020 + 0x10000 * i
/-- Key of LNK_EVT. -/
abbrev LNK_EVT (i : Nat) : Nat := 0x200024 + 0x10000 * i
/-- Key of LNK_PARTNER_LO. -/
abbrev LNK_PARTNER_LO (i : Nat) : Nat := 0x200028 + 0x10000 * i
/-- Key of LNK_PARTNER_HI. -/
abbrev LNK_PARTNER_HI (i : Nat) : Nat := 0x20002C + 0x10000 * i
/-- Key of LNK_AGENT. -/
abbrev LNK_AGENT (i j : Nat) : Nat := 0x200040 + 0x10000 * i + 0x4 * j
/-- Key of LNK_PRECISE. -/
abbrev LNK_PRECISE (i : Nat) : Nat := 0x200060 + 0x10000 * i
/-- Key of LNK_COUNT. -/
abbrev LNK_COUNT (i j : Nat) : Nat := 0x200080 + 0x10000 * i + 0x4 * j
/-- Key of LNK_ID_CFG. -/
abbrev LNK_ID_CFG : Nat := 0x20F000
/-- Key of LNK_ID_USED. -/
abbrev LNK_ID_USED (i : Nat) : Nat := 0x20F010 + 0x4 * i
/-- Key of HA_CFG. -/
abbrev HA_CFG : Nat := 0x300000
/-- Key of HA_SNP_DEADLINE. -/
abbrev HA_SNP_DEADLINE : Nat := 0x300004
/-- Key of HA_TRK. -/
abbrev HA_TRK : Nat := 0x300010
/-- Key of HA_EVT. -/
abbrev HA_EVT : Nat := 0x300014
/-- Key of HA_LAST_UNRESP. -/
abbrev HA_LAST_UNRESP : Nat := 0x300018
/-- Key of HA_POISON_COUNT. -/
abbrev HA_POISON_COUNT : Nat := 0x30001C
/-- Key of HA_PROTO_INFO. -/
abbrev HA_PROTO_INFO : Nat := 0x300020
/-- Key of HA_UNRESP. -/
abbrev HA_UNRESP (i : Nat) : Nat := 0x300040 + 0x4 * i
/-- Key of HA_RACE_COUNT. -/
abbrev HA_RACE_COUNT (i : Nat) : Nat := 0x300080 + 0x4 * i
/-- Key of HA_POISON_LAST_0. -/
abbrev HA_POISON_LAST_0 : Nat := 0x3000A0
/-- Key of HA_POISON_LAST_1. -/
abbrev HA_POISON_LAST_1 : Nat := 0x3000A4
/-- Key of HA_TRK_WAIT. -/
abbrev HA_TRK_WAIT : Nat := 0x3000A8
/-- Key of HA_QUOTA. -/
abbrev HA_QUOTA (i : Nat) : Nat := 0x300404 + 0x4 * i
/-- Key of SF_OCC. -/
abbrev SF_OCC : Nat := 0x340000
/-- Key of SF_EVB. -/
abbrev SF_EVB : Nat := 0x340004
/-- Key of SF_BACKINV_COUNT. -/
abbrev SF_BACKINV_COUNT : Nat := 0x340008
/-- Key of SF_CORR_COUNT. -/
abbrev SF_CORR_COUNT : Nat := 0x34000C
/-- Key of SF_FAILED_SET. -/
abbrev SF_FAILED_SET : Nat := 0x340010
/-- Key of SF_SWEEP. -/
abbrev SF_SWEEP : Nat := 0x340020
/-- Key of SF_EVT. -/
abbrev SF_EVT : Nat := 0x340024
/-- Key of SF_SLOT. -/
abbrev SF_SLOT (i : Nat) : Nat := 0x340040 + 0x4 * i
/-- Key of TMM_CTRL. -/
abbrev TMM_CTRL : Nat := 0x400000
/-- Key of TMM_CMD. -/
abbrev TMM_CMD : Nat := 0x400004
/-- Key of TMM_CMD_ARG_0. -/
abbrev TMM_CMD_ARG_0 : Nat := 0x400008
/-- Key of TMM_CMD_ARG_1. -/
abbrev TMM_CMD_ARG_1 : Nat := 0x40000C
/-- Key of TMM_CMD_STATUS. -/
abbrev TMM_CMD_STATUS : Nat := 0x400010
/-- Key of TMM_EVT. -/
abbrev TMM_EVT : Nat := 0x400014
/-- Key of TMM_PT_BASE. -/
abbrev TMM_PT_BASE : Nat := 0x400018
/-- Key of TMM_PT_SIZE. -/
abbrev TMM_PT_SIZE : Nat := 0x40001C
/-- Key of TMM_SRC_CFG. -/
abbrev TMM_SRC_CFG : Nat := 0x400020
/-- Key of TMM_FOLD_CFG. -/
abbrev TMM_FOLD_CFG : Nat := 0x400024
/-- Key of TMM_POOL_FREE. -/
abbrev TMM_POOL_FREE (i : Nat) : Nat := 0x400040 + 0x4 * i
/-- Key of TMM_POOL_CFREE. -/
abbrev TMM_POOL_CFREE (i : Nat) : Nat := 0x400080 + 0x4 * i
/-- Key of TMM_COUNT. -/
abbrev TMM_COUNT (i : Nat) : Nat := 0x4000C0 + 0x4 * i
/-- Key of DSC_CTRL. -/
abbrev DSC_CTRL (i : Nat) : Nat := 0x410000 + 0x100 * i
/-- Key of DSC_PLAIN. -/
abbrev DSC_PLAIN (i : Nat) : Nat := 0x410004 + 0x100 * i
/-- Key of DSC_QUOTA. -/
abbrev DSC_QUOTA (i : Nat) : Nat := 0x410008 + 0x100 * i
/-- Key of DSC_FOLDQ. -/
abbrev DSC_FOLDQ (i : Nat) : Nat := 0x41000C + 0x100 * i
/-- Key of DSC_LARGE_LO. -/
abbrev DSC_LARGE_LO (i : Nat) : Nat := 0x410010 + 0x100 * i
/-- Key of DSC_LARGE_HI. -/
abbrev DSC_LARGE_HI (i : Nat) : Nat := 0x410014 + 0x100 * i
/-- Key of DSC_IMG_BASE. -/
abbrev DSC_IMG_BASE (i : Nat) : Nat := 0x410018 + 0x100 * i
/-- Key of DSC_IMG_PAGES. -/
abbrev DSC_IMG_PAGES (i : Nat) : Nat := 0x41001C + 0x100 * i
/-- Key of DSC_BIND. -/
abbrev DSC_BIND (i j : Nat) : Nat := 0x410020 + 0x100 * i + 0x4 * j
/-- Key of DSC_RES. -/
abbrev DSC_RES (i : Nat) : Nat := 0x410040 + 0x100 * i
/-- Key of DSC_FOLDED. -/
abbrev DSC_FOLDED (i : Nat) : Nat := 0x410044 + 0x100 * i
/-- Key of DSC_PT_ROOT. -/
abbrev DSC_PT_ROOT (i : Nat) : Nat := 0x410048 + 0x100 * i
/-- Key of SLOT_CTRL. -/
abbrev SLOT_CTRL (i j : Nat) : Nat := 0x410050 + 0x100 * i + 0x30 * j
/-- Key of SLOT_OBJECT. -/
abbrev SLOT_OBJECT (i j : Nat) : Nat := 0x410054 + 0x100 * i + 0x30 * j
/-- Key of SLOT_VERSION. -/
abbrev SLOT_VERSION (i j : Nat) : Nat := 0x410058 + 0x100 * i + 0x30 * j
/-- Key of SLOT_NPAGES. -/
abbrev SLOT_NPAGES (i j : Nat) : Nat := 0x41005C + 0x100 * i + 0x30 * j
/-- Key of SLOT_ROOT. -/
abbrev SLOT_ROOT (i j l : Nat) : Nat := 0x410060 + 0x100 * i + 0x30 * j + 0x4 * l
/-- Key of PAS_CMD. -/
abbrev PAS_CMD : Nat := 0x500000
/-- Key of PAS_CMD_ARG. -/
abbrev PAS_CMD_ARG : Nat := 0x500004
/-- Key of PAS_CMD_STATUS. -/
abbrev PAS_CMD_STATUS : Nat := 0x500008
/-- Key of PAS_STATE. -/
abbrev PAS_STATE : Nat := 0x50000C
/-- Key of PAS_CAP_NOM. -/
abbrev PAS_CAP_NOM : Nat := 0x500010
/-- Key of PAS_CAP_DER. -/
abbrev PAS_CAP_DER : Nat := 0x500014
/-- Key of PAS_COMMIT_U. -/
abbrev PAS_COMMIT_U : Nat := 0x500018
/-- Key of PAS_COMMIT_G. -/
abbrev PAS_COMMIT_G : Nat := 0x50001C
/-- Key of PAS_EVT. -/
abbrev PAS_EVT : Nat := 0x500020
/-- Key of PAS_OVH_COUNT. -/
abbrev PAS_OVH_COUNT : Nat := 0x500024
/-- Key of PAS_PASS. -/
abbrev PAS_PASS (i : Nat) : Nat := 0x500400 + 0x4 * i
/-- Key of DRC_CFG. -/
abbrev DRC_CFG (i : Nat) : Nat := 0x580000 + 0x1000 * i
/-- Key of DRC_CTRL. -/
abbrev DRC_CTRL (i : Nat) : Nat := 0x580004 + 0x1000 * i
/-- Key of DRC_STATUS. -/
abbrev DRC_STATUS (i : Nat) : Nat := 0x580008 + 0x1000 * i
/-- Key of DRC_THROTTLE. -/
abbrev DRC_THROTTLE (i : Nat) : Nat := 0x58000C + 0x1000 * i
/-- Key of DRC_SCRUB. -/
abbrev DRC_SCRUB (i : Nat) : Nat := 0x580010 + 0x1000 * i
/-- Key of DRC_CAP. -/
abbrev DRC_CAP (i : Nat) : Nat := 0x580014 + 0x1000 * i
/-- Key of DRC_ERRADDR. -/
abbrev DRC_ERRADDR (i : Nat) : Nat := 0x580018 + 0x1000 * i
/-- Key of DRC_EVT. -/
abbrev DRC_EVT (i : Nat) : Nat := 0x58001C + 0x1000 * i
/-- Key of DRC_COUNT. -/
abbrev DRC_COUNT (i j : Nat) : Nat := 0x580020 + 0x1000 * i + 0x4 * j
/-- Key of DRC_TCFG. -/
abbrev DRC_TCFG : Nat := 0x58F000
/-- Key of RCC_CTRL. -/
abbrev RCC_CTRL : Nat := 0x600000
/-- Key of RCC_STATUS. -/
abbrev RCC_STATUS : Nat := 0x600004
/-- Key of RCC_BOOT_STATUS. -/
abbrev RCC_BOOT_STATUS : Nat := 0x600008
/-- Key of RCC_BOOT_VER. -/
abbrev RCC_BOOT_VER : Nat := 0x60000C
/-- Key of RCC_BOOT_CTRL. -/
abbrev RCC_BOOT_CTRL : Nat := 0x600010
/-- Key of RCC_BOOT_MEAS. -/
abbrev RCC_BOOT_MEAS (i : Nat) : Nat := 0x600020 + 0x4 * i
/-- Key of RCC_MSIP. -/
abbrev RCC_MSIP : Nat := 0x600040
/-- Key of RCC_TIMECMP_LO. -/
abbrev RCC_TIMECMP_LO : Nat := 0x600048
/-- Key of RCC_TIMECMP_HI. -/
abbrev RCC_TIMECMP_HI : Nat := 0x60004C
/-- Key of RCC_CACHE_CMD. -/
abbrev RCC_CACHE_CMD : Nat := 0x600050
/-- Key of RCC_BUSERR. -/
abbrev RCC_BUSERR : Nat := 0x600060
/-- Key of RCC_BUSERR_ADDR. -/
abbrev RCC_BUSERR_ADDR : Nat := 0x600064
/-- Key of RCC_BUSERR_EN. -/
abbrev RCC_BUSERR_EN : Nat := 0x600068
/-- Key of RCC_TCM_CE_COUNT. -/
abbrev RCC_TCM_CE_COUNT : Nat := 0x60006C
/-- Key of RCC_RGN_BASE. -/
abbrev RCC_RGN_BASE (i : Nat) : Nat := 0x600100 + 0x8 * i
/-- Key of RCC_RGN_LIMIT. -/
abbrev RCC_RGN_LIMIT (i : Nat) : Nat := 0x600104 + 0x8 * i
/-- Key of CHZ_CTRL. -/
abbrev CHZ_CTRL : Nat := 0x680000
/-- Key of CHZ_STATUS. -/
abbrev CHZ_STATUS : Nat := 0x680004
/-- Key of CHZ_CTX_STATE. -/
abbrev CHZ_CTX_STATE : Nat := 0x680008
/-- Key of CHZ_CTR. -/
abbrev CHZ_CTR : Nat := 0x680010
/-- Key of CHZ_CTR_STATUS. -/
abbrev CHZ_CTR_STATUS : Nat := 0x680014
/-- Key of CHZ_CARVE_STATUS. -/
abbrev CHZ_CARVE_STATUS : Nat := 0x680018
/-- Key of CHZ_CARVE_SEQ_LO. -/
abbrev CHZ_CARVE_SEQ_LO : Nat := 0x68001C
/-- Key of CHZ_CARVE_SEQ_HI. -/
abbrev CHZ_CARVE_SEQ_HI : Nat := 0x680020
/-- Key of CHZ_EVT. -/
abbrev CHZ_EVT : Nat := 0x680024
/-- Key of CHZ_KEY_POL. -/
abbrev CHZ_KEY_POL (i : Nat) : Nat := 0x680040 + 0x4 * i
/-- Key of CHZ_IDPUB. -/
abbrev CHZ_IDPUB (i : Nat) : Nat := 0x680100 + 0x4 * i
/-- Key of CHZ_RECPUB. -/
abbrev CHZ_RECPUB (i : Nat) : Nat := 0x680140 + 0x4 * i
/-- Key of TBU_TIME_LO. -/
abbrev TBU_TIME_LO : Nat := 0x700000
/-- Key of TBU_TIME_HI. -/
abbrev TBU_TIME_HI : Nat := 0x700004
/-- Key of TBU_QUALITY. -/
abbrev TBU_QUALITY : Nat := 0x700008
/-- Key of TBU_BOUND. -/
abbrev TBU_BOUND : Nat := 0x70000C
/-- Key of TBU_OFFSET. -/
abbrev TBU_OFFSET : Nat := 0x700010
/-- Key of TBU_FREQ. -/
abbrev TBU_FREQ : Nat := 0x700014
/-- Key of TBU_SRV_CFG. -/
abbrev TBU_SRV_CFG : Nat := 0x700018
/-- Key of TBU_HO_CFG. -/
abbrev TBU_HO_CFG : Nat := 0x70001C
/-- Key of TBU_QTHR. -/
abbrev TBU_QTHR : Nat := 0x700020
/-- Key of TBU_EVT. -/
abbrev TBU_EVT : Nat := 0x700024
/-- Key of TBU_STEP_AT_LO. -/
abbrev TBU_STEP_AT_LO : Nat := 0x700028
/-- Key of TBU_STEP_AT_HI. -/
abbrev TBU_STEP_AT_HI : Nat := 0x70002C
/-- Key of TBU_STEP_DELTA. -/
abbrev TBU_STEP_DELTA : Nat := 0x700030
/-- Key of TBU_UTC_OFS. -/
abbrev TBU_UTC_OFS : Nat := 0x700034
/-- Key of TBU_ALARM_LO. -/
abbrev TBU_ALARM_LO : Nat := 0x700038
/-- Key of TBU_ALARM_HI. -/
abbrev TBU_ALARM_HI : Nat := 0x70003C
/-- Key of TBU_ALARM_CTRL. -/
abbrev TBU_ALARM_CTRL : Nat := 0x700040
/-- Key of TBU_PPS_BAD_COUNT. -/
abbrev TBU_PPS_BAD_COUNT : Nat := 0x700044
/-- Key of TBU_PPS_COMP. -/
abbrev TBU_PPS_COMP : Nat := 0x700048
/-- Key of TBU_RTC_SEC_LO. -/
abbrev TBU_RTC_SEC_LO : Nat := 0x700080
/-- Key of TBU_RTC_SEC_HI. -/
abbrev TBU_RTC_SEC_HI : Nat := 0x700084
/-- Key of TBU_RTC_SUB. -/
abbrev TBU_RTC_SUB : Nat := 0x700088
/-- Key of TBU_RTC_ALARM. -/
abbrev TBU_RTC_ALARM : Nat := 0x70008C
/-- Key of MOT_CFG. -/
abbrev MOT_CFG : Nat := 0x780000
/-- Key of MOT_KDEF. -/
abbrev MOT_KDEF : Nat := 0x780004
/-- Key of MOT_PLAUS_CFG. -/
abbrev MOT_PLAUS_CFG : Nat := 0x780008
/-- Key of MOT_PLAUS_CFG2. -/
abbrev MOT_PLAUS_CFG2 : Nat := 0x78000C
/-- Key of MOT_CNT_A. -/
abbrev MOT_CNT_A : Nat := 0x780010
/-- Key of MOT_CNT_B. -/
abbrev MOT_CNT_B : Nat := 0x780014
/-- Key of MOT_DIST_LO. -/
abbrev MOT_DIST_LO : Nat := 0x780018
/-- Key of MOT_DIST_HI. -/
abbrev MOT_DIST_HI : Nat := 0x78001C
/-- Key of MOT_SPEED. -/
abbrev MOT_SPEED : Nat := 0x780020
/-- Key of MOT_STATE. -/
abbrev MOT_STATE : Nat := 0x780024
/-- Key of MOT_EVT. -/
abbrev MOT_EVT : Nat := 0x780028
/-- Key of EVS_STATE. -/
abbrev EVS_STATE : Nat := 0x800000
/-- Key of EVS_PENDING_LO. -/
abbrev EVS_PENDING_LO : Nat := 0x800004
/-- Key of EVS_PENDING_HI. -/
abbrev EVS_PENDING_HI : Nat := 0x800008
/-- Key of EVS_NEXT_LO. -/
abbrev EVS_NEXT_LO : Nat := 0x80000C
/-- Key of EVS_NEXT_HI. -/
abbrev EVS_NEXT_HI : Nat := 0x800010
/-- Key of EVS_PROV_LO. -/
abbrev EVS_PROV_LO : Nat := 0x800014
/-- Key of EVS_PROV_HI. -/
abbrev EVS_PROV_HI : Nat := 0x800018
/-- Key of EVS_ACK_LO. -/
abbrev EVS_ACK_LO : Nat := 0x80001C
/-- Key of EVS_ACK_HI. -/
abbrev EVS_ACK_HI : Nat := 0x800020
/-- Key of EVS_FREE. -/
abbrev EVS_FREE : Nat := 0x800024
/-- Key of EVS_Q. -/
abbrev EVS_Q : Nat := 0x800028
/-- Key of EVS_CMD. -/
abbrev EVS_CMD : Nat := 0x80002C
/-- Key of EVS_RET. -/
abbrev EVS_RET : Nat := 0x800030
/-- Key of EVS_EVT. -/
abbrev EVS_EVT : Nat := 0x800034
/-- Key of EVS_GENESIS. -/
abbrev EVS_GENESIS : Nat := 0x800038
/-- Key of EVS_HEAD. -/
abbrev EVS_HEAD (i : Nat) : Nat := 0x800040 + 0x4 * i
/-- Key of EVS_REC_CTRL. -/
abbrev EVS_REC_CTRL (i : Nat) : Nat := 0x800080 + 0x20 * i
/-- Key of EVS_REC_SUB. -/
abbrev EVS_REC_SUB (i : Nat) : Nat := 0x800084 + 0x20 * i
/-- Key of EVS_REC_RCPT. -/
abbrev EVS_REC_RCPT (i : Nat) : Nat := 0x800088 + 0x20 * i
/-- Key of EVS_REC_EXP. -/
abbrev EVS_REC_EXP (i : Nat) : Nat := 0x80008C + 0x20 * i
/-- Key of EVS_REC_EXPSIZE. -/
abbrev EVS_REC_EXPSIZE (i : Nat) : Nat := 0x800090 + 0x20 * i
/-- Key of EVS_PART_BASE. -/
abbrev EVS_PART_BASE : Nat := 0x800100
/-- Key of EVS_PART_SECTORS. -/
abbrev EVS_PART_SECTORS : Nat := 0x800104
/-- Key of EVS_HWM_LO. -/
abbrev EVS_HWM_LO : Nat := 0x800108
/-- Key of EVS_HWM_HI. -/
abbrev EVS_HWM_HI : Nat := 0x80010C
/-- Key of EVS_FLASH_INFO. -/
abbrev EVS_FLASH_INFO : Nat := 0x800110
/-- Key of EVS_DUP_COUNT. -/
abbrev EVS_DUP_COUNT : Nat := 0x800120
/-- Key of EVS_BUSY_COUNT. -/
abbrev EVS_BUSY_COUNT : Nat := 0x800124
/-- Key of EVS_TORN_COUNT. -/
abbrev EVS_TORN_COUNT : Nat := 0x800128
/-- Key of EVS_ERASE_COUNT. -/
abbrev EVS_ERASE_COUNT : Nat := 0x80012C
/-- Key of EVS_X_ADDR. -/
abbrev EVS_X_ADDR : Nat := 0x800140
/-- Key of EVS_X_CTRL. -/
abbrev EVS_X_CTRL : Nat := 0x800144
/-- Key of EVS_QE_HDR. -/
abbrev EVS_QE_HDR (i : Nat) : Nat := 0x810000 + 0x100 * i
/-- Key of EVS_QE_NONCE. -/
abbrev EVS_QE_NONCE (i j : Nat) : Nat := 0x810004 + 0x100 * i + 0x4 * j
/-- Key of EVS_QE_PAYLOAD. -/
abbrev EVS_QE_PAYLOAD (i j : Nat) : Nat := 0x810040 + 0x100 * i + 0x4 * j
/-- Key of EVS_X_BUF. -/
abbrev EVS_X_BUF (i : Nat) : Nat := 0x820000 + 0x4 * i
/-- Key of ACQ_CTRL. -/
abbrev ACQ_CTRL : Nat := 0x900000
/-- Key of ACQ_STATUS. -/
abbrev ACQ_STATUS : Nat := 0x900004
/-- Key of ACQ_REF. -/
abbrev ACQ_REF : Nat := 0x900008
/-- Key of ACQ_TIMER. -/
abbrev ACQ_TIMER : Nat := 0x90000C
/-- Key of ACQ_CAL_CFG. -/
abbrev ACQ_CAL_CFG : Nat := 0x900010
/-- Key of ACQ_TDAC. -/
abbrev ACQ_TDAC : Nat := 0x900014
/-- Key of ACQ_IADC_CFG. -/
abbrev ACQ_IADC_CFG : Nat := 0x900018
/-- Key of ACQ_IADC_TINT. -/
abbrev ACQ_IADC_TINT : Nat := 0x90001C
/-- Key of ACQ_EVT. -/
abbrev ACQ_EVT : Nat := 0x900020
/-- Key of ACQ_PLAUS_LAST. -/
abbrev ACQ_PLAUS_LAST : Nat := 0x900024
/-- Key of ACQ_TRIM. -/
abbrev ACQ_TRIM (i : Nat) : Nat := 0x900030 + 0x4 * i
/-- Key of ACQ_COUNT. -/
abbrev ACQ_COUNT (i : Nat) : Nat := 0x900060 + 0x4 * i
/-- Key of ACQ_BUF_CTRL. -/
abbrev ACQ_BUF_CTRL (i : Nat) : Nat := 0x900100 + 0x20 * i
/-- Key of ACQ_BUF_BASE. -/
abbrev ACQ_BUF_BASE (i : Nat) : Nat := 0x900104 + 0x20 * i
/-- Key of ACQ_BUF_SIZE. -/
abbrev ACQ_BUF_SIZE (i : Nat) : Nat := 0x900108 + 0x20 * i
/-- Key of ACQ_BUF_WR. -/
abbrev ACQ_BUF_WR (i : Nat) : Nat := 0x90010C + 0x20 * i
/-- Key of ACQ_BUF_LOST. -/
abbrev ACQ_BUF_LOST (i : Nat) : Nat := 0x900110 + 0x20 * i
/-- Key of DAC_DATA. -/
abbrev DAC_DATA (i : Nat) : Nat := 0x980000 + 0x4 * i
/-- Key of DAC_CH_CFG. -/
abbrev DAC_CH_CFG (i : Nat) : Nat := 0x980040 + 0x4 * i
/-- Key of DAC_OUT. -/
abbrev DAC_OUT (i : Nat) : Nat := 0x980080 + 0x4 * i
/-- Key of DAC_LGRP_CFG. -/
abbrev DAC_LGRP_CFG : Nat := 0x9800C0
/-- Key of DAC_CMD. -/
abbrev DAC_CMD : Nat := 0x9800C4
/-- Key of DAC_STATUS. -/
abbrev DAC_STATUS : Nat := 0x9800C8
/-- Key of DAC_EVT. -/
abbrev DAC_EVT : Nat := 0x9800CC
/-- Key of DAC_MTP_STAGE. -/
abbrev DAC_MTP_STAGE : Nat := 0x9800D0
/-- Key of DAC_MTP_CMD. -/
abbrev DAC_MTP_CMD : Nat := 0x9800D4
/-- Key of DAC_MTP_ROW. -/
abbrev DAC_MTP_ROW (i : Nat) : Nat := 0x980100 + 0x4 * i
/-- Key of DAC_MTP_WEAR. -/
abbrev DAC_MTP_WEAR (i : Nat) : Nat := 0x980140 + 0x4 * i
/-- Key of LTH_CTRL. -/
abbrev LTH_CTRL (i : Nat) : Nat := 0xA00000 + 0x40000 * i
/-- Key of LTH_CFG. -/
abbrev LTH_CFG (i : Nat) : Nat := 0xA00004 + 0x40000 * i
/-- Key of LTH_LIMIT_F. -/
abbrev LTH_LIMIT_F (i : Nat) : Nat := 0xA00008 + 0x40000 * i
/-- Key of LTH_LIMIT_C. -/
abbrev LTH_LIMIT_C (i : Nat) : Nat := 0xA0000C + 0x40000 * i
/-- Key of LTH_DIG. -/
abbrev LTH_DIG (i : Nat) : Nat := 0xA00010 + 0x40000 * i
/-- Key of LTH_LIST. -/
abbrev LTH_LIST (i : Nat) : Nat := 0xA00014 + 0x40000 * i
/-- Key of LTH_LIST_RANGE. -/
abbrev LTH_LIST_RANGE (i : Nat) : Nat := 0xA00018 + 0x40000 * i
/-- Key of LTH_FETCH_TENANT. -/
abbrev LTH_FETCH_TENANT (i : Nat) : Nat := 0xA0001C + 0x40000 * i
/-- Key of LTH_FETCH_LIST. -/
abbrev LTH_FETCH_LIST (i : Nat) : Nat := 0xA00020 + 0x40000 * i
/-- Key of LTH_FETCH_RES. -/
abbrev LTH_FETCH_RES (i : Nat) : Nat := 0xA00024 + 0x40000 * i
/-- Key of LTH_STATUS. -/
abbrev LTH_STATUS (i : Nat) : Nat := 0xA00040 + 0x40000 * i
/-- Key of LTH_TRIP_INFO. -/
abbrev LTH_TRIP_INFO (i : Nat) : Nat := 0xA00044 + 0x40000 * i
/-- Key of LTH_TRIP_TIME_LO. -/
abbrev LTH_TRIP_TIME_LO (i : Nat) : Nat := 0xA00048 + 0x40000 * i
/-- Key of LTH_TRIP_TIME_HI. -/
abbrev LTH_TRIP_TIME_HI (i : Nat) : Nat := 0xA0004C + 0x40000 * i
/-- Key of LTH_EVT. -/
abbrev LTH_EVT (i : Nat) : Nat := 0xA00050 + 0x40000 * i
/-- Key of LTH_POINT_COUNT. -/
abbrev LTH_POINT_COUNT (i : Nat) : Nat := 0xA00054 + 0x40000 * i
/-- Key of LTH_TRIP_COUNT. -/
abbrev LTH_TRIP_COUNT (i : Nat) : Nat := 0xA00058 + 0x40000 * i
/-- Key of LTH_RAM. -/
abbrev LTH_RAM (i j : Nat) : Nat := 0xA10000 + 0x40000 * i + 0x4 * j
/-- Key of LTH_RES. -/
abbrev LTH_RES (i j : Nat) : Nat := 0xA20000 + 0x40000 * i + 0x4 * j
/-- Key of CVU_CTRL. -/
abbrev CVU_CTRL (i : Nat) : Nat := 0xB00000 + 0x40 * i
/-- Key of CVU_CFG. -/
abbrev CVU_CFG (i : Nat) : Nat := 0xB00004 + 0x40 * i
/-- Key of CVU_TENANT. -/
abbrev CVU_TENANT (i : Nat) : Nat := 0xB00008 + 0x40 * i
/-- Key of CVU_POLY. -/
abbrev CVU_POLY (i : Nat) : Nat := 0xB0000C + 0x40 * i
/-- Key of CVU_INIT. -/
abbrev CVU_INIT (i : Nat) : Nat := 0xB00010 + 0x40 * i
/-- Key of CVU_XOROUT. -/
abbrev CVU_XOROUT (i : Nat) : Nat := 0xB00014 + 0x40 * i
/-- Key of CVU_RESULT. -/
abbrev CVU_RESULT (i : Nat) : Nat := 0xB00018 + 0x40 * i
/-- Key of CVU_BYTES_LO. -/
abbrev CVU_BYTES_LO (i : Nat) : Nat := 0xB0001C + 0x40 * i
/-- Key of CVU_BYTES_HI. -/
abbrev CVU_BYTES_HI (i : Nat) : Nat := 0xB00020 + 0x40 * i
/-- Key of CVU_LIMIT. -/
abbrev CVU_LIMIT (i : Nat) : Nat := 0xB00024 + 0x40 * i
/-- Key of CVU_STATUS. -/
abbrev CVU_STATUS (i : Nat) : Nat := 0xB00028 + 0x40 * i
/-- Key of CVU_DATA_B. -/
abbrev CVU_DATA_B (i : Nat) : Nat := 0xB00030 + 0x40 * i
/-- Key of CVU_DATA_H. -/
abbrev CVU_DATA_H (i : Nat) : Nat := 0xB00034 + 0x40 * i
/-- Key of CVU_DATA_W. -/
abbrev CVU_DATA_W (i : Nat) : Nat := 0xB00038 + 0x40 * i
/-- Key of CVU_EVT. -/
abbrev CVU_EVT : Nat := 0xB00200
/-- Key of PCU_CFG. -/
abbrev PCU_CFG (i : Nat) : Nat := 0xB80000 + 0x10 * i
/-- Key of PCU_CNT_LO. -/
abbrev PCU_CNT_LO (i : Nat) : Nat := 0xB80004 + 0x10 * i
/-- Key of PCU_CNT_HI. -/
abbrev PCU_CNT_HI (i : Nat) : Nat := 0xB80008 + 0x10 * i
/-- Key of PCU_OVF. -/
abbrev PCU_OVF (i : Nat) : Nat := 0xB80200 + 0x4 * i
/-- Key of PCU_EVT. -/
abbrev PCU_EVT : Nat := 0xB80208
/-- Key of PCU_BW_CFG. -/
abbrev PCU_BW_CFG (i : Nat) : Nat := 0xB80400 + 0x20 * i
/-- Key of PCU_BW_LAST. -/
abbrev PCU_BW_LAST (i : Nat) : Nat := 0xB80404 + 0x20 * i
/-- Key of PCU_BW_MAX. -/
abbrev PCU_BW_MAX (i : Nat) : Nat := 0xB80408 + 0x20 * i
/-- Key of PCU_BW_MIN. -/
abbrev PCU_BW_MIN (i : Nat) : Nat := 0xB8040C + 0x20 * i
/-- Key of PCU_BW_THR. -/
abbrev PCU_BW_THR (i : Nat) : Nat := 0xB80410 + 0x20 * i
/-- Key of PCU_BW_WINDOWS. -/
abbrev PCU_BW_WINDOWS (i : Nat) : Nat := 0xB80414 + 0x20 * i
/-- Key of PCU_TAG_CFG. -/
abbrev PCU_TAG_CFG : Nat := 0xB80600
/-- Key of PCU_TAG_FILT. -/
abbrev PCU_TAG_FILT : Nat := 0xB80604
/-- Key of PCU_TAG_SEED. -/
abbrev PCU_TAG_SEED : Nat := 0xB80608
/-- Key of PCU_TAG_SKIP. -/
abbrev PCU_TAG_SKIP : Nat := 0xB8060C
/-- Key of PCU_SBUF_STATUS. -/
abbrev PCU_SBUF_STATUS : Nat := 0xB80610
/-- Key of PCU_SBUF_CTRL. -/
abbrev PCU_SBUF_CTRL : Nat := 0xB80614
/-- Key of PCU_SBUF. -/
abbrev PCU_SBUF (i : Nat) : Nat := 0xB81000 + 0x4 * i
/-- Key of EVC_PEND. -/
abbrev EVC_PEND (i : Nat) : Nat := 0xC00000 + 0x4 * i
/-- Key of EVC_MASK. -/
abbrev EVC_MASK (i : Nat) : Nat := 0xC00020 + 0x4 * i
/-- Key of EVC_PCLR. -/
abbrev EVC_PCLR (i : Nat) : Nat := 0xC00040 + 0x4 * i
/-- Key of EVC_MASK_MK_L. -/
abbrev EVC_MASK_MK_L (i : Nat) : Nat := 0xC00060 + 0x8 * i
/-- Key of EVC_MASK_MK_H. -/
abbrev EVC_MASK_MK_H (i : Nat) : Nat := 0xC00064 + 0x8 * i
/-- Key of EVC_PSET. -/
abbrev EVC_PSET (i : Nat) : Nat := 0xC000A0 + 0x4 * i
/-- Key of EVC_RC_THRESH. -/
abbrev EVC_RC_THRESH : Nat := 0xC00100
/-- Key of EVC_RC_CLAIM. -/
abbrev EVC_RC_CLAIM : Nat := 0xC00104
/-- Key of EVC_EVT. -/
abbrev EVC_EVT : Nat := 0xC00108
/-- Key of EVC_MSG_DROP_COUNT. -/
abbrev EVC_MSG_DROP_COUNT : Nat := 0xC0010C
/-- Key of EVC_IRQ_CFG. -/
abbrev EVC_IRQ_CFG : Nat := 0xC00110
/-- Key of EVC_ROUTE. -/
abbrev EVC_ROUTE (i : Nat) : Nat := 0xC00400 + 0x4 * i
/-- Key of FLT_SUMMARY. -/
abbrev FLT_SUMMARY : Nat := 0xD00000
/-- Key of FLT_LOCKVIOL. -/
abbrev FLT_LOCKVIOL : Nat := 0xD00004
/-- Key of FLT_RAISED_0. -/
abbrev FLT_RAISED_0 : Nat := 0xD00008
/-- Key of FLT_RAISED_1. -/
abbrev FLT_RAISED_1 : Nat := 0xD0000C
/-- Key of FLT_CTRL. -/
abbrev FLT_CTRL : Nat := 0xD00010
/-- Key of FLT_CFG. -/
abbrev FLT_CFG : Nat := 0xD00014
/-- Key of FLT_CONTAINED_0. -/
abbrev FLT_CONTAINED_0 : Nat := 0xD00018
/-- Key of FLT_CONTAINED_1. -/
abbrev FLT_CONTAINED_1 : Nat := 0xD0001C
/-- Key of FLT_RELEASE_0. -/
abbrev FLT_RELEASE_0 : Nat := 0xD00020
/-- Key of FLT_RELEASE_1. -/
abbrev FLT_RELEASE_1 : Nat := 0xD00024
/-- Key of FLT_EVT. -/
abbrev FLT_EVT : Nat := 0xD00028
/-- Key of FLT_LOCKVIOL_ADDR. -/
abbrev FLT_LOCKVIOL_ADDR : Nat := 0xD0002C
/-- Key of FLT_PARITY_ADDR. -/
abbrev FLT_PARITY_ADDR : Nat := 0xD00030
/-- Key of FLT_LOG_STATUS. -/
abbrev FLT_LOG_STATUS : Nat := 0xD00034
/-- Key of FLT_CNT. -/
abbrev FLT_CNT (i : Nat) : Nat := 0xD00040 + 0x4 * i
/-- Key of FLT_LOG. -/
abbrev FLT_LOG (i j : Nat) : Nat := 0xD00100 + 0x10 * i + 0x4 * j
/-- Key of OTP_DEVICE_ID_LO. -/
abbrev OTP_DEVICE_ID_LO : Nat := 0xE00000
/-- Key of OTP_DEVICE_ID_HI. -/
abbrev OTP_DEVICE_ID_HI : Nat := 0xE00004
/-- Key of OTP_VARIANT. -/
abbrev OTP_VARIANT : Nat := 0xE00008
/-- Key of OTP_LIFECYCLE. -/
abbrev OTP_LIFECYCLE : Nat := 0xE0000C
/-- Key of OTP_MIN_SVN. -/
abbrev OTP_MIN_SVN : Nat := 0xE00010
/-- Key of OTP_BOOT_A. -/
abbrev OTP_BOOT_A : Nat := 0xE00014
/-- Key of OTP_BOOT_B. -/
abbrev OTP_BOOT_B : Nat := 0xE00018
/-- Key of OTP_PART_BASE. -/
abbrev OTP_PART_BASE : Nat := 0xE0001C
/-- Key of OTP_PART_SECTORS. -/
abbrev OTP_PART_SECTORS : Nat := 0xE00020
/-- Key of OTP_ROW_BAD. -/
abbrev OTP_ROW_BAD : Nat := 0xE00024
/-- Key of OTP_HASH. -/
abbrev OTP_HASH (i : Nat) : Nat := 0xE00040 + 0x4 * i
/-- Key of OTP_ENDORSE. -/
abbrev OTP_ENDORSE (i : Nat) : Nat := 0xE000C0 + 0x4 * i
/-- Key of OTP_STAGE. -/
abbrev OTP_STAGE (i : Nat) : Nat := 0xE00200 + 0x4 * i
/-- Key of OTP_CMD. -/
abbrev OTP_CMD : Nat := 0xE00240
/-- Key of OTP_KEYPOL. -/
abbrev OTP_KEYPOL : Nat := 0xE00244
/-- Key of OTP_CMD_STATUS. -/
abbrev OTP_CMD_STATUS : Nat := 0xE00248
/-- Key of CP_TBL_CTRL. -/
abbrev CP_TBL_CTRL : Nat := 0xF00000
/-- Key of CP_TBL_STATUS. -/
abbrev CP_TBL_STATUS : Nat := 0xF00004
/-- Key of CP_TBL_EVT. -/
abbrev CP_TBL_EVT : Nat := 0xF00008
/-- Key of CP_TBL_ARMED. -/
abbrev CP_TBL_ARMED : Nat := 0xF0000C
/-- Key of CP_UPD_SRC. -/
abbrev CP_UPD_SRC : Nat := 0xF00010
/-- Key of CP_UPD_AT_LO. -/
abbrev CP_UPD_AT_LO : Nat := 0xF00014
/-- Key of CP_UPD_AT_HI. -/
abbrev CP_UPD_AT_HI : Nat := 0xF00018
/-- Key of CP_UPD_TCTRL. -/
abbrev CP_UPD_TCTRL : Nat := 0xF0001C
/-- Key of CP_TBL_KEY. -/
abbrev CP_TBL_KEY (i : Nat) : Nat := 0xF00040 + 0x4 * i
/-- Key of CP_TBL_VER. -/
abbrev CP_TBL_VER (i : Nat) : Nat := 0xF00080 + 0x4 * i
/-- Key of CP_TBL_BUF. -/
abbrev CP_TBL_BUF (i : Nat) : Nat := 0xF10000 + 0x4 * i

end Ad

/-- Registers: control port words: key 0x10000000 + 4*word (0). -/
def regsControlPortWords0 : List RegRow :=
  [ ⟨"CP_ID", 0x10000000, [], 2, 0, 8, false,
      [⟨31, 0, "ID", .ro, 16, .none, 0xD1A01024⟩]⟩
  , ⟨"CP_STATUS", 0x10000004, [], 2, 0, 8, false,
      [⟨31, 24, "SEQ", .seq, 16, .none, 0⟩,
       ⟨12, 0, "EVENTS", .sq, 16, .none, 0⟩]⟩
  , ⟨"CP_UPDATE", 0x10000008, [], 2, 0, 8, false,
      [⟨15, 8, "PEND", .ro, 16, .none, 0⟩,
       ⟨7, 0, "STROBE", .cmd, 16, .none, 0⟩]⟩
  , ⟨"CP_LOCK", 0x1000000C, [], 2, 0, 8, true,
      [⟨0, 0, "DOMAIN_0", .wo, 16, .none, 0⟩,
       ⟨1, 1, "DOMAIN_1", .wo, 16, .none, 0⟩,
       ⟨2, 2, "DOMAIN_2", .wo, 16, .none, 0⟩,
       ⟨3, 3, "DOMAIN_3", .wo, 16, .none, 0⟩,
       ⟨4, 4, "DOMAIN_4", .wo, 16, .none, 0⟩,
       ⟨5, 5, "DOMAIN_5", .wo, 16, .none, 0⟩,
       ⟨6, 6, "DOMAIN_6", .wo, 16, .none, 0⟩,
       ⟨7, 7, "DOMAIN_7", .wo, 16, .none, 0⟩,
       ⟨8, 8, "DOMAIN_8", .wo, 16, .none, 0⟩,
       ⟨9, 9, "DOMAIN_9", .wo, 16, .none, 0⟩,
       ⟨10, 10, "DOMAIN_10", .wo, 16, .none, 0⟩]⟩
  , ⟨"CP_VALLEY", 0x10000010, [], 1, 0, 8, false,
      [⟨15, 8, "WAKE_SRC", .ro, 16, .none, 0xFF⟩,
       ⟨7, 7, "ABANDONED", .ro, 16, .none, 0⟩,
       ⟨6, 6, "BUSY", .ro, 16, .none, 0⟩,
       ⟨5, 4, "CURRENT", .ro, 16, .none, 0⟩,
       ⟨2, 2, "ANA_GLEN", .rw, 16, .none, 0⟩,
       ⟨1, 0, "TARGET", .rw, 16, .none, 0⟩]⟩
  , ⟨"CP_LOCK_STRICT", 0x10000014, [], 2, 0, 8, true,
      [⟨0, 0, "STRICT", .wo, 16, .none, 0⟩]⟩
  , ⟨"CP_LAST", 0x10000018, [], 2, 0, 8, false,
      [⟨31, 28, "TAG", .ro, 16, .none, 0⟩,
       ⟨27, 24, "CODE", .ro, 16, .none, 0⟩,
       ⟨23, 20, "IDX", .ro, 16, .none, 0⟩,
       ⟨19, 16, "OPC", .ro, 16, .none, 0⟩,
       ⟨15, 15, "PEND", .ro, 16, .none, 0⟩,
       ⟨11, 0, "ADDR", .ro, 16, .none, 0⟩]⟩
  , ⟨"CP_CFG", 0x1000001C, [], 2, 0, 8, false,
      [⟨15, 8, "STALL_MAX", .rw, 16, .none, 0xFF⟩,
       ⟨0, 0, "DUP_EN", .rw, 16, .none, 1⟩]⟩
  , ⟨"CP_WA_BASE", 0x10000080, [], 2, 0, 8, false,
      [⟨27, 7, "BASE", .rw, 16, .none, 0⟩]⟩
  , ⟨"CP_WA_CTRL", 0x10000084, [], 2, 0, 8, false,
      [⟨0, 0, "AINC", .rw, 16, .none, 0⟩]⟩
  , ⟨"CP_WA_ERRADDR", 0x10000088, [], 2, 0, 8, false,
      [⟨27, 2, "ADDR", .ro, 16, .none, 0⟩]⟩
  , ⟨"CP_WB_BASE", 0x10000090, [], 2, 0, 8, false,
      [⟨27, 7, "BASE", .rw, 16, .none, 0⟩]⟩
  ]

/-- Registers: control port words: key 0x10000000 + 4*word (1). -/
def regsControlPortWords1 : List RegRow :=
  [ ⟨"CP_WB_CTRL", 0x10000094, [], 2, 0, 8, false,
      [⟨0, 0, "AINC", .rw, 16, .none, 0⟩]⟩
  , ⟨"CP_WB_ERRADDR", 0x10000098, [], 2, 0, 8, false,
      [⟨27, 2, "ADDR", .ro, 16, .none, 0⟩]⟩
  , ⟨"CP_ERRCNT", 0x100000A0, [], 2, 0, 8, false,
      [⟨31, 16, "FRAMING", .rw, 16, .none, 0⟩,
       ⟨15, 0, "CRC", .rw, 16, .none, 0⟩]⟩
  , ⟨"CP_TIME_LO", 0x10000100, [], 2, 0, 8, true,
      [⟨31, 0, "TIME", .ro, 16, .none, 0⟩]⟩
  , ⟨"CP_TIME_HI", 0x10000104, [], 2, 0, 8, true,
      [⟨31, 0, "TIME", .ro, 16, .none, 0⟩]⟩
  ]

/-- Registers: ISL (0). -/
def regsIsl0 : List RegRow :=
  [ ⟨"ISL_RESET_CAUSE", 0x100000, [], 0, 0, 8, true,
      [⟨31, 24, "SEQ", .seq, 16, .none, 0⟩,
       ⟨5, 0, "CAUSE", .sq, 16, .none, 1⟩]⟩
  , ⟨"ISL_RUN_0", 0x100004, [], 1, 0, 8, false,
      [⟨31, 0, "RUN", .ro, 16, .none, 0⟩]⟩
  , ⟨"ISL_RUN_1", 0x100008, [], 1, 0, 8, false,
      [⟨31, 0, "RUN", .ro, 16, .none, 0⟩]⟩
  , ⟨"ISL_WAKE_EN", 0x100010, [], 1, 0, 8, true,
      [⟨23, 23, "CARVE", .ro, 16, .none, 1⟩,
       ⟨22, 22, "SUPPLY", .rw, 16, .none, 0⟩,
       ⟨21, 21, "ESC", .ro, 16, .none, 1⟩,
       ⟨20, 16, "INT_EN", .rw, 16, .none, 0⟩,
       ⟨15, 0, "PIN_EN", .rw, 16, .none, 0⟩]⟩
  , ⟨"ISL_WAKE_EDGE", 0x100014, [], 1, 0, 8, true,
      [⟨31, 0, "EDGE", .rw, 16, .none, 0⟩]⟩
  , ⟨"ISL_WAKE_TARGET", 0x100018, [], 1, 0, 8, true,
      [⟨23, 23, "CARVE", .ro, 16, .none, 0⟩,
       ⟨22, 22, "SUPPLY", .rw, 16, .none, 1⟩,
       ⟨21, 21, "ESC", .ro, 16, .none, 0⟩,
       ⟨20, 0, "TO_OPEN", .rw, 16, .none, 0x1FFFFF⟩]⟩
  , ⟨"ISL_LATCH", 0x100020, [], 0, 0, 8, true,
      [⟨31, 24, "SEQ", .seq, 16, .none, 0⟩,
       ⟨23, 0, "BITS", .sq, 16, .none, 0⟩]⟩
  , ⟨"ISL_LATCH_OVF", 0x100024, [], 0, 0, 8, true,
      [⟨31, 24, "SEQ", .seq, 16, .none, 0⟩,
       ⟨23, 0, "BITS", .sq, 16, .none, 0⟩]⟩
  , ⟨"ISL_VALLEY_CFG", 0x100030, [], 1, 0, 8, false,
      [⟨31, 31, "AUTO_RETURN", .rw, 16, .none, 1⟩,
       ⟨30, 16, "RC_LIMIT", .rw, 16, .none, 0x64⟩,
       ⟨15, 0, "DRAIN_LIMIT", .rw, 16, .none, 0x64⟩]⟩
  , ⟨"ISL_RC_CTRL", 0x100040, [], 1, 0, 8, false,
      [⟨1, 1, "WAKE_REQ", .rw, 16, .none, 0⟩,
       ⟨0, 0, "RC_READY", .rw, 16, .none, 0⟩]⟩
  ]

/-- Registers: LNK (0). -/
def regsLnk0 : List RegRow :=
  [ ⟨"LNK_CFG", 0x200000, [(16, 0x10000)], 13, 1, 1, false,
      [⟨13, 8, "MAX_AGENTS", .shlk, 3, .none, 0x20⟩,
       ⟨3, 3, "ATTACH_EN", .sh, 16, .none, 1⟩,
       ⟨2, 1, "WIDTH", .shlk, 3, .none, 1⟩,
       ⟨0, 0, "EN", .shlk, 3, .none, 1⟩]⟩
  , ⟨"LNK_STATE", 0x200004, [(16, 0x10000)], 13, 1, 8, false,
      [⟨31, 16, "EPOCH", .ro, 16, .none, 0⟩,
       ⟨9, 4, "NAGENTS", .ro, 16, .none, 0⟩,
       ⟨3, 0, "STATE", .ro, 16, .none, 1⟩]⟩
  , ⟨"LNK_SEQ", 0x200008, [(16, 0x10000)], 13, 1, 8, false,
      [⟨27, 16, "NEXT", .ro, 16, .none, 0⟩,
       ⟨11, 0, "LAS", .ro, 16, .none, 0xFFF⟩]⟩
  , ⟨"LNK_TMR_0", 0x20000C, [(16, 0x10000)], 13, 1, 1, false,
      [⟨31, 16, "REPLAY_TMR", .sh, 16, .none, 0x64⟩,
       ⟨15, 0, "ACK_TMR", .sh, 16, .none, 0xC8⟩]⟩
  , ⟨"LNK_TMR_1", 0x200010, [(16, 0x10000)], 13, 1, 1, false,
      [⟨31, 16, "CTRL_TMR", .sh, 16, .none, 0x64⟩,
       ⟨15, 0, "NAK_TMR", .sh, 16, .none, 0x190⟩]⟩
  , ⟨"LNK_TMR_2", 0x200014, [(16, 0x10000)], 13, 1, 1, false,
      [⟨31, 16, "DETACH_TMR", .sh, 16, .none, 0x3E8⟩,
       ⟨15, 0, "RETRAIN_LIMIT", .sh, 16, .none, 0x3E8⟩]⟩
  , ⟨"LNK_ERR_CFG", 0x200018, [(16, 0x10000)], 13, 1, 1, false,
      [⟨15, 8, "NAK_LIMIT", .sh, 16, .none, 8⟩,
       ⟨7, 0, "UNCORR_LIMIT", .sh, 16, .none, 4⟩]⟩
  , ⟨"LNK_CMD", 0x20001C, [(16, 0x10000)], 13, 1, 8, false,
      [⟨2, 2, "FORCE_DETACH", .cmd, 16, .none, 0⟩,
       ⟨1, 1, "DETACH", .cmd, 16, .none, 0⟩,
       ⟨0, 0, "RETRAIN", .cmd, 16, .none, 0⟩]⟩
  , ⟨"LNK_DETACH_MASK", 0x200020, [(16, 0x10000)], 13, 1, 8, false,
      [⟨31, 0, "MASK", .rw, 16, .none, 0xFFFFFFFF⟩]⟩
  , ⟨"LNK_EVT", 0x200024, [(16, 0x10000)], 13, 1, 8, false,
      [⟨31, 24, "SEQ", .seq, 16, .none, 0⟩,
       ⟨12, 0, "EVENTS", .sq, 16, .none, 0⟩]⟩
  , ⟨"LNK_PARTNER_LO", 0x200028, [(16, 0x10000)], 13, 1, 8, false,
      [⟨31, 0, "PARTNER_ID", .ro, 16, .none, 0⟩]⟩
  , ⟨"LNK_PARTNER_HI", 0x20002C, [(16, 0x10000)], 13, 1, 8, false,
      [⟨31, 0, "PARTNER_ID", .ro, 16, .none, 0⟩]⟩
  ]

/-- Registers: LNK (1). -/
def regsLnk1 : List RegRow :=
  [ ⟨"LNK_AGENT", 0x200040, [(16, 0x10000), (8, 0x4)], 13, 1, 8, false,
      [⟨31, 0, "ID", .ro, 16, .none, 0⟩]⟩
  , ⟨"LNK_PRECISE", 0x200060, [(16, 0x10000)], 13, 1, 8, false,
      [⟨31, 0, "PRECISE", .ro, 16, .none, 0⟩]⟩
  , ⟨"LNK_COUNT", 0x200080, [(16, 0x10000), (8, 0x4)], 13, 1, 8, false,
      [⟨31, 0, "COUNT", .rw, 16, .none, 0⟩]⟩
  , ⟨"LNK_ID_CFG", 0x20F000, [], 3, 0, 1, false,
      [⟨0, 0, "POLICY", .shlk, 3, .none, 0⟩]⟩
  , ⟨"LNK_ID_USED", 0x20F010, [(8, 0x4)], 3, 0, 8, false,
      [⟨31, 0, "USED", .ro, 16, .none, 0⟩]⟩
  ]

/-- Registers: HA, SF (0). -/
def regsHa0 : List RegRow :=
  [ ⟨"HA_CFG", 0x300000, [], 3, 0, 2, false,
      [⟨0, 0, "SPEC_EN", .sh, 16, .none, 1⟩]⟩
  , ⟨"HA_SNP_DEADLINE", 0x300004, [], 3, 0, 2, false,
      [⟨9, 0, "DEADLINE", .sh, 16, .none, 0x28⟩]⟩
  , ⟨"HA_TRK", 0x300010, [], 3, 0, 8, false,
      [⟨27, 16, "GEN_USED", .lv, 16, .none, 0⟩,
       ⟨6, 0, "URG_USED", .lv, 16, .none, 0⟩]⟩
  , ⟨"HA_EVT", 0x300014, [], 3, 0, 8, false,
      [⟨31, 24, "SEQ", .seq, 16, .none, 0⟩,
       ⟨5, 0, "EVENTS", .sq, 16, .none, 0⟩]⟩
  , ⟨"HA_LAST_UNRESP", 0x300018, [], 3, 0, 8, false,
      [⟨12, 12, "SURPRISE", .ro, 16, .none, 0⟩,
       ⟨11, 8, "PORT", .ro, 16, .none, 0⟩,
       ⟨7, 0, "AGENT", .ro, 16, .none, 0⟩]⟩
  , ⟨"HA_POISON_COUNT", 0x30001C, [], 3, 0, 8, false,
      [⟨31, 0, "COUNT", .rw, 16, .none, 0⟩]⟩
  , ⟨"HA_PROTO_INFO", 0x300020, [], 3, 0, 8, false,
      [⟨31, 24, "REASON", .ro, 16, .none, 0⟩,
       ⟨15, 8, "SRC", .ro, 16, .none, 0⟩,
       ⟨7, 0, "MOP", .ro, 16, .none, 0⟩]⟩
  , ⟨"HA_UNRESP", 0x300040, [(8, 0x4)], 3, 0, 8, false,
      [⟨31, 0, "UNRESP", .ro, 16, .none, 0⟩]⟩
  , ⟨"HA_RACE_COUNT", 0x300080, [(6, 0x4)], 3, 0, 8, false,
      [⟨31, 0, "COUNT", .rw, 16, .none, 0⟩]⟩
  , ⟨"HA_POISON_LAST_0", 0x3000A0, [], 3, 0, 8, false,
      [⟨31, 31, "VALID", .ro, 16, .none, 0⟩,
       ⟨26, 24, "CAUSE", .ro, 16, .none, 0⟩,
       ⟨9, 0, "TENANT", .ro, 16, .none, 0⟩]⟩
  , ⟨"HA_POISON_LAST_1", 0x3000A4, [], 3, 0, 8, false,
      [⟨31, 0, "LINE", .ro, 16, .none, 0⟩]⟩
  , ⟨"HA_TRK_WAIT", 0x3000A8, [], 3, 0, 8, false,
      [⟨17, 17, "URG", .lv, 16, .none, 0⟩,
       ⟨16, 16, "AG0", .lv, 16, .none, 0⟩,
       ⟨15, 0, "PORT", .lv, 16, .none, 0⟩]⟩
  ]

/-- Registers: HA, SF (1). -/
def regsHa1 : List RegRow :=
  [ ⟨"HA_QUOTA", 0x300404, [(254, 0x4)], 3, 0, 2, false,
      [⟨11, 0, "QUOTA", .shlk, 0, .none, 0x100⟩]⟩
  , ⟨"SF_OCC", 0x340000, [], 3, 0, 8, false,
      [⟨20, 0, "ENTRIES", .lv, 16, .none, 0⟩]⟩
  , ⟨"SF_EVB", 0x340004, [], 3, 0, 8, false,
      [⟨8, 0, "USED", .lv, 16, .none, 0⟩]⟩
  , ⟨"SF_BACKINV_COUNT", 0x340008, [], 3, 0, 8, false,
      [⟨31, 0, "COUNT", .rw, 16, .none, 0⟩]⟩
  , ⟨"SF_CORR_COUNT", 0x34000C, [], 3, 0, 8, false,
      [⟨31, 0, "COUNT", .rw, 16, .none, 0⟩]⟩
  , ⟨"SF_FAILED_SET", 0x340010, [], 3, 0, 8, false,
      [⟨31, 31, "VALID", .ro, 16, .none, 0⟩,
       ⟨30, 16, "COUNT", .ro, 16, .none, 0⟩,
       ⟨15, 0, "SET", .ro, 16, .none, 0⟩]⟩
  , ⟨"SF_SWEEP", 0x340020, [], 3, 0, 8, false,
      [⟨31, 16, "SET", .lv, 16, .none, 0⟩,
       ⟨8, 8, "BUSY", .lv, 16, .none, 0⟩,
       ⟨7, 0, "AGENTS", .lv, 16, .none, 0⟩]⟩
  , ⟨"SF_EVT", 0x340024, [], 3, 0, 8, false,
      [⟨31, 24, "SEQ", .seq, 16, .none, 0⟩,
       ⟨2, 0, "EVENTS", .sq, 16, .none, 0⟩]⟩
  , ⟨"SF_SLOT", 0x340040, [(16, 0x4)], 3, 0, 8, false,
      [⟨31, 0, "ID", .ro, 16, .none, 0⟩]⟩
  ]

/-- Registers: TMM (0). -/
def regsTmm0 : List RegRow :=
  [ ⟨"TMM_CTRL", 0x400000, [], 4, 0, 2, false,
      [⟨1, 1, "FOLD_BG", .sh, 16, .none, 1⟩,
       ⟨0, 0, "EN", .wo, 16, .none, 0⟩]⟩
  , ⟨"TMM_CMD", 0x400004, [], 4, 0, 8, false,
      [⟨25, 16, "TENANT", .rw, 16, .none, 0⟩,
       ⟨7, 0, "OP", .rw, 16, .none, 0⟩]⟩
  , ⟨"TMM_CMD_ARG_0", 0x400008, [], 4, 0, 8, false,
      [⟨21, 0, "ARG", .rw, 16, .none, 0⟩]⟩
  , ⟨"TMM_CMD_ARG_1", 0x40000C, [], 4, 0, 8, false,
      [⟨22, 0, "ARG", .rw, 16, .none, 0⟩]⟩
  , ⟨"TMM_CMD_STATUS", 0x400010, [], 4, 0, 8, false,
      [⟨31, 31, "BUSY", .lv, 16, .none, 0⟩,
       ⟨23, 16, "RESULT", .ro, 16, .none, 0⟩,
       ⟨15, 8, "OP", .ro, 16, .none, 0⟩]⟩
  , ⟨"TMM_EVT", 0x400014, [], 4, 0, 8, false,
      [⟨31, 24, "SEQ", .seq, 16, .none, 0⟩,
       ⟨13, 0, "EVENTS", .sq, 16, .none, 0⟩]⟩
  , ⟨"TMM_PT_BASE", 0x400018, [], 4, 0, 8, false,
      [⟨20, 0, "BASE", .ro, 16, .none, 0⟩]⟩
  , ⟨"TMM_PT_SIZE", 0x40001C, [], 4, 0, 8, false,
      [⟨20, 0, "SIZE", .ro, 16, .none, 0x400⟩]⟩
  , ⟨"TMM_SRC_CFG", 0x400020, [], 4, 0, 2, false,
      [⟨17, 16, "RETRIES", .sh, 16, .none, 3⟩,
       ⟨15, 0, "TMO", .sh, 16, .none, 0x64⟩]⟩
  , ⟨"TMM_FOLD_CFG", 0x400024, [], 4, 0, 2, false,
      [⟨15, 0, "PERIOD", .sh, 16, .none, 0x64⟩]⟩
  , ⟨"TMM_POOL_FREE", 0x400040, [(16, 0x4)], 4, 0, 8, false,
      [⟨25, 0, "FREE", .lv, 16, .none, 0⟩]⟩
  , ⟨"TMM_POOL_CFREE", 0x400080, [(16, 0x4)], 4, 0, 8, false,
      [⟨25, 0, "FREE", .lv, 16, .none, 0⟩]⟩
  ]

/-- Registers: TMM (1). -/
def regsTmm1 : List RegRow :=
  [ ⟨"TMM_COUNT", 0x4000C0, [(8, 0x4)], 4, 0, 8, false,
      [⟨31, 0, "COUNT", .rw, 16, .none, 0⟩]⟩
  , ⟨"DSC_CTRL", 0x410000, [(1024, 0x100)], 4, 0, 8, false,
      [⟨19, 16, "POOL", .lk, 1, .none, 0⟩,
       ⟨15, 12, "RUNAHEAD", .rw, 16, .none, 0⟩,
       ⟨11, 11, "FOLD_EN", .rw, 16, .none, 0⟩,
       ⟨10, 10, "TIME", .lk, 0, .none, 0⟩,
       ⟨9, 9, "RECORDER", .lk, 0, .none, 0⟩,
       ⟨8, 8, "ATTESTED", .lk, 0, .none, 0⟩,
       ⟨4, 4, "ACTIVE_SLOT", .ro, 16, .none, 0⟩,
       ⟨2, 0, "STATE", .ro, 16, .none, 0⟩]⟩
  , ⟨"DSC_PLAIN", 0x410004, [(1024, 0x100)], 4, 0, 8, false,
      [⟨17, 0, "PLAIN_2M", .rw, 16, .none, 0⟩]⟩
  , ⟨"DSC_QUOTA", 0x410008, [(1024, 0x100)], 4, 0, 8, false,
      [⟨21, 0, "QUOTA", .lk, 1, .none, 0⟩]⟩
  , ⟨"DSC_FOLDQ", 0x41000C, [(1024, 0x100)], 4, 0, 8, false,
      [⟨25, 0, "FOLD_QUOTA", .lk, 1, .none, 0⟩]⟩
  , ⟨"DSC_LARGE_LO", 0x410010, [(1024, 0x100)], 4, 0, 8, false,
      [⟨16, 0, "LARGE_LO", .rw, 16, .none, 0⟩]⟩
  , ⟨"DSC_LARGE_HI", 0x410014, [(1024, 0x100)], 4, 0, 8, false,
      [⟨16, 0, "LARGE_HI", .rw, 16, .none, 0⟩]⟩
  , ⟨"DSC_IMG_BASE", 0x410018, [(1024, 0x100)], 4, 0, 8, false,
      [⟨16, 0, "IMG_BASE", .rw, 16, .none, 0⟩]⟩
  , ⟨"DSC_IMG_PAGES", 0x41001C, [(1024, 0x100)], 4, 0, 8, false,
      [⟨16, 0, "IMG_PAGES", .rw, 16, .none, 0⟩]⟩
  , ⟨"DSC_BIND", 0x410020, [(1024, 0x100), (8, 0x4)], 4, 0, 8, false,
      [⟨31, 0, "BIND", .lk, 0, .none, 0⟩]⟩
  , ⟨"DSC_RES", 0x410040, [(1024, 0x100)], 4, 0, 8, false,
      [⟨22, 0, "RES", .lv, 16, .none, 0⟩]⟩
  , ⟨"DSC_FOLDED", 0x410044, [(1024, 0x100)], 4, 0, 8, false,
      [⟨25, 0, "CHUNKS", .lv, 16, .none, 0⟩]⟩
  ]

/-- Registers: TMM (2). -/
def regsTmm2 : List RegRow :=
  [ ⟨"DSC_PT_ROOT", 0x410048, [(1024, 0x100)], 4, 0, 8, false,
      [⟨28, 0, "ROOT", .ro, 16, .none, 0⟩]⟩
  , ⟨"SLOT_CTRL", 0x410050, [(1024, 0x100), (2, 0x30)], 4, 0, 8, false,
      [⟨23, 16, "FAIL", .ro, 16, .none, 0⟩,
       ⟨15, 8, "SRC_AGENT", .rw, 16, .none, 0⟩,
       ⟨1, 0, "STATE", .ro, 16, .none, 0⟩]⟩
  , ⟨"SLOT_OBJECT", 0x410054, [(1024, 0x100), (2, 0x30)], 4, 0, 8, false,
      [⟨31, 0, "OBJECT", .rw, 16, .none, 0⟩]⟩
  , ⟨"SLOT_VERSION", 0x410058, [(1024, 0x100), (2, 0x30)], 4, 0, 8, false,
      [⟨31, 0, "VERSION", .ro, 16, .none, 0⟩]⟩
  , ⟨"SLOT_NPAGES", 0x41005C, [(1024, 0x100), (2, 0x30)], 4, 0, 8, false,
      [⟨16, 0, "NPAGES", .ro, 16, .none, 0⟩]⟩
  , ⟨"SLOT_ROOT", 0x410060, [(1024, 0x100), (2, 0x30), (8, 0x4)], 4, 0, 8, false,
      [⟨31, 0, "ROOT", .rw, 16, .none, 0⟩]⟩
  ]

/-- Registers: PAS (0). -/
def regsPas0 : List RegRow :=
  [ ⟨"PAS_CMD", 0x500000, [], 3, 0, 8, false,
      [⟨15, 8, "PASS", .rw, 16, .none, 0⟩,
       ⟨7, 0, "OP", .rw, 16, .none, 0⟩]⟩
  , ⟨"PAS_CMD_ARG", 0x500004, [], 3, 0, 8, false,
      [⟨31, 20, "UNITS", .rw, 16, .none, 0⟩,
       ⟨19, 16, "PORT", .rw, 16, .none, 0⟩,
       ⟨14, 12, "RANK", .rw, 16, .none, 0⟩,
       ⟨11, 10, "CLASS", .rw, 16, .none, 0⟩,
       ⟨9, 0, "TENANT", .rw, 16, .none, 0⟩]⟩
  , ⟨"PAS_CMD_STATUS", 0x500008, [], 3, 0, 8, false,
      [⟨31, 31, "BUSY", .lv, 16, .none, 0⟩,
       ⟨23, 16, "RESULT", .ro, 16, .none, 0⟩,
       ⟨7, 0, "PASS", .ro, 16, .none, 0⟩]⟩
  , ⟨"PAS_STATE", 0x50000C, [], 3, 0, 8, false,
      [⟨31, 16, "SCALE", .lv, 16, .none, 0⟩,
       ⟨7, 4, "CUT_RANK", .lv, 16, .none, 0xF⟩,
       ⟨1, 1, "SHORT_U", .lv, 16, .none, 0⟩,
       ⟨0, 0, "OVERCOMMIT", .lv, 16, .none, 0⟩]⟩
  , ⟨"PAS_CAP_NOM", 0x500010, [], 3, 0, 8, false,
      [⟨31, 0, "CAP", .lv, 16, .none, 0⟩]⟩
  , ⟨"PAS_CAP_DER", 0x500014, [], 3, 0, 8, false,
      [⟨31, 0, "CAP", .lv, 16, .none, 0⟩]⟩
  , ⟨"PAS_COMMIT_U", 0x500018, [], 3, 0, 8, false,
      [⟨31, 0, "SUM", .lv, 16, .none, 0⟩]⟩
  , ⟨"PAS_COMMIT_G", 0x50001C, [], 3, 0, 8, false,
      [⟨31, 0, "SUM", .lv, 16, .none, 0⟩]⟩
  , ⟨"PAS_EVT", 0x500020, [], 3, 0, 8, false,
      [⟨31, 24, "SEQ", .seq, 16, .none, 0⟩,
       ⟨4, 0, "EVENTS", .sq, 16, .none, 0⟩]⟩
  , ⟨"PAS_OVH_COUNT", 0x500024, [], 3, 0, 8, false,
      [⟨31, 0, "COUNT", .rw, 16, .none, 0⟩]⟩
  , ⟨"PAS_PASS", 0x500400, [(256, 0x4)], 3, 0, 8, false,
      [⟨31, 31, "VALID", .ro, 16, .none, 0⟩,
       ⟨30, 29, "CLASS", .ro, 16, .none, 0⟩,
       ⟨28, 26, "RANK", .ro, 16, .none, 0⟩,
       ⟨25, 22, "PORT", .ro, 16, .none, 0⟩,
       ⟨21, 12, "TENANT", .ro, 16, .none, 0⟩,
       ⟨11, 0, "UNITS", .ro, 16, .none, 0⟩]⟩
  ]

/-- Registers: DRC (0). -/
def regsDrc0 : List RegRow :=
  [ ⟨"DRC_CFG", 0x580000, [(8, 0x1000)], 5, 1, 8, false,
      [⟨2, 2, "REF_ALL", .rw, 16, .none, 0⟩,
       ⟨1, 0, "BIN", .rw, 16, .none, 2⟩]⟩
  , ⟨"DRC_CTRL", 0x580004, [(8, 0x1000)], 5, 1, 8, false,
      [⟨0, 0, "TRAIN", .cmd, 16, .none, 0⟩]⟩
  , ⟨"DRC_STATUS", 0x580008, [(8, 0x1000)], 5, 1, 8, false,
      [⟨10, 8, "STATE", .lv, 16, .none, 0⟩,
       ⟨5, 4, "REF_RATE", .lv, 16, .none, 0⟩,
       ⟨0, 0, "HOT", .lv, 16, .none, 0⟩]⟩
  , ⟨"DRC_THROTTLE", 0x58000C, [(8, 0x1000)], 5, 1, 0, false,
      [⟨5, 4, "HOT_LEVEL", .sh, 16, .none, 2⟩,
       ⟨1, 0, "LEVEL", .sh, 16, .none, 0⟩]⟩
  , ⟨"DRC_SCRUB", 0x580010, [(8, 0x1000)], 5, 1, 0, false,
      [⟨31, 16, "CE_LIMIT", .sh, 16, .none, 0x40⟩,
       ⟨8, 8, "ACCEL", .cmd, 16, .none, 0⟩,
       ⟨7, 0, "PERIOD", .sh, 16, .none, 0x18⟩]⟩
  , ⟨"DRC_CAP", 0x580014, [(8, 0x1000)], 5, 1, 8, false,
      [⟨15, 0, "USABLE", .ro, 16, .none, 0⟩]⟩
  , ⟨"DRC_ERRADDR", 0x580018, [(8, 0x1000)], 5, 1, 8, false,
      [⟨31, 0, "LINE", .ro, 16, .none, 0⟩]⟩
  , ⟨"DRC_EVT", 0x58001C, [(8, 0x1000)], 5, 1, 8, false,
      [⟨31, 24, "SEQ", .seq, 16, .none, 0⟩,
       ⟨3, 0, "EVENTS", .sq, 16, .none, 0⟩]⟩
  , ⟨"DRC_COUNT", 0x580020, [(8, 0x1000), (3, 0x4)], 5, 1, 8, false,
      [⟨31, 0, "COUNT", .rw, 16, .none, 0⟩]⟩
  , ⟨"DRC_TCFG", 0x58F000, [], 3, 0, 0, false,
      [⟨7, 0, "POLL", .sh, 16, .none, 0x10⟩]⟩
  ]

/-- Registers: RCC (0). -/
def regsRcc0 : List RegRow :=
  [ ⟨"RCC_CTRL", 0x600000, [], 29, 0, 8, false,
      [⟨1, 1, "RGN_LOCK", .wo, 16, .none, 0⟩,
       ⟨0, 0, "ORDER", .rw, 16, .none, 1⟩]⟩
  , ⟨"RCC_STATUS", 0x600004, [], 29, 0, 8, false,
      [⟨4, 4, "WIN_OFF", .lv, 16, .none, 1⟩,
       ⟨3, 3, "PRIV", .lv, 16, .none, 1⟩,
       ⟨2, 2, "SB_EMPTY", .lv, 16, .none, 1⟩,
       ⟨1, 1, "WFI", .lv, 16, .none, 0⟩]⟩
  , ⟨"RCC_BOOT_STATUS", 0x600008, [], 29, 0, 8, false,
      [⟨31, 24, "REASON_B", .ro, 16, .none, 0⟩,
       ⟨23, 16, "REASON_A", .ro, 16, .none, 0⟩,
       ⟨8, 8, "REC_PEND", .ro, 16, .none, 0⟩,
       ⟨7, 6, "COPY", .ro, 16, .none, 0⟩,
       ⟨2, 0, "STAGE", .ro, 16, .none, 1⟩]⟩
  , ⟨"RCC_BOOT_VER", 0x60000C, [], 29, 0, 8, false,
      [⟨31, 0, "VERSION", .wo, 16, .none, 0⟩]⟩
  , ⟨"RCC_BOOT_CTRL", 0x600010, [], 29, 0, 8, false,
      [⟨1, 1, "SRC", .rw, 16, .none, 0⟩,
       ⟨0, 0, "RETRY", .cmd, 16, .none, 0⟩]⟩
  , ⟨"RCC_BOOT_MEAS", 0x600020, [(8, 0x4)], 29, 0, 8, false,
      [⟨31, 0, "MEAS", .wo, 16, .none, 0⟩]⟩
  , ⟨"RCC_MSIP", 0x600040, [], 29, 0, 8, false,
      [⟨0, 0, "MSIP", .rw, 16, .none, 0⟩]⟩
  , ⟨"RCC_TIMECMP_LO", 0x600048, [], 29, 0, 8, false,
      [⟨31, 0, "CMP", .rw, 16, .none, 0xFFFFFFFF⟩]⟩
  , ⟨"RCC_TIMECMP_HI", 0x60004C, [], 29, 0, 8, false,
      [⟨31, 0, "CMP", .rw, 16, .none, 0xFFFFFFFF⟩]⟩
  , ⟨"RCC_CACHE_CMD", 0x600050, [], 29, 0, 8, false,
      [⟨8, 8, "BUSY", .lv, 16, .none, 0⟩,
       ⟨1, 1, "IINV", .cmd, 16, .none, 0⟩,
       ⟨0, 0, "DFLUSH", .cmd, 16, .none, 0⟩]⟩
  , ⟨"RCC_BUSERR", 0x600060, [], 29, 0, 8, false,
      [⟨31, 24, "SEQ", .seq, 16, .none, 0⟩,
       ⟨3, 0, "EVENTS", .sq, 16, .none, 0⟩]⟩
  , ⟨"RCC_BUSERR_ADDR", 0x600064, [], 29, 0, 8, false,
      [⟨31, 0, "ADDR", .ro, 16, .none, 0⟩]⟩
  ]

/-- Registers: RCC (1). -/
def regsRcc1 : List RegRow :=
  [ ⟨"RCC_BUSERR_EN", 0x600068, [], 29, 0, 8, false,
      [⟨3, 0, "EN", .rw, 16, .none, 0xF⟩]⟩
  , ⟨"RCC_TCM_CE_COUNT", 0x60006C, [], 29, 0, 8, false,
      [⟨31, 0, "COUNT", .rw, 16, .none, 0⟩]⟩
  , ⟨"RCC_RGN_BASE", 0x600100, [(16, 0x8)], 29, 0, 8, false,
      [⟨31, 12, "BASE", .lk, 16, .rgnLock, 0⟩,
       ⟨5, 4, "GRAN", .lk, 16, .rgnLock, 0⟩,
       ⟨3, 3, "EWA", .lk, 16, .rgnLock, 0⟩,
       ⟨2, 2, "D", .lk, 16, .rgnLock, 0⟩,
       ⟨1, 1, "C", .lk, 16, .rgnLock, 1⟩,
       ⟨0, 0, "EN", .lk, 16, .rgnLock, 0⟩]⟩
  , ⟨"RCC_RGN_LIMIT", 0x600104, [(16, 0x8)], 29, 0, 8, false,
      [⟨31, 12, "LIMIT", .lk, 16, .rgnLock, 0⟩]⟩
  ]

/-- Registers: CHZ (0). -/
def regsChz0 : List RegRow :=
  [ ⟨"CHZ_CTRL", 0x680000, [], 30, 0, 8, false,
      [⟨1, 1, "SC_HALT", .lk, 7, .none, 1⟩,
       ⟨0, 0, "U_EN", .lk, 7, .none, 0⟩]⟩
  , ⟨"CHZ_STATUS", 0x680004, [], 30, 0, 8, false,
      [⟨11, 8, "BUSY", .lv, 16, .none, 0⟩,
       ⟨6, 4, "CARVE_STEP", .lv, 16, .none, 0⟩,
       ⟨2, 0, "QUEUED", .lv, 16, .none, 0⟩]⟩
  , ⟨"CHZ_CTX_STATE", 0x680008, [], 30, 0, 8, false,
      [⟨14, 12, "G_1", .lv, 16, .none, 0⟩,
       ⟨10, 8, "G_0", .lv, 16, .none, 0⟩,
       ⟨7, 6, "H_3", .lv, 16, .none, 0⟩,
       ⟨5, 4, "H_2", .lv, 16, .none, 0⟩,
       ⟨3, 2, "H_1", .lv, 16, .none, 0⟩,
       ⟨1, 0, "H_0", .lv, 16, .none, 0⟩]⟩
  , ⟨"CHZ_CTR", 0x680010, [], 30, 0, 8, false,
      [⟨31, 0, "COUNT", .ro, 16, .none, 0⟩]⟩
  , ⟨"CHZ_CTR_STATUS", 0x680014, [], 30, 0, 8, false,
      [⟨1, 1, "BUSY", .lv, 16, .none, 0⟩,
       ⟨0, 0, "WEAR", .ro, 16, .none, 0⟩]⟩
  , ⟨"CHZ_CARVE_STATUS", 0x680018, [], 30, 0, 8, false,
      [⟨31, 16, "TICKET", .ro, 16, .none, 0⟩,
       ⟨15, 8, "EVS_CODE", .ro, 16, .none, 0⟩,
       ⟨7, 0, "CODE", .ro, 16, .none, 0⟩]⟩
  , ⟨"CHZ_CARVE_SEQ_LO", 0x68001C, [], 30, 0, 8, false,
      [⟨31, 0, "SEQ", .ro, 16, .none, 0⟩]⟩
  , ⟨"CHZ_CARVE_SEQ_HI", 0x680020, [], 30, 0, 8, false,
      [⟨15, 0, "SEQ", .ro, 16, .none, 0⟩]⟩
  , ⟨"CHZ_EVT", 0x680024, [], 30, 0, 8, false,
      [⟨31, 24, "SEQ", .seq, 16, .none, 0⟩,
       ⟨5, 0, "EVENTS", .sq, 16, .none, 0⟩]⟩
  , ⟨"CHZ_KEY_POL", 0x680040, [(16, 0x4)], 30, 0, 8, false,
      [⟨16, 16, "BROKEN", .ro, 16, .none, 0⟩,
       ⟨15, 15, "PERSIST", .ro, 16, .none, 0⟩,
       ⟨12, 8, "USE", .ro, 16, .none, 0⟩,
       ⟨3, 0, "KIND", .ro, 16, .none, 0⟩]⟩
  , ⟨"CHZ_IDPUB", 0x680100, [(16, 0x4)], 30, 0, 8, false,
      [⟨31, 0, "PUB", .ro, 16, .none, 0⟩]⟩
  , ⟨"CHZ_RECPUB", 0x680140, [(16, 0x4)], 30, 0, 8, false,
      [⟨31, 0, "PUB", .ro, 16, .none, 0⟩]⟩
  ]

/-- Registers: TBU, MOT (0). -/
def regsTbu0 : List RegRow :=
  [ ⟨"TBU_TIME_LO", 0x700000, [], 1, 0, 8, true,
      [⟨31, 0, "TIME", .ro, 16, .none, 0⟩]⟩
  , ⟨"TBU_TIME_HI", 0x700004, [], 1, 0, 8, true,
      [⟨31, 0, "TIME", .ro, 16, .none, 0⟩]⟩
  , ⟨"TBU_QUALITY", 0x700008, [], 1, 0, 8, true,
      [⟨9, 9, "INT_OSC", .lv, 16, .none, 0⟩,
       ⟨8, 8, "PPS_OK", .lv, 16, .none, 0⟩,
       ⟨5, 5, "SLEWING", .lv, 16, .none, 0⟩,
       ⟨4, 4, "DEGRADED", .lv, 16, .none, 0⟩,
       ⟨2, 0, "Q", .lv, 16, .none, 4⟩]⟩
  , ⟨"TBU_BOUND", 0x70000C, [], 1, 0, 8, true,
      [⟨31, 0, "BOUND", .lv, 16, .none, 0xFFFFFFFF⟩]⟩
  , ⟨"TBU_OFFSET", 0x700010, [], 1, 0, 8, true,
      [⟨31, 0, "E", .ro, 16, .none, 0⟩]⟩
  , ⟨"TBU_FREQ", 0x700014, [], 1, 0, 8, true,
      [⟨31, 0, "FREQ", .ro, 16, .none, 0⟩]⟩
  , ⟨"TBU_SRV_CFG", 0x700018, [], 1, 0, 3, true,
      [⟨27, 24, "TOD_CONFIRM", .shlk, 4, .none, 8⟩,
       ⟨23, 16, "PPS_TOL", .shlk, 4, .none, 0xA⟩,
       ⟨15, 8, "LOCK_N", .shlk, 4, .none, 8⟩,
       ⟨7, 4, "TAU", .shlk, 4, .none, 4⟩,
       ⟨0, 0, "EDGE", .shlk, 4, .none, 0⟩]⟩
  , ⟨"TBU_HO_CFG", 0x70001C, [], 1, 0, 3, true,
      [⟨31, 16, "DRIFT", .shlk, 4, .none, 0x32⟩,
       ⟨15, 0, "F_FLOOR", .shlk, 4, .none, 0xC8⟩]⟩
  , ⟨"TBU_QTHR", 0x700020, [], 1, 0, 3, true,
      [⟨27, 18, "EXTENDED_MS", .shlk, 4, .none, 0x3E8⟩,
       ⟨17, 8, "HOLDOVER_US", .shlk, 4, .none, 0x3E8⟩,
       ⟨7, 0, "LOCKED_NS", .shlk, 4, .none, 0x64⟩]⟩
  , ⟨"TBU_EVT", 0x700024, [], 1, 0, 8, true,
      [⟨31, 24, "SEQ", .seq, 16, .none, 0⟩,
       ⟨8, 0, "EVENTS", .sq, 16, .none, 0⟩]⟩
  , ⟨"TBU_STEP_AT_LO", 0x700028, [], 1, 0, 8, true,
      [⟨31, 0, "AT", .ro, 16, .none, 0⟩]⟩
  , ⟨"TBU_STEP_AT_HI", 0x70002C, [], 1, 0, 8, true,
      [⟨31, 0, "AT", .ro, 16, .none, 0⟩]⟩
  ]

/-- Registers: TBU, MOT (1). -/
def regsTbu1 : List RegRow :=
  [ ⟨"TBU_STEP_DELTA", 0x700030, [], 1, 0, 8, true,
      [⟨31, 0, "DELTA", .ro, 16, .none, 0⟩]⟩
  , ⟨"TBU_UTC_OFS", 0x700034, [], 1, 0, 8, true,
      [⟨7, 0, "OFS", .ro, 16, .none, 0⟩]⟩
  , ⟨"TBU_ALARM_LO", 0x700038, [], 1, 0, 8, true,
      [⟨31, 0, "AT", .rw, 16, .none, 0xFFFFFFFF⟩]⟩
  , ⟨"TBU_ALARM_HI", 0x70003C, [], 1, 0, 8, true,
      [⟨31, 0, "AT", .rw, 16, .none, 0xFFFFFFFF⟩]⟩
  , ⟨"TBU_ALARM_CTRL", 0x700040, [], 1, 0, 8, true,
      [⟨8, 8, "ARMED", .ro, 16, .none, 0⟩,
       ⟨1, 1, "DISARM", .cmd, 16, .none, 0⟩,
       ⟨0, 0, "ARM", .cmd, 16, .none, 0⟩]⟩
  , ⟨"TBU_PPS_BAD_COUNT", 0x700044, [], 1, 0, 8, true,
      [⟨31, 0, "COUNT", .rw, 16, .none, 0⟩]⟩
  , ⟨"TBU_PPS_COMP", 0x700048, [], 1, 0, 3, true,
      [⟨15, 0, "COMP", .shlk, 4, .none, 0⟩]⟩
  , ⟨"TBU_RTC_SEC_LO", 0x700080, [], 0, 0, 8, true,
      [⟨31, 0, "SEC", .ro, 16, .none, 0⟩]⟩
  , ⟨"TBU_RTC_SEC_HI", 0x700084, [], 0, 0, 8, true,
      [⟨15, 0, "SEC", .ro, 16, .none, 0⟩]⟩
  , ⟨"TBU_RTC_SUB", 0x700088, [], 0, 0, 8, true,
      [⟨14, 0, "SUB", .ro, 16, .none, 0⟩]⟩
  , ⟨"TBU_RTC_ALARM", 0x70008C, [], 0, 0, 8, true,
      [⟨31, 0, "SEC", .rw, 16, .none, 0xFFFFFFFF⟩]⟩
  , ⟨"MOT_CFG", 0x780000, [], 1, 0, 3, true,
      [⟨7, 4, "FILT", .shlk, 5, .none, 1⟩,
       ⟨3, 3, "EDGE_B", .shlk, 5, .none, 0⟩,
       ⟨2, 2, "EDGE_A", .shlk, 5, .none, 0⟩,
       ⟨1, 1, "EN_B", .shlk, 5, .none, 0⟩,
       ⟨0, 0, "EN_A", .shlk, 5, .none, 1⟩]⟩
  ]

/-- Registers: TBU, MOT (2). -/
def regsTbu2 : List RegRow :=
  [ ⟨"MOT_KDEF", 0x780004, [], 1, 0, 3, true,
      [⟨31, 0, "K", .shlk, 5, .none, 0x7A1200⟩]⟩
  , ⟨"MOT_PLAUS_CFG", 0x780008, [], 1, 0, 3, true,
      [⟨31, 24, "MOVE", .shlk, 5, .none, 5⟩,
       ⟨23, 16, "DEV_N", .shlk, 5, .none, 0xA⟩,
       ⟨15, 8, "TOL_PM", .shlk, 5, .none, 0x32⟩,
       ⟨7, 0, "TOL_ABS", .shlk, 5, .none, 0x1E⟩]⟩
  , ⟨"MOT_PLAUS_CFG2", 0x78000C, [], 1, 0, 3, true,
      [⟨15, 8, "AB_PM", .shlk, 5, .none, 0x1E⟩,
       ⟨7, 0, "PULSE_LOSS", .shlk, 5, .none, 5⟩]⟩
  , ⟨"MOT_CNT_A", 0x780010, [], 1, 0, 8, true,
      [⟨31, 0, "COUNT", .ro, 16, .none, 0⟩]⟩
  , ⟨"MOT_CNT_B", 0x780014, [], 1, 0, 8, true,
      [⟨31, 0, "COUNT", .ro, 16, .none, 0⟩]⟩
  , ⟨"MOT_DIST_LO", 0x780018, [], 1, 0, 8, true,
      [⟨31, 0, "DIST", .ro, 16, .none, 0⟩]⟩
  , ⟨"MOT_DIST_HI", 0x78001C, [], 1, 0, 8, true,
      [⟨15, 0, "DIST", .ro, 16, .none, 0⟩]⟩
  , ⟨"MOT_SPEED", 0x780020, [], 1, 0, 8, true,
      [⟨31, 16, "GNSS", .lv, 16, .none, 0⟩,
       ⟨15, 0, "PULSE", .lv, 16, .none, 0⟩]⟩
  , ⟨"MOT_STATE", 0x780024, [], 1, 0, 8, true,
      [⟨9, 9, "OVERRATE_B", .lv, 16, .none, 0⟩,
       ⟨8, 8, "OVERRATE_A", .lv, 16, .none, 0⟩,
       ⟨2, 0, "PLAUS", .lv, 16, .none, 1⟩]⟩
  , ⟨"MOT_EVT", 0x780028, [], 1, 0, 8, true,
      [⟨31, 24, "SEQ", .seq, 16, .none, 0⟩,
       ⟨2, 0, "EVENTS", .sq, 16, .none, 0⟩]⟩
  ]

/-- Registers: EVS (0). -/
def regsEvs0 : List RegRow :=
  [ ⟨"EVS_STATE", 0x800000, [], 31, 0, 8, false,
      [⟨8, 8, "ERASING", .lv, 16, .none, 0⟩,
       ⟨2, 0, "STATE", .lv, 16, .none, 0⟩]⟩
  , ⟨"EVS_PENDING_LO", 0x800004, [], 31, 0, 8, false,
      [⟨31, 0, "SEQ", .lv, 16, .none, 0⟩]⟩
  , ⟨"EVS_PENDING_HI", 0x800008, [], 31, 0, 8, false,
      [⟨31, 31, "VALID", .lv, 16, .none, 0⟩,
       ⟨15, 0, "SEQ", .lv, 16, .none, 0⟩]⟩
  , ⟨"EVS_NEXT_LO", 0x80000C, [], 31, 0, 8, false,
      [⟨31, 0, "SEQ", .lv, 16, .none, 0⟩]⟩
  , ⟨"EVS_NEXT_HI", 0x800010, [], 31, 0, 8, false,
      [⟨15, 0, "SEQ", .lv, 16, .none, 0⟩]⟩
  , ⟨"EVS_PROV_LO", 0x800014, [], 31, 0, 8, false,
      [⟨31, 0, "PROV", .lv, 16, .none, 0xFFFFFFFF⟩]⟩
  , ⟨"EVS_PROV_HI", 0x800018, [], 31, 0, 8, false,
      [⟨15, 0, "PROV", .lv, 16, .none, 0xFFFF⟩]⟩
  , ⟨"EVS_ACK_LO", 0x80001C, [], 31, 0, 8, false,
      [⟨31, 0, "SEQ", .lv, 16, .none, 0⟩]⟩
  , ⟨"EVS_ACK_HI", 0x800020, [], 31, 0, 8, false,
      [⟨15, 0, "SEQ", .lv, 16, .none, 0⟩]⟩
  , ⟨"EVS_FREE", 0x800024, [], 31, 0, 8, false,
      [⟨20, 0, "SLOTS", .lv, 16, .none, 0⟩]⟩
  , ⟨"EVS_Q", 0x800028, [], 31, 0, 8, false,
      [⟨21, 16, "HEAD", .lv, 16, .none, 0⟩,
       ⟨6, 0, "COUNT", .lv, 16, .none, 0⟩]⟩
  , ⟨"EVS_CMD", 0x80002C, [], 31, 0, 8, false,
      [⟨15, 8, "STATUS", .rw, 16, .none, 0⟩,
       ⟨0, 0, "DROP", .cmd, 16, .none, 0⟩]⟩
  ]

/-- Registers: EVS (1). -/
def regsEvs1 : List RegRow :=
  [ ⟨"EVS_RET", 0x800030, [], 31, 0, 7, false,
      [⟨15, 0, "DAYS", .shlk, 6, .none, 0x16D⟩]⟩
  , ⟨"EVS_EVT", 0x800034, [], 31, 0, 8, false,
      [⟨31, 24, "SEQ", .seq, 16, .none, 0⟩,
       ⟨8, 0, "EVENTS", .sq, 16, .none, 0⟩]⟩
  , ⟨"EVS_GENESIS", 0x800038, [], 31, 0, 8, false,
      [⟨0, 0, "GENESIS", .cmdlk, 6, .none, 0⟩]⟩
  , ⟨"EVS_HEAD", 0x800040, [(8, 0x4)], 31, 0, 8, false,
      [⟨31, 0, "HEAD", .ro, 16, .none, 0⟩]⟩
  , ⟨"EVS_REC_CTRL", 0x800080, [(4, 0x20)], 31, 0, 8, false,
      [⟨31, 31, "EN", .lk, 6, .none, 0⟩,
       ⟨9, 0, "TENANT", .lk, 6, .none, 0⟩]⟩
  , ⟨"EVS_REC_SUB", 0x800084, [(4, 0x20)], 31, 0, 8, false,
      [⟨31, 0, "BASE", .lk, 6, .none, 0⟩]⟩
  , ⟨"EVS_REC_RCPT", 0x800088, [(4, 0x20)], 31, 0, 8, false,
      [⟨31, 0, "BASE", .lk, 6, .none, 0⟩]⟩
  , ⟨"EVS_REC_EXP", 0x80008C, [(4, 0x20)], 31, 0, 8, false,
      [⟨31, 0, "BASE", .lk, 6, .none, 0⟩]⟩
  , ⟨"EVS_REC_EXPSIZE", 0x800090, [(4, 0x20)], 31, 0, 8, false,
      [⟨16, 0, "SIZE", .lk, 6, .none, 1⟩]⟩
  , ⟨"EVS_PART_BASE", 0x800100, [], 31, 0, 8, false,
      [⟨31, 12, "BASE", .ro, 16, .none, 0⟩,
       ⟨0, 0, "CS", .ro, 16, .none, 0⟩]⟩
  , ⟨"EVS_PART_SECTORS", 0x800104, [], 31, 0, 8, false,
      [⟨16, 0, "SECTORS", .ro, 16, .none, 0⟩]⟩
  , ⟨"EVS_HWM_LO", 0x800108, [], 0, 0, 8, false,
      [⟨31, 0, "SEQ", .ro, 16, .none, 0⟩]⟩
  ]

/-- Registers: EVS (2). -/
def regsEvs2 : List RegRow :=
  [ ⟨"EVS_HWM_HI", 0x80010C, [], 0, 0, 8, false,
      [⟨31, 31, "VALID", .ro, 16, .none, 0⟩,
       ⟨15, 0, "SEQ", .ro, 16, .none, 0⟩]⟩
  , ⟨"EVS_FLASH_INFO", 0x800110, [], 31, 0, 8, false,
      [⟨0, 0, "SUSPEND", .ro, 16, .none, 0⟩]⟩
  , ⟨"EVS_DUP_COUNT", 0x800120, [], 31, 0, 8, false,
      [⟨31, 0, "COUNT", .rw, 16, .none, 0⟩]⟩
  , ⟨"EVS_BUSY_COUNT", 0x800124, [], 31, 0, 8, false,
      [⟨31, 0, "COUNT", .rw, 16, .none, 0⟩]⟩
  , ⟨"EVS_TORN_COUNT", 0x800128, [], 31, 0, 8, false,
      [⟨31, 0, "COUNT", .rw, 16, .none, 0⟩]⟩
  , ⟨"EVS_ERASE_COUNT", 0x80012C, [], 31, 0, 8, false,
      [⟨31, 0, "COUNT", .rw, 16, .none, 0⟩]⟩
  , ⟨"EVS_X_ADDR", 0x800140, [], 31, 0, 8, false,
      [⟨31, 0, "ADDR", .rw, 16, .none, 0⟩]⟩
  , ⟨"EVS_X_CTRL", 0x800144, [], 31, 0, 8, false,
      [⟨31, 31, "BUSY", .lv, 16, .none, 0⟩,
       ⟨23, 16, "RESULT", .ro, 16, .none, 0⟩,
       ⟨15, 8, "LEN_M1", .rw, 16, .none, 0⟩,
       ⟨4, 4, "CS", .rw, 16, .none, 0⟩,
       ⟨2, 0, "OP", .rw, 16, .none, 0⟩]⟩
  , ⟨"EVS_QE_HDR", 0x810000, [(64, 0x100)], 31, 0, 8, false,
      [⟨31, 31, "VALID", .lv, 16, .none, 0⟩,
       ⟨30, 30, "DEVICE", .lv, 16, .none, 0⟩,
       ⟨25, 16, "TENANT", .lv, 16, .none, 0⟩,
       ⟨15, 8, "TYPE", .lv, 16, .none, 0⟩,
       ⟨7, 0, "SLOT", .lv, 16, .none, 0⟩]⟩
  , ⟨"EVS_QE_NONCE", 0x810004, [(64, 0x100), (2, 0x4)], 31, 0, 8, false,
      [⟨31, 0, "NONCE", .lv, 16, .none, 0⟩]⟩
  , ⟨"EVS_QE_PAYLOAD", 0x810040, [(64, 0x100), (32, 0x4)], 31, 0, 8, false,
      [⟨31, 0, "PAYLOAD", .lv, 16, .none, 0⟩]⟩
  , ⟨"EVS_X_BUF", 0x820000, [(64, 0x4)], 31, 0, 8, false,
      [⟨31, 0, "DATA", .rw, 16, .none, 0⟩]⟩
  ]

/-- Registers: ACQ (0). -/
def regsAcq0 : List RegRow :=
  [ ⟨"ACQ_CTRL", 0x900000, [], 32, 0, 8, false,
      [⟨9, 9, "IADC_STOP", .cmd, 16, .none, 0⟩,
       ⟨8, 8, "IADC_START", .cmd, 16, .none, 0⟩,
       ⟨3, 3, "INJ_START", .cmd, 16, .none, 0⟩,
       ⟨2, 2, "REG_STOP", .cmd, 16, .none, 0⟩,
       ⟨1, 1, "REG_START", .cmd, 16, .none, 0⟩,
       ⟨0, 0, "EN", .rw, 16, .none, 0⟩]⟩
  , ⟨"ACQ_STATUS", 0x900004, [], 32, 0, 8, false,
      [⟨31, 27, "FAILED", .lv, 16, .none, 0⟩,
       ⟨26, 24, "SPARE", .lv, 16, .none, 4⟩,
       ⟨23, 12, "MAP", .lv, 16, .none, 0x688⟩,
       ⟨11, 11, "IADC_BUSY", .lv, 16, .none, 0⟩,
       ⟨10, 10, "REF_OK", .lv, 16, .none, 0⟩,
       ⟨9, 9, "INJ_RUN", .lv, 16, .none, 0⟩,
       ⟨8, 6, "INJ_ENTRY", .lv, 16, .none, 0⟩,
       ⟨5, 5, "REG_RUN", .lv, 16, .none, 0⟩,
       ⟨4, 0, "REG_ENTRY", .lv, 16, .none, 0⟩]⟩
  , ⟨"ACQ_REF", 0x900008, [], 32, 0, 4, false,
      [⟨4, 4, "REFOUT_EN", .shlk, 9, .none, 0⟩,
       ⟨1, 0, "SEL", .shlk, 9, .none, 0⟩]⟩
  , ⟨"ACQ_TIMER", 0x90000C, [], 32, 0, 4, false,
      [⟨23, 0, "PERIOD", .sh, 16, .none, 0x3E8⟩]⟩
  , ⟨"ACQ_CAL_CFG", 0x900010, [], 32, 0, 4, false,
      [⟨31, 16, "N", .sh, 16, .none, 0xA⟩,
       ⟨8, 8, "EN", .sh, 16, .none, 1⟩,
       ⟨7, 0, "PERIOD_MS", .sh, 16, .none, 0xA⟩]⟩
  , ⟨"ACQ_TDAC", 0x900014, [], 32, 0, 8, false,
      [⟨24, 24, "ROUTE_EN", .rw, 16, .none, 0⟩,
       ⟨20, 16, "ROUTE", .rw, 16, .none, 0⟩,
       ⟨9, 0, "CODE", .rw, 16, .none, 0⟩]⟩
  , ⟨"ACQ_IADC_CFG", 0x900018, [], 32, 0, 4, false,
      [⟨29, 28, "EDGE", .sh, 16, .none, 0⟩,
       ⟨27, 24, "TRIG", .sh, 16, .none, 0⟩,
       ⟨19, 16, "LINE_M", .sh, 16, .none, 1⟩,
       ⟨14, 12, "OWNER", .sh, 16, .none, 0⟩,
       ⟨10, 10, "CONT", .sh, 16, .none, 0⟩,
       ⟨9, 8, "MODE", .sh, 16, .none, 0⟩,
       ⟨5, 0, "CH", .sh, 16, .none, 0⟩]⟩
  , ⟨"ACQ_IADC_TINT", 0x90001C, [], 32, 0, 4, false,
      [⟨19, 0, "TINT", .sh, 16, .none, 0x186A0⟩]⟩
  , ⟨"ACQ_EVT", 0x900020, [], 32, 0, 8, false,
      [⟨31, 24, "SEQ", .seq, 16, .none, 0⟩,
       ⟨14, 0, "EVENTS", .sq, 16, .none, 0⟩]⟩
  , ⟨"ACQ_PLAUS_LAST", 0x900024, [], 32, 0, 8, false,
      [⟨29, 24, "CH", .ro, 16, .none, 0⟩,
       ⟨23, 12, "CODE_B", .ro, 16, .none, 0⟩,
       ⟨11, 0, "CODE_A", .ro, 16, .none, 0⟩]⟩
  , ⟨"ACQ_TRIM", 0x900030, [(5, 0x4)], 32, 0, 8, false,
      [⟨31, 16, "GAIN", .ro, 16, .none, 0⟩,
       ⟨15, 0, "OFFSET", .ro, 16, .none, 0⟩]⟩
  , ⟨"ACQ_COUNT", 0x900060, [(4, 0x4)], 32, 0, 8, false,
      [⟨31, 0, "COUNT", .rw, 16, .none, 0⟩]⟩
  ]

/-- Registers: ACQ (1). -/
def regsAcq1 : List RegRow :=
  [ ⟨"ACQ_BUF_CTRL", 0x900100, [(9, 0x20)], 32, 0, 8, false,
      [⟨31, 31, "ERR", .ro, 16, .none, 0⟩,
       ⟨30, 30, "FULL", .lv, 16, .none, 0⟩,
       ⟨25, 16, "TENANT", .lk, 0, .none, 0⟩,
       ⟨1, 1, "OVW", .rw, 16, .none, 0⟩,
       ⟨0, 0, "EN", .rw, 16, .none, 0⟩]⟩
  , ⟨"ACQ_BUF_BASE", 0x900104, [(9, 0x20)], 32, 0, 8, false,
      [⟨31, 0, "BASE", .rw, 16, .none, 0⟩]⟩
  , ⟨"ACQ_BUF_SIZE", 0x900108, [(9, 0x20)], 32, 0, 8, false,
      [⟨31, 20, "FLUSH", .rw, 16, .none, 0x64⟩,
       ⟨16, 0, "SIZE", .rw, 16, .none, 1⟩]⟩
  , ⟨"ACQ_BUF_WR", 0x90010C, [(9, 0x20)], 32, 0, 8, false,
      [⟨31, 0, "WR", .lv, 16, .none, 0⟩]⟩
  , ⟨"ACQ_BUF_LOST", 0x900110, [(9, 0x20)], 32, 0, 8, false,
      [⟨31, 0, "COUNT", .rw, 16, .none, 0⟩]⟩
  ]

/-- Registers: DAC (0). -/
def regsDac0 : List RegRow :=
  [ ⟨"DAC_DATA", 0x980000, [(16, 0x4)], 32, 0, 8, false,
      [⟨13, 0, "CODE", .rw, 16, .none, 0⟩]⟩
  , ⟨"DAC_CH_CFG", 0x980040, [(16, 0x4)], 32, 0, 4, false,
      [⟨10, 8, "OWNER", .shlk, 9, .none, 0⟩,
       ⟨5, 4, "LGRP", .shlk, 9, .none, 0⟩,
       ⟨0, 0, "SPAN", .shlk, 9, .none, 0⟩]⟩
  , ⟨"DAC_OUT", 0x980080, [(16, 0x4)], 32, 0, 8, false,
      [⟨31, 31, "FAULTED", .lv, 16, .none, 0⟩,
       ⟨30, 30, "HIZ", .lv, 16, .none, 0⟩,
       ⟨16, 16, "SPAN", .ro, 16, .none, 0⟩,
       ⟨13, 0, "CODE", .ro, 16, .none, 0⟩]⟩
  , ⟨"DAC_LGRP_CFG", 0x9800C0, [], 32, 0, 4, false,
      [⟨28, 26, "SEL_3", .shlk, 9, .none, 4⟩,
       ⟨25, 24, "SRC_3", .shlk, 9, .none, 0⟩,
       ⟨20, 18, "SEL_2", .shlk, 9, .none, 4⟩,
       ⟨17, 16, "SRC_2", .shlk, 9, .none, 0⟩,
       ⟨12, 10, "SEL_1", .shlk, 9, .none, 4⟩,
       ⟨9, 8, "SRC_1", .shlk, 9, .none, 0⟩,
       ⟨4, 2, "SEL_0", .shlk, 9, .none, 4⟩,
       ⟨1, 0, "SRC_0", .shlk, 9, .none, 0⟩]⟩
  , ⟨"DAC_CMD", 0x9800C4, [], 32, 0, 8, false,
      [⟨15, 0, "RELEASE", .cmd, 16, .none, 0⟩]⟩
  , ⟨"DAC_STATUS", 0x9800C8, [], 32, 0, 8, false,
      [⟨31, 16, "ILIM", .lv, 16, .none, 0⟩,
       ⟨0, 0, "REF_OK", .lv, 16, .none, 0⟩]⟩
  , ⟨"DAC_EVT", 0x9800CC, [], 32, 0, 8, false,
      [⟨31, 24, "SEQ", .seq, 16, .none, 0⟩,
       ⟨7, 0, "EVENTS", .sq, 16, .none, 0⟩]⟩
  , ⟨"DAC_MTP_STAGE", 0x9800D0, [], 32, 0, 8, false,
      [⟨31, 31, "FAULT_SPAN", .lk, 9, .none, 0⟩,
       ⟨29, 16, "FAULT_CODE", .lk, 9, .none, 0⟩,
       ⟨15, 15, "PU_SPAN", .lk, 9, .none, 0⟩,
       ⟨13, 0, "PU_CODE", .lk, 9, .none, 0⟩]⟩
  , ⟨"DAC_MTP_CMD", 0x9800D4, [], 32, 0, 8, false,
      [⟨31, 31, "BUSY", .lv, 16, .none, 0⟩,
       ⟨23, 16, "RESULT", .ro, 16, .none, 0⟩,
       ⟨11, 8, "CH", .lk, 9, .none, 0⟩,
       ⟨0, 0, "PROG", .cmdlk, 9, .none, 0⟩]⟩
  , ⟨"DAC_MTP_ROW", 0x980100, [(16, 0x4)], 32, 0, 8, false,
      [⟨31, 31, "FAULT_SPAN", .ro, 16, .none, 0⟩,
       ⟨29, 16, "FAULT_CODE", .ro, 16, .none, 0⟩,
       ⟨15, 15, "PU_SPAN", .ro, 16, .none, 0⟩,
       ⟨13, 0, "PU_CODE", .ro, 16, .none, 0⟩]⟩
  , ⟨"DAC_MTP_WEAR", 0x980140, [(16, 0x4)], 32, 0, 8, false,
      [⟨31, 31, "MTP_BAD", .ro, 16, .none, 0⟩,
       ⟨30, 30, "WORN", .ro, 16, .none, 0⟩,
       ⟨10, 0, "COUNT", .ro, 16, .none, 0⟩]⟩
  ]

/-- Registers: LTH (0). -/
def regsLth0 : List RegRow :=
  [ ⟨"LTH_CTRL", 0xA00000, [(4, 0x40000)], 32, 0, 8, false,
      [⟨3, 3, "CLEAR", .cmd, 16, .none, 0⟩,
       ⟨2, 2, "ABORT", .cmd, 16, .none, 0⟩,
       ⟨1, 1, "STOP", .cmd, 16, .none, 0⟩,
       ⟨0, 0, "START", .cmd, 16, .none, 0⟩]⟩
  , ⟨"LTH_CFG", 0xA00004, [(4, 0x40000)], 32, 0, 8, false,
      [⟨29, 24, "AIN_I", .lk, 9, .none, 0⟩,
       ⟨21, 16, "AIN_V", .lk, 9, .none, 0⟩,
       ⟨14, 12, "AUTO_MAX", .lk, 9, .none, 3⟩,
       ⟨9, 8, "IMODE", .lk, 9, .none, 0⟩,
       ⟨4, 4, "CMP_POL", .lk, 9, .none, 0⟩,
       ⟨2, 2, "DIG_ACT", .lk, 9, .none, 0⟩,
       ⟨1, 0, "MODE", .lk, 9, .none, 0⟩]⟩
  , ⟨"LTH_LIMIT_F", 0xA00008, [(4, 0x40000)], 32, 0, 8, false,
      [⟨30, 0, "LIMIT", .lk, 9, .none, 0⟩]⟩
  , ⟨"LTH_LIMIT_C", 0xA0000C, [(4, 0x40000)], 32, 0, 8, false,
      [⟨30, 0, "LIMIT", .lk, 9, .none, 0⟩]⟩
  , ⟨"LTH_DIG", 0xA00010, [(4, 0x40000)], 32, 0, 8, false,
      [⟨10, 0, "DIG_PM", .lk, 9, .none, 0x41A⟩]⟩
  , ⟨"LTH_LIST", 0xA00014, [(4, 0x40000)], 32, 0, 8, false,
      [⟨31, 31, "SRC", .rw, 16, .none, 0⟩,
       ⟨30, 30, "CONT", .rw, 16, .none, 0⟩,
       ⟨15, 0, "REPEAT", .rw, 16, .none, 0⟩]⟩
  , ⟨"LTH_LIST_RANGE", 0xA00018, [(4, 0x40000)], 32, 0, 8, false,
      [⟨26, 16, "FIRST", .rw, 16, .none, 0⟩,
       ⟨15, 0, "COUNT", .rw, 16, .none, 1⟩]⟩
  , ⟨"LTH_FETCH_TENANT", 0xA0001C, [(4, 0x40000)], 32, 0, 8, false,
      [⟨9, 0, "TENANT", .lk, 0, .none, 0⟩]⟩
  , ⟨"LTH_FETCH_LIST", 0xA00020, [(4, 0x40000)], 32, 0, 8, false,
      [⟨31, 0, "LIST_BASE", .rw, 16, .none, 0⟩]⟩
  , ⟨"LTH_FETCH_RES", 0xA00024, [(4, 0x40000)], 32, 0, 8, false,
      [⟨31, 0, "RES_BASE", .rw, 16, .none, 0⟩]⟩
  , ⟨"LTH_STATUS", 0xA00040, [(4, 0x40000)], 32, 0, 8, false,
      [⟨31, 29, "RANGE", .lv, 16, .none, 0⟩,
       ⟨28, 28, "TRANS", .lv, 16, .none, 0⟩,
       ⟨27, 24, "REFUSE", .ro, 16, .none, 0⟩,
       ⟨18, 3, "POINT", .lv, 16, .none, 0⟩,
       ⟨2, 0, "STATE", .lv, 16, .none, 0⟩]⟩
  , ⟨"LTH_TRIP_INFO", 0xA00044, [(4, 0x40000)], 32, 0, 8, false,
      [⟨31, 16, "POINT", .ro, 16, .none, 0⟩,
       ⟨7, 0, "CAUSE", .ro, 16, .none, 0⟩]⟩
  ]

/-- Registers: LTH (1). -/
def regsLth1 : List RegRow :=
  [ ⟨"LTH_TRIP_TIME_LO", 0xA00048, [(4, 0x40000)], 32, 0, 8, false,
      [⟨31, 0, "TIME", .ro, 16, .none, 0⟩]⟩
  , ⟨"LTH_TRIP_TIME_HI", 0xA0004C, [(4, 0x40000)], 32, 0, 8, false,
      [⟨31, 0, "TIME", .ro, 16, .none, 0⟩]⟩
  , ⟨"LTH_EVT", 0xA00050, [(4, 0x40000)], 32, 0, 8, false,
      [⟨31, 24, "SEQ", .seq, 16, .none, 0⟩,
       ⟨7, 0, "EVENTS", .sq, 16, .none, 0⟩]⟩
  , ⟨"LTH_POINT_COUNT", 0xA00054, [(4, 0x40000)], 32, 0, 8, false,
      [⟨31, 0, "COUNT", .rw, 16, .none, 0⟩]⟩
  , ⟨"LTH_TRIP_COUNT", 0xA00058, [(4, 0x40000)], 32, 0, 8, false,
      [⟨31, 0, "COUNT", .rw, 16, .none, 0⟩]⟩
  , ⟨"LTH_RAM", 0xA10000, [(4, 0x40000), (8192, 0x4)], 32, 0, 8, true,
      [⟨31, 0, "DATA", .rw, 16, .none, 0⟩]⟩
  , ⟨"LTH_RES", 0xA20000, [(4, 0x40000), (8192, 0x4)], 32, 0, 8, false,
      [⟨31, 0, "DATA", .ro, 16, .none, 0⟩]⟩
  ]

/-- Registers: CVU, PCU (0). -/
def regsCvu0 : List RegRow :=
  [ ⟨"CVU_CTRL", 0xB00000, [(8, 0x40)], 3, 0, 8, false,
      [⟨1, 1, "CLEAR", .cmd, 16, .none, 0⟩,
       ⟨0, 0, "EN", .rw, 16, .none, 0⟩]⟩
  , ⟨"CVU_CFG", 0xB00004, [(8, 0x40)], 3, 0, 8, false,
      [⟨27, 24, "PORT", .rw, 16, .none, 0⟩,
       ⟨22, 20, "STREAM", .rw, 16, .none, 0⟩,
       ⟨16, 16, "FEED", .rw, 16, .none, 0⟩,
       ⟨14, 14, "REFOUT", .rw, 16, .none, 0⟩,
       ⟨13, 13, "REFIN", .rw, 16, .none, 0⟩,
       ⟨12, 8, "WIDTH_M1", .rw, 16, .none, 0x1F⟩,
       ⟨2, 0, "ALG", .rw, 16, .none, 1⟩]⟩
  , ⟨"CVU_TENANT", 0xB00008, [(8, 0x40)], 3, 0, 8, false,
      [⟨9, 0, "TENANT", .rw, 16, .none, 0⟩]⟩
  , ⟨"CVU_POLY", 0xB0000C, [(8, 0x40)], 3, 0, 8, false,
      [⟨31, 0, "VALUE", .rw, 16, .none, 0⟩]⟩
  , ⟨"CVU_INIT", 0xB00010, [(8, 0x40)], 3, 0, 8, false,
      [⟨31, 0, "VALUE", .rw, 16, .none, 0⟩]⟩
  , ⟨"CVU_XOROUT", 0xB00014, [(8, 0x40)], 3, 0, 8, false,
      [⟨31, 0, "VALUE", .rw, 16, .none, 0⟩]⟩
  , ⟨"CVU_RESULT", 0xB00018, [(8, 0x40)], 3, 0, 8, false,
      [⟨31, 0, "CRC", .ro, 16, .none, 0⟩]⟩
  , ⟨"CVU_BYTES_LO", 0xB0001C, [(8, 0x40)], 3, 0, 8, false,
      [⟨31, 0, "COUNT", .ro, 16, .none, 0⟩]⟩
  , ⟨"CVU_BYTES_HI", 0xB00020, [(8, 0x40)], 3, 0, 8, false,
      [⟨15, 0, "COUNT", .ro, 16, .none, 0⟩]⟩
  , ⟨"CVU_LIMIT", 0xB00024, [(8, 0x40)], 3, 0, 8, false,
      [⟨31, 0, "LIMIT", .rw, 16, .none, 0⟩]⟩
  , ⟨"CVU_STATUS", 0xB00028, [(8, 0x40)], 3, 0, 8, false,
      [⟨4, 4, "BUSY", .lv, 16, .none, 0⟩,
       ⟨3, 3, "GAP", .ro, 16, .none, 0⟩,
       ⟨2, 2, "POISON", .ro, 16, .none, 0⟩,
       ⟨1, 1, "DONE", .ro, 16, .none, 0⟩,
       ⟨0, 0, "IGN", .ro, 16, .none, 0⟩]⟩
  , ⟨"CVU_DATA_B", 0xB00030, [(8, 0x40)], 3, 0, 8, false,
      [⟨7, 0, "DATA", .rw, 16, .none, 0⟩]⟩
  ]

/-- Registers: CVU, PCU (1). -/
def regsCvu1 : List RegRow :=
  [ ⟨"CVU_DATA_H", 0xB00034, [(8, 0x40)], 3, 0, 8, false,
      [⟨15, 0, "DATA", .rw, 16, .none, 0⟩]⟩
  , ⟨"CVU_DATA_W", 0xB00038, [(8, 0x40)], 3, 0, 8, false,
      [⟨31, 0, "DATA", .rw, 16, .none, 0⟩]⟩
  , ⟨"CVU_EVT", 0xB00200, [], 3, 0, 8, false,
      [⟨31, 24, "SEQ", .seq, 16, .none, 0⟩,
       ⟨23, 0, "EVENTS", .sq, 16, .none, 0⟩]⟩
  , ⟨"PCU_CFG", 0xB80000, [(32, 0x10)], 3, 0, 8, false,
      [⟨31, 31, "EN", .rw, 16, .none, 0⟩,
       ⟨30, 30, "MODE", .rw, 16, .none, 0⟩,
       ⟨29, 29, "QALL", .rw, 16, .none, 1⟩,
       ⟨25, 16, "QUAL", .rw, 16, .none, 0⟩,
       ⟨7, 0, "EVENT", .rw, 16, .none, 0⟩]⟩
  , ⟨"PCU_CNT_LO", 0xB80004, [(32, 0x10)], 3, 0, 8, false,
      [⟨31, 0, "COUNT", .rw, 16, .none, 0⟩]⟩
  , ⟨"PCU_CNT_HI", 0xB80008, [(32, 0x10)], 3, 0, 8, false,
      [⟨15, 0, "COUNT", .rw, 16, .none, 0⟩]⟩
  , ⟨"PCU_OVF", 0xB80200, [(2, 0x4)], 3, 0, 8, false,
      [⟨31, 24, "SEQ", .seq, 16, .none, 0⟩,
       ⟨15, 0, "OVF", .sq, 16, .none, 0⟩]⟩
  , ⟨"PCU_EVT", 0xB80208, [], 3, 0, 8, false,
      [⟨31, 24, "SEQ", .seq, 16, .none, 0⟩,
       ⟨16, 0, "EVENTS", .sq, 16, .none, 0⟩]⟩
  , ⟨"PCU_BW_CFG", 0xB80400, [(16, 0x20)], 3, 0, 8, false,
      [⟨31, 31, "EN", .rw, 16, .none, 0⟩,
       ⟨30, 30, "CLEAR", .cmd, 16, .none, 0⟩,
       ⟨29, 28, "DIR", .rw, 16, .none, 0⟩,
       ⟨24, 24, "UNIT", .rw, 16, .none, 0⟩,
       ⟨19, 0, "WINDOW", .rw, 16, .none, 0x3E8⟩]⟩
  , ⟨"PCU_BW_LAST", 0xB80404, [(16, 0x20)], 3, 0, 8, false,
      [⟨31, 0, "UNITS", .ro, 16, .none, 0⟩]⟩
  , ⟨"PCU_BW_MAX", 0xB80408, [(16, 0x20)], 3, 0, 8, false,
      [⟨31, 0, "UNITS", .ro, 16, .none, 0⟩]⟩
  , ⟨"PCU_BW_MIN", 0xB8040C, [(16, 0x20)], 3, 0, 8, false,
      [⟨31, 0, "UNITS", .ro, 16, .none, 0xFFFFFFFF⟩]⟩
  ]

/-- Registers: CVU, PCU (2). -/
def regsCvu2 : List RegRow :=
  [ ⟨"PCU_BW_THR", 0xB80410, [(16, 0x20)], 3, 0, 8, false,
      [⟨31, 0, "THR", .rw, 16, .none, 0⟩]⟩
  , ⟨"PCU_BW_WINDOWS", 0xB80414, [(16, 0x20)], 3, 0, 8, false,
      [⟨31, 0, "COUNT", .ro, 16, .none, 0⟩]⟩
  , ⟨"PCU_TAG_CFG", 0xB80600, [], 3, 0, 8, false,
      [⟨31, 31, "EN_HA", .rw, 16, .none, 0⟩,
       ⟨30, 30, "EN_RC", .rw, 16, .none, 0⟩,
       ⟨28, 28, "SB_MODE", .rw, 16, .none, 0⟩,
       ⟨20, 16, "MEAN_HA", .rw, 16, .none, 0x10⟩,
       ⟨12, 8, "MEAN_RC", .rw, 16, .none, 0x10⟩]⟩
  , ⟨"PCU_TAG_FILT", 0xB80604, [], 3, 0, 8, false,
      [⟨31, 31, "TENANT_EN", .rw, 16, .none, 0⟩,
       ⟨25, 16, "TENANT", .rw, 16, .none, 0⟩,
       ⟨15, 15, "AGENT_EN", .rw, 16, .none, 0⟩,
       ⟨7, 0, "AGENT", .rw, 16, .none, 0⟩]⟩
  , ⟨"PCU_TAG_SEED", 0xB80608, [], 3, 0, 8, false,
      [⟨31, 0, "SEED", .rw, 16, .none, 1⟩]⟩
  , ⟨"PCU_TAG_SKIP", 0xB8060C, [], 3, 0, 8, false,
      [⟨31, 0, "COUNT", .rw, 16, .none, 0⟩]⟩
  , ⟨"PCU_SBUF_STATUS", 0xB80610, [], 3, 0, 8, false,
      [⟨16, 16, "FULL", .lv, 16, .none, 0⟩,
       ⟨13, 8, "WR", .lv, 16, .none, 0⟩,
       ⟨6, 0, "COUNT", .lv, 16, .none, 0⟩]⟩
  , ⟨"PCU_SBUF_CTRL", 0xB80614, [], 3, 0, 8, false,
      [⟨0, 0, "CLEAR", .cmd, 16, .none, 0⟩]⟩
  , ⟨"PCU_SBUF", 0xB81000, [(512, 0x4)], 3, 0, 8, false,
      [⟨31, 0, "ENTRY", .ro, 16, .none, 0⟩]⟩
  ]

/-- Registers: EVC (0). -/
def regsEvc0 : List RegRow :=
  [ ⟨"EVC_PEND", 0xC00000, [(8, 0x4)], 1, 0, 8, false,
      [⟨31, 0, "PEND", .rw, 16, .none, 0⟩]⟩
  , ⟨"EVC_MASK", 0xC00020, [(8, 0x4)], 1, 0, 8, false,
      [⟨31, 0, "MASK", .rw, 16, .none, 0xFFFFFFFF⟩]⟩
  , ⟨"EVC_PCLR", 0xC00040, [(8, 0x4)], 1, 0, 8, false,
      [⟨31, 0, "CLR", .cmd, 16, .none, 0⟩]⟩
  , ⟨"EVC_MASK_MK_L", 0xC00060, [(8, 0x8)], 1, 0, 8, false,
      [⟨31, 16, "SEL", .mk, 16, .none, 0⟩,
       ⟨15, 0, "VAL", .mk, 16, .none, 0⟩]⟩
  , ⟨"EVC_MASK_MK_H", 0xC00064, [(8, 0x8)], 1, 0, 8, false,
      [⟨31, 16, "SEL", .mk, 16, .none, 0⟩,
       ⟨15, 0, "VAL", .mk, 16, .none, 0⟩]⟩
  , ⟨"EVC_PSET", 0xC000A0, [(8, 0x4)], 1, 0, 8, false,
      [⟨31, 0, "SET", .cmd, 16, .none, 0⟩]⟩
  , ⟨"EVC_RC_THRESH", 0xC00100, [], 1, 0, 8, false,
      [⟨2, 0, "LEVEL", .rw, 16, .none, 0⟩]⟩
  , ⟨"EVC_RC_CLAIM", 0xC00104, [], 1, 0, 8, false,
      [⟨31, 31, "VALID", .lv, 16, .none, 0⟩,
       ⟨10, 8, "PRIO", .lv, 16, .none, 0⟩,
       ⟨7, 0, "SOURCE", .lv, 16, .none, 0⟩]⟩
  , ⟨"EVC_EVT", 0xC00108, [], 1, 0, 8, false,
      [⟨31, 24, "SEQ", .seq, 16, .none, 0⟩,
       ⟨1, 0, "EVENTS", .sq, 16, .none, 0⟩]⟩
  , ⟨"EVC_MSG_DROP_COUNT", 0xC0010C, [], 1, 0, 8, false,
      [⟨31, 0, "COUNT", .rw, 16, .none, 0⟩]⟩
  , ⟨"EVC_IRQ_CFG", 0xC00110, [], 1, 0, 8, false,
      [⟨0, 0, "DRIVE", .rw, 16, .none, 0⟩]⟩
  , ⟨"EVC_ROUTE", 0xC00400, [(256, 0x4)], 1, 0, 8, false,
      [⟨31, 31, "AUTO_MASK", .rw, 16, .none, 0⟩,
       ⟨26, 24, "PRIO", .rw, 16, .none, 0⟩,
       ⟨21, 20, "TARGET", .rw, 16, .none, 0⟩,
       ⟨16, 16, "MSG_EN", .rw, 16, .none, 0⟩,
       ⟨9, 0, "MSG_TENANT", .rw, 16, .none, 0⟩]⟩
  ]

/-- Registers: FLT (0). -/
def regsFlt0 : List RegRow :=
  [ ⟨"FLT_SUMMARY", 0xD00000, [], 1, 0, 8, false,
      [⟨31, 31, "ESC", .lv, 16, .none, 0⟩,
       ⟨30, 30, "CONTAINED", .lv, 16, .none, 0⟩,
       ⟨29, 29, "RAISED", .lv, 16, .none, 0⟩,
       ⟨28, 28, "LOCKVIOL", .lv, 16, .none, 0⟩,
       ⟨21, 16, "ESC_CLASS", .lv, 16, .none, 0⟩,
       ⟨5, 0, "LAST_CLASS", .lv, 16, .none, 0⟩]⟩
  , ⟨"FLT_LOCKVIOL", 0xD00004, [], 1, 0, 8, false,
      [⟨31, 24, "SEQ", .seq, 16, .none, 0⟩,
       ⟨15, 0, "EVENTS", .sq, 16, .none, 0⟩]⟩
  , ⟨"FLT_RAISED_0", 0xD00008, [], 1, 0, 8, false,
      [⟨31, 24, "SEQ", .seq, 16, .none, 0⟩,
       ⟨23, 0, "RAISED", .sq, 16, .none, 0⟩]⟩
  , ⟨"FLT_RAISED_1", 0xD0000C, [], 1, 0, 8, false,
      [⟨31, 24, "SEQ", .seq, 16, .none, 0⟩,
       ⟨16, 0, "RAISED", .sq, 16, .none, 0⟩]⟩
  , ⟨"FLT_CTRL", 0xD00010, [], 1, 0, 8, false,
      [⟨1, 1, "ESC_FORCE", .cmd, 16, .none, 0⟩,
       ⟨0, 0, "ESC_CLEAR", .cmd, 16, .none, 0⟩]⟩
  , ⟨"FLT_CFG", 0xD00014, [], 1, 0, 8, false,
      [⟨0, 0, "FN_OD", .lk, 8, .none, 0⟩]⟩
  , ⟨"FLT_CONTAINED_0", 0xD00018, [], 1, 0, 8, false,
      [⟨28, 0, "UNITS", .lv, 16, .none, 0⟩]⟩
  , ⟨"FLT_CONTAINED_1", 0xD0001C, [], 1, 0, 8, false,
      [⟨19, 0, "UNITS", .lv, 16, .none, 0⟩]⟩
  , ⟨"FLT_RELEASE_0", 0xD00020, [], 1, 0, 8, false,
      [⟨28, 0, "RELEASE", .cmd, 16, .none, 0⟩]⟩
  , ⟨"FLT_RELEASE_1", 0xD00024, [], 1, 0, 8, false,
      [⟨19, 0, "RELEASE", .cmd, 16, .none, 0⟩]⟩
  , ⟨"FLT_EVT", 0xD00028, [], 1, 0, 8, false,
      [⟨31, 24, "SEQ", .seq, 16, .none, 0⟩,
       ⟨2, 0, "EVENTS", .sq, 16, .none, 0⟩]⟩
  , ⟨"FLT_LOCKVIOL_ADDR", 0xD0002C, [], 1, 0, 8, false,
      [⟨31, 31, "CPMAP", .ro, 16, .none, 0⟩,
       ⟨27, 2, "ADDR", .ro, 16, .none, 0⟩]⟩
  ]

/-- Registers: FLT (1). -/
def regsFlt1 : List RegRow :=
  [ ⟨"FLT_PARITY_ADDR", 0xD00030, [], 1, 0, 8, false,
      [⟨31, 0, "WORD", .ro, 16, .none, 0⟩]⟩
  , ⟨"FLT_LOG_STATUS", 0xD00034, [], 1, 0, 8, true,
      [⟨31, 16, "TOTAL", .ro, 16, .none, 0⟩,
       ⟨3, 0, "WR", .ro, 16, .none, 0⟩]⟩
  , ⟨"FLT_CNT", 0xD00040, [(16, 0x4)], 1, 0, 8, false,
      [⟨31, 0, "COUNT", .ro, 16, .none, 0⟩]⟩
  , ⟨"FLT_LOG", 0xD00100, [(16, 0x10), (4, 0x4)], 1, 0, 8, true,
      [⟨31, 0, "ENTRY", .ro, 16, .none, 0⟩]⟩
  ]

/-- Registers: OTP (0). -/
def regsOtp0 : List RegRow :=
  [ ⟨"OTP_DEVICE_ID_LO", 0xE00000, [], 1, 0, 8, false,
      [⟨31, 0, "ID", .ro, 16, .none, 0⟩]⟩
  , ⟨"OTP_DEVICE_ID_HI", 0xE00004, [], 1, 0, 8, false,
      [⟨31, 0, "ID", .ro, 16, .none, 0⟩]⟩
  , ⟨"OTP_VARIANT", 0xE00008, [], 1, 0, 8, false,
      [⟨19, 16, "PORTS_M1", .ro, 16, .none, 0⟩,
       ⟨11, 8, "CHANNELS_M1", .ro, 16, .none, 0⟩,
       ⟨7, 0, "VARIANT", .ro, 16, .none, 0⟩]⟩
  , ⟨"OTP_LIFECYCLE", 0xE0000C, [], 1, 0, 8, false,
      [⟨9, 8, "FWKEY_REVOKED", .ro, 16, .none, 0⟩,
       ⟨4, 4, "KEYS_DONE", .ro, 16, .none, 0⟩,
       ⟨1, 0, "STATE", .ro, 16, .none, 0⟩]⟩
  , ⟨"OTP_MIN_SVN", 0xE00010, [], 1, 0, 8, false,
      [⟨6, 0, "MIN_SVN", .ro, 16, .none, 0⟩]⟩
  , ⟨"OTP_BOOT_A", 0xE00014, [], 1, 0, 8, false,
      [⟨31, 12, "ADDR", .ro, 16, .none, 0⟩,
       ⟨1, 1, "PRESENT", .ro, 16, .none, 0⟩,
       ⟨0, 0, "CS", .ro, 16, .none, 0⟩]⟩
  , ⟨"OTP_BOOT_B", 0xE00018, [], 1, 0, 8, false,
      [⟨31, 12, "ADDR", .ro, 16, .none, 0⟩,
       ⟨1, 1, "PRESENT", .ro, 16, .none, 0⟩,
       ⟨0, 0, "CS", .ro, 16, .none, 0⟩]⟩
  , ⟨"OTP_PART_BASE", 0xE0001C, [], 1, 0, 8, false,
      [⟨31, 12, "BASE", .ro, 16, .none, 0⟩,
       ⟨1, 1, "PRESENT", .ro, 16, .none, 0⟩,
       ⟨0, 0, "CS", .ro, 16, .none, 0⟩]⟩
  , ⟨"OTP_PART_SECTORS", 0xE00020, [], 1, 0, 8, false,
      [⟨16, 0, "SECTORS", .ro, 16, .none, 0⟩]⟩
  , ⟨"OTP_ROW_BAD", 0xE00024, [], 1, 0, 8, false,
      [⟨21, 0, "BAD", .ro, 16, .none, 0⟩]⟩
  , ⟨"OTP_HASH", 0xE00040, [(32, 0x4)], 1, 0, 8, false,
      [⟨31, 0, "HASH", .ro, 16, .none, 0⟩]⟩
  , ⟨"OTP_ENDORSE", 0xE000C0, [(16, 0x4)], 1, 0, 8, false,
      [⟨31, 0, "SIG", .ro, 16, .none, 0⟩]⟩
  ]

/-- Registers: OTP (1). -/
def regsOtp1 : List RegRow :=
  [ ⟨"OTP_STAGE", 0xE00200, [(16, 0x4)], 1, 0, 8, false,
      [⟨31, 0, "VALUE", .lk, 7, .none, 0⟩]⟩
  , ⟨"OTP_CMD", 0xE00240, [], 1, 0, 8, false,
      [⟨23, 16, "ROW", .lk, 7, .none, 0⟩,
       ⟨7, 0, "OP", .lk, 7, .none, 0⟩]⟩
  , ⟨"OTP_KEYPOL", 0xE00244, [], 1, 0, 8, false,
      [⟨12, 8, "USE", .lk, 7, .none, 0⟩,
       ⟨3, 0, "KIND", .lk, 7, .none, 0⟩]⟩
  , ⟨"OTP_CMD_STATUS", 0xE00248, [], 1, 0, 8, false,
      [⟨31, 31, "BUSY", .lv, 16, .none, 0⟩,
       ⟨24, 24, "IGN", .ro, 16, .none, 0⟩,
       ⟨23, 16, "RESULT", .ro, 16, .none, 0⟩,
       ⟨7, 0, "OP", .ro, 16, .none, 0⟩]⟩
  ]

/-- Registers: table engine (0). -/
def regsTableEngine0 : List RegRow :=
  [ ⟨"CP_TBL_CTRL", 0xF00000, [], 2, 0, 8, false,
      [⟨11, 8, "K", .rw, 16, .none, 0⟩,
       ⟨4, 4, "KEY_CHECK", .cmd, 16, .none, 0⟩,
       ⟨3, 3, "DISARM", .cmd, 16, .none, 0⟩,
       ⟨2, 2, "CLEAR", .cmd, 16, .none, 0⟩,
       ⟨1, 1, "ARM", .cmd, 16, .none, 0⟩,
       ⟨0, 0, "CHECK", .cmd, 16, .none, 0⟩]⟩
  , ⟨"CP_TBL_STATUS", 0xF00004, [], 2, 0, 8, false,
      [⟨16, 16, "KEY_OK", .ro, 16, .none, 0⟩,
       ⟨15, 8, "REASON", .ro, 16, .none, 0⟩,
       ⟨2, 0, "STATE", .ro, 16, .none, 0⟩]⟩
  , ⟨"CP_TBL_EVT", 0xF00008, [], 2, 0, 8, false,
      [⟨31, 24, "SEQ", .seq, 16, .none, 0⟩,
       ⟨6, 0, "EVENTS", .sq, 16, .none, 0⟩]⟩
  , ⟨"CP_TBL_ARMED", 0xF0000C, [], 2, 0, 8, false,
      [⟨13, 0, "ARMED", .ro, 16, .none, 0⟩]⟩
  , ⟨"CP_UPD_SRC", 0xF00010, [], 2, 0, 8, false,
      [⟨31, 30, "LTH_7", .lk, 10, .none, 0⟩,
       ⟨29, 28, "SRC_7", .lk, 10, .none, 0⟩,
       ⟨27, 26, "LTH_6", .lk, 10, .none, 0⟩,
       ⟨25, 24, "SRC_6", .lk, 10, .none, 0⟩,
       ⟨23, 22, "LTH_5", .lk, 10, .none, 0⟩,
       ⟨21, 20, "SRC_5", .lk, 10, .none, 0⟩,
       ⟨19, 18, "LTH_4", .lk, 10, .none, 0⟩,
       ⟨17, 16, "SRC_4", .lk, 10, .none, 0⟩,
       ⟨15, 14, "LTH_3", .lk, 10, .none, 0⟩,
       ⟨13, 12, "SRC_3", .lk, 10, .none, 0⟩,
       ⟨11, 10, "LTH_2", .lk, 10, .none, 0⟩,
       ⟨9, 8, "SRC_2", .lk, 10, .none, 0⟩,
       ⟨7, 6, "LTH_1", .lk, 10, .none, 0⟩,
       ⟨5, 4, "SRC_1", .lk, 10, .none, 0⟩,
       ⟨3, 2, "LTH_0", .lk, 10, .none, 0⟩,
       ⟨1, 0, "SRC_0", .lk, 10, .none, 0⟩]⟩
  , ⟨"CP_UPD_AT_LO", 0xF00014, [], 2, 0, 8, false,
      [⟨31, 0, "AT", .rw, 16, .none, 0⟩]⟩
  , ⟨"CP_UPD_AT_HI", 0xF00018, [], 2, 0, 8, false,
      [⟨31, 0, "AT", .rw, 16, .none, 0⟩]⟩
  , ⟨"CP_UPD_TCTRL", 0xF0001C, [], 2, 0, 8, false,
      [⟨9, 9, "LATE", .ro, 16, .none, 0⟩,
       ⟨8, 8, "ARMED", .ro, 16, .none, 0⟩,
       ⟨1, 1, "DISARM", .cmd, 16, .none, 0⟩,
       ⟨0, 0, "ARM", .cmd, 16, .none, 0⟩]⟩
  , ⟨"CP_TBL_KEY", 0xF00040, [(16, 0x4)], 2, 0, 8, false,
      [⟨31, 0, "KEY", .lk, 7, .keyOk, 0⟩]⟩
  , ⟨"CP_TBL_VER", 0xF00080, [(14, 0x4)], 2, 0, 8, false,
      [⟨31, 0, "VERSION", .ro, 16, .none, 0⟩]⟩
  , ⟨"CP_TBL_BUF", 0xF10000, [(65536, 0x4)], 2, 0, 8, false,
      [⟨31, 0, "DATA", .rw, 16, .none, 0⟩]⟩
  ]

/-- The rows in which a key is to be looked for: those of the block whose address range holds it (Table 22-2). -/
def regRows (k : Nat) : List RegRow :=
  if k < 0x200000 then regsIsl0
  else if k < 0x300000 then regsLnk0 ++ regsLnk1
  else if k < 0x400000 then regsHa0 ++ regsHa1
  else if k < 0x500000 then regsTmm0 ++ regsTmm1 ++ regsTmm2
  else if k < 0x580000 then regsPas0
  else if k < 0x600000 then regsDrc0
  else if k < 0x680000 then regsRcc0 ++ regsRcc1
  else if k < 0x700000 then regsChz0
  else if k < 0x800000 then regsTbu0 ++ regsTbu1 ++ regsTbu2
  else if k < 0x900000 then regsEvs0 ++ regsEvs1 ++ regsEvs2
  else if k < 0x980000 then regsAcq0 ++ regsAcq1
  else if k < 0xA00000 then regsDac0
  else if k < 0xB00000 then regsLth0 ++ regsLth1
  else if k < 0xC00000 then regsCvu0 ++ regsCvu1 ++ regsCvu2
  else if k < 0xD00000 then regsEvc0
  else if k < 0xE00000 then regsFlt0 ++ regsFlt1
  else if k < 0xF00000 then regsOtp0 ++ regsOtp1
  else if k < 0x10000000 then regsTableEngine0
  else regsControlPortWords0 ++ regsControlPortWords1

/-- The array index, per dimension, of the register of a row that lies at offset `d` from its base; none if none does
(R749: only the indices stated belong to an array). -/
def dimIndex : List (Nat × Nat) → Nat → Option (List Nat)
  | [], 0 => some []
  | [], _ + 1 => Option.none
  | (c, st) :: ds, d =>
    if d / st < c then (dimIndex ds (d % st)).map (fun r => d / st :: r) else Option.none

/-- The row that holds key `k` and the array indices there. -/
def findReg : List RegRow → Nat → Option (RegRow × List Nat)
  | [], _ => Option.none
  | r :: t, k =>
    if r.base ≤ k then
      match dimIndex r.dims (k - r.base) with
      | some ix => some (r, ix)
      | Option.none => findReg t k
    else findReg t k

/-- The listed register at key `k` (R746), with its array indices; none for a reserved address. -/
def regAt (k : Nat) : Option (RegRow × List Nat) := findReg (regRows k) k

/-- The island number of Table 2-1 that holds the register (R747). -/
def rowIsland (r : RegRow) (ix : List Nat) : Nat := r.isl + r.islStep * ix.headD 0

/-- The reset word of a row's fields, reserved bits zero (R747). -/
def fieldsReset : List Fld → BitVec 32
  | [] => 0
  | f :: t => setBf (fieldsReset t) f.hi f.lo f.reset

/-- Reset words that differ within an array: EVC_MASK reserved bits (R656), EVC_ROUTE targets (Table 18-6), tenant 0's
descriptor (Table 8-17, R296). -/
def resetWordExtra (k : Nat) : Option (BitVec 32) :=
  if k = Ad.EVC_MASK 0 then some 0xDFFFFFFF
  else if k = Ad.EVC_MASK 2 then some 0x001FFFFF
  else if k = Ad.EVC_MASK 3 then some 0
  else if k = Ad.EVC_MASK 7 then some 0
  else if k = Ad.EVC_ROUTE 24 then some 0x00100000
  else if Ad.EVC_ROUTE 208 ≤ k ∧ k < Ad.EVC_ROUTE 224 then some 0x00100000
  else if k = Ad.DSC_CTRL 0 then some 1
  else if k = Ad.DSC_PLAIN 0 then some 1024
  else if k = Ad.DSC_BIND 0 0 then some 1
  else Option.none

/-- The value of a register after PORST_N (R747), where the field tables give one; a word they do not list reads as 0. -/
def regReset (k : Nat) : BitVec 32 :=
  match resetWordExtra k with
  | some v => v
  | Option.none =>
    match regAt k with
    | some (r, _) => fieldsReset r.fields
    | Option.none => 0

end Sys2Proof.Machine
end

