-- ==== Sys2Proof/Machine/Blocks.lean ====
section
/-!
DEFINITION. Machine/Blocks.lean: everything the spec gives each block, as plain data: one structure per block.
-/
namespace Sys2Proof.Machine

/-! ### Islands, valley depths, reset (chapter 2) -/

/-- Where the device stands with respect to its resets (Table 2-6, R65, R67). -/
inductive Phase
  | porst   -- PORST_N held low, or the supplies absent
  | hold    -- step 1 of Table 2-6, no TCXO found yet (R65)
  | warm    -- WRST_N held low
  | run     -- step 7 of Table 2-6 has completed
deriving DecidableEq, Repr

/-- The point a valley transition has reached (Tables 2-3 and 2-4, R53). -/
inductive VStage
  | idle
  | toDale    -- Open to Dale: links enter LPI, the clocks change
  | waitRc    -- step 3 of Table 2-3
  | drain     -- step 4 of Table 2-3
  | park      -- steps 5 to 8 of Table 2-3
  | gbDrain   -- Glen to Basin: queues drain (R53)
  | waitWfi   -- step 9 of Table 2-3 waits for the WFI
  | exit      -- Table 2-4
deriving DecidableEq, Repr

/-- The valley sequencer, the islands' run state and the PLLs. -/
structure IslSt where
  phase : Phase
  /-- Step 7 of Table 2-6 has completed since the last PORST_N (R67). -/
  porDone : Bool
  /-- One bit per island of Table 2-1: it is clocked. -/
  runs : BitVec 34
  stage : VStage
  /-- The depth the transition in progress is heading for. -/
  goal : Nat
  /-- The depth to enter once the exit to Open has completed: Dale from Glen or Basin (R53). -/
  thenTo : Nat
  /-- The last CP_VALLEY.TARGET write made while BUSY (R72). -/
  keptTarget : Option Nat
  /-- The last exit was a carve-due wake with AUTO_RETURN set (R56). -/
  autoRet : Bool
  /-- Another wake source has set since that exit (R56). -/
  otherWake : Bool
  /-- WRST_N fell while Table 2-6 was incomplete (R67). -/
  warmInPor : Bool
  /-- VBAT fell below its minimum; RTC_LOST sets at the next PORST_N release (R64). -/
  rtcGone : Bool
  /-- Locked PLLs: bit 0 core, bit 1 DRAM, bit 2 + p the PLL of port p (R37, R78). -/
  pll : BitVec 18
  /-- Supplies outside their band, in the order of Table 21-4: VDD_CORE, VDD_IO, VDDA, VBAT (R726, R742, R745). -/
  supplyOut : BitVec 4
  /-- VBAT is valid, and VDD_IO is on: what a latch needs (R58, R64). -/
  vbat : Bool
  vio : Bool
  /-- The exit in progress is the return of an abandoned entry (R49): it raises no valley-exit event. -/
  abandon : Bool
  /-- Strobes held for stopped islands, as (group, island) (R131). -/
  heldStrobes : List (Nat × Nat)
deriving DecidableEq, Repr

/-- The TAP and the unlock logic (R69, R70). -/
structure TapSt where
  ir : Nat
  /-- The valid challenge, 32 bytes. -/
  chal : Option (List Byte)
  /-- STATUS of UNLOCK_RESP: 0 PENDING to 5 REC_FAIL. -/
  status : Nat
  /-- The payload of the DEBUG_UNLOCK record whose carve opens the grant in its first four bytes. -/
  waiting : Option (List Byte)
  /-- The open grant bits; 0 while locked. -/
  grant : Nat
  /-- The data register value last captured for shifting out. -/
  dr : Nat
  /-- STATUS and DATA of the last DBG_ACCESS operation. -/
  accStatus : Nat
  accData : Word
  /-- The operation of DBG_ACCESS that has not completed: OP, ADDR, DATA. -/
  acc : Option (Nat × Nat × Word)
deriving DecidableEq, Repr

/-! ### The control port and the table engine (chapters 3 and 4) -/

/-- A frame on its way (chapter 3): its header, write words and CCRC as received; the word now in turn; the read data so far;
the first code that was not OK with its index (R90); CP_STATUS bits to set; whether DUP_EN held at its CCRC check (R95);
whether CP_CS_N has risen early (R92); whether STALL_MAX was reached (R97); and the IC address that the word in turn was
resolved to when its access started (R104). -/
structure CpFrame where
  opc : Nat
  tag : Nat
  len : Nat
  addr : Nat
  words : List Word
  ccrc : Byte
  idx : Nat
  out : List Word
  code : Nat
  cidx : Nat
  bits : Nat
  dup : Bool
  late : Bool
  expired : Bool
  base : Nat
deriving DecidableEq, Repr

/-- The control port. -/
structure CpSt where
  /-- The last WR frame carried out: all its bytes, and its status byte (R95). -/
  kept : Option (List Byte × Byte)
  /-- The frame in its stall phase, waiting for an access. -/
  frame : Option CpFrame
  /-- The frame whose access is still in progress after STALL_EXPIRED or a late CP_CS_N: CP_LAST.PEND (R92, R97). -/
  pendAcc : Option CpFrame
  /-- The island that the access of `frame` or `pendAcc` is addressed to. -/
  waitIsl : Nat
  /-- CP_LAST still describes the frame of `pendAcc`, and no later WR frame has passed its CCRC check (R94, R95). -/
  pendShown : Bool
  pendWr : Bool
  /-- The response phase of the last frame as the device drove it: data, status byte, RCRC. -/
  resp : List Byte
  /-- The bytes driven on CP_SDO since CP_CS_N last fell, as far as they are fixed (R85, R88); none where the port has driven
  nothing since reset (R83). -/
  sdo : Option (List Byte)
deriving DecidableEq, Repr

/-- One table in an active or armed bank. -/
structure Bank where
  k : Nat
  version : Nat
  body : List Byte
deriving DecidableEq, Repr

/-- The table engine and the update groups. -/
structure TblSt where
  active : List Bank
  armed : List Bank
  /-- A key check is running (R145). -/
  keyBusy : Bool
  /-- CP_UPD_AT as taken by the last ARM (R132); none when no strobe is pending. -/
  updAt : Option Nat
  /-- Staged writes and armed tables that no strobe has taken, as (group, island) (R133). -/
  dirty : List (Nat × Nat)
deriving DecidableEq, Repr

/-! ### Parity (R140 to R143) -/

/-- A word in parity error: its key, which copy (true: staged), and whether it has been reported. -/
structure ParErr where
  key : Nat
  staged : Bool
  reported : Bool
deriving DecidableEq, Repr

/-! ### Faults (chapter 19) -/

/-- A consequence of one block's event in other blocks, kept in order until the command's own effect is complete and then
applied in the same step: a unit taken to its safe state, an escalation (R678: within one TB cycle), a wake source that has
set (R45), an island that has started (R131), a
forward step of legal time (R479), a request flit in Dale (R45), a transition that has ended with a TARGET kept (R72). -/
inductive Effect
  | contain (unit : Nat)   -- bit number: 0 to 28 of FLT_CONTAINED_0, 32 + b for bit b of FLT_CONTAINED_1
  | escalate
  | wake (bit : Nat)
  | started (isl : Nat)
  | jump
  | daleWake               -- a request flit has arrived while settled in Dale (R45)
  | keptTarget             -- a transition has ended: the kept TARGET is acted on (R72)
deriving DecidableEq, Repr

/-- A FAULT record offer that waits (R686). -/
structure FltOffer where
  payload : List Byte
  num : Nat
deriving DecidableEq, Repr

/-- The fault collector. -/
structure FltSt where
  con0 : Word
  con1 : Word
  /-- The class that began the escalation in force (R683). -/
  esc : Option Nat
  last : Nat
  offers : List FltOffer
deriving DecidableEq, Repr

/-! ### The event controller (chapter 18) -/

/-- The event controller: Event messages per port not yet placed in a flit, and MSEQ per agent. -/
structure EvcSt where
  queue : List (Nat × Nat × OutMsg)   -- port, agent, message
  mseq : Store Nat
deriving DecidableEq, Repr

/-! ### The evidence store (chapter 13) -/

/-- One entry of the submit queue, or one whose payload is still being read. -/
structure QEntry where
  idx : Nat
  device : Bool
  tenant : Nat
  typ : Nat
  slot : Nat
  nonce : Nat
  src : Nat
  payload : List Byte
  /-- For FAULT: the log entry number that its acceptance marks RECORDED (R687). -/
  log : Option Nat
deriving DecidableEq, Repr

/-- A receipt (Tables 13-7 and 13-8), with the agent it goes to. -/
structure Rcpt where
  tenant : Nat
  src : Nat
  slot : Nat
  nonce : Nat
  seq : Nat
  status : Nat
  typ : Nat
  chain : List Byte
  time : Nat
deriving DecidableEq, Repr

/-- A held nonce with its final receipt once there is one (R496). -/
structure NonceRec where
  tenant : Nat
  nonce : Nat
  final : Option Rcpt
deriving DecidableEq, Repr

/-- A repeat whose original entry is still queued (R497). -/
structure DupWait where
  tenant : Nat
  nonce : Nat
  slot : Nat
  src : Nat
deriving DecidableEq, Repr

/-- An export in progress (R513), with the areas it took when it started (R493). -/
structure ExportSt where
  reg : Nat
  tenant : Nat
  src : Nat
  base : Nat
  size : Nat
  next : Nat
  upto : Nat
  written : Nat
  last : Nat
  /-- WriteFull requests of the current record not yet answered. -/
  outst : Nat
deriving DecidableEq, Repr

/-- EVS_STATE.STATE. -/
inductive EvsMode | scanning | noGenesis | opened | reserve | full
deriving DecidableEq, Repr

/-- A direct flash access in progress (R526). -/
structure XOp where
  op : Nat
  cs : Nat
  addr : Nat
  len : Nat
deriving DecidableEq, Repr

/-- A device offer held or waiting outside the queue: type, payload, and for FAULT its log entry number. -/
structure Held where
  typ : Nat
  payload : List Byte
  log : Option Nat
deriving DecidableEq, Repr

/-- The evidence store. -/
structure EvsSt where
  mode : EvsMode
  /-- Accepted entries, oldest first (EVS_Q.HEAD names the first). -/
  q : List QEntry
  /-- Submits whose payload lines are being read; they hold a queue entry. -/
  reading : List QEntry
  /-- Nonces of accepted submits, oldest first, and of submits being read (R496, R497). -/
  nonces : List NonceRec
  dups : List DupWait
  /-- Receipt lines written and not yet answered by the home agent, by number; and the next number. -/
  rcpts : List (Nat × Rcpt)
  rid : Nat
  exports : List ExportSt
  /-- EVS_PENDING. -/
  pending : Option Nat
  next : Nat
  prov : Nat
  ack : Nat
  head : List Byte
  /-- The last carved sequence. -/
  lastSeq : Option Nat
  /-- An erase in progress: sector and number of attempts before this one. -/
  erasing : Option (Nat × Nat)
  eraseOff : Bool
  /-- The scan found no whole record in a partition that is not wholly erased (R526). -/
  scanBad : Bool
  xop : Option XOp
  /-- A BOOT offer answered BUSY and kept (R403). -/
  keptBoot : Option (List Byte)
  /-- Device offers held at their blocks in Basin (R503). -/
  held : List Held
  /-- Offers for the head of the queue that found all 64 entries taken (R516, R712, R713). -/
  headWait : List Held
  /-- The high-water mark in AON (R509); none while invalid. -/
  hwm : Option Nat
  /-- The flash has been reset and switched to 8D-8D-8D since the last reset (R711). -/
  flashUp : Bool
deriving DecidableEq, Repr

/-! ### Chisel (chapter 11) -/

/-- A hash context: state 0 IDLE, 1 ACTIVE, 2 FINAL, 3 BROKEN; algorithm; the message hashed so far; the digest. -/
structure HCtx where
  st : Nat
  alg : Nat
  msg : List Byte
  dig : List Byte
deriving DecidableEq, Repr

/-- A GCM context: state 0 IDLE, 1 AAD, 2 DATA, 3 FINAL, 4 BROKEN; key, direction, IV, AAD and ciphertext so far, and the
256-byte output buffer of the last GUPD. -/
structure GCtx where
  st : Nat
  key : List Byte
  dec : Bool
  iv : List Byte
  aad : List Byte
  ct : List Byte
  out : List Byte
deriving DecidableEq, Repr

/-- A key slot: kind 0 EMPTY to 3, USE bits, the 32 key bytes, and whether its check code has failed (R421). -/
structure KeySlot where
  kind : Nat
  use : Nat
  key : List Byte
  broken : Bool
deriving DecidableEq, Repr

/-- The queued CX operations of Table 11-2. -/
inductive CxOp
  | hinit (ctx alg : Nat)
  | hupd (ctx src len : Nat)
  | hfin (ctx dst : Nat)
  | ginit (ctx iv slot : Nat) (dec : Bool)
  | gaad (ctx src len : Nat)
  | gupd (ctx src len : Nat)
  | gout (ctx dst : Nat)
  | gfin (ctx tag : Nat)
  | verify (ctx sig key : Nat)
  | kdf (label src dst use : Nat)
  | sign (ctx dst slot : Nat)
  | kset (src kind slot use : Nat)
  | kclr (slot : Nat)
  | cinc
  | carve (fw : Bool) (typ idx addr : Nat)
deriving DecidableEq, Repr

/-- A queue entry of Chisel: issue number, operation, phase (0 waiting, 1 reading, 2 writing), window lines asked for or
written and not yet answered, the lines read, and the status code found so far. -/
structure CxEnt where
  no : Nat
  op : CxOp
  phase : Nat
  want : List Nat
  lines : List (Nat × Line)
  code : Nat
deriving DecidableEq, Repr

/-- The running CARVE (Table 11-6). -/
structure CarveSt where
  no : Nat
  fw : Bool
  step : Nat
  /-- The queue entry being carved (FW 0). -/
  entry : Option QEntry
  seq : Nat
  time : Nat
  typ : Nat
  /-- Header, payload and CHAIN: the first 192 bytes; all 256 from step 6. -/
  bytes : List Byte
deriving DecidableEq, Repr

/-- Chisel. -/
structure ChzSt where
  h : List HCtx
  g : List GCtx
  slots : List KeySlot
  q : List CxEnt
  nextNo : Nat
  /-- The 16 most recently completed tickets with their status, newest first. -/
  done : List (Nat × Nat)
  carve : Option CarveSt
  /-- A lockstep comparison has failed since reset (R450). -/
  selfFail : Bool
deriving DecidableEq, Repr

/-! ### OTP (chapter 20) -/

/-- A programmed OTP row: its number, its words, whether its check code fails, and for key rows KIND and USE. A row that is
not listed is blank. -/
structure OtpRow where
  row : Nat
  words : List Word
  bad : Bool
  kind : Nat
  use : Nat
deriving DecidableEq, Repr

/-- An OTP command that passed its checks and runs. -/
structure OtpCmd where
  op : Nat
  row : Nat
deriving DecidableEq, Repr

/-- The OTP block. -/
structure OtpSt where
  rows : List OtpRow
  /-- PART was programmed and not bad at the last reset (R705). -/
  partOk : Bool
  cmd : Option OtpCmd
  /-- The monotonic counter and the number of increments made (R422, R423). -/
  ctr : Nat
  incs : Nat
deriving DecidableEq, Repr


/-! ### The timebase and motion (chapter 12) -/

/-- One PPS_IN edge that passed the glitch filter (R455, R456). -/
structure PpsEdge where
  /-- TB cycle count at the edge. -/
  cyc : Nat
  /-- Legal time at the edge in ns, as sampled, before TBU_PPS_COMP is subtracted. -/
  raw : Int
  /-- The compensation subtracted (R455). -/
  comp : Int
  /-- The second it is labelled with, once it is (R459). -/
  label : Option Nat
  /-- The label came in a TimeOfDay message (R458). -/
  byTod : Bool
  accepted : Bool
  /-- `TbSt.moved` at the edge (R456). -/
  moved : Int
  /-- The edge is a candidate whatever preceded it (R480). -/
  cand : Bool
  /-- TBU_PPS_BAD_COUNT has counted that no edge followed it in its window (R487). -/
  bad : Bool
deriving DecidableEq, Repr

/-- PPS_OUT (R467, R468): its level, the cycle of the last rising edge, the width of that pulse in TB cycles, and the last
legal second handled. -/
structure PpsOut where
  high : Bool
  rise : Option Nat
  width : Nat
  sec : Nat
deriving DecidableEq, Repr

/-- The timebase. -/
structure TbSt where
  /-- Legal time in ns and its 32-bit fraction (R451). -/
  time : Nat
  frac : Nat
  /-- Legal time in the last TB cycles, newest first, over the 160 ns that the ST copies may lag (R108, R109). -/
  held : List Nat
  /-- TB cycles counted since PORST_N release. -/
  cyc : Nat
  /-- What the servo, slews and forward steps have moved legal time, in 2^-32 ns (R456). -/
  moved : Int
  /-- The servo's rate correction beyond TBU_FREQ, in 0.1 ppb, and what it still has to remove, in 2^-32 ns (Table 12-2). -/
  servo : Int
  servoLeft : Nat
  /-- A slew down in progress and what it still has to remove, in 2^-32 ns. -/
  slew : Bool
  slewLeft : Nat
  intOsc : Bool
  /-- The last PPS_IN edge taken, and the one before it. -/
  edge : Option PpsEdge
  prev : Option PpsEdge
  /-- The last accepted edge before the last one taken (R456). -/
  accEdge : Option PpsEdge
  /-- The cycle of the last accepted edge. -/
  lastAcc : Option Nat
  ppsLost : Bool
  /-- Consecutive accepted edges that set the bound below LOCKED_NS, saturating at 255. -/
  lock : Nat
  /-- Until the first accepted edge after PORST_N release (Table 12-3, Q4). -/
  resumed : Bool
  /-- The class in force, and the cycle at which a change that an edge causes takes effect (R466). -/
  q : Nat
  qAt : Option Nat
  /-- TBU_BOUND; none while unknown. -/
  bound : Option Nat
  /-- B_0 of R464 or of R484, and the cycle from which t counts. -/
  b0 : Option Nat
  t0 : Nat
  /-- No edge has been accepted since the TB clock came back to the TCXO: the class follows the bound (R485). -/
  back : Bool
  /-- R480: the next edge becomes a candidate. -/
  restart : Bool
  /-- R460: consecutive disagreeing labels with the same difference from the nearest second; and, once confirmed, that
  difference, in force. -/
  todN : Nat
  todD : Int
  todUse : Option Int
  /-- TBU_ALARM as taken by the last ARM, while armed (R479). -/
  alarm : Option Nat
  /-- TIME_STEP payloads waiting to be offered again (R463, R471). -/
  steps : List (List Byte)
  ppsOut : PpsOut
  /-- RTC: the accumulator of 32.768 kHz ticks in units of 1/9375 tick, and the last legal second at which it was set. -/
  rtcAcc : Nat
  rtcSec : Nat
deriving DecidableEq, Repr

/-- One motion input: the recent edges, newest first, as (TB cycle, nm added), and the OVERRATE flag (R472). -/
structure MotIn where
  edges : List (Nat × Nat)
  /-- 2 s have passed without an edge (R473). -/
  stale : Bool
  overrate : Bool
deriving DecidableEq, Repr

/-- Motion. -/
structure MotSt where
  a : MotIn
  b : MotIn
  /-- The 64-bit distance accumulator in nm (R474). -/
  nm : Nat
  /-- SPEED of the last accepted message with SPEED_VALID, and its cycle. -/
  gnss : Nat
  gnssAt : Option Nat
  /-- Consecutive disagreeing and agreeing comparisons, and the DEVIATION state they hold (R477). -/
  bad : Nat
  good : Nat
  dev : Bool
  /-- Consecutive seconds in which the two inputs differed. -/
  ab : Nat
  plaus : Nat
  /-- The cycle from which a MOT_A silence counts when no edge has come yet. -/
  since : Nat
deriving DecidableEq, Repr


/-! ### Attached agents (chapter 5) -/

/-- One attached agent: its ID, port, index within the port's attachment, CACHING, precise slot (R188), and whether an
orderly detach has named it (R242). -/
structure AgentRec where
  id : Nat
  port : Nat
  index : Nat
  caching : Bool
  slot : Option Nat
  detaching : Bool
deriving DecidableEq, Repr

/-! ### The home agent and the snoop filter (chapters 6 and 7) -/

/-- The snoops of Table 6-2, MOP 0x10 to 0x13. -/
inductive SnpKind | shared | invalidate | fetch | peek
deriving DecidableEq, Repr

/-- An answer to a snoop: Ack, Data or DataPoison with the responder's final STATE (0 I, 1 S, 2 E, 3 M, 4 O). -/
inductive SnpAns
  | ack (st : Nat)
  | data (st : Nat) (line : Line)
  | poison (st code : Nat)
deriving DecidableEq, Repr

/-- The directory states of Table 6-6; a line without an entry is in I. -/
inductive DirSt | sh | ex | ow
deriving DecidableEq, Repr

/-- A snoop filter or eviction-buffer entry (Table 6-6). `pa` is the physical line number, `way` the way of its set. -/
structure DirE where
  pa : Nat
  st : DirSt
  owner : Nat
  precise : BitVec 64
  ag0 : Bool
  coarse : BitVec 16
  tenant : Nat
  line : Nat
  way : Nat
deriving DecidableEq, Repr

/-- A request taken by the hub. `n` numbers arrivals; `who` is the engine of agent 0 that asks. -/
structure HReq where
  n : Nat
  port : Nat
  m : ReqMsg
  who : Option Ag0Who
  /-- Marked under R261. -/
  marked : Bool
  /-- It has waited for a tracker and been counted. -/
  waited : Bool
  /-- It headed a DATA flit, and so occupies a DAT credit besides its own (R171). -/
  dat : Bool
  /-- It holds a tracker, but its credit is still withheld at the bound of 64 walks (R303). -/
  owed : Bool
deriving DecidableEq, Repr

/-- Where a tracker's transaction stands. -/
inductive TrkPh
  | walk     -- a page-table walk is in flight
  | page     -- its page is in transition (R307) or stalled by a flip (R325)
  | line     -- in its line's queue
  | active   -- the line's active transaction
  | evb      -- complete but for room in the eviction buffer (R233)
  | resp     -- its response is queued, and not yet placed in a sequenced flit (R212, R213)
  | retry    -- answered Retry, which is not yet placed
  | comp     -- closed but for CompAck (R214)
deriving DecidableEq, Repr

/-- A transaction's DRAM read. -/
inductive RdSt
  | none
  | pend (n : Nat)                     -- the read is channel command n
  | have_ (line : Line) (code : Nat)   -- code 0, or a DataPoison cause of Table 6-5
deriving DecidableEq, Repr

/-- A tracker in use. `join` numbers the FAB cycles in which requests join line queues; `key` is the page waited for. -/
structure Trk where
  id : Nat
  r : HReq
  ph : TrkPh
  key : Nat
  pa : Nat
  join : Nat
  snps : List (Nat × SnpKind × Option SnpAns)
  rd : RdSt
  /-- The read was speculative (R228). -/
  spec : Bool
deriving DecidableEq, Repr

/-- A fabric reservation (R225). -/
structure Resv where
  agent : Nat
  pa : Nat
  rtag : Nat
deriving DecidableEq, Repr

/-- What a sweep is for. -/
inductive SweepKind
  | detach (agents : List Nat)
  | flip (tenant slot : Nat)
  | release (tenant : Nat)
  | unbind (tenant agent : Nat)
  | page (key : Nat)
deriving DecidableEq, Repr

/-- A sweep in progress: its lines still to be snooped, once its drain is over. -/
structure Sweep where
  no : Nat
  kind : SweepKind
  todo : Option (List Nat)
deriving DecidableEq, Repr

/-- A line being back-invalidated: a victim in the eviction buffer, or a line a sweep has reached. `ans` are the agents snooped,
with their answers; `rest` those that the sweep's bound of 64 snoops leaves for later (R243). -/
structure BInv where
  sid : Nat
  e : DirE
  sent : Bool
  ans : List (Nat × Option SnpAns)
  evb : Bool
  sweep : Option Nat
  rest : List Nat
deriving DecidableEq, Repr

/-- An answer to an engine of agent 0. -/
structure Ag0Rsp where
  who : Ag0Who
  kind : RspKind
  code : Nat
  st : Nat
  line : Line
deriving DecidableEq, Repr

/-- The home agent and the snoop filter. -/
structure HaSt where
  wait : List HReq
  trks : List Trk
  resv : List Resv
  /-- RTAG and outcome of each agent's last WriteConditional (R227). -/
  wcs : List (Nat × Nat × Bool)
  sf : List DirE
  /-- The pseudo-LRU tree of each set: bits 1 to 15 are its nodes, 1 where the right half was used longer ago (R232). -/
  plru : Store Nat
  binv : List BInv
  failed : List Nat
  sweeps : List Sweep
  /-- Agents declared unresponsive whose poison sweep has not ended (R245), each with the (tenant, line) pairs poisoned so far. -/
  poison : List (Nat × List (Nat × Nat))
  /-- The port served last (R273): 0 agent 0, p + 1 port p. -/
  last : Nat
  arrivals : Nat
  joins : Nat
  /-- Transfers that engines of agent 0 hold at the bound of 512 descriptors (R367). -/
  ag0Held : List HReq
  ag0 : List Ag0Rsp
deriving DecidableEq, Repr

/-! ### Tenant memory (chapter 8) -/

/-- A page's state (Table 8-3). -/
inductive PgSt | unbacked | blank | resident | folded | imagePending | pinned
deriving DecidableEq, Repr

/-- A DRAM line with its poison mark: 0 none, otherwise the cause with which a read is answered (Table 6-5): 1 STORED, or 2 DRAM_UE
where an unfold's CRC failed (R339). -/
structure DLine where
  data : Line
  mark : Nat
deriving DecidableEq, Repr

/-- A leaf page-table entry. `frame` is PA[36:16] of its frame; `chunk` PA[36:12] of its first chunk; `saved` the folded page's
lines that are not all zero, with their poison marks; `cold` the consecutive fold scans that found ACC clear. -/
structure PageE where
  st : PgSt
  large : Bool
  acc : Bool
  wr : Bool
  ppend : Bool
  /-- The first access to a page with POISON_PEND has been reported (R323). -/
  seen : Bool
  frame : Nat
  pool : Nat
  chunk : Nat
  folds : Nat
  saved : List (Nat × DLine)
  cold : Nat
deriving DecidableEq, Repr

/-- A page in transition. -/
inductive PJobKind | fill | unfold | fetch | fold | drop
deriving DecidableEq, Repr

/-- A page job: the page's key, the frame taken for it once there is one, and, for a fetch, whether it started on demand. -/
structure PJob where
  key : Nat
  kind : PJobKind
  frame : Option Nat
  demand : Bool
  /-- Its leaf group has failed its check: the page fails verification (R321, R323). -/
  leafBad : Bool
deriving DecidableEq, Repr

/-- What an image-source read is for (R318, R321). -/
inductive FWhat
  | manifest (t slot : Nat)
  | level (t slot k : Nat)
  | group (t slot g : Nat)
  | page (key : Nat)
deriving DecidableEq, Repr

/-- An image-source read. `rid` is none while it waits for a fetch job; `old` is the RID of a read that failed, which its repeat does
not take (R320). -/
structure Fetch where
  rid : Option Nat
  what : FWhat
  demand : Bool
  agent : Nat
  object : Nat
  off : Nat
  len : Nat
  got : List (Nat × Line)
  poisoned : Bool
  ack : Option Nat
  tries : Nat
  old : Option Nat
deriving DecidableEq, Repr

/-- What the TMM keeps of a slot's image: the verified tree levels above level 0 (level, hashes), the leaf groups held verified,
and the manifest's offsets. -/
structure SlotX where
  t : Nat
  slot : Nat
  treeOff : Nat
  dataOff : Nat
  npages : Nat
  top : List Byte
  levels : List (Nat × List (List Byte))
  groups : List (Nat × List (List Byte))
deriving DecidableEq, Repr

/-- A TMM command in progress. `i` is the next page for UNMAP and PIN; `wait`: PIN has asked for the page and waits for it. -/
structure TmmCmd where
  op : Nat
  t : Nat
  a0 : Nat
  a1 : Nat
  i : Nat
  wait : Bool
deriving DecidableEq, Repr

/-- A page-table entry that cannot be read (R338): the tenant, the slot whose subtree holds it (none: the table above them), and the
pages that its table or leaf covers. -/
structure BadPt where
  t : Nat
  slot : Option Nat
  first : Nat
  n : Nat
deriving DecidableEq, Repr

/-- The tenant memory manager. -/
structure TmmSt where
  /-- Leaf entries by key: (tenant × 2^22 + page) × 2 + slot, the slot 0 outside image ranges. -/
  pages : Store PageE
  /-- The translation cache: keys, and which hold PINNED pages (R303). -/
  tc : List (Nat × Bool)
  walks : List Nat
  jobs : List PJob
  fetches : List Fetch
  /-- Pages queued for run-ahead or PREFETCH, in order (R322). -/
  ahead : List Nat
  slots : List SlotX
  cmd : Option TmmCmd
  /-- Tenants whose image range a flip stalls. -/
  stall : Option Nat
  /-- UNBIND in progress: tenant and agent whose new requests are refused (R330). -/
  unbinding : Option (Nat × Nat)
  /-- Channels interleaved, taken when EN was written (R343). -/
  nch : Nat
  /-- Pools in which background folding runs (R312). -/
  bg : List Nat
  /-- Page-table entries that cannot be read (R338). -/
  bad : List BadPt
deriving DecidableEq, Repr

/-! ### Passes and DRAM (chapter 9) -/

/-- Whom a DRAM command is charged to (R354): a tenant, or the overhead account. -/
inductive Charge | tenant (t : Nat) | overhead
deriving DecidableEq, Repr

/-- A command in a channel's queues: its number, direction, charge, urgency of its tracker, and, for a read, the tracker. -/
structure DrcCmd where
  n : Nat
  write : Bool
  charge : Charge
  line : Nat
  trk : Option Nat
deriving DecidableEq, Repr

/-- STATE of DRC_STATUS. -/
inductive DrcMode | untrained | training | ready | failed | selfRefresh
deriving DecidableEq, Repr

/-- A DRAM channel. -/
structure DrcCh where
  mode : DrcMode
  /-- BIN and REF_ALL as taken at the last training (R341). -/
  bin : Nat
  refAll : Bool
  ref : Nat
  hot : Bool
  /-- Corrected errors in the open window (R347), and accelerated scrub. -/
  ce : Nat
  accel : Bool
  q : List DrcCmd
  /-- Reads issued and not yet returned. -/
  issued : List DrcCmd
  drain : Bool
  refDue : Nat
  /-- Lines queued for a corrective write (R345). -/
  corr : List Nat
  /-- Lines with a latent error, to be scrubbed (R230, R345). -/
  scrubq : List Nat
  patrol : Nat
  /-- Trainings completed since PORST_N: the channel's contents are undefined after each (R374). -/
  epoch : Nat
  /-- Deficit round robin of order 3: the pass whose turn it is, and each pass's deficit in lines × 65,536; weighted round robin of
  order 5: the tenant whose turn it is (1,024 the overhead account), and the lines left of its turn (R358). -/
  drrAt : Nat
  drr : List (Nat × Nat)
  wrrAt : Nat
  wrr : Nat
  /-- Token buckets: pass (256 the overhead account), level in 1/(1,536 × 65,536) byte, and the TB cycle of its last update. -/
  bkt : List (Nat × Nat × Nat)
deriving DecidableEq, Repr

/-- The pass scheduler. -/
structure PasSt where
  oc : Bool
  hyst : Nat
  shortU : Bool
  cut : Option Nat
  scale : Nat
  /-- Ports whose L passes are cut (R365): port, the rank cut (8: none) and its scale. -/
  linkShort : List (Nat × Nat × Nat)
  /-- Buckets of L passes (R361): pass, level in 1/(1,536 × 65,536) byte, TB cycle of its last update. -/
  lbkt : List (Nat × Nat × Nat)
  n : Nat
deriving DecidableEq, Repr

/-! ### The performance counters (chapter 17) -/

/-- An enabled counter: its number, event, MODE, QALL, QUAL, and whether its level event held at the last FAB cycle seen. -/
structure PcuOn where
  n : Nat
  ev : Nat
  mode : Bool
  qall : Bool
  qual : Nat
  was : Bool
deriving DecidableEq, Repr

/-! ### Seodex links (chapter 5) -/

/-- Port states, Table 5-13, in code order. -/
inductive PortMode
  | disabled | detect | equalize | align | sync | active | lpi | parked | retrain | down
deriving DecidableEq, Repr

/-- A message waiting for a flit: its port, the agent it is for, and the message. -/
structure TxMsg where
  port : Nat
  agent : Nat
  m : OutMsg
deriving DecidableEq, Repr

/-- A sequenced flit in the replay buffer (R176). -/
structure HeldFlit where
  seq : Nat
  data : Bool
  msgs : List (Nat × OutMsg)
deriving DecidableEq, Repr

/-- Control flits the hub sends (Tables 5-9 and 5-10). -/
inductive Ctl
  | nak (expect : Nat)
  | sync (epoch las next : Nat) (seen fresh : Bool) (adv : List Nat)
  | grant (nonce : Nat) (ids : List Nat) (precise : Nat)
  | refuse (nonce reason : Nat)
  | done (nonce mask : Nat)
  | hubReq (nonce mask : Nat)
  | park
  | lpi
  | idle
deriving DecidableEq, Repr

/-- The last flit a port has sent: its header fields, its control payload or its messages. -/
structure FlitOut where
  ftype : Nat
  seq : Nat
  ack : Nat
  nslot : Nat
  cclass : Nat
  cfreed : Nat
  ctl : Option Ctl
  msgs : List (Nat × OutMsg)
deriving DecidableEq, Repr

/-- A granted attach (R185 to R189); `sent`: GRANT has left the port. -/
structure AttachSt where
  nonce : Nat
  ids : List Nat
  precise : Nat
  partner : Nat
  complete : Bool
  sent : Bool
deriving DecidableEq, Repr

/-- An orderly detach under way (R190, R242), with the number of its sweep. -/
structure DetachSt where
  nonce : Nat
  mask : Nat
  agents : List Nat
  sweep : Nat
deriving DecidableEq, Repr

/-- One Seodex port. -/
structure PortSt where
  mode : PortMode
  /-- Lanes in use: 1, 2 or 4 (R163). -/
  width : Nat
  session : Bool
  /-- EPOCH of the session, or of the last one (R184). -/
  epoch : Nat
  next : Nat
  las : Nat
  /-- The last sequence number acknowledged (R177). -/
  acked : Nat
  held : List HeldFlit
  /-- The sequence number at which a replay in progress stands. -/
  replay : Option Nat
  /-- SENT, FREED and ADV of R180, and the messages received, by class. -/
  sent : List Nat
  freedTx : List Nat
  adv : List Nat
  got : List Nat
  /-- Messages freed, by class, modulo 4,096 (R181), and the class to be reported next. -/
  freed : List Nat
  cclass : Nat
  /-- Control flits waiting to be sent, oldest first. -/
  ctl : List Ctl
  /-- EXPECT of the NAK whose NAK_TMR runs (R174); EXPECT of the last NAK and the number sent with it (R183). -/
  nak : Option Nat
  nakFor : Nat
  nakN : Nat
  /-- TB cycles of the uncorrectable codewords of the last 1 ms (R183). -/
  uncorr : List Nat
  /-- An acknowledge is owed (R173, R175). -/
  ackDue : Bool
  /-- A NAK was held back by NAK_TMR; it is sent when the timer has run. -/
  nakHeld : Bool
  /-- A SYNC from the peer has been received since SYNC was entered. -/
  seen : Bool
  /-- In RETRAIN: the lanes have aligned and SYNC flits are exchanged. -/
  rtSync : Bool
  attach : Option AttachSt
  /-- The NONCE and answer of the last ATTACH REQ (R185). -/
  answer : Option (Nat × Ctl)
  /-- HUB_REQs not yet answered, as (NONCE, MASK) (R190, R244). -/
  hubReqs : List (Nat × Nat)
  detach : List DetachSt
  /-- R200: the port goes to DISABLED once its agents are detached. -/
  reconf : Bool
  /-- LPI, or PARK, has been sent and not been answered (R194, R195). -/
  lpiWait : Bool
  parkWait : Bool
  /-- Request credits withheld during a valley entry, by class, in the order they were freed (R241). -/
  withheld : List Nat
  out : Option FlitOut
deriving DecidableEq, Repr

/-- The links. -/
structure LnkSt where
  ports : List PortSt
  agents : List AgentRec
  /-- Released IDs in quarantine, with their port and precise slot (R193). -/
  quar : List (Nat × Nat × Option Nat)
  /-- The last ID granted on any port (R187). -/
  lastId : Nat
  tx : List TxMsg
deriving DecidableEq, Repr

/-! ### The record core (chapter 10) -/

/-- A D-cache line: state 1 S, 2 E, 3 M, 4 O (I is absent), its data, its poison CODE with the bytes written since (R412), and
whether its CleanEvict or DirtyEvict is outstanding (R255). -/
structure RcLine where
  line : Nat
  st : Nat
  data : Line
  poison : Option Nat
  wrote : BitVec 64
  wb : Bool
deriving DecidableEq, Repr

/-- The LR reservation: in TCM or in the fabric, base address and size of its granule. -/
structure RcResv where
  tcm : Bool
  base : Nat
  size : Nat
deriving DecidableEq, Repr

/-- A store buffer entry (R387): a 16-byte block with its byte mask; kind 0 TCM, 1 cacheable, 2 non-cacheable; EWA; and whether
its write has been sent. -/
structure SbEnt where
  id : Nat
  block : Nat
  data : BitVec 128
  mask : BitVec 16
  kind : Nat
  ewa : Bool
  sent : Bool
deriving DecidableEq, Repr

/-- The record core. -/
structure RcSt where
  /-- x0 to x31; x0 reads zero. -/
  x : List Word
  pc : Word
  /-- Machine mode. -/
  mach : Bool
  mstatus : Word
  mie : Word
  mtvec : Word
  mscratch : Word
  mepc : Word
  mcause : Word
  mtval : Word
  mcounteren : Word
  mcountinhibit : Word
  pmpcfg : List Nat
  pmpaddr : List Word
  cycle : Nat
  /-- RC cycles not yet counted, in 24ths. -/
  cycAcc : Nat
  instret : Nat
  /-- Legal time captured by the last read of time (R379). -/
  timeCap : Nat
  sb : List SbEnt
  sbNo : Nat
  /-- The instruction in progress that waits, or the trap that waits for the store buffer. -/
  cur : Option RvOp
  /-- The number of the fabric access that `cur` waits for. -/
  dev : Option Nat
  devNo : Nat
  /-- The store that waits for `dev` is complete once the home agent takes it (R385), as its region said at issue (R386). -/
  devEwa : Bool
  /-- In mode S the load in `cur` overlaps a buffered store, and waits for the whole buffer (R389). -/
  sbWait : Bool
  /-- EWA stores taken into a tracker and not yet answered: number and RC address (R385). -/
  ewaOut : List (Nat × Nat)
  /-- Lines whose ReadShared, ReadUnique or Upgrade is outstanding. -/
  fills : List Nat
  dc : List RcLine
  /-- Lines valid in the I-cache. -/
  ic : List Nat
  resv : Option RcResv
  /-- The granule whose snoops an LR delays, until the next SC or for 64 cycles (R395). -/
  lrHold : Option RcResv
  heldSnp : List (Nat × SnpKind × Nat)
  /-- A DFLUSH runs (R411). -/
  flushing : Bool
  wfi : Bool
  /-- Halted by debug (R70), and stepping one instruction. -/
  halted : Bool
  step1 : Bool
  /-- The boot image being read: 0 none, 1 copy A, 2 copy B, 3 the staging buffer. -/
  boot : Nat
  /-- TCM words in uncorrectable error, by RC address (R413). -/
  tcmErr : List Nat
deriving DecidableEq, Repr

/-! ### Check-value units and performance counters (chapter 17) -/

/-- One target of random tagging (R645, R646): its countdown, and the tagged item in flight with its KIND, the FLAGS known when
it entered, its ID word and legal time at stage 0. -/
structure TagSt where
  cd : Nat
  fly : Option (Nat × Nat × Nat × Nat)
deriving DecidableEq, Repr

/-- The performance counters: those enabled and their 48-bit counts. -/
structure PcuSt where
  on : List PcuOn
  cnt : Store Nat
  /-- Units counted in the window in progress, by monitor (R643, R644). -/
  bw : Store Nat
  /-- Random tagging: home agent, record core; entries written (ESEQ), the next entry, and entries held. -/
  tagHa : TagSt
  tagRc : TagSt
  eseq : Nat
  sbWr : Nat
  sbCount : Nat
deriving DecidableEq, Repr

/-- One check-value channel: its CRC register (none: at INIT, no byte taken), the bytes taken, and a gap to be shown when the
FAB island restarts (R637). -/
structure CvuCh where
  crc : Option Nat
  count : Nat
  gap : Bool
deriving DecidableEq, Repr

/-! ### Acquisition (chapter 14) -/

/-- One slice's part in a started entry: logical slice, channel, samples taken and their sum, whether a conversion runs, the
legal time its sample phase began, and whether the sample in progress, and one so far, is suspect. -/
structure AcqLane where
  sl : Nat
  ch : Nat
  cnt : Nat
  sum : Nat
  live : Bool
  t0 : Nat
  cur : Bool
  bad : Bool
deriving DecidableEq, Repr

/-- A started sequence entry (Table 14-4), with the timestamp of its first sample. -/
structure AcqRun where
  inj : Bool
  kind : Nat
  smp : Nat
  avg : Nat
  shift : Nat
  buf : Nat
  ptol : Nat
  lanes : List AcqLane
  stamp : Option Nat
deriving DecidableEq, Repr

/-- A result on its way to a ring. `fine` is the line-following flag and `tint` the integration time of an IADC result, whose
value is the signed code. -/
structure AcqRec where
  time : Nat
  ch : Nat
  inj : Bool
  bad : Bool
  val : Int
  fine : Bool
  tint : Nat
deriving DecidableEq, Repr

/-- A result ring: its address, size and tenant as taken when EN was set; records written since then; the line being
collected and how many of its bytes have been written out; RD as last read; legal time bits 63 to 40 of the last record;
results lost since the last GAP marker; results that wait for a read of RD; and data writes not yet covered by WR, as
(number, records covered, acknowledged). -/
structure AcqRing where
  base : Nat
  size : Nat
  ten : Nat
  wr : Nat
  line : List Byte
  flushed : Nat
  rd : Nat
  epoch : Option Nat
  lost : Nat
  full : Bool
  wait : List AcqRec
  acks : List (Nat × Nat × Bool)
  shown : Nat
deriving DecidableEq, Repr

/-- A line write that waits for one of the 16 outstanding (R548). -/
structure AcqOut where
  ring : Nat
  wr : Bool
  id : Nat
  ten : Nat
  line : Nat
  full : Bool
  data : Line
  mask : BitVec 64
deriving DecidableEq, Repr

/-- An integration: start, mode (0 timed, 1 20 ms, 2 16.667 ms, 3 line-following), channel, integration time, the Lathe that
asked, suspect so far, and line periods left (none: waiting for the first edge). -/
structure IadcRun where
  t0 : Nat
  mode : Nat
  ch : Nat
  tint : Nat
  lathe : Option Nat
  bad : Bool
  edges : Option Nat
deriving DecidableEq, Repr

/-- The acquisition block. -/
structure AcqSt where
  /-- The sequence table in use by each sequencer, and whether a newer one waits for it (R560). -/
  regTbl : List Byte
  injTbl : List Byte
  regNew : Bool
  injNew : Bool
  regRun : Bool
  regNext : Nat
  /-- A trigger has released the WAIT of the next entry. -/
  regGo : Bool
  regStop : Bool
  /-- A regular trigger of the cycle in which the injected sequence started (R559). -/
  keptReg : Bool
  injRun : Bool
  injNext : Nat
  /-- Entries started and not yet recorded, in start order (R536). -/
  runs : List AcqRun
  rings : List AcqRing
  /-- Line writes outstanding, as (ring, number); those that wait; and the next number. -/
  outst : List (Nat × Nat)
  outq : List AcqOut
  nextId : Nat
  iadc : Option IadcRun
  /-- OWNER in effect (R553). -/
  owner : Nat
  lastEdge : Option Nat
  /-- Consecutive LINE_SYNC periods within range, and line-following lost (R551). -/
  good : Nat
  lineLost : Bool
  /-- Physical slices under calibration, the calibration of R557 in progress, and the triggers kept meanwhile. -/
  cal : List Nat
  boot : Bool
  kept : List (Nat × Bool)
  map : List Nat
  spare : Option Nat
  failed : List Nat
  /-- The next logical slice to swap, a swap that is due, and conversions since the last swap (R554). -/
  swapAt : Nat
  swapDue : Bool
  convs : Nat
  /-- Records held in Glen (R562). -/
  hold : List (Nat × AcqRec)
  /-- The last change of the test DAC, and the inputs it concerns (R558). -/
  tdac : Option (Nat × List Nat)
  /-- The settling time of the selected reference has passed; REFIN is in range (R531, R568). -/
  settled : Bool
  refinOk : Bool
deriving DecidableEq, Repr

/-! ### The DAC (chapter 15) -/

/-- One DAC channel: OWNER and LGRP in effect since its last load (R587), and whether its row copy failed its check (R590). -/
structure DacCh where
  owner : Nat
  lgrp : Nat
  bad : Bool
deriving DecidableEq, Repr

/-- A channel's multi-time row: the word of DAC_MTP_STAGE's layout, whether its check fails, and the programs started. -/
structure DacRow where
  word : Word
  bad : Bool
  count : Nat
deriving DecidableEq, Repr

/-- The DAC. -/
structure DacSt where
  ch : List DacCh
  rows : List DacRow
  /-- A program in progress: channel and staged word (R582). -/
  prog : Option (Nat × Word)
  ilim : List Nat
deriving DecidableEq, Repr

/-! ### The Lathes (chapter 16) -/

/-- A point (Table 16-3). -/
structure Point where
  force : Int
  compl : Nat
  dwell : Nat
  settle : Nat
  range : Nat
  auto : Bool
  upd : Bool
  acq : Bool
  iadc : Bool
  last : Bool
deriving DecidableEq, Repr

/-- What a transition is for: a point's range, an autorange move, or SAFE. -/
inductive TransFor | point | auto | safe
deriving DecidableEq, Repr

/-- A range transition in progress: its target, the step words still to run (first: the step in progress), what it is for. -/
structure Trans where
  dest : Nat
  steps : List Nat
  why : TransFor
deriving DecidableEq, Repr

/-- A Lathe's state (Table 16-13, LTH_STATUS.STATE). -/
inductive LthMode | idle | run | stopping | tripped
deriving DecidableEq, Repr

/-- A line read of a fetched list: its number, line, the place of its first point in fetch order, and its points. -/
structure LthAsk where
  id : Nat
  line : Nat
  seq : Nat
  n : Nat
deriving DecidableEq, Repr

/-- A point's running result: conversions' sum, number, suspect flag, and the flags of Table 16-4. -/
structure LthRes where
  sum : Int
  num : Nat
  bad : Bool
  auto : Bool
  hunt : Bool
  beyond : Bool
  under : Bool
  compl : Bool
  moves : Nat
deriving DecidableEq, Repr

/-- A point whose dwell has ended and whose result waits for conversions held before that end (R603): its index, dwell start, measure
window, channel, range, calibration curve, result, whether it is its pass's last, and whether the run goes on. -/
structure LthLate where
  idx : Nat
  t0 : Nat
  m0 : Nat
  upto : Nat
  ch : Nat
  range : Nat
  curve : List (Int × Int)
  res : LthRes
  last : Bool
  goes : Bool
deriving DecidableEq, Repr

/-- A Lathe. -/
structure LthSt where
  mode : LthMode
  /-- List index of the point in progress, and passes done. -/
  idx : Nat
  pass : Nat
  point : Option Point
  /-- Dwell start has been reached, at legal time t0; the measure window is open since m0. -/
  begun : Bool
  t0 : Nat
  meas : Bool
  m0 : Nat
  res : LthRes
  /-- An integration has been started for the point; its calibrated result and suspect flag. -/
  iadcDue : Bool
  iadcVal : Option (Int × Bool)
  /-- The dwell's end has come and waits for the IADC result or a missing point. -/
  ended : Bool
  range : Nat
  pattern : Nat
  trans : Option Trans
  /-- An abort waits for its step's HOLD before the transition to SAFE (R617); CLEAR has been written meanwhile (R618). -/
  toSafe : Bool
  clr : Bool
  /-- COMPL of the codes last loaded, for the digital path (R615). -/
  guard : Option Nat
  /-- Tables in use; newer ones that wait for the dwell end (R612). -/
  tblR : Option (List Byte)
  tblC : Option (List Byte)
  newR : Bool
  newC : Bool
  /-- Fetched lists (R602): points held, by place in fetch order; line reads outstanding; the next line, place and read number;
  the pass being fetched; no more lines to fetch; the place of the next point. -/
  held : List (Nat × List Byte)
  asked : List LthAsk
  nextLine : Nat
  seq : Nat
  askId : Nat
  fetchPass : Nat
  fetchEnd : Bool
  want : Nat
  /-- The point before, while its result waits (R603). -/
  late : Option LthLate
  /-- Results of the line being collected; result writes not yet answered; PASS waits for them (R604). -/
  out : List (Nat × List Byte)
  resOut : Nat
  passDue : Bool
  /-- List RAM words in error: word index, and whether uncorrectable (R627). -/
  ramErr : List (Nat × Bool)
  /-- Losses of the main supplies, and the words of the list RAM written since the last of them. -/
  ramLoss : Nat
  ramSet : List Nat
deriving DecidableEq, Repr


end Sys2Proof.Machine
end

