-- ==== Sys2Proof/Machine/BlockReset.lean ====
section
/-!
DEFINITION. Machine/BlockReset.lean: each block after a reset (Table 2-7).
-/
namespace Sys2Proof.Machine

/-- Every island of the DV1024-G2A clocked. -/
def allIslands : BitVec 34 := 0x3FFFFFFFF

/-- The islands at step 7 of Table 2-6. (DESIGN CHOICE, log 1.) -/
def islFresh (runs : BitVec 34) (pll : BitVec 18) : IslSt :=
  { phase := .run, porDone := true, runs := runs, stage := .idle, goal := 0, thenTo := 0, keptTarget := none, autoRet := false,
    otherWake := false, warmInPor := false, rtcGone := false, pll := pll, supplyOut := 0, vbat := true, vio := true, abandon := false,
    heldStrobes := [] }

/-- The TAP after TRST_N: IDCODE selected. STATUS reads 0 PENDING until a first unlock attempt; the spec gives it no value
before one. (DESIGN CHOICE, log 55.) -/
def tapFresh : TapSt :=
  { ir := 1, chal := none, status := 0, waiting := none, grant := 0, dr := 0, accStatus := 0, accData := 0, acc := none }

/-- The control port idle. -/
def cpFresh : CpSt :=
  { kept := none, frame := none, pendAcc := none, waitIsl := 2, pendShown := false, pendWr := false, resp := [], sdo := none }

/-- No table active or armed (R152). -/
def tblFresh : TblSt := { active := [], armed := [], keyBusy := false, updAt := none, dirty := [] }

/-- The fault collector cleared. -/
def fltFresh : FltSt := { con0 := 0, con1 := 0, esc := none, last := 0, offers := [] }

/-- No Event waits, and no agent has been sent one. -/
def evcFresh : EvcSt := { queue := [], mseq := [] }

/-- The EVS island reset: the scan begins, unless there is no partition (R515, R704). -/
def evsResetSt (hwm : Option Nat) (part : Bool) : EvsSt :=
  { mode := if part then .scanning else .noGenesis, q := [], reading := [], nonces := [], dups := [], rcpts := [], rid := 0,
    exports := [], pending := none, next := 0, prov := 2 ^ 48 - 1, ack := 2 ^ 48, head := List.replicate 32 0, lastSeq := none,
    erasing := none, eraseOff := false, scanBad := false, xop := none, keptBoot := none, held := [], headWait := [],
    hwm := hwm, flashUp := false }

/-- Chisel with its contexts cleared, with these key slots. -/
def chzFresh (slots : List KeySlot) : ChzSt :=
  { h := List.replicate 4 ⟨0, 0, [], []⟩, g := List.replicate 2 ⟨0, [], false, [], [], [], []⟩, slots := slots, q := [],
    nextNo := 0, done := [], carve := none, selfFail := false }

/-- The key slots of a blank device; slot 1 holds its USE (Table 11-1). (DESIGN CHOICE, log 1.) -/
def slotsBlank : List KeySlot := (List.range 16).map (fun n => ⟨0, if n = 1 then 2 else 0, [], false⟩)

/-- OTP rows as this device leaves the maker: DEVICE_ID, and VARIANT, whose word is that of the device (`variantWord`). (DESIGN CHOICE, log 1.) -/
def otpFresh : OtpSt :=
  { rows := [⟨0, [0x2C085E11, 0x4D420317], false, 0, 0⟩, ⟨1, [], false, 0, 0⟩], partOk := false, cmd := none, ctr := 0,
    incs := 0 }

/-- Motion cleared: counters zero (Table 2-7). -/
def motReset : MotSt :=
  ⟨⟨[], false, false⟩, ⟨[], false, false⟩, 0, 0, none, 0, 0, false, 0, 1, 0⟩

/-- The timebase at step 2 of Table 2-6, legal time resumed at `time`: Q4, or Q3 where the RTC was lost.
(DESIGN CHOICE, log 1; DEDUCED, log 47.) -/
def tbStart (time : Nat) (rtcLost : Bool) (rtcAcc : Nat) : TbSt :=
  { time := time, frac := 0, held := [], cyc := 0, moved := 0, servo := 0, servoLeft := 0, slew := false, slewLeft := 0,
    intOsc := false, edge := none, prev := none, accEdge := none, lastAcc := none, ppsLost := true, lock := 0, resumed := !rtcLost,
    q := if rtcLost then 3 else 4, qAt := none, bound := none, b0 := none, t0 := 0, back := false, restart := false, todN := 0, todD := 0,
    todUse := none, alarm := none, steps := [], ppsOut := ⟨false, none, 0, time / 1000000000⟩,
    rtcAcc := rtcAcc, rtcSec := time / 1000000000 }

/-- A port in a state with no session, at a width, after an epoch. -/
def portFresh (mode : PortMode) (width epoch : Nat) : PortSt :=
  { mode := mode, width := width, session := false, epoch := epoch, next := 0, las := 0xFFF, acked := 0xFFF, held := [],
    replay := none, sent := List.replicate 6 0, freedTx := List.replicate 6 0, adv := List.replicate 6 0,
    got := List.replicate 6 0, freed := List.replicate 6 0, cclass := 0, ctl := [], nak := none, nakFor := 0x1000, nakN := 0,
    uncorr := [], ackDue := false, nakHeld := false, seen := false, rtSync := false, attach := none, answer := none,
    hubReqs := [], detach := [], reconf := false, lpiWait := false, parkWait := false, withheld := [], out := none }

/-- The links: every port in DETECT at width 2, no agent IDs assigned. -/
def lnkFresh : LnkSt :=
  { ports := List.replicate 16 (portFresh .detect 2 0), agents := [], quar := [], lastId := 0, tx := [] }

/-- The home agent and snoop filter empty. -/
def haFresh : HaSt :=
  { wait := [], trks := [], resv := [], wcs := [], sf := [], plru := [], binv := [], failed := [], sweeps := [], poison := [], last := 0,
    arrivals := 0, joins := 0, ag0Held := [], ag0 := [] }

/-- The TMM with no page table yet (R337). -/
def tmmFresh : TmmSt :=
  { pages := [], tc := [], walks := [], jobs := [], fetches := [], ahead := [], slots := [], cmd := none, stall := none,
    unbinding := none, nch := 0, bg := [], bad := [] }

/-- An untrained channel. -/
def drcOff : DrcCh :=
  { mode := .untrained, bin := 2, refAll := false, ref := 0, hot := false, ce := 0, accel := false, q := [], issued := [],
    drain := false, refDue := 0, corr := [], scrubq := [], patrol := 0, epoch := 0, drrAt := 0, drr := [], wrrAt := 0, wrr := 0, bkt := [] }

/-- No passes. -/
def pasFresh : PasSt :=
  { oc := false, hyst := 0, shortU := false, cut := none, scale := 0, linkShort := [], lbkt := [], n := 0 }

/-- The record core at its reset: it starts at RC:0x0000_0000 in machine mode. (DESIGN CHOICE, log 13.) -/
def rcFresh : RcSt :=
  { x := List.replicate 32 0, pc := 0, mach := true, mstatus := 0, mie := 0, mtvec := 0x80, mscratch := 0, mepc := 0, mcause := 0,
    mtval := 0, mcounteren := 0, mcountinhibit := 0, pmpcfg := List.replicate 16 0, pmpaddr := List.replicate 16 0, cycle := 0,
    cycAcc := 0, instret := 0, timeCap := 0, sb := [], sbNo := 0, cur := none, dev := none, devNo := 0, ewaOut := [], fills := [],
    devEwa := false, sbWait := false, dc := [], ic := [], resv := none, lrHold := none, heldSnp := [], flushing := false, wfi := false, halted := false, step1 := false,
    boot := 0, tcmErr := [] }

/-- The performance counters cleared. -/
def pcuFresh : PcuSt :=
  { on := [], cnt := [], bw := [], tagHa := ⟨0, none⟩, tagRc := ⟨0, none⟩, eseq := 0, sbWr := 0, sbCount := 0 }

/-- The check-value channels cleared. -/
def cvuFresh : List CvuCh := List.replicate 8 ⟨none, 0, false⟩

/-- A ring that has never been enabled. -/
def ringFresh : AcqRing := ⟨0, 1, 0, 0, [], 0, 0, none, 0, false, [], [], 0⟩

/-- The acquisition block after a reset: sequences empty, the calibration of R557 due. -/
def acqFresh (refinOk : Bool) : AcqSt :=
  { regTbl := [], injTbl := [], regNew := false, injNew := false, regRun := false, regNext := 0, regGo := false, regStop := false,
    keptReg := false, injRun := false, injNext := 0, runs := [], rings := List.replicate 9 ringFresh, outst := [], outq := [],
    nextId := 0, iadc := none, owner := 0, lastEdge := none, good := 0, lineLost := false, cal := List.range 5, boot := true,
    kept := [], map := [0, 1, 2, 3], spare := some 4, failed := [], swapAt := 0, swapDue := false, convs := 0, hold := [],
    tdac := none, settled := false, refinOk := refinOk }

/-- The DAC of a device whose rows have never been programmed. -/
def dacFresh : DacSt :=
  { ch := List.replicate 16 ⟨0, 0, false⟩, rows := List.replicate 16 ⟨0, false, 0⟩, prog := none, ilim := [] }

/-- A point's result with nothing in it yet. -/
def noRes : LthRes := ⟨0, 0, false, false, false, false, false, false, 0⟩

/-- A Lathe after reset. -/
def lthFresh : LthSt :=
  { mode := .idle, idx := 0, pass := 0, point := none, begun := false, t0 := 0, meas := false, m0 := 0, res := noRes,
    iadcDue := false, iadcVal := none, ended := false, range := 0, pattern := 0, trans := none, toSafe := false, clr := false,
    guard := none, tblR := none, tblC := none, newR := false, newC := false, held := [], asked := [], nextLine := 0, seq := 0,
    askId := 0, fetchPass := 0, fetchEnd := true, want := 0, late := none, out := [], resOut := 0, passDue := false, ramErr := [],
    ramLoss := 0, ramSet := [] }

/-- A Lathe after a reset, which does not clear its list RAM. -/
def lthReset (l : LthSt) : LthSt := { lthFresh with ramErr := l.ramErr, ramLoss := l.ramLoss, ramSet := l.ramSet }

end Sys2Proof.Machine
end

