-- ==== Sys2Proof/Machine/State.lean ====
section
/-!
DEFINITION. Machine/State.lean: the machine's whole state, one field per block, the register files as sparse stores, the
memories, and the queue of waiting commands; the faults and refusals; and the machine after reset.
-/
namespace Sys2Proof.Machine

/-- The machine's whole state. -/
structure State where
  /-- Current values of registers, by key; staged copies of SH words (R121). -/
  regs : Store Word
  staged : Store Word
  parErr : List ParErr
  isl : IslSt
  tap : TapSt
  cp : CpSt
  tbl : TblSt
  flt : FltSt
  evc : EvcSt
  evs : EvsSt
  chz : ChzSt
  otp : OtpSt
  tb : TbSt
  mot : MotSt
  lnk : LnkSt
  ha : HaSt
  tmm : TmmSt
  drc : List DrcCh
  pas : PasSt
  rc : RcSt
  pcu : PcuSt
  cvu : List CvuCh
  acq : AcqSt
  dac : DacSt
  lth : List LthSt
  /-- Flash bytes by chip select × 2^32 + address; unlisted bytes are erased, 0xFF. -/
  flash : List (Nat × Byte)
  /-- DRAM lines by physical line number. -/
  dram : Store DLine
  /-- TCM bytes by RC address. -/
  tcm : List (Nat × Byte)
  /-- Consequences of the running command not yet applied. -/
  effects : List Effect
  /-- The model's own counter of free values. -/
  free : Nat
  /-- 0x0A for the DV1024-G2A, 0x0B for the DV1024-G2B (Table 0-7). -/
  variant : Nat
  /-- Commands waiting, first in, first out. -/
  pending : List Instr
deriving DecidableEq, Repr

/-- Why the machine stops. Every command of the spec has an effect, so no command of this block stops it. -/
inductive Fault
  /-- Raised by no command; safe. -/
  | none
deriving DecidableEq, Repr

/-- Why the model does not run a command. -/
inductive Refusal
  /-- Raised by a command that has no meaning yet; safe. No command is left without one. -/
  | notModelled (mnemonic : String)
deriving DecidableEq, Repr

/-- The machine right after reset: step 7 of Table 2-6 on a DV1024-G2A whose OTP holds DEVICE_ID and VARIANT and is otherwise
blank, whose flash is erased and whose AON island has just been supplied; every register at the reset value of its field table
(R747), but for those that OTP loads and for RCC_BOOT_STATUS, where the boot ROM has reached WAIT_PROVISION (R402).
(DESIGN CHOICE, log 1; DEDUCED, log 47.) -/
def State.reset : State :=
  { regs := [(Ad.RCC_BOOT_STATUS, 2), (Ad.OTP_DEVICE_ID_LO, 0x2C085E11), (Ad.OTP_DEVICE_ID_HI, 0x4D420317),
      (Ad.OTP_VARIANT, 0x000F070A)],
    staged := [], parErr := [], isl := islFresh allIslands (-1), tap := tapFresh, cp := cpFresh, tbl := tblFresh, flt := fltFresh,
    evc := evcFresh, evs := evsResetSt none false, chz := chzFresh slotsBlank, otp := otpFresh, tb := tbStart 0 false 0,
    mot := motReset, lnk := lnkFresh, ha := haFresh, tmm := tmmFresh, drc := List.replicate 8 drcOff, pas := pasFresh,
    rc := { rcFresh with wfi := true }, pcu := pcuFresh, cvu := cvuFresh, acq := acqFresh true, dac := dacFresh,
    lth := List.replicate 4 lthFresh, flash := [], dram := [], tcm := [], effects := [], free := 0, variant := 0x0A, pending := [] }

/-- The same moment on a DV1024-G2B (Table 0-7, R17): OTP_VARIANT tells it apart, islands 9 to 12 and 21 to 28 are absent, and the
masks of the sources it does not have read 0 (R656). -/
def State.resetG2B : State :=
  { State.reset with
    regs := [(Ad.RCC_BOOT_STATUS, 2), (Ad.EVC_MASK 1, 0xF0FF0FFF), (Ad.OTP_DEVICE_ID_LO, 0x2C085E11),
      (Ad.OTP_DEVICE_ID_HI, 0x4D420317), (Ad.OTP_VARIANT, 0x0007030B)]
    isl := islFresh 0x3E01FE1FF (-1)
    variant := 0x0B }


end Sys2Proof.Machine
end

