-- ==== Sys2Proof/Machine/Ops.lean ====
section
/-!
DEFINITION. Machine/Ops.lean: the named operations every block uses: registers and their fields, sequence-cleared event
bits (R125), the event controller's sources (R656 to R666), device offers to the evidence store (R500 to R503), wake
latches (R58, R59) and the raising of faults (R677 to R687, R753).
-/
namespace Sys2Proof.Machine

/-! ### Registers -/

/-- The current (active) value of a register. -/
def State.reg (s : State) (k : Nat) : Word := stGet regReset s.regs k

/-- A register's current value replaced. -/
def State.setReg (s : State) (k : Nat) (v : Word) : State := { s with regs := stSet regReset s.regs k v }

/-- The staged copy of an SH word (R121). -/
def State.stg (s : State) (k : Nat) : Word := stGet regReset s.staged k

/-- The staged copy of an SH word replaced. -/
def State.setStg (s : State) (k : Nat) (v : Word) : State := { s with staged := stSet regReset s.staged k v }

/-- Bits hi to lo of a register's current value. -/
def State.fld (s : State) (k hi lo : Nat) : Nat := bf (s.reg k) hi lo

/-- Bits hi to lo of a register replaced. -/
def State.setFld (s : State) (k hi lo v : Nat) : State := s.setReg k (setBf (s.reg k) hi lo v)

/-- A counter register one higher, saturating at 0xFFFF_FFFF. -/
def State.inc (s : State) (k : Nat) : State :=
  if (s.reg k).toNat = 0xFFFFFFFF then s else s.setReg k (s.reg k + 1)

/-- A counter register raised by n, saturating. -/
def State.incBy (s : State) (k n : Nat) : State :=
  s.setReg k (w32 (if (s.reg k).toNat + n ≤ 0xFFFFFFFF then (s.reg k).toNat + n else 0xFFFFFFFF))

/-- A fresh number for the next free value (a value the spec leaves open). (DESIGN CHOICE, log 8, 49.) -/
def State.fresh (s : State) : State := { s with free := s.free + 1 }

/-! ### Islands and phases -/

/-- An island is clocked. -/
def State.running (s : State) (isl : Nat) : Bool := s.isl.runs.getLsbD isl

/-- The current valley depth (CP_VALLEY.CURRENT). -/
def State.depth (s : State) : Nat := s.fld Ad.CP_VALLEY 5 4

/-- Legal time in ns. -/
def State.now (s : State) : Nat := s.tb.time

/-- An effect to be applied once the command's own effect is complete. -/
def State.later (s : State) (e : Effect) : State := { s with effects := s.effects ++ [e] }

/-- An on-demand island starts (R39). -/
def startIsl (s : State) (isl : Nat) : State :=
  if s.running isl then s
  else ({ s with isl := { s.isl with runs := s.isl.runs ||| (1#34 <<< isl) } }).later (.started isl)

/-! ### Agents and bindings -/

/-- The attached agent with an ID. -/
def findAgent (s : State) (a : Nat) : Option AgentRec := s.lnk.agents.find? (fun r => r.id == a)

/-- Bit for the agent in the tenant's DSC_BIND words (R296). -/
def bindBit (s : State) (t a : Nat) : Bool := bit (s.reg (Ad.DSC_BIND t (a / 32))) (a % 32)

/-- The agent has been declared unresponsive (HA_UNRESP). -/
def unresp (s : State) (a : Nat) : Bool := bit (s.reg (Ad.HA_UNRESP (a / 32))) (a % 32)

/-! ### Event sources (R656 to R666) -/

/-- The event source a register feeds (Table 18-1). -/
def evtSource (k : Nat) : Option Nat :=
  if k = Ad.CP_TBL_EVT then some 28
  else if k = Ad.FLT_LOCKVIOL then some 31
  else if Ad.LNK_EVT 0 ≤ k ∧ k ≤ Ad.LNK_EVT 15 then some (32 + (k - Ad.LNK_EVT 0) / 0x10000)
  else if k = Ad.HA_EVT then some 48
  else if k = Ad.SF_EVT then some 49
  else if k = Ad.TMM_EVT then some 50
  else if k = Ad.PAS_EVT then some 51
  else if Ad.DRC_EVT 0 ≤ k ∧ k ≤ Ad.DRC_EVT 7 then some (52 + (k - Ad.DRC_EVT 0) / 0x1000)
  else if k = Ad.RCC_BUSERR then some 60
  else if k = Ad.CHZ_EVT then some 61
  else if k = Ad.TBU_EVT then some 62
  else if k = Ad.MOT_EVT then some 63
  else if k = Ad.EVS_EVT then some 64
  else if k = Ad.ACQ_EVT then some 65
  else if k = Ad.DAC_EVT then some 66
  else if Ad.LTH_EVT 0 ≤ k ∧ k ≤ Ad.LTH_EVT 3 then some (67 + (k - Ad.LTH_EVT 0) / 0x40000)
  else if k = Ad.CVU_EVT then some 71
  else if k = Ad.PCU_EVT then some 72
  else if k = Ad.PCU_OVF 0 then some 73
  else if k = Ad.PCU_OVF 1 then some 74
  else if k = Ad.EVC_EVT then some 75
  else none

/-- The DV1024-G2B variant (Table 0-7). -/
def isG2B (s : State) : Bool := s.variant == 0x0B

/-- The number of Seodex ports of the variant. (DEDUCED, log 24.) -/
def nPorts (s : State) : Nat := if isG2B s then 8 else 16

/-- The number of DRAM channels of the variant. (DEDUCED, log 24.) -/
def nChans (s : State) : Nat := if isG2B s then 4 else 8

/-- A source marked reserved in Table 18-1, or reserved on the variant. (DEDUCED, log 24.) -/
def evcReserved (s : State) (src : Nat) : Bool :=
  src == 29 || (decide (85 ≤ src) && decide (src ≤ 127)) || decide (224 ≤ src) ||
    (isG2B s && ((decide (44 ≤ src) && decide (src ≤ 47)) || (decide (56 ≤ src) && decide (src ≤ 59))))

/-- The level sources of Table 18-1. -/
def evcLevel (src : Nat) : Bool := decide (src ≤ 23) || src == 27 || src == 30

/-- Agents that receive an Event for a tenant: attached, bound, not declared unresponsive (R664). -/
def evcAgents (s : State) (tenant : Nat) : List AgentRec :=
  s.lnk.agents.filter (fun r => bindBit s tenant r.id && !unresp s r.id)

/-- One bit of a register set. -/
def State.setRegBit (s : State) (k b : Nat) : State := s.setReg k (s.reg k ||| w32 (2 ^ b))

/-- A pending bit set by hardware, with its mask bit under AUTO_MASK (R657, R661); no message. -/
def evcPend (s : State) (src : Nat) : State :=
  let s1 := s.setRegBit (Ad.EVC_PEND (src / 32)) (src % 32)
  if bit (s.reg (Ad.EVC_ROUTE src)) 31 then s1.setRegBit (Ad.EVC_MASK (src / 32)) (src % 32) else s1

/-- Event bits of an SQ register set: the bits, and SEQ one higher modulo 256 (R125). -/
def sqBits (s : State) (k bits : Nat) : State :=
  s.setReg k (setBf (s.reg k ||| w32 bits) 31 24 (bf (s.reg k) 31 24 + 1))

/-- EVC_EVT.MSG_DROP, the count, and the pending bit of source 75 (R665). -/
def evcDropped (s : State) : State := evcPend (sqBits (s.inc Ad.EVC_MSG_DROP_COUNT) Ad.EVC_EVT 1) 75

/-- One Event queued for one agent, or dropped at a full port queue with its MSEQ consumed (R664, R665). -/
def evcQueueOne (drop : State → State) (tenant kind src info : Nat) (s : State) (r : AgentRec) : State :=
  let n := (stGet (fun _ => 0) s.evc.mseq r.id + 1) % 256
  let s1 := { s with evc := { s.evc with mseq := stSet (fun _ => 0) s.evc.mseq r.id n } }
  if (s.evc.queue.filter (fun e => e.1 == r.port)).length < 16 then
    { s1 with evc := { s1.evc with
        queue := s1.evc.queue ++ [(r.port, r.id, .event tenant kind src n info ((s.now >>> 8) % 2 ^ 32))] } }
  else drop s1

/-- One Event queued for every agent of a list. -/
def evcQueueWith (drop : State → State) (tenant kind src info : Nat) (l : List AgentRec) (s : State) : State :=
  l.foldl (evcQueueOne drop tenant kind src info) s

/-- The Events of source 75 after a drop, while its MSG_EN is 1; their own drops are counted and raise no further Events.
(DESIGN CHOICE, log 70.) -/
def evcDropTold (s : State) : State :=
  let s1 := evcDropped s
  if bit (s1.reg (Ad.EVC_ROUTE 75)) 16 then
    let t := bf (s1.reg (Ad.EVC_ROUTE 75)) 9 0
    evcQueueWith evcDropped t 0 75 (s1.reg Ad.EVC_EVT).toNat (evcAgents s1 t) s1
  else s1

/-- One Event queued for every agent of a list, with what its drops set off. -/
def evcQueueAll (tenant kind src info : Nat) (l : List AgentRec) (s : State) : State :=
  evcQueueWith evcDropTold tenant kind src info l s

/-- A hardware set of a source's pending bit, with its Event messages while MSG_EN is 1 (R657, R661, R664). -/
def evcSet (s : State) (src info : Nat) : State :=
  if evcReserved s src then s
  else
    let s1 := evcPend s src
    if bit (s.reg (Ad.EVC_ROUTE src)) 16 then
      let t := bf (s.reg (Ad.EVC_ROUTE src)) 9 0
      evcQueueAll t 0 src info (evcAgents s t) s1
    else s1

/-- Events of one cycle of a register: its bits set, SEQ advanced, its source set (R125, R657). -/
def sqEvt (s : State) (k bits : Nat) : State :=
  let s1 := sqBits s k bits
  match evtSource k with
  | some src => evcSet s1 src (s1.reg k).toNat
  | none => s1

/-! ### Performance-counter events -/

/-- A counter n higher by k, modulo 2^48; the wrap sets its bit of PCU_OVF (R641). (DESIGN CHOICE, log 37.) -/
def pcuAdd (s : State) (n k : Nat) : State :=
  let c := stGet (fun _ => 0) s.pcu.cnt n + k
  let s1 := { s with pcu := { s.pcu with cnt := stSet (fun _ => 0) s.pcu.cnt n (c % 2 ^ 48) } }
  if c < 2 ^ 48 then s1 else sqEvt s1 (Ad.PCU_OVF (n / 16)) (2 ^ (n % 16))

/-- The qualifier a counter compares for an event: low bits for ports, channels and the like, an agent or a tenant. -/
def pcuQual (ev q : Nat) : Nat :=
  if ev < 0x10 then q % 16
  else if ev = 0x15 ∨ ev = 0x16 ∨ ev = 0x17 ∨ (0x28 ≤ ev ∧ ev < 0x30) ∨ ev = 0x3E then q % 1024
  else if 0x10 ≤ ev ∧ ev ≤ 0x1A then q % 256
  else if (0x38 ≤ ev ∧ ev ≤ 0x3C) ∨ ev = 0x79 then q % 8
  else if ev = 0x6B ∨ ev = 0x6C then q % 4
  else q

/-- The events of Table 17-3 that take a qualifier. -/
def pcuHasQual (ev : Nat) : Bool :=
  decide (ev < 0x10) || decide (0x10 ≤ ev ∧ ev ≤ 0x1A) || decide (0x28 ≤ ev ∧ ev < 0x30) || decide (0x38 ≤ ev ∧ ev ≤ 0x3C) ||
    ev == 0x3E || ev == 0x6B || ev == 0x6C || ev == 0x79

/-- The counter counts the event for a qualifier. -/
def pcuTakes (c : PcuOn) (ev q : Nat) : Bool :=
  c.ev == ev && (c.qall || !pcuHasQual ev || pcuQual ev c.qual == pcuQual ev q)

/-- A pulse event that occurs `k` times (R638); nothing is counted while the FAB island is stopped (R639). (DESIGN CHOICE, log 37.) -/
def pcu (ev q k : Nat) (s : State) : State :=
  if k = 0 ∨ !s.running 3 then s
  else s.pcu.on.foldl (fun s c => if pcuTakes c ev q then pcuAdd s c.n (if c.mode then 1 else k) else s) s

/-! ### Wake latches (R58, R59) -/

/-- Pin edges are latched: VDD_IO is on and in range (R58, R742). -/
def pinsOk (s : State) : Bool := s.isl.vio && !s.isl.supplyOut.getLsbD 1

/-- A latch source sets: its latch, or the overflow bit when already set; the LATCH and LATCH_OVF level sources; and the
wake that it may cause (R45, R79). Nothing latches while VBAT is not valid (R58). (DEDUCED, log 30.) -/
def setLatch (s : State) (b : Nat) : State :=
  if !s.isl.vbat then s
  else if bit (s.reg Ad.ISL_LATCH) b then
    let had := decide (bf (s.reg Ad.ISL_LATCH_OVF) 23 0 ≠ 0)
    let s1 := sqBits s Ad.ISL_LATCH_OVF (2 ^ b)
    let s2 := if had then s1 else evcSet s1 27 (s1.reg Ad.ISL_LATCH_OVF).toNat
    if b = 21 ∨ b = 23 then s2.later (.wake b) else s2
  else
    let s1 := sqBits s Ad.ISL_LATCH (2 ^ b)
    (evcSet s1 b (s1.reg Ad.ISL_LATCH).toNat).later (.wake b)

/-! ### Device offers to the evidence store (R500 to R503, R55) -/

/-- The answer to a device offer. -/
inductive OfferRes | accepted | busy | held
deriving DecidableEq, Repr

/-- Indices 0 to 63 searched from a starting point for one that no entry holds. -/
def freeIndex (used : List Nat) (start : Nat) : Nat → Nat
  | 0 => start % 64
  | n + 1 => if used.contains (start % 64) then freeIndex used (start + 1) n else start % 64

/-- The index a new entry takes: some index that is free; which one the spec leaves open. -/
def newIdx (s : State) : Nat :=
  freeIndex ((s.evs.q ++ s.evs.reading).map QEntry.idx) (Config.freeNat s.free) 64

/-- A device entry appended to the submit queue (R503), or put at its head. -/
def evsPush (s : State) (atHead : Bool) (typ : Nat) (payload : List Byte) (log : Option Nat) : State :=
  let e : QEntry := ⟨newIdx s, true, 0, typ, 0, 0, 0, payload, log⟩
  let s1 := { s.fresh with evs := { s.evs with q := if atHead then e :: s.evs.q else s.evs.q ++ [e] } }
  sqEvt s1 Ad.EVS_EVT 1

/-- A device offer (R500): BUSY when all 64 entries are taken or there is no genesis; in Basin held at its block with
carve-due set (R503, R55); in Glen it starts the EVS and CHZ islands (R39). -/
def evsOffer (s : State) (typ : Nat) (payload : List Byte) (log : Option Nat) : State × OfferRes :=
  if !s.running 31 && decide (s.depth = 3) then
    (setLatch { s with evs := { s.evs with held := s.evs.held ++ [⟨typ, payload, log⟩] } } 23, .held)
  else
    let s0 := startIsl (startIsl s 31) 30
    if 64 ≤ s.evs.q.length + s.evs.reading.length ∨ s.evs.mode = .noGenesis then (pcu 0x61 0 1 (s0.inc Ad.EVS_BUSY_COUNT), .busy)
    else (evsPush s0 false typ payload log, .accepted)

/-- A payload padded with zeros to 128 bytes. -/
def pad128 (l : List Byte) : List Byte := (l ++ List.replicate 128 0).take 128

/-! ### Fault raises (R677 to R687) -/

/-- The active body of table index k (Table 4-6). -/
def tblBody (s : State) (k : Nat) : Option (List Byte) := (s.tbl.active.find? (fun b => b.k == k)).map Bank.body

/-- A 16-bit little-endian field of a table body. -/
def tb16 (l : List Byte) (o : Nat) : Nat := (l.getD o 0).toNat + 256 * (l.getD (o + 1) 0).toNat

/-- A 32-bit little-endian field of a table body. -/
def tb32 (l : List Byte) (o : Nat) : Nat := tb16 l o + 65536 * tb16 l (o + 2)

/-- The parity key of a word of a table bank: kind 0b01 of R753. -/
def bankKey (armed : Bool) (k w : Nat) : Nat := 0x40000000 + (if armed then 0x20000000 else 0) + 0x10000 * k + w

/-- The word is in parity error. -/
def parBad (s : State) (key : Nat) (staged : Bool) : Bool := s.parErr.any (fun e => e.key == key && e.staged == staged)

/-- Default actions of Table 19-1: 0 report, 1 contain, 2 escalate. -/
def fltDefault (c : Nat) : Nat :=
  if c = 0 ∨ c = 13 ∨ c = 14 ∨ c = 15 ∨ c = 37 then 1 else if c = 4 ∨ c = 6 ∨ c = 17 then 2 else 0

/-- The block of a register word that CFG_PARITY names, as a containment unit (R681): the unit bits, all sixteen DAC
channels for a common DAC word. -/
def parityUnits (info : Nat) : List Nat :=
  if info / 2 ^ 30 = 1 then
    let k := (info / 2 ^ 16) % 16
    if k ≤ 3 then [32 + 16 + k]
    else if k = 4 then [28]
    else if k = 8 then [27]
    else if k = 9 then [24]
    else if 10 ≤ k ∧ k ≤ 13 then [32 + 16 + (k - 10)]
    else []
  else if info / 2 ^ 30 = 2 then []
  else if 0x0200000 ≤ info ∧ info < 0x0300000 ∧ ¬ (0x020F000 ≤ info ∧ info < 0x0210000) then [(info - 0x0200000) / 0x10000]
  else if 0x0400000 ≤ info ∧ info < 0x0500000 then [24]
  else if 0x0580000 ≤ info ∧ info < 0x058F000 then [16 + (info - 0x0580000) / 0x1000]
  else if 0x0600000 ≤ info ∧ info < 0x0680000 then [25]
  else if 0x0680000 ≤ info ∧ info < 0x0700000 then [26]
  else if 0x0800000 ≤ info ∧ info < 0x0900000 then [27]
  else if 0x0900000 ≤ info ∧ info < 0x0980000 then [28]
  else if 0x0980000 ≤ info ∧ info < 0x09800C0 then [32 + ((info - 0x0980000) / 4) % 16]
  else if 0x0980000 ≤ info ∧ info < 0x0A00000 then (List.range 16).map (32 + ·)
  else if 0x0A00000 ≤ info ∧ info < 0x0B00000 then [32 + 16 + (info - 0x0A00000) / 0x40000]
  else []

/-- The containment units of a raise (Table 19-1, column Unit). -/
def fltUnits (c info : Nat) : List Nat :=
  if c = 0 then parityUnits info
  else if c = 7 ∨ c = 8 ∨ c = 9 then [info % 16]
  else if c = 10 ∨ c = 11 then [(info / 256) % 16]
  else if c = 13 ∨ c = 14 ∨ c = 15 then [24]
  else if c = 18 then [16 + info % 8]
  else if c = 21 then [25]
  else if c = 23 ∨ c = 24 ∨ c = 25 then [26]
  else if c = 30 ∨ c = 31 then [27]
  else if 32 ≤ c ∧ c ≤ 35 then [28]
  else if c = 36 ∨ c = 37 then [32 + info % 16]
  else if 38 ≤ c ∧ c ≤ 40 then [32 + 16 + info % 4]
  else []

/-- The fault action table's entry for a class, where a table is active (Table 19-6). -/
def fltEntry (s : State) (c : Nat) : Option Nat := (tblBody s 6).map (fun b => tb16 b (2 * c))

/-- FLT_CNT of a class. -/
def fltCnt (s : State) (c : Nat) : Nat := s.fld (Ad.FLT_CNT (c / 4)) (8 * (c % 4) + 7) (8 * (c % 4))

/-- The action of a raise whose count after the increment is `cnt` (R679, R138, R698). Classes 2 and 6 keep theirs even where their
entry is in parity error. (DESIGN CHOICE, log 70.) -/
def fltAction (s : State) (c cnt : Nat) : Nat :=
  if c = 2 then (if bit (s.reg Ad.CP_LOCK_STRICT) 0 then 2 else 0)
  else if c = 6 then 2
  else
    match fltEntry s c with
    | none => fltDefault c
    | some e =>
      if parBad s (bankKey false 6 (c / 2)) false then 2
      else if cnt < max 1 ((e / 256) % 16) then 0 else e % 4

/-- The action of a raise with its INFO: the CFG_PARITY raise that reports a word of the active fault action table escalates (R698);
contain is report where there is no unit (R680, R681). -/
def fltActs (s : State) (c info cnt : Nat) : Nat :=
  let a := if c = 0 ∧ info / 2 ^ 16 = 0x4006 then 2 else fltAction s c cnt
  if (fltUnits c info).isEmpty && a == 1 then 0 else a

/-- RECORD of the class's entry; 0 while no table is active (R688). -/
def fltRecord (s : State) (c : Nat) : Bool :=
  match fltEntry s c with
  | none => false
  | some e => e.testBit 2

/-- A unit is contained. -/
def contained (s : State) (u : Nat) : Bool := if u < 32 then bit s.flt.con0 u else bit s.flt.con1 (u - 32)

/-- FLT_SUMMARY (Table 19-7). -/
def fltSummary (s : State) : Word :=
  let raised := decide (bf (s.reg Ad.FLT_RAISED_0) 23 0 ≠ 0 ∨ bf (s.reg Ad.FLT_RAISED_1) 16 0 ≠ 0)
  w32 (b2n s.flt.esc.isSome * 2 ^ 31 + b2n (decide (s.flt.con0 ≠ 0 ∨ s.flt.con1 ≠ 0)) * 2 ^ 30 + b2n raised * 2 ^ 29
    + b2n (decide (bf (s.reg Ad.FLT_LOCKVIOL) 15 0 ≠ 0)) * 2 ^ 28 + (s.flt.esc.getD 0 % 64) * 2 ^ 16
    + (if raised then s.flt.last % 64 else 0))

/-- A containment unit's bit set, and the unit taken to its safe state unless it is contained already (R681, R695). -/
def fltContain (s : State) (u : Nat) : State :=
  if contained s u then s
  else if u < 32 then ({ s with flt := { s.flt with con0 := s.flt.con0 ||| w32 (2 ^ u) } }).later (.contain u)
  else ({ s with flt := { s.flt with con1 := s.flt.con1 ||| w32 (2 ^ (u - 32)) } }).later (.contain u)

/-- The FAULT record payload of Table 19-5. -/
def fltPayload (s : State) (c act : Nat) (began wrapped : Bool) (info num : Nat) : List Byte :=
  pad128 ([BitVec.ofNat 8 c, BitVec.ofNat 8 act,
    BitVec.ofNat 8 (b2n began + 2 * b2n (bit (s.reg Ad.CP_LOCK_STRICT) 0) + 4 * b2n wrapped), BitVec.ofNat 8 (fltCnt s c)]
    ++ toBytesLE 4 info ++ toBytesLE 8 s.now ++ toBytesLE 4 s.flt.con0.toNat ++ toBytesLE 4 s.flt.con1.toNat
    ++ toBytesLE 4 (fltSummary s).toNat ++ toBytesLE 2 num)

/-- The log entry with number `num` is marked RECORDED, if the log still holds it (R687). -/
def fltRecorded (s : State) (num : Nat) : State :=
  let k := Ad.FLT_LOG (num % 16) 0
  if s.fld k 31 16 = num % 65536 ∧ bit (s.reg k) 11 then s.setFld k 10 10 1 else s

/-- Waiting offers made in raise order, each once those before it have been accepted (R686). -/
def fltOfferLoop : Nat → State → State
  | 0, s => s
  | n + 1, s =>
    match s.flt.offers with
    | [] => s
    | o :: t =>
      match evsOffer s 6 o.payload (some o.num) with
      | (s1, .accepted) => fltOfferLoop n (fltRecorded { s1 with flt := { s1.flt with offers := t } } o.num)
      | (s1, .held) => fltOfferLoop n { s1 with flt := { s1.flt with offers := t } }
      | (s1, .busy) => s1

/-- A FAULT record offered: made at once when no earlier offer waits; otherwise it waits, at most four in all (R686). -/
def fltOffer (s : State) (payload : List Byte) (num : Nat) : State :=
  match s.flt.offers with
  | [] =>
    match evsOffer s 6 payload (some num) with
    | (s1, .accepted) => fltRecorded s1 num
    | (s1, .held) => s1
    | (s1, .busy) => { s1 with flt := { s1.flt with offers := [⟨payload, num⟩] } }
  | l => if l.length < 4 then { s with flt := { s.flt with offers := l ++ [⟨payload, num⟩] } } else sqEvt s Ad.FLT_EVT 2

/-- The log entry of a raise (R687, Table 19-10), with LOG_WRAP when a VALID entry is overwritten. -/
def fltLog (s : State) (c act info : Nat) : State :=
  let tot := s.fld Ad.FLT_LOG_STATUS 31 16
  let e := s.fld Ad.FLT_LOG_STATUS 3 0
  let s1 := if bit (s.reg (Ad.FLT_LOG e 0)) 11 then sqEvt s Ad.FLT_EVT 4 else s
  let s2 := s1.setReg (Ad.FLT_LOG e 0) (w32 (tot * 65536 + 2048 + act * 256 + c))
  let s3 := s2.setReg (Ad.FLT_LOG e 1) (w32 info)
  let s4 := s3.setReg (Ad.FLT_LOG e 2) (w32 s.now)
  let s5 := s4.setReg (Ad.FLT_LOG e 3) (w32 (s.now / 2 ^ 32))
  s5.setReg Ad.FLT_LOG_STATUS (w32 (((tot + 1) % 65536) * 65536 + (e + 1) % 16))

/-- FLT_ANY's level, judged against FLT_SUMMARY before the change (R657). -/
def fltLevel (before : Word) (s : State) : State :=
  if before = 0 ∧ fltSummary s ≠ 0 then evcSet s 30 (fltSummary s).toNat else s

/-- A raise of a fault class with its INFO, applied by the collector (R677 to R687, R693, R694): raised bit with SEQ,
FLT_CNT, source 128 + c, the action of R679 with containment and escalation, the log entry, the FAULT record. Raises of one command
reach the FLT one after the other. (DESIGN CHOICE, log 70.) -/
def raise (s : State) (c info : Nat) : State :=
  let before := fltSummary s
  let s1 := if c < 24 then sqBits s Ad.FLT_RAISED_0 (2 ^ c) else sqBits s Ad.FLT_RAISED_1 (2 ^ (c - 24))
  let cnt := if fltCnt s c < 255 then fltCnt s c + 1 else 255
  let s2 := s1.setFld (Ad.FLT_CNT (c / 4)) (8 * (c % 4) + 7) (8 * (c % 4)) cnt
  let s3 := { s2 with flt := { s2.flt with last := c } }
  let act := fltActs s3 c info cnt
  let s4 := if act = 0 then s3 else (fltUnits c info).foldl fltContain s3
  let began := decide (act = 2) && s4.flt.esc.isNone
  let s5 := if began then ({ s4 with flt := { s4.flt with esc := some c } }).later .escalate else s4
  let wrapped := bit (s.reg (Ad.FLT_LOG (s.fld Ad.FLT_LOG_STATUS 3 0) 0)) 11
  let num := s.fld Ad.FLT_LOG_STATUS 31 16
  let s6 := fltLevel before (evcSet (fltLog s5 c act info) (128 + c) 0)
  let s7 := if began then setLatch s6 21 else s6
  if act ≠ 0 ∨ fltRecord s c then fltOffer s7 (fltPayload s6 c act began wrapped info num) num else s7

/-- A lock violation recorded and raised (R137, R692): the cause bits, the source bit (12 CP, 13 RC, 14
DBG) and the word's key. -/
def lockViol (s : State) (causes src key : Nat) : State :=
  let s1 := sqEvt s Ad.FLT_LOCKVIOL (causes ||| 2 ^ src)
  let s2 := s1.setReg Ad.FLT_LOCKVIOL_ADDR
    (if 0x10000000 ≤ key then w32 (2 ^ 31 + (key - 0x10000000)) else w32 (key / 4 * 4))
  fltLevel (fltSummary s) (raise s2 2 (s2.fld Ad.FLT_LOCKVIOL 15 0))

/-- A lock domain of Table 4-4 is locked. -/
def locked (s : State) (d : Nat) : Bool := bit (s.reg Ad.CP_LOCK) d

end Sys2Proof.Machine
end

