-- ==== Sys2Proof/Machine/Fabric.lean ====
section
/-!
DEFINITION. Machine/Fabric.lean: what the blocks of the fabric share: bandwidth monitors (R643), messages to agents, credits to free, the accesses of agent 0's engines, DRAM lines and their channels (R342 to R344, R354, R374), poison
made by the home agent (R292), and the record core's answer to a snoop (R208, Table 6-7, R394, R395).
-/
namespace Sys2Proof.Machine

/-! ### Bandwidth monitors and requests -/

/-- Units that cross a port, counted by its bandwidth monitor where DIR and UNIT select them (R643). -/
def bwAdd (s : State) (port : Nat) (sent : Bool) (unit n : Nat) : State :=
  let c := s.reg (Ad.PCU_BW_CFG port)
  let dir := bf c 29 28
  if s.running 3 && bit c 31 && decide (bf c 24 24 = unit) && (decide (2 ≤ dir) || decide (dir = 1) == sent) then
    { s with pcu := { s.pcu with bw := stSet (fun _ => 0) s.pcu.bw port (stGet (fun _ => 0) s.pcu.bw port + n) } }
  else s

/-- The MOP of a request. -/
def reqMop : ReqKind → Nat
  | .readShared => 1 | .readUnique => 2 | .readOnce => 3 | .readReserve => 4 | .upgrade => 5
  | .writeFull => 6 | .writePartial => 7 | .writeConditional => 8 | .cleanEvict => 9 | .dirtyEvict => 10

/-! ### Random tagging (R645 to R648) -/

/-- The 32-bit Galois LFSR of x^32 + x^22 + x^2 + x + 1, shifting right. -/
def tagLfsr (l : Nat) : Nat := if l % 2 = 1 then (l / 2) ^^^ 0x80200003 else l / 2

/-- k of a MEAN field (4 to 24). -/
def tagMean (k : Nat) : Nat := if k < 4 then 4 else if 24 < k then 24 else k

/-- A target's tag state. -/
def tagOf (s : State) (ha : Bool) : TagSt := if ha then s.pcu.tagHa else s.pcu.tagRc

/-- A target's tag state replaced. -/
def setTag (s : State) (ha : Bool) (t : TagSt) : State :=
  { s with pcu := if ha then { s.pcu with tagHa := t } else { s.pcu with tagRc := t } }

/-- An eligible item: the countdown advances by one; an item that finds it at zero is tagged if none is in flight, and the
countdown is reloaded first (R645): with 1 + (L mod 2^(k + 1)), of which the tagged item is the first. A countdown that reaches
zero while one is in flight waits (R646). (DESIGN CHOICE, log 44.) -/
def tagItem (ha : Bool) (kind flags id : Nat) (s : State) : State :=
  let cfg := s.reg Ad.PCU_TAG_CFG
  if !bit cfg (if ha then 31 else 30) || !s.running 3 then s
  else
    let t := tagOf s ha
    if t.cd = 0 ∧ t.fly.isNone then
      let l := max 1 (s.reg Ad.PCU_TAG_SEED).toNat
      let k := tagMean (if ha then bf cfg 20 16 else bf cfg 12 8)
      let cd := l % 2 ^ (k + 1)
      let s1 := setTag (s.setReg Ad.PCU_TAG_SEED (w32 (tagLfsr l))) ha ⟨cd, some (kind, flags, id, s.now)⟩
      if cd = 0 then s1.inc Ad.PCU_TAG_SKIP else s1
    else if t.cd = 0 then s
    else
      let s1 := setTag s ha { t with cd := t.cd - 1 }
      if t.cd = 1 ∧ t.fly.isSome then s1.inc Ad.PCU_TAG_SKIP else s1

/-- A home agent request is eligible when it matches PCU_TAG_FILT. -/
def tagReq (m : ReqMsg) (s : State) : State :=
  let f := s.reg Ad.PCU_TAG_FILT
  if (bit f 31 && bf f 25 16 != m.tenant) || (bit f 15 && bf f 7 0 != m.src) then s
  else tagItem true 2 (b2n (m.mclass == 1)) (reqMop m.kind + m.src % 256 * 256 + m.tenant % 1024 * 65536) s

/-! ### Messages to agents and credits -/

/-- A message queued for an agent at its port; one for an agent that is not attached is discarded. -/
def sendTo (s : State) (agent : Nat) (m : OutMsg) : State :=
  match findAgent s agent with
  | none => s
  | some r => { s with lnk := { s.lnk with tx := s.lnk.tx ++ [⟨r.port, agent, m⟩] } }

/-- Credits of a class to be reported free at a port (R181). -/
def creditFree (s : State) (port cls : Nat) : State :=
  { s with lnk := { s.lnk with ports := upd s.lnk.ports port (fun p => { p with freed := upd p.freed cls (· + 1) }) } }

/-- Request credits are withheld: from step 4 of an entry until the device is back in Open or the entry is abandoned (R241). -/
def creditsHeld (s : State) : Bool :=
  match s.isl.stage with
  | .drain | .park | .gbDrain | .waitWfi => true
  | .exit => decide (2 ≤ s.depth) || (!s.isl.abandon && s.lnk.ports.any (fun p => !p.withheld.isEmpty))
  | _ => decide (2 ≤ s.depth)

/-- A credit of a request: freed, or withheld (R241). -/
def reqCredit (s : State) (port cls : Nat) : State :=
  if creditsHeld s then
    { s with lnk := { s.lnk with ports := upd s.lnk.ports port (fun p => { p with withheld := p.withheld ++ [cls] }) } }
  else creditFree s port cls

/-- The withheld credits are returned once nothing withholds them. -/
def creditsReturn (s : State) : State :=
  if s.isl.stage = .exit ∧ !s.isl.abandon then s
  else
    (List.range 16).foldl (fun s p =>
      let w := ((s.lnk.ports[p]?).map PortSt.withheld).getD []
      let s1 : State := { s with lnk := { s.lnk with ports := upd s.lnk.ports p (fun (q : PortSt) => { q with withheld := [] }) } }
      if w.isEmpty ∨ creditsHeld s then s else w.foldl (fun s c => creditFree s p c) s1) s

/-! ### Agent 0's engines -/

/-- The asker is a bus-master engine: not the record core, and not debug. -/
def busMaster : Ag0Who → Bool
  | .rcFill _ => false | .rcWb _ => false | .rcDev _ => false | .dbg => false | _ => true

/-- Descriptors of the bus-master engines in use (R367). -/
def ag0Open (s : State) : Nat :=
  (s.ha.wait.filter (fun r => r.who.any busMaster)).length + (s.ha.trks.filter (fun t => t.r.who.any busMaster)).length

/-- A request of an engine of agent 0 reaches the home agent, or is held at the bound of 512 descriptors (R367) (R208, R296: not checked against the binding vector). (DEDUCED, log 9.) -/
def ag0Req (s : State) (w : Ag0Who) (k : ReqKind) (tenant line : Nat) (peek : Bool) (d : Line) (mask : BitVec 64) : State :=
  let m : ReqMsg := ⟨k, 0, 0, 0, 0, 0, peek, tenant, line % 2 ^ 32, 0, d, mask⟩
  let r : HReq := ⟨s.ha.arrivals, 0, m, some w, false, false, false, false⟩
  let s1 : State := { s with ha := { s.ha with arrivals := s.ha.arrivals + 1 } }
  if busMaster w && decide (512 ≤ ag0Open s) then { s1 with ha := { s1.ha with ag0Held := s1.ha.ag0Held ++ [r] } }
  else tagReq m { s1 with ha := { s1.ha with wait := s1.ha.wait ++ [r] } }

/-- Held transfers go out, in order, as far as descriptors are free. -/
def ag0Release (s : State) : State :=
  s.ha.ag0Held.foldl (fun s r =>
    if 512 ≤ ag0Open s then s
    else tagReq r.m { s with ha := { s.ha with ag0Held := s.ha.ag0Held.drop 1, wait := s.ha.wait ++ [r] } }) s

/-! ### The record core's lines -/

/-- The record core's cached line. -/
def rcLine (s : State) (line : Nat) : Option RcLine := s.rc.dc.find? (fun l => l.line == line)

/-- The record core's cache without a line. -/
def rcDrop (s : State) (line : Nat) : State := { s with rc := { s.rc with dc := s.rc.dc.filter (fun l => l.line != line) } }

/-- A cached line in a new state. -/
def rcPut (s : State) (l : RcLine) : State := { (rcDrop s l.line) with rc := { s.rc with dc := (rcDrop s l.line).rc.dc ++ [l] } }

/-- A granule of the window, if any, holds a tenant-0 line. -/
def granuleHas (g : Option RcResv) (line : Nat) : Bool :=
  match g with
  | none => false
  | some r => !r.tcm && decide (r.base ≤ line * 64 ∧ line * 64 < r.base + r.size)

/-- The LR reservation covers a tenant-0 line. -/
def rcCovers (s : State) (line : Nat) : Bool := granuleHas s.rc.resv line

/-- The reservation is lost when a covered line is invalidated or downgraded (R394). -/
def rcLose (s : State) (line : Nat) : State :=
  if rcCovers s line then { s with rc := { s.rc with resv := none } } else s

/-- A fill or Upgrade of the record core is answered: the line enters its D-cache at once, in the granted state. -/
def rcInstall (s : State) (line : Nat) (r : Ag0Rsp) : State :=
  match r.kind with
  | .data => rcPut s ⟨line, r.st, r.line, none, 0, false⟩
  | .dataPoison => rcPut s ⟨line, r.st, 0, some r.code, 0, false⟩
  | .ack =>
    match rcLine s line with
    | some l => rcPut s { l with st := 3 }
    | none => s
  | _ => s

/-! ### Answers for the engines of agent 0 -/

/-- An answer for an engine of agent 0. The record core's fills and evictions take effect at once; an answer that a Chisel
operation no longer wants, because it has ended or was squashed, is discarded (R270). -/
def ag0Answer (s : State) (r : Ag0Rsp) : State :=
  let keep (s : State) : State := { s with ha := { s.ha with ag0 := s.ha.ag0 ++ [r] } }
  match r.who with
  | .rcFill line => if s.rc.fills.contains line then keep (rcInstall s line r) else s
  | .rcWb line => rcDrop s line
  | .chz no line => if s.chz.q.any (fun e => e.no == no && e.want.contains line) then keep s else s
  | _ => keep s

/-- The answer that has come back for an asker. -/
def ag0Peek (s : State) (w : Ag0Who) : Option Ag0Rsp := s.ha.ag0.find? (fun r => r.who == w)

/-- The first answer for an asker taken out. (DEDUCED, log 9.) -/
def ag0Drop (s : State) (w : Ag0Who) : State :=
  match s.ha.ag0.findIdx? (fun r => r.who == w) with
  | none => s
  | some i => { s with ha := { s.ha with ag0 := s.ha.ag0.eraseIdx i } }

/-- The first answer for an asker, and the state without it. (DEDUCED, log 9.) -/
def ag0Take (s : State) (w : Ag0Who) : Option (Ag0Rsp × State) := (ag0Peek s w).map (fun r => (r, ag0Drop s w))

/-! ### DRAM lines -/

/-- log2 of the number of interleaved channels. -/
def nchLog (n : Nat) : Nat := if n = 8 then 3 else if n = 4 then 2 else if n = 2 then 1 else 0

/-- The channel of a physical line (R343). -/
def chanOf (s : State) (line : Nat) : Nat := ((line / 2 ^ 5) ^^^ (line / 2 ^ 8)) % (max 1 s.tmm.nch)

/-- A DRAM channel's state. -/
def drcCh (s : State) (c : Nat) : DrcCh := s.drc.getD c drcOff

/-- A DRAM channel's state replaced. -/
def setDrc (s : State) (c : Nat) (f : DrcCh → DrcCh) : State := { s with drc := upd s.drc c f }

/-- The channel serves its lines (R374). -/
def drcUp (s : State) (c : Nat) : Bool := (drcCh s c).mode == .ready || (drcCh s c).mode == .selfRefresh

/-- The line index of a physical line within its channel (DRC_ERRADDR): the bits that pick the channel removed. -/
def chanLine (s : State) (line : Nat) : Nat :=
  (line / 2 ^ (5 + nchLog s.tmm.nch)) * 2 ^ 5 + line % 2 ^ 5

/-- What a line that nothing has written since its channel's last training reads as: a free value (R374). (DESIGN CHOICE, log 4.) -/
def dramDef (s : State) (line : Nat) : DLine := ⟨Config.freeLine (drcCh s (chanOf s line)).epoch line, 0⟩

/-- A line of DRAM. (DESIGN CHOICE, log 4.) -/
def dramGet (s : State) (line : Nat) : DLine := stGet (dramDef s) s.dram line

/-- A line of DRAM written; a write to a channel that does not serve is discarded (R374). -/
def dramPut (s : State) (line : Nat) (l : DLine) : State :=
  if drcUp s (chanOf s line) then { s with dram := stSet (dramDef s) s.dram line l } else s

/-- Lines charged to the overhead account (R354, PAS_OVH_COUNT). -/
def overhead (s : State) (n : Nat) : State := pcu 0x3D 0 n (s.incBy Ad.PAS_OVH_COUNT n)

/-- A command enters a channel's queue, charged as R354 says. -/
def drcEnq (s : State) (write : Bool) (ch : Charge) (line : Nat) (trk : Option Nat) : State :=
  let s1 := setDrc { s with pas := { s.pas with n := s.pas.n + 1 } } (chanOf s line)
    (fun d => { d with q := d.q ++ [⟨s.pas.n, write, ch, line, trk⟩] })
  match ch with
  | .overhead => overhead s1 1
  | .tenant _ => s1

/-- A line written to DRAM through its channel's write queue. -/
def dramWrite (s : State) (ch : Charge) (line : Nat) (l : DLine) : State := drcEnq (dramPut s line l) true ch line none

/-! ### Poison and protocol errors of the home agent -/

/-- Poison that the home agent creates (R292, HA_EVT.POISON_MADE): counted, and recorded while no record is held. -/
def poisonMade (s : State) (cause tenant line agent : Nat) : State :=
  let s1 := pcu 0x19 agent 1 (sqEvt (s.inc Ad.HA_POISON_COUNT) Ad.HA_EVT 2)
  if bit (s.reg Ad.HA_POISON_LAST_0) 31 then s1
  else (s1.setReg Ad.HA_POISON_LAST_0 (w32 (2 ^ 31 + (cause % 8) * 2 ^ 24 + tenant % 1024))).setReg Ad.HA_POISON_LAST_1 (w32 line)

/-- HA_PROTO (R248): recorded and raised. -/
def haProto (s : State) (port agent mop reason : Nat) : State :=
  raise (sqEvt (s.setReg Ad.HA_PROTO_INFO (w32 (reason * 2 ^ 24 + (agent % 256) * 256 + mop % 256))) Ad.HA_EVT 8)
    11 ((port % 16) * 256 + agent % 256)

/-! ### The record core's answer to a snoop -/

/-- The line is dirty and good: it leaves the cache by DirtyEvict (R291). -/
def RcLine.dirty (l : RcLine) : Bool := (l.st == 3 || l.st == 4) && l.poison.isNone

/-- Table 6-7 for a held line: its state afterwards (0 I), and the answer. A poisoned copy answers DataPoison where data would
go, and ends in I (R290). -/
def rcAnswer (k : SnpKind) (l : RcLine) : Nat × SnpAns :=
  let dirty := l.st == 3 || l.st == 4
  let st := match k with
    | .invalidate => 0
    | .shared => if dirty then 4 else 1
    | .fetch => if l.st = 3 then 2 else if l.st = 4 then 1 else l.st
    | .peek => l.st
  match l.poison with
  | some c => if dirty then (0, .poison 0 c) else (st, .ack st)
  | none => if dirty then (st, .data st l.data) else (st, .ack st)

/-- The record core answers a snoop; the reservation is lost where a covered line is downgraded, and the I-cache follows. A
line under DirtyEvict is answered from the kept copy, with STATE I except to SnpPeek (R255); one under CleanEvict as by an agent
in I (R256). -/
def rcSnoopNow (s : State) (k : SnpKind) (line : Nat) : State × SnpAns :=
  match rcLine s line with
  | none => (s, .ack 0)
  | some l =>
    let (st, a) := rcAnswer k l
    if l.wb then
      (s, if l.dirty = false then .ack 0 else if k = .peek then a else match a with | .data _ d => .data 0 d | .poison _ c => .poison 0 c | .ack _ => .ack 0)
    else
      let s1 := if st = l.st then s else rcLose s line
      if st = 0 then
        (rcDrop { s1 with rc := { s1.rc with ic := s1.rc.ic.filter (· != line) } } line, a)
      else (rcPut s1 { l with st := st }, a)

/-- The record core takes a snoop: it is answered at once, or delayed while an LR holds its granule (R395). -/
def rcSnoop (s : State) (sid : Nat) (k : SnpKind) (line : Nat) : State × Option SnpAns :=
  if granuleHas s.rc.lrHold line && !s.rc.flushing then
    ({ s with rc := { s.rc with heldSnp := s.rc.heldSnp ++ [(sid, k, line)] } }, none)
  else
    let (s1, a) := rcSnoopNow s k line
    (s1, some a)

end Sys2Proof.Machine
end

