-- ==== Sys2Proof/Machine/Timebase.lean ====
section
/-!
DEFINITION. Machine/Timebase.lean: legal time, PPS_IN and its labels, the servo, steps and slews, the bound and the quality
classes, PPS_OUT, the RTC and the alarms (chapter 12, R451 to R471, R478 to R487).
-/
namespace Sys2Proof.Machine

/-- TB cycles in one second. -/
def cycSec : Nat := 153600000

/-- The timebase replaced. -/
def State.setTb (s : State) (t : TbSt) : State := { s with tb := t }

/-- Signed value of a 32-bit register. -/
def sReg (s : State) (k : Nat) : Int := sext 32 (s.reg k).toNat

/-! ### Advance of legal time (R451) -/

/-- The advance in one TB cycle, in 2^-32 ns, under a correction in 0.1 ppb: 625/96 ns times one plus the correction. -/
def cycleStep (corr : Int) : Int := (625 * 2 ^ 32 * (10000000000 + corr)) / (96 * 10000000000)

/-- The rate correction in force, beyond TBU_FREQ (Table 12-2). -/
def tbExtra (t : TbSt) : Int := (if t.servoLeft = 0 then 0 else t.servo) - (if t.slew && decide (t.slewLeft ≠ 0) then 5000000 else 0)

/-- One TB cycle: legal time, its fraction and the RTC accumulator (R451, R469). -/
def tbCycle (freq : Int) (t : TbSt) : TbSt :=
  let base := cycleStep freq
  let inc := cycleStep (freq + tbExtra t)
  let mv := inc - base
  let tot := t.frac + inc.toNat
  { t with
    held := (t.time :: t.held).take 24
    time := (t.time + tot / 2 ^ 32) % 2 ^ 64
    frac := tot % 2 ^ 32
    cyc := t.cyc + 1
    moved := t.moved + mv
    servoLeft := t.servoLeft - (if t.servoLeft = 0 then 0 else mv.natAbs)
    slewLeft := t.slewLeft - (if t.slew then mv.natAbs else 0)
    rtcAcc := t.rtcAcc + 2 }

/-- The RTC's 32.768 kHz tick, once the accumulator holds one (2/9375 of a tick per TB cycle). -/
def rtcTick (s : State) : State :=
  if s.tb.rtcAcc < 9375 then s
  else
    let sub := s.fld Ad.TBU_RTC_SUB 14 0 + 1
    let s1 := (s.setTb { s.tb with rtcAcc := s.tb.rtcAcc - 9375 }).setReg Ad.TBU_RTC_SUB (w32 (sub % 32768))
    if sub < 32768 then s1
    else
      let sec := (s1.reg Ad.TBU_RTC_SEC_LO).toNat + 2 ^ 32 * s1.fld Ad.TBU_RTC_SEC_HI 15 0 + 1
      (s1.setReg Ad.TBU_RTC_SEC_LO (w32 sec)).setReg Ad.TBU_RTC_SEC_HI (w32 ((sec / 2 ^ 32) % 65536))

/-- One TB cycle of the timebase. (DESIGN CHOICE, log 5.) -/
def tbTick (s : State) : State := rtcTick (s.setTb (tbCycle (sReg s Ad.TBU_FREQ) s.tb))

/-! ### The bound and the class (R464 to R466, R484) -/

/-- F of R464 in ppb: F_FLOOR, or the servo's learned uncertainty if larger. The manual states no figure for the
uncertainty: a free value. (DESIGN CHOICE, log 38.) -/
def tbF (s : State) : Nat := max (s.fld Ad.TBU_HO_CFG 15 0) (Config.freqUncert (s.tb.lastAcc.getD 0))

/-- Growth F t + D t² / 2 in ns over a number of TB cycles. -/
def tbGrowth (s : State) (c : Nat) : Nat :=
  (200 * cycSec * tbF s * c + s.fld Ad.TBU_HO_CFG 31 16 * c * c) / (200 * cycSec * cycSec)

/-- The bound at this moment (R464, R484). -/
def tbBoundNow (s : State) : Option Nat :=
  match s.tb.b0 with
  | none => none
  | some b =>
    if s.tb.intOsc then some (b + 20 + (s.tb.cyc - s.tb.t0) * 20000000 / cycSec)
    else if s.tb.ppsLost then some (b + tbGrowth s (s.tb.cyc - s.tb.t0)) else some b

/-- TBU_BOUND as it reads: saturating, all ones while unknown. -/
def tbBoundReg (s : State) : Nat := match s.tb.bound with | none => 0xFFFFFFFF | some b => satU 32 b

/-- The bound is known and below a number of ns. -/
def boundBelow (s : State) (n : Nat) : Bool := match s.tb.bound with | none => false | some b => decide (b < n)

/-- A threshold written above its maximum acts as the maximum (R465). -/
def tbThr (s : State) (hi lo cap : Nat) : Nat := min cap (s.fld Ad.TBU_QTHR hi lo)

/-- LOCKED_NS in force. -/
def lockedNs (s : State) : Nat := tbThr s 7 0 100

/-- A field of at least 1: 0 acts as 1. -/
def atLeast1 (n : Nat) : Nat := max 1 n

/-- The quality class of Table 12-3: the first row that applies. -/
def tbClass (s : State) : Nat :=
  if s.tb.intOsc then 3
  else if s.tb.resumed then 4
  else if atLeast1 (s.fld Ad.TBU_SRV_CFG 15 8) ≤ s.tb.lock ∧ !s.tb.slew ∧ !s.tb.ppsLost ∧ !s.tb.back then 0
  else if boundBelow s (tbThr s 17 8 1000 * 1000) then 1
  else if boundBelow s (tbThr s 27 18 1000 * 1000000) then 2
  else 3

/-- The class re-evaluated: at a change TBU_EVT.QUALITY sets, and entry to Q3 raises TBU_Q3 (R466, R486). While a change that an
edge causes waits for its 2 µs, it waits with it. (DEDUCED, log 65.) -/
def tbReclass (s : State) : State :=
  let q := tbClass s
  if q = s.tb.q ∨ s.tb.qAt.isSome then s
  else
    let s1 := sqEvt (s.setTb { s.tb with q := q }) Ad.TBU_EVT 1
    if q = 3 then raise s1 27 (tbBoundReg s1) else s1

/-- The class that an edge causes, 2 µs (308 TB cycles) after the edge at cycle `c` (R466). -/
def edgeClass (s : State) (c : Nat) : State :=
  if c + 308 ≤ s.tb.cyc then tbReclass s else s.setTb { s.tb with qAt := some (c + 308) }

/-- The 2 µs after an edge have passed. -/
def classDue (s : State) : State :=
  match s.tb.qAt with
  | none => s
  | some c => if c ≤ s.tb.cyc then tbReclass (s.setTb { s.tb with qAt := none }) else s

/-- The 1 ms recomputation of the bound. (DESIGN CHOICE, log 36.) -/
def boundRecompute (s : State) : State := tbReclass (s.setTb { s.tb with bound := tbBoundNow s })

/-- The bound set at an accepted edge, with the count of LOCK_N (R464, Table 12-3). -/
def setB0 (s : State) (b cyc : Nat) : State :=
  s.setTb { s.tb with
    b0 := some b, bound := some b, t0 := cyc
    lock := if b < lockedNs s then min 255 (s.tb.lock + 1) else 0 }

/-! ### The legal-time alarm (R479) -/

/-- The armed alarm fires once legal time has reached it: ARMED clears, TBU_EVT.ALARM and wake bit 20 set. -/
def alarmFire (s : State) : State :=
  match s.tb.alarm with
  | none => s
  | some a =>
    if a ≤ s.tb.time then setLatch (sqEvt (s.setTb { s.tb with alarm := none }) Ad.TBU_EVT 0x100) 20 else s

/-- TBU_ALARM_CTRL.ARM: the alarm time is taken; one at or before legal time fires in the next TB cycle. -/
def alarmArm (s : State) : State :=
  s.setTb { s.tb with alarm := some ((s.reg Ad.TBU_ALARM_LO).toNat + 2 ^ 32 * (s.reg Ad.TBU_ALARM_HI).toNat) }

/-- TBU_ALARM_CTRL.DISARM. -/
def alarmDisarm (s : State) : State := s.setTb { s.tb with alarm := none }

/-! ### TIME_STEP records (R463, R501) -/

/-- Waiting TIME_STEP offers, oldest first, made until one is not accepted. -/
def stepOfferLoop : Nat → State → State
  | 0, s => s
  | n + 1, s =>
    match s.tb.steps with
    | [] => s
    | p :: t =>
      match evsOffer s 4 p none with
      | (s1, .busy) => s1
      | (s1, _) => stepOfferLoop n (s1.setTb { s1.tb with steps := t })

/-- A TIME_STEP record falls due: offered at once when none waits, otherwise it waits behind the others. -/
def stepOffer (s : State) (p : List Byte) : State :=
  let first := s.tb.steps.isEmpty
  let s1 := s.setTb { s.tb with steps := s.tb.steps ++ [p] }
  if first then stepOfferLoop 1 s1 else s1

/-- The TIME_STEP payload of Table 13-3. -/
def stepPayload (time : Nat) (e : Int) (cause qb qa : Nat) : List Byte :=
  pad128 (toBytesLE 8 time ++ toBytesLE 8 (unsx 64 e) ++ [BitVec.ofNat 8 cause, BitVec.ofNat 8 qb, BitVec.ofNat 8 qa])

/-- A forward step to `at_`, by `e`, which is always positive here (R463, R471): the event time and size captured, TBU_EVT.STEP,
the record, and the times it steps over (R479). -/
def tbStep (s : State) (at_ : Nat) (e : Int) (cause qb qa : Nat) : State :=
  let new := at_ % 2 ^ 64
  let s1 := s.setTb { s.tb with time := new, moved := s.tb.moved + e * 2 ^ 32 }
  let s2 := (s1.setReg Ad.TBU_STEP_AT_LO (w32 new)).setReg Ad.TBU_STEP_AT_HI (w32 (new / 2 ^ 32))
  let s3 := sqEvt (s2.setReg Ad.TBU_STEP_DELTA (w32 (satU 32 (e.toNat / 1000)))) Ad.TBU_EVT 0x20
  (alarmFire (stepOffer s3 (stepPayload new e cause qb qa))).later .jump

/-- The floor step of R471: the restart scan passes the legal time of the last whole record. Bound, class, slew and servo
are left as they are. -/
def tbFloor (s : State) (t : Nat) : State :=
  if t < s.tb.time then s
  else
    tbStep s (t + 1000) ((t : Int) + 1000 - s.tb.time) 2 s.tb.q s.tb.q

/-! ### PPS_IN (R455 to R462, R480 to R482) -/

/-- PPS_TOL in force, in µs. -/
def ppsTol (s : State) : Nat := atLeast1 (s.fld Ad.TBU_SRV_CFG 23 16)

/-- The compensated timestamp T (R455). -/
def PpsEdge.stamp (e : PpsEdge) : Int := e.raw - e.comp

/-- The offset of a labelled edge, S × 10^9 - T (R457). -/
def PpsEdge.offset (e : PpsEdge) (sec : Nat) : Int := (sec : Int) * 1000000000 - e.stamp

/-- The second of legal time nearest to an edge's timestamp (R459). -/
def nearestSec (e : PpsEdge) : Nat := ((e.stamp + 500000000) / 1000000000).toNat

/-- Two edges lie 1 s ± PPS_TOL apart in TB cycles (R456). -/
def gapOk (s : State) (a b : PpsEdge) : Bool :=
  decide ((((b.cyc : Int) - a.cyc) * 5 - 5 * cycSec).natAbs ≤ 768 * ppsTol s)

/-- The offsets of two labelled edges agree within PPS_TOL, the timebase's own corrections taken out (R456). -/
def offsetsAgree (s : State) (a b : PpsEdge) (la lb : Nat) : Bool :=
  decide (((b.offset lb - a.offset la) * 2 ^ 32 + (b.moved - a.moved)).natAbs ≤ ppsTol s * 1000 * 2 ^ 32)

/-- The last PPS_IN edge replaced. -/
def State.setEdge (s : State) (e : PpsEdge) : State := s.setTb { s.tb with edge := some e }

/-- The servo takes up an offset of at most 1 ms (Table 12-2, R462). The loop's gains are not stated: its rate (from 0.1 ppb
to 100 ppm, of the sign of e) and the new TBU_FREQ (within ±200 ppm) are free values. (DESIGN CHOICE, log 38.) -/
def servoAct (s : State) (e : Int) : State :=
  let n := s.free
  let mag : Int := max 1 (min 1000000 (Config.servoRate n e (s.fld Ad.TBU_SRV_CFG 7 4)))
  let f : Int := max (-2000000) (min 2000000 (Config.servoFreq n e (s.fld Ad.TBU_SRV_CFG 7 4)))
  let s1 := s.fresh.setTb { s.tb with
    servo := if e < 0 then -mag else mag, servoLeft := e.natAbs * 2 ^ 32, slew := false, slewLeft := 0 }
  let s2 := s1.setReg Ad.TBU_FREQ (w32 (unsx 32 f))
  if f.natAbs = 2000000 then sqEvt s2 Ad.TBU_EVT 0x80 else s2

/-- What is left of an edge's offset: the offset less what the timebase's corrections have moved legal time since the edge.
(DEDUCED, log 52.) -/
def edgeLeft (s : State) (e : PpsEdge) (off : Int) : Int := off - (s.tb.moved - e.moved) / 2 ^ 32

/-- The action of Table 12-2 on the offset of an accepted edge, with R463, R464 and R482. Legal time never steps back (R452): a
forward step that has been overtaken since the edge is no step, and what is left is acted on. (DEDUCED, log 52.) -/
def edgeAct (s : State) (e : PpsEdge) (e0 : Int) : State :=
  let left := edgeLeft s e e0
  let off := if 1000000 < e0 ∧ left ≤ 0 then left else e0
  if 1000000 < off then
    if 4 ≤ s.tb.steps.length then setB0 (sqEvt s Ad.TBU_EVT 0x40) (off.natAbs + 20) e.cyc
    else
      let new := (s.tb.time : Int) + left
      let s1 := setB0 (s.setTb { s.tb with servo := 0, servoLeft := 0, slew := false, slewLeft := 0 }) 20 e.cyc
      tbStep s1 new.toNat off 1 s.tb.q (tbClass s1)
  else if off < -1000000 then
    setB0 (s.setTb { s.tb with slew := true, slewLeft := off.natAbs * 2 ^ 32, servo := 0, servoLeft := 0 })
      (off.natAbs + 20) e.cyc
  else setB0 (servoAct s off) (off.natAbs + 20) e.cyc

/-- An edge accepted (R456, R461); on the internal oscillator its offset moves nothing (R484). -/
def edgeAccept (s : State) (e : PpsEdge) (off : Int) : State :=
  let e1 := { e with accepted := true }
  let t := { s.tb with edge := some e1, lastAcc := some e.cyc, ppsLost := false, resumed := false }
  let s1 := s.setTb { t with back := t.back && t.intOsc }
  edgeClass (pcu 0x70 0 1 (if t.intOsc then s1 else edgeAct s1 e off)) e.cyc

/-- A labelled edge meets the conditions of R456 against an earlier labelled one. -/
def edgeFollows (s : State) (e : PpsEdge) (sec : Nat) : Option PpsEdge → Bool
  | none => false
  | some p => match p.label with | none => false | some ps => gapOk s p e && offsetsAgree s p e ps sec

/-- A labelled edge: TBU_OFFSET, and acceptance where R456 grants it, against the edge before it or the last accepted one; the
candidate of R480 restarts the count of LOCK_N. -/
def edgeJudge (s : State) (e : PpsEdge) : State :=
  match e.label with
  | none => s
  | some sec =>
    let s1 := s.setReg Ad.TBU_OFFSET (w32 (unsx 32 (satS 32 (e.offset sec))))
    if e.accepted then s1
    else if e.cand then edgeClass (s1.setTb { s1.tb with lock := 0 }) e.cyc
    else if edgeFollows s1 e sec s1.tb.prev || edgeFollows s1 e sec s1.tb.accEdge then edgeAccept s1 e (e.offset sec)
    else s1

/-- What a new edge leaves of the one before it: an edge that no message labelled while the labels of R460 were in use takes the
nearest second (R459), which ends their use; a candidate of R480 that was never judged restarts the count of LOCK_N. (DEDUCED,
log 52.) -/
def edgeShift (s : State) : State :=
  match s.tb.edge with
  | none => s.setTb { s.tb with prev := none }
  | some p =>
    let t := { s.tb with prev := some p, accEdge := if p.accepted then some p else s.tb.accEdge }
    if p.label.isSome then s.setTb t
    else
      let t1 := if p.cand then { t with lock := 0 } else t
      if t.todUse.isSome && boundBelow s 450000000 then
        s.setTb { t1 with prev := some { p with label := some (nearestSec p) }, todUse := none, todN := 0, todD := 0 }
      else s.setTb t1

/-- A new edge becomes the last one; TBU_PPS_BAD_COUNT counts a candidate that it did not follow within the window (R487). -/
def edgeTake (s : State) (e : PpsEdge) : State :=
  let s1 :=
    match s.tb.edge with
    | none => s
    | some p => if !p.accepted && !p.bad && !gapOk s p e then s.inc Ad.TBU_PPS_BAD_COUNT else s
  edgeJudge (s1.setTb { s1.tb with edge := some e, restart := false }) e

/-- A PPS_IN edge: its polarity, and how long in ns the level then holds (R455). The error of the timestamp, at most 4 ns, is
a free value. The first edge after a change of EDGE or TBU_PPS_COMP is a candidate however soon it comes (R480). (DEDUCED, log 65.) -/
def ppsInEdge (falling : Bool) (held : Nat) (s : State) : State :=
  if held < 1000 ∨ falling ≠ bit (s.reg Ad.TBU_SRV_CFG) 0 then s
  else
    match s.tb.edge with
    | some p =>
      if (s.tb.cyc - p.cyc) * 2 < cycSec ∧ !s.tb.restart then s.inc Ad.TBU_PPS_BAD_COUNT else ppsTake (edgeShift s)
    | none => ppsTake (edgeShift s)
where
  ppsTake (s : State) : State :=
    let err : Int := max (-4) (min 4 (Config.ppsError s.free))
    let comp := sext 16 (s.fld Ad.TBU_PPS_COMP 15 0)
    let e0 : PpsEdge := ⟨s.tb.cyc, (s.tb.time : Int) + err, comp, none, false, false, s.tb.moved, s.tb.restart, false⟩
    let e := if s.tb.todUse.isNone && boundBelow s 450000000 then { e0 with label := some (nearestSec e0) } else e0
    edgeTake s.fresh e

/-- The candidate's window ends without an edge (R487). -/
def ppsCandTimeout (s : State) : State :=
  match s.tb.edge with
  | some p =>
    if !p.accepted && !p.bad && decide (5 * cycSec + 768 * ppsTol s < (s.tb.cyc - p.cyc) * 5)
    then (s.inc Ad.TBU_PPS_BAD_COUNT).setEdge { p with bad := true } else s
  | none => s

/-- PPS loss: 1.5 s without an accepted edge (R456, R462, R464). -/
def ppsLoss (s : State) : State :=
  if s.tb.ppsLost then s
  else if (s.tb.cyc - s.tb.lastAcc.getD 0) * 2 < 3 * cycSec then s
  else
    let s1 := s.setTb { s.tb with ppsLost := true, lock := 0 }
    boundRecompute s1

/-- The end of a slew or of the servo's removal of an offset (R461). -/
def slewEnd (s : State) : State :=
  if s.tb.slew && decide (s.tb.slewLeft = 0) then tbReclass (s.setTb { s.tb with slew := false })
  else if s.tb.servo ≠ 0 ∧ s.tb.servoLeft = 0 then s.setTb { s.tb with servo := 0 }
  else s

/-! ### TimeOfDay labels (R458 to R460, R481) -/

/-- A label put on the last edge, which is then judged; one accepted under its old label is acted on again, by what is left of the
offset under the new one (log 52). -/
def relabel (s : State) (e : PpsEdge) (sec : Nat) (byTod : Bool) : State :=
  let e1 := { e with label := some sec, byTod := byTod }
  let s1 := s.setEdge e1
  if e.accepted && !s.tb.intOsc then
    edgeClass (edgeAct (s1.setReg Ad.TBU_OFFSET (w32 (unsx 32 (satS 32 (e1.offset sec))))) { e1 with moved := s.tb.moved }
      (edgeLeft s e1 (e1.offset sec))) e.cyc
  else edgeJudge s1 e1

/-- A label that differs from the nearest second while the bound is below 450 ms (R460). -/
def todDiffers (s : State) (e : PpsEdge) (sec : Nat) : State :=
  let d : Int := (sec : Int) - nearestSec e
  if s.tb.todUse = some d then relabel s e sec true
  else
    let n := if d = s.tb.todD then s.tb.todN + 1 else 1
    let s1 := sqEvt (s.setTb { s.tb with todN := n, todD := d, todUse := none }) Ad.TBU_EVT 8
    if atLeast1 (s.fld Ad.TBU_SRV_CFG 27 24) ≤ n then relabel (s1.setTb { s1.tb with todUse := some d }) e sec true
    else if e.label.isNone then relabel s1 e (nearestSec e) false
    else s1

/-- A label on the latest edge, from 10 ms to 990 ms after it. -/
def todLabel (s : State) (sec : Nat) : State :=
  match s.tb.edge with
  | none => sqEvt s Ad.TBU_EVT 4
  | some e =>
    let c := s.tb.cyc - e.cyc
    if c * 100 < cycSec ∨ 99 * cycSec < c * 100 then sqEvt s Ad.TBU_EVT 4
    else if e.byTod ∧ e.label = some sec then s
    else if boundBelow s 450000000 ∧ sec ≠ nearestSec e then todDiffers s e sec
    else
      let s1 := if boundBelow s 450000000 then s.setTb { s.tb with todN := 0, todD := 0 } else s
      match e.label with
      | none => relabel (s1.setTb { s1.tb with todUse := none }) e sec true
      | some l => if l = sec then s1 else sqEvt s1 Ad.TBU_EVT 8

/-! ### TCXO failure and return (R484, R485) -/

/-- The TCXO is declared failed. -/
def tcxoFail (s : State) : State :=
  if s.tb.intOsc then s
  else
    let b := tbBoundNow s
    let s1 := s.setTb { s.tb with
      intOsc := true, b0 := b, bound := b.map (· + 20), t0 := s.tb.cyc, qAt := none
      servo := 0, servoLeft := 0, slew := false, slewLeft := 0 }
    tbReclass (raise (sqEvt s1 Ad.TBU_EVT 0x10) 26 0)

/-- The TB clock returns to the TCXO. -/
def tcxoReturn (s : State) : State :=
  if s.tb.intOsc then
    let b := tbBoundNow s
    tbReclass (s.setTb { s.tb with intOsc := false, b0 := b, bound := b, t0 := s.tb.cyc, back := true, qAt := none })
  else s

/-! ### PPS_OUT (R467, R468) and the RTC (R469, R470) -/

/-- PPS_OUT's width in TB cycles for a class (Table 12-3). -/
def ppsWidth (q : Nat) : Nat := (q + 1) * 15360000

/-- Legal time has reached a whole second: PPS_OUT rises unless R468 suppresses it. -/
def ppsOutRise (s : State) : State :=
  let sec := s.tb.time / 1000000000
  if sec ≤ s.tb.ppsOut.sec then s
  else
    let p := { s.tb.ppsOut with sec := sec }
    let sup := match p.rise with
      | none => false
      | some r => decide ((s.tb.cyc - r) * 2 < cycSec) || decide (s.tb.cyc < r + p.width + 16)
    if sup then s.setTb { s.tb with ppsOut := p }
    else s.setTb { s.tb with ppsOut := { p with high := true, rise := some s.tb.cyc, width := ppsWidth s.tb.q } }

/-- PPS_OUT falls after the width of the class at its rising edge. -/
def ppsOutFall (s : State) : State :=
  match s.tb.ppsOut.rise with
  | some r => if s.tb.ppsOut.high && decide (r + s.tb.ppsOut.width ≤ s.tb.cyc)
              then s.setTb { s.tb with ppsOut := { s.tb.ppsOut with high := false } } else s
  | none => s

/-- At a legal second the TBU sets the RTC, while the TB clock runs from the TCXO (R469). -/
def rtcSet (s : State) : State :=
  let sec := s.tb.time / 1000000000
  if s.tb.intOsc ∨ sec ≤ s.tb.rtcSec then s
  else
    (((s.setTb { s.tb with rtcSec := sec, rtcAcc := 0 }).setReg Ad.TBU_RTC_SEC_LO (w32 sec)).setReg
      Ad.TBU_RTC_SEC_HI (w32 ((sec / 2 ^ 32) % 65536))).setReg Ad.TBU_RTC_SUB 0

/-- The RTC reaches TBU_RTC_ALARM: wake bit 19 (Table 12-13). -/
def rtcAlarm (s : State) : State :=
  if s.reg Ad.TBU_RTC_SEC_LO = s.reg Ad.TBU_RTC_ALARM then setLatch s 19 else s

/-- The timebase at PORST_N release (R470): resumed from the RTC at Q4, or from 0 at Q3 where the RTC was lost. -/
def tbResume (s : State) (rtcLost : Bool) : TbSt :=
  let sec := (s.reg Ad.TBU_RTC_SEC_LO).toNat + 2 ^ 32 * s.fld Ad.TBU_RTC_SEC_HI 15 0
  let time := if rtcLost then 0 else (sec * 1000000000 + s.fld Ad.TBU_RTC_SUB 14 0 * 30517578 / 1000) % 2 ^ 64
  tbStart time rtcLost s.tb.rtcAcc

/-- TBU_QUALITY (Table 12-8). -/
def tbQuality (s : State) : Nat :=
  512 * b2n s.tb.intOsc + 256 * b2n (!s.tb.ppsLost) + 32 * b2n s.tb.slew + 16 * b2n s.tb.intOsc + s.tb.q

/-- Legal time captured by a read of its lower half: the upper half is kept in `hi` (R454, R109). -/
def timeLoRead (lo hi : Nat) (s : State) : State :=
  (s.setReg lo (w32 s.tb.time)).setReg hi (w32 (s.tb.time / 2 ^ 32))

end Sys2Proof.Machine
end

