-- ==== Sys2Proof/Machine/Evs.lean ====
section
/-!
DEFINITION. Machine/Evs.lean: the evidence store (chapter 13): record types, the submit queue, doorbells and receipts, exports,
fullness and erasing, the restart scan, direct flash access, GENESIS.
-/
namespace Sys2Proof.Machine

/-- The evidence store replaced. -/
def State.setEvs (s : State) (e : EvsSt) : State := { s with evs := e }

/-! ### Flash and the partition (R505, R509) -/

/-- An erased flash byte. -/
def flashDef : Nat → Byte := fun _ => 0xFF

/-- The key of a flash byte: chip select and address. -/
def flashKey (cs a : Nat) : Nat := cs % 2 * 2 ^ 32 + a % 2 ^ 32

/-- Bytes from an address to the end of a chip select's 4 GiB, past which an access goes on at its address 0. (DESIGN CHOICE,
log 66.) -/
def flashRoom (a : Nat) : Nat := 2 ^ 32 - a % 2 ^ 32

/-- n flash bytes. -/
def flashRead (s : State) (cs a n : Nat) : List Byte :=
  memRead flashDef s.flash (flashKey cs a) (min n (flashRoom a)) ++ memRead flashDef s.flash (flashKey cs 0) (n - flashRoom a)

/-- A page program: flash bits can only be cleared. -/
def flashProgram (s : State) (cs a : Nat) (l : List Byte) : State :=
  let v := l.zipWith (· &&& ·) (flashRead s cs a l.length)
  let m := memWrite flashDef s.flash (flashKey cs a) (v.take (flashRoom a))
  { s with flash := memWrite flashDef m (flashKey cs 0) (v.drop (flashRoom a)) }

/-- The bytes of a key range are erased. -/
def flashErase (s : State) (k n : Nat) : State :=
  { s with flash := s.flash.filter (fun e => decide (e.1 < k ∨ k + n ≤ e.1)) }

/-- A key range reads erased. -/
def flashErased (s : State) (k n : Nat) : Bool := s.flash.all (fun e => decide (e.1 < k ∨ k + n ≤ e.1))

/-- The flash is reset and switched over at its first use, and its SFDP tables are read (R506, R711). SUSPEND is the fitted
device's. -/
def flashUp (s : State) : State :=
  if s.evs.flashUp then s
  else (s.setEvs { s.evs with flashUp := true }).setReg Ad.EVS_FLASH_INFO (if Config.flashSuspend then 1 else 0)

/-- Base, chip select and sectors of the partition; none while PART is blank or bad (R704, R720). -/
def evsPart (s : State) : Option (Nat × Nat × Nat) :=
  if s.otp.partOk then
    some (s.fld Ad.EVS_PART_BASE 31 12 * 4096, s.fld Ad.EVS_PART_BASE 0 0, s.fld Ad.EVS_PART_SECTORS 16 0)
  else none

/-- Slots of the partition. -/
def evsSlots (s : State) : Nat := match evsPart s with | none => 0 | some (_, _, n) => 16 * n

/-- The flash key of a sequence's slot (R505). -/
def slotKey (s : State) (seq : Nat) : Nat :=
  match evsPart s with
  | none => 0
  | some (b, cs, n) => flashKey cs (b + 256 * (seq % (max 1 (16 * n))))

/-- The flash address of a sequence's slot, without its chip select. -/
def slotAddr (s : State) (seq : Nat) : Nat := slotKey s seq % 2 ^ 32

/-- The 256 bytes of a sequence's slot. -/
def slotBytes (s : State) (seq : Nat) : List Byte := memRead flashDef s.flash (slotKey s seq) 256

/-- Little-endian number of some bytes of a list. -/
def leAt (l : List Byte) (o n : Nat) : Nat := ofBytesLE ((l.drop o).take n)

/-- The 64 bytes of sixteen key registers, ascending (R10). -/
def keyBytes (s : State) (k : Nat) : List Byte := (List.range 16).flatMap (fun i => toBytesLE 4 (s.reg (k + 4 * i)).toNat)

/-- The record public key, CHZ_RECPUB. -/
def recPub (s : State) : List Byte := keyBytes s (Ad.CHZ_RECPUB 0)

/-- The bytes are a whole record of a sequence: its format and sequence, and its signature under the record key (R515). -/
def recWhole (s : State) (l : List Byte) (seq : Nat) : Bool :=
  decide (l.getD 1 0 = 1) && decide (leAt l 4 6 = seq) && p256Verify (recPub s) (sha256 (l.take 192)) (l.drop 192)

/-- A sequence's slot holds its whole record. -/
def slotWhole (s : State) (seq : Nat) : Bool := (evsPart s).isSome && recWhole s (slotBytes s seq) seq

/-- The sequence in the header of a slot: one whose format is valid and that R505 maps to this slot. (DESIGN CHOICE, log 66.) -/
def slotHdr (s : State) (slot : Nat) : Option Nat :=
  let l := (slotBytes s slot).take 32
  let q := leAt l 4 6
  if l.getD 1 0 = 1 ∧ q ≠ 2 ^ 48 - 1 ∧ q % (max 1 (evsSlots s)) = slot then some q else none

/-! ### Record types (R489, R491, Table 13-4) -/

/-- FLAGS of an integrator type in the active layout table; 0 where it has none. -/
def typeFlags (s : State) (t : Nat) : Nat :=
  match tblBody s 8 with
  | none => 0
  | some b =>
    match (List.range (tb32 b 0)).find? (fun i => (b.getD (4 + 8 * i) 0).toNat == t) with
    | none => 0
    | some i => (b.getD (5 + 8 * i) 0).toNat

/-- The type is VALID. -/
def typeValid (s : State) (t : Nat) : Bool := (typeFlags s t).testBit 0

/-- The type is CRITICAL; device types always are. -/
def typeCritical (s : State) (t : Nat) : Bool := decide (t < 0x40) || (typeFlags s t).testBit 2

/-! ### Fullness (R510, R511) -/

/-- Sector i of the partition, counted around it, is erased. -/
def secErased (s : State) (i : Nat) : Bool :=
  match evsPart s with
  | none => false
  | some (b, cs, n) => flashErased s (flashKey cs (b + 4096 * (i % (max 1 n)))) 4096

/-- Erased sectors in a row from sector i on, at most n. -/
def erasedRun (s : State) (i : Nat) : Nat → Nat
  | 0 => 0
  | n + 1 => if secErased s i then 1 + erasedRun s (i + 1) n else 0

/-- The free slots: from the next sequence's slot forward to the first sector that is not erased. -/
def evsFree (s : State) : Nat :=
  match evsPart s with
  | none => 0
  | some (_, _, n) =>
    if flashErased s (slotKey s s.evs.next) 256 then
      16 - s.evs.next % 16 + 16 * erasedRun s (s.evs.next / 16 + 1) (n - 1)
    else 0

/-- The code of EVS_STATE.STATE. -/
def EvsMode.code : EvsMode → Nat
  | .scanning => 0 | .noGenesis => 1 | .opened => 2 | .reserve => 3 | .full => 4

/-- STATE follows the free slots (R511). -/
def evsUpdate (s : State) : State :=
  match s.evs.mode with
  | .scanning => s
  | .noGenesis => s
  | m =>
    let f := evsFree s
    let m1 : EvsMode := if f = 0 then .full else if f ≤ 1024 then .reserve else .opened
    if m1 = m then s
    else
      let s1 := s.setEvs { s.evs with mode := m1 }
      match m1 with
      | .full => raise (sqEvt s1 Ad.EVS_EVT 0x20) 30 4
      | .reserve => raise (sqEvt s1 Ad.EVS_EVT 0x10) 30 3
      | _ => s1

/-! ### Offers that wait (R403, R503, R516) -/

/-- Entries taken. (DEDUCED, log 18.) -/
def evsCount (s : State) : Nat := s.evs.q.length + s.evs.reading.length

/-- An offer for the head of the queue, ahead of every waiting entry; with all 64 entries taken it waits for one. -/
def headOffer (s : State) (typ : Nat) (payload : List Byte) : State :=
  let s1 := if typ = 5 then sqEvt s Ad.EVS_EVT 2 else s
  if 64 ≤ evsCount s1 then s1.setEvs { s1.evs with headWait := s1.evs.headWait ++ [⟨typ, payload, none⟩] }
  else evsPush s1 true typ payload none

/-- Held offers enter in order while the queue takes them, FAULT offers marking their log entries. -/
def heldLoop : Nat → State → State
  | 0, s => s
  | n + 1, s =>
    match s.evs.held with
    | [] => s
    | h :: t =>
      if 64 ≤ evsCount s ∨ s.evs.mode = .noGenesis then s
      else
        let s1 := evsPush (s.setEvs { s.evs with held := t }) false h.typ h.payload h.log
        heldLoop n (match h.log with | none => s1 | some num => fltRecorded s1 num)

/-- An entry has freed, or the EVS island has started: what waits enters (R403, R503, R516). -/
def evsFreed (s : State) : State :=
  let s1 :=
    match s.evs.headWait with
    | [] => s
    | h :: t => if 64 ≤ evsCount s then s else evsPush (s.setEvs { s.evs with headWait := t }) true h.typ h.payload none
  if s1.running 31 then heldLoop s1.evs.held.length s1 else s1

/-- A kept BOOT offer enters once an entry is free and a genesis exists (R403). -/
def bootReenter (s : State) : State :=
  match s.evs.keptBoot with
  | none => s
  | some p =>
    if 64 ≤ evsCount s ∨ s.evs.mode = .noGenesis then s
    else evsPush (s.setEvs { s.evs with keptBoot := none }) false 1 p none

/-! ### Receipts (R495 to R497, Tables 13-7 and 13-8) -/

/-- A registration's number for a tenant: the enabled one that names it. -/
def evsReg (s : State) (t : Nat) : Option Nat :=
  (List.range 4).find? (fun n => bit (s.reg (Ad.EVS_REC_CTRL n)) 31 && s.fld (Ad.EVS_REC_CTRL n) 9 0 == t)

/-- A receipt line (Table 13-7). -/
def receiptLine (r : Rcpt) : Line :=
  BitVec.ofNat 512 (ofBytesLE (toBytesLE 8 r.nonce ++ toBytesLE 6 r.seq ++ [BitVec.ofNat 8 r.status, BitVec.ofNat 8 r.typ]
    ++ (r.chain ++ List.replicate 32 0).take 32 ++ toBytesLE 8 r.time))

/-- The Receipt message of a receipt. -/
def receiptSend (s : State) (r : Rcpt) : State := sendTo s r.src (.receipt r.tenant 0 r.status r.slot r.seq 0)

/-- An answer to a SUBMIT: the receipt line first, and the message once the home agent has answered that write. Where no
registration names the tenant there is no receipt area, and the message alone is sent. (DESIGN CHOICE, log 66.) -/
def reply (s : State) (r : Rcpt) : State :=
  match evsReg s r.tenant with
  | none => receiptSend s r
  | some n =>
    let s1 := s.setEvs { s.evs with rcpts := s.evs.rcpts ++ [(s.evs.rid, r)], rid := s.evs.rid + 1 }
    ag0Req s1 (.evsRcpt s.evs.rid) .writeFull r.tenant ((s.reg (Ad.EVS_REC_RCPT n)).toNat + r.slot) false
      (receiptLine r) (BitVec.allOnes 64)

/-- The home agent has answered a receipt line's write: the Receipt message goes out, whatever the answer was.
(DESIGN CHOICE, log 66.) -/
def receiptWriteAck (rid : Nat) (s : State) : State :=
  match ag0Take s (.evsRcpt rid) with
  | none => s
  | some (_, s1) =>
    match s1.evs.rcpts.find? (fun r => r.1 == rid) with
    | none => s1
    | some (_, r) => receiptSend (s1.setEvs { s1.evs with rcpts := s1.evs.rcpts.filter (fun x => x.1 != rid) }) r

/-- A receipt that is not for a carved record. -/
def plainRcpt (m : DoorMsg) (status : Nat) : Rcpt := ⟨m.tenant, m.src, m.slot, m.low, 0, status, m.typ, [], 0⟩

/-- An answer to EXPORT or ACK: a Receipt message only. -/
def answer (s : State) (t src kind status seq count : Nat) : State := sendTo s src (.receipt t kind status 0 seq count)

/-- The final receipt of a tenant entry, to its slot and to every repeat that waits for it (R497). -/
def finalRcpt (s : State) (e : QEntry) (status seq : Nat) (chain : List Byte) (time : Nat) : State :=
  let r : Rcpt := ⟨e.tenant, e.src, e.slot, e.nonce, seq, status, e.typ, chain, time⟩
  let ws := s.evs.dups.filter (fun d => d.tenant == e.tenant && d.nonce == e.nonce)
  let s1 := s.setEvs { s.evs with
    dups := s.evs.dups.filter (fun d => !(d.tenant == e.tenant && d.nonce == e.nonce))
    nonces := s.evs.nonces.map (fun n => if n.tenant = e.tenant ∧ n.nonce = e.nonce then { n with final := some r } else n) }
  ws.foldl (fun s d => reply s { r with src := d.src, slot := d.slot }) (reply s1 r)

/-! ### Doorbells (Table 13-6) -/

/-- Refusal of a doorbell. -/
def refuse (s : State) (m : DoorMsg) (status : Nat) : State :=
  let s1 := if status = 1 then pcu 0x61 0 1 (s.inc Ad.EVS_BUSY_COUNT) else s
  if m.kind = 0 then reply s1 (plainRcpt m status) else answer s1 m.tenant m.src m.kind status 0 0

/-- TENANT is LIVE, bound to SRC and has RECORDER set (check 1). -/
def isRecorder (s : State) (t src : Nat) : Bool :=
  decide (t < 1024) && decide (s.fld (Ad.DSC_CTRL t) 2 0 = 1) && bindBit s t src && bit (s.reg (Ad.DSC_CTRL t)) 9

/-- The checks after registration, in the order of Table 13-6; 0 when all pass. -/
def doorStatus (s : State) (m : DoorMsg) (reg : Nat) : Nat :=
  if 2 < m.kind ∨ (m.kind = 0 ∧ (typeFlags s m.typ) % 4 ≠ 3) then 4
  else if s.evs.mode = .noGenesis then 6
  else if m.kind = 0 ∧ ((s.evs.mode = .reserve ∧ !typeCritical s m.typ) ∨ s.evs.mode = .full) then 5
  else if m.kind = 0 ∧ 56 ≤ evsCount s then 1
  else if m.kind = 1 ∧ ((s.evs.exports.any (fun e => e.reg == reg)) ∨ contained s 27) then 1
  else 0

/-- The nonces held for a tenant: the 16 accepted last (R496), with any whose payload is being read. -/
def trimNonces (l : List NonceRec) (t : Nat) : List NonceRec :=
  let n := (l.filter (fun r => r.tenant == t)).length
  if n ≤ 16 then l
  else match l.findIdx? (fun r => r.tenant == t) with | none => l | some i => l.eraseIdx i

/-- A repeat of a held nonce (R497). -/
def dupSubmit (s : State) (m : DoorMsg) (r : NonceRec) : State :=
  let s1 := pcu 0x62 0 1 (s.inc Ad.EVS_DUP_COUNT)
  match r.final with
  | some f => reply s1 { f with src := m.src, slot := m.slot }
  | none => s1.setEvs { s1.evs with dups := s1.evs.dups ++ [⟨m.tenant, m.low, m.slot, m.src⟩] }

/-- An accepted SUBMIT: an entry is taken and its two payload lines are read with ReadOnce, PEEK 0 (R494). (DEDUCED, log 18.) -/
def submitTake (s : State) (m : DoorMsg) (reg : Nat) : State :=
  let e : QEntry := ⟨newIdx s, false, m.tenant, m.typ, m.slot, m.low, m.src, [], none⟩
  let s1 := s.fresh.setEvs { s.evs with
    reading := s.evs.reading ++ [e], nonces := s.evs.nonces ++ [⟨m.tenant, m.low, none⟩] }
  let l := (s.reg (Ad.EVS_REC_SUB reg)).toNat + 2 * m.slot
  ag0Req (ag0Req s1 (.evsSub e.idx 0) .readOnce m.tenant l false 0 0) (.evsSub e.idx 1) .readOnce m.tenant (l + 1) false 0 0

/-- A doorbell's first two checks; the registration that serves it. During the scan every doorbell is answered BUSY before any
check (R517). (DESIGN CHOICE, log 66.) -/
def doorReg (s : State) (m : DoorMsg) : State ⊕ Nat :=
  if s.evs.mode = .scanning then .inl (refuse s m 1)
  else if !isRecorder s m.tenant m.src then .inl (if m.kind = 0 then receiptSend s (plainRcpt m 2) else answer s m.tenant m.src m.kind 2 0 0)
  else
    match evsReg s m.tenant with
    | none => .inl (refuse s m 3)
    | some n => .inr n

/-- A SUBMIT doorbell. -/
def doorSubmit (m : DoorMsg) (s : State) : State :=
  match doorReg s m with
  | .inl t => t
  | .inr n =>
    match s.evs.nonces.find? (fun r => r.tenant == m.tenant && r.nonce == m.low) with
    | some r => dupSubmit s m r
    | none => let st := doorStatus s m n; if st = 0 then submitTake s m n else refuse s m st

/-- The payload's lines have arrived: the entry is accepted, or answered POISON or BUS and freed (Table 13-6, order 8).
(DEDUCED, log 18.) -/
def submitRead (idx : Nat) (s : State) : State :=
  match s.evs.reading.find? (fun e => e.idx == idx), ag0Peek s (.evsSub idx 0), ag0Peek s (.evsSub idx 1) with
  | some e, some a, some b =>
    let s0 := ag0Drop (ag0Drop s (.evsSub idx 0)) (.evsSub idx 1)
    let s1 := s0.setEvs { s0.evs with reading := s0.evs.reading.filter (fun x => x.idx != idx) }
    if a.kind = .data ∧ b.kind = .data then
      let pl := toBytesLE 64 a.line.toNat ++ toBytesLE 64 b.line.toNat
      let s2 := s1.setEvs { s1.evs with q := s1.evs.q ++ [{ e with payload := pl }], nonces := trimNonces s1.evs.nonces e.tenant }
      pcu 0x60 0 1 (sqEvt s2 Ad.EVS_EVT 1)
    else
      let st := if a.kind = .dataPoison ∨ b.kind = .dataPoison then 7 else 8
      let s2 := finalRcpt s1 e st 0 [] 0
      evsFreed (s2.setEvs { s2.evs with
        nonces := s2.evs.nonces.filter (fun n => !(n.tenant == e.tenant && n.nonce == e.nonce)) })
  | _, _, _ => s

/-! ### Export (R513) and acknowledge (R514) -/

/-- The flash may be sent no command: a CARVE stands from step 5 to step 7 (R508). -/
def flashHold (s : State) : Bool := match s.chz.carve with | none => false | some c => decide (5 ≤ c.step)

/-- The next sequence in a range whose record is present. -/
def nextPresent (s : State) (q : Nat) : Nat → Option Nat
  | 0 => none
  | n + 1 => if slotWhole s q then some q else nextPresent s (q + 1) n

/-- The export replaced by its new state, or removed. -/
def setExport (s : State) (reg : Nat) (e : Option ExportSt) : State :=
  s.setEvs { s.evs with exports := s.evs.exports.filter (fun x => x.reg != reg) ++ e.toList }

/-- The end of an export: EXPORT_DONE and its answer, RANGE where no record was there. (DESIGN CHOICE, log 66.) -/
def exportEnd (s : State) (e : ExportSt) (bus : Bool) : State :=
  answer (sqEvt (setExport s e.reg none) Ad.EVS_EVT 4) e.tenant e.src 1
    (if bus then 8 else if e.written = 0 then 0x0A else 0x0B) e.last e.written

/-- The next record of an export is copied with four WriteFull requests, unless a CARVE holds the flash; with none left the
export ends. A record carved since the doorbell is one of its range (R521). (DEDUCED, log 53.) -/
def exportNext (s : State) (e : ExportSt) : State :=
  if flashHold s then setExport s e.reg (some e)
  else
    match nextPresent s e.next (min e.upto s.evs.next - e.next) with
    | none => exportEnd s e false
    | some q =>
      let l := slotBytes s q
      let base := e.base + 4 * (q % e.size)
      let s1 := setExport s e.reg (some { e with next := q + 1, outst := 4, written := e.written + 1, last := q })
      (List.range 4).foldl (fun s i => ag0Req s (.evsExp e.reg i) .writeFull e.tenant (base + i) false
        (BitVec.ofNat 512 (ofBytesLE ((l.drop (64 * i)).take 64))) (BitVec.allOnes 64)) s1

/-- An EXPORT doorbell. (DEDUCED, log 53.) -/
def doorExport (m : DoorMsg) (s : State) : State :=
  match doorReg s m with
  | .inl t => t
  | .inr n =>
    let st := doorStatus s m n
    if st ≠ 0 then refuse s m st
    else
      let frm := m.low % 2 ^ 48
      let lo := max frm (s.evs.next - evsSlots s)
      let hi := frm + (m.low / 2 ^ 48) % 65536
      exportNext s ⟨n, m.tenant, m.src, (s.reg (Ad.EVS_REC_EXP n)).toNat, atLeast1 (s.fld (Ad.EVS_REC_EXPSIZE n) 16 0),
        lo, max lo hi, 0, 0, 0⟩

/-- An export write has been answered. A Retry ends the export with BUS. (DESIGN CHOICE, log 66.) -/
def exportWriteAck (reg i : Nat) (s : State) : State :=
  match s.evs.exports.find? (fun e => e.reg == reg), ag0Take s (.evsExp reg i) with
  | some e, some (r, s1) =>
    if r.kind ≠ .ack then exportEnd s1 { e with written := e.written - 1 } true
    else if e.outst ≤ 1 then exportNext s1 { e with outst := 0 }
    else setExport s1 reg (some { e with outst := e.outst - 1 })
  | _, some (_, s1) => s1
  | _, none => s

/-- Exports that yielded to a CARVE go on (R508). -/
def exportsResume (s : State) : State :=
  s.evs.exports.foldl (fun s e => if e.outst = 0 then exportNext s e else s) s

/-- The sequence below the next one that maps to a slot; none when there is none. -/
def seqOfSlot (s : State) (slot : Nat) : Option Nat :=
  let tot := max 1 (evsSlots s)
  if s.evs.next = 0 then none
  else
    let d := (s.evs.next - 1 + tot - slot) % tot
    if d ≤ s.evs.next - 1 then some (s.evs.next - 1 - d) else none

/-- The sector is eligible (R510): every sequence mapped to it is acknowledged and its newest record is older than the
retention. -/
def eraseOk (s : State) (c : Nat) : Bool :=
  let seqs := (List.range 16).filterMap (fun i => seqOfSlot s (16 * c + i))
  let newest := (seqs.filter (slotWhole s)).foldl max 0
  seqs.all (fun q => decide (q ≤ s.evs.ack ∧ s.evs.ack ≠ 2 ^ 48)) &&
    (!(seqs.any (slotWhole s)) ||
      decide (leAt (slotBytes s newest) 12 8 + s.fld Ad.EVS_RET 15 0 * 86400000000000 ≤ s.now))

/-- The sector to erase: the first eligible one that is not erased, going round from the sector just beyond the free slots; never the
sector that holds the next sequence's slot (R510). -/
def eraseCand (s : State) : Option Nat :=
  match evsPart s with
  | none => none
  | some (_, _, n) =>
    let sj := (s.evs.next % (max 1 (16 * n))) / 16
    let f := evsFree s
    let c := if f = 0 then sj else sj + 1 + (f - (16 - s.evs.next % 16)) / 16
    ((List.range n).map (fun i => (c + i) % n)).find? (fun i => i != sj && !secErased s i && eraseOk s i)

/-- The evaluation of R522; an erase starts where R507, R508 and containment allow. -/
def eraseEval (s : State) : State :=
  if !s.running 31 ∨ s.evs.mode = .scanning ∨ s.evs.mode = .noGenesis ∨ s.evs.erasing.isSome ∨ s.evs.eraseOff ∨ contained s 27 ∨
      flashHold s ∨ (s.fld Ad.EVS_FLASH_INFO 0 0 = 0 ∧ (evsCount s ≠ 0 ∨ s.evs.pending.isSome ∨
        s.chz.q.any (fun e => match e.op with | .carve _ _ _ _ => true | _ => false))) then s
  else
    match eraseCand s with
    | none => s
    | some c => s.setEvs { s.evs with erasing := some (c, 0) }

/-- The erase ends: as it should, or it is repeated once and then given up until a reset (R525). One that is suspended for a
CARVE does not end (R507, R508). -/
def eraseDone (ok : Bool) (s : State) : State :=
  match s.evs.erasing, evsPart s with
  | some (c, n), some (b, cs, tot) =>
    if flashHold s ∧ s.fld Ad.EVS_FLASH_INFO 0 0 = 1 then s
    else if ok then
      let s1 := flashErase s (flashKey cs (b + 4096 * (c % (max 1 tot)))) 4096
      evsUpdate (pcu 0x64 0 1 ((s1.setEvs { s1.evs with erasing := none }).inc Ad.EVS_ERASE_COUNT))
    else if n = 0 then s.setEvs { s.evs with erasing := some (c, 1) }
    else raise (sqEvt (s.setEvs { s.evs with erasing := none, eraseOff := true }) Ad.EVS_EVT 0x40) 31 0xFF
  | _, _ => s

/-- An ACK doorbell (R514, R522). EVS_ACK one below sequence 0 is held as 2^48. -/
def doorAck (m : DoorMsg) (s : State) : State :=
  match doorReg s m with
  | .inl t => t
  | .inr n =>
    let st := doorStatus s m n
    if st ≠ 0 then refuse s m st
    else
      let a := m.low % 2 ^ 48
      let cur := s.evs.ack
      let new :=
        match s.evs.lastSeq with
        | none => cur
        | some l => if cur = 2 ^ 48 then min a l else max cur (min a l)
      let s1 := s.setEvs { s.evs with ack := new }
      eraseEval (answer s1 m.tenant m.src 2 0x0C (new % 2 ^ 48) 0)

/-- A doorbell with an undefined KIND (R494): judged in the same order, and refused at check 4. -/
def doorUndef (m : DoorMsg) (s : State) : State :=
  match doorReg s m with
  | .inl t => t
  | .inr n => refuse s m (doorStatus s m n)

/-- EVS_CMD.DROP (R502). With no entry, or while a CARVE of the oldest entry runs, it is ignored like that of a device entry. (DESIGN
CHOICE, log 66.) -/
def evsDrop (s : State) : State :=
  match s.evs.q with
  | [] => sqEvt s Ad.EVS_EVT 8
  | e :: t =>
    let busy : Bool := match s.chz.carve with | some c => !c.fw | none => false
    if e.device ∨ busy then sqEvt s Ad.EVS_EVT 8
    else
      let s1 := s.setEvs { s.evs with q := t }
      evsFreed (finalRcpt s1 e (if s.fld Ad.EVS_CMD 15 8 = 5 then 5 else 9) 0 [] 0)

/-! ### GENESIS (R712) -/

/-- The whole partition reads erased. -/
def partErased (s : State) : Bool :=
  match evsPart s with
  | none => false
  | some (b, cs, n) => flashErased s (flashKey cs b) (4096 * n)

/-- The GENESIS payload (Table 13-3). -/
def genesisPayload (s : State) : List Byte :=
  pad128 (toBytesLE 4 (s.reg Ad.OTP_DEVICE_ID_LO).toNat ++ toBytesLE 4 (s.reg Ad.OTP_DEVICE_ID_HI).toNat ++ recPub s
    ++ toBytesLE 4 (s.reg Ad.EVS_PART_BASE).toNat ++ toBytesLE 4 (s.reg Ad.EVS_PART_SECTORS).toNat)

/-- EVS_GENESIS.GENESIS. A second one while a GENESIS waits is ignored. (DESIGN CHOICE, log 66.) -/
def evsGenesis (s : State) : State :=
  let dup := s.evs.q.any (fun e => e.device && e.typ == 0) || s.evs.headWait.any (fun h => h.typ == 0)
  if s.evs.mode = .noGenesis ∧ s.fld Ad.OTP_LIFECYCLE 1 0 = 1 ∧ (evsPart s).isSome ∧ !bit (s.reg (Ad.CHZ_KEY_POL 1)) 16
      ∧ (!s.evs.scanBad ∨ partErased s) ∧ !dup then
    headOffer (s.setEvs { s.evs with next := 0, scanBad := false }) 0 (genesisPayload s)
  else sqEvt s Ad.EVS_EVT 8

/-! ### The restart scan (R515, Table 13-10) -/

/-- The highest header sequence among some slots. -/
def maxHdr (s : State) (slots : List Nat) : Option Nat :=
  slots.foldl (fun a i => match slotHdr s i, a with
    | some q, some m => some (max q m)
    | some q, none => some q
    | none, a => a) none

/-- The lowest header sequence among some slots. -/
def minHdr (s : State) (slots : List Nat) : Option Nat :=
  slots.foldl (fun a i => match slotHdr s i, a with
    | some q, some m => some (min q m)
    | some q, none => some q
    | none, a => a) none

/-- The newest whole record at or below a sequence whose CHAIN agrees with the record before it, where that is present. -/
def findTop (s : State) (q : Nat) : Nat → Option Nat
  | 0 => none
  | n + 1 =>
    if slotWhole s q && (!(decide (0 < q) && slotWhole s (q - 1)) ||
        decide (((slotBytes s q).drop 160).take 32 = sha256 (slotBytes s (q - 1)))) then some q
    else if q = 0 then none else findTop s (q - 1) n

/-- The TORN marker's payload (Table 13-3). -/
def tornPayload (s : State) (first reason count : Nat) : List Byte :=
  pad128 (toBytesLE 6 first ++ [BitVec.ofNat 8 reason, 0] ++ toBytesLE 4 (slotAddr s first) ++ toBytesLE 2 (min count 65535))

/-- The end of the chain judged (Table 13-10), for highest whole sequence n and H. A whole record of an earlier round in the slot of
H + 1 is no loss. (DESIGN CHOICE, log 66.) -/
def scanJudge (s : State) (n h : Nat) : State :=
  let old := match slotHdr s ((h + 1) % (max 1 (evsSlots s))) with
    | some q => decide (q < h + 1) && slotWhole s q
    | none => false
  let clear := flashErased s (slotKey s (h + 1)) 256 || old
  let ok := s.evs.hwm.isSome
  if clear ∧ ok ∧ h = n then s.setEvs { s.evs with next := n + 1 }
  else if clear ∧ ok then
    headOffer (s.setEvs { s.evs with next := h + 1 }) 5 (tornPayload s (n + 1) 1 (h - n))
  else
    headOffer (s.setEvs { s.evs with next := h + 2 }) 5 (tornPayload s (n + 1) (if ok then 1 else 3) (h + 1 - n))

/-- The restart scan ends: chain head, provenance, EVS_NEXT, EVS_ACK and STATE (R514, R515, R526), and the floor of R471. -/
def scanComplete (s0 : State) : State :=
  if s0.evs.mode ≠ .scanning ∨ !s0.running 31 then s0
  else
    let s := flashUp s0
    match evsPart s with
    | none => s
    | some (_, _, n) =>
      let firsts := (List.range n).map (16 * ·)
      let newest := (maxHdr s firsts).getD 0 % (max 1 (16 * n)) / 16
      let seen := firsts ++ (List.range 16).map (16 * newest + ·)
      let top := match maxHdr s seen with | none => none | some m => findTop s m (16 * n)
      let done :=
        match top with
        | none =>
          let s1 := s.setEvs { s.evs with mode := .noGenesis, head := List.replicate 32 0, next := 0 }
          if partErased s1 then s1
          else raise (sqEvt (s1.setEvs { s1.evs with scanBad := true }) Ad.EVS_EVT 0x80) 31 0xFE
        | some t =>
          let l := slotBytes s t
          let h := max (max t ((maxHdr s seen).getD 0)) (s.evs.hwm.getD 0)
          let lo := (minHdr s seen).getD 0
          let s1 := s.setEvs { s.evs with
            head := sha256 l, prov := leAt l 26 6, lastSeq := some t, ack := if lo = 0 then 2 ^ 48 else lo - 1 }
          let s2 := scanJudge (tbFloor s1 (leAt l 12 8)) t h
          evsUpdate (s2.setEvs { s2.evs with mode := .opened })
      bootReenter (evsFreed (sqEvt done Ad.EVS_EVT 0x100))

/-! ### Direct flash access (Table 13-15, R526, R704) -/

/-- The range touches the partition. -/
def inPart (s : State) (cs a n : Nat) : Bool :=
  match evsPart s with
  | none => false
  | some (b, pcs, tot) => decide (cs = pcs ∧ (a < b + 4096 * tot ∧ b < a + n ∨ b + 2 ^ 32 < a + n))

/-- EVS_X_CTRL with a nonzero OP: refused, or started. A write while an access runs starts nothing, and OP 4 to
7 is refused. (DESIGN CHOICE, log 66.) -/
def evsXStart (s : State) : State :=
  let op := s.fld Ad.EVS_X_CTRL 2 0
  let cs := s.fld Ad.EVS_X_CTRL 4 4
  let a0 := (s.reg Ad.EVS_X_ADDR).toNat
  let a := if op = 3 then a0 / 4096 * 4096 else a0
  let n := if op = 3 then 4096 else s.fld Ad.EVS_X_CTRL 15 8 + 1
  if op = 0 ∨ s.evs.xop.isSome then s
  else if 3 < op ∨ contained s 27 ∨ (op ≠ 1 ∧ inPart s cs a n ∧ !(op = 3 ∧ s.evs.scanBad)) then s.setFld Ad.EVS_X_CTRL 23 16 1
  else (flashUp s).setEvs { (flashUp s).evs with xop := some ⟨op, cs, a, n⟩ }

/-- Bytes laid into a word buffer from its first byte on. -/
def bufWrite (s : State) (k : Nat) (l : List Byte) : State :=
  (List.range ((l.length + 3) / 4)).foldl (fun s i =>
    let old := toBytesLE 4 (s.reg (k + 4 * i)).toNat
    let new := (l.drop (4 * i)).take 4
    s.setReg (k + 4 * i) (w32 (ofBytesLE (new ++ old.drop new.length)))) s

/-- Bytes of a word buffer. -/
def bufRead (s : State) (k n : Nat) : List Byte :=
  ((List.range ((n + 3) / 4)).flatMap (fun i => toBytesLE 4 (s.reg (k + 4 * i)).toNat)).take n

/-- A direct access ends, with or without an error of the flash device. It waits while a CARVE holds the flash. -/
def evsXDone (ok : Bool) (s : State) : State :=
  match s.evs.xop with
  | none => s
  | some x =>
    if flashHold s then s
    else
      let s1 := (s.setEvs { s.evs with xop := none }).setFld Ad.EVS_X_CTRL 23 16 (if ok then 0 else 2)
      if !ok then s1
      else if x.op = 1 then bufWrite s1 (Ad.EVS_X_BUF 0) (flashRead s1 x.cs x.addr x.len)
      else if x.op = 2 then pcu 0x63 0 1 (flashProgram s1 x.cs x.addr (bufRead s1 (Ad.EVS_X_BUF 0) x.len))
      else pcu 0x64 0 1 (flashErase s1 (flashKey x.cs x.addr) 4096)

/-- What follows a write of EVS_REC_n_CTRL (R493): EN stays 0 where another enabled registration names the tenant. (DEDUCED, log 53.) -/
def evsRecWritten (n : Nat) (s : State) : State :=
  let k := Ad.EVS_REC_CTRL n
  if bit (s.reg k) 31 && (List.range 4).any (fun m => m != n && bit (s.reg (Ad.EVS_REC_CTRL m)) 31
      && s.fld (Ad.EVS_REC_CTRL m) 9 0 == s.fld k 9 0) then
    sqEvt (s.setFld k 31 31 0) Ad.EVS_EVT 8
  else s

/-! ### The CARVE's side (R488 to R490, R504, R509, R516) -/

/-- What a CARVE captures at step 1. -/
structure CarveCap where
  entry : Option QEntry
  typ : Nat
  seq : Nat
  time : Nat
  bytes : List Byte
deriving DecidableEq, Repr

/-- The header of Table 13-2, with the values of this moment (R26, R478, R488, R489). -/
def recHeader (s : State) (typ tenant seq : Nat) : List Byte :=
  let pv := if (typeFlags s typ).testBit 3 ∧ 0x40 ≤ typ then seq else s.evs.prov
  [BitVec.ofNat 8 typ, 1] ++ toBytesLE 2 (tenant + 1024 * s.tb.q + 8192 * b2n s.tb.intOsc) ++ toBytesLE 6 seq
    ++ [BitVec.ofNat 8 s.mot.plaus, 0] ++ toBytesLE 8 s.now ++ toBytesLE 6 (s.mot.nm / 10 ^ 6) ++ toBytesLE 6 pv

/-- Step 1 for a queue entry: the EVS code of Table 13-9, or what is captured. (DEDUCED, log 46.) -/
def carveEntry (s : State) (idx : Nat) : Nat ⊕ CarveCap :=
  match s.evs.q.find? (fun e => e.idx == idx) with
  | none => .inl 2
  | some e =>
    if !s.evs.headWait.isEmpty ∨ (s.evs.q.head?.map QEntry.idx) ≠ some idx then .inl 1
    else if e.device ∧ e.typ = 0 ∧ s.evs.mode ≠ .noGenesis then .inl 7
    else if s.evs.mode = .noGenesis ∧ !(e.device ∧ e.typ = 0) then .inl 5
    else if !e.device ∧ !typeValid s e.typ then .inl 3
    else if s.evs.mode = .full ∨ (s.evs.mode = .reserve ∧ !e.device ∧ !typeCritical s e.typ) then .inl 4
    else .inr ⟨some e, e.typ, s.evs.next, s.now,
      recHeader s e.typ (if e.device then 0 else e.tenant) s.evs.next ++ pad128 e.payload ++ s.evs.head⟩

/-- Step 1 of a CARVE (R504): the EVS code, or the capture. The order in which the causes are judged is not stated. (DEDUCED, log 46.) -/
def carveReserve (s : State) (fw : Bool) (typ idx : Nat) (payload : List Byte) : Nat ⊕ CarveCap :=
  if s.evs.mode = .scanning then .inl 6
  else if fw then
    if !s.evs.headWait.isEmpty then .inl 1
    else if typ < 0x40 ∨ !typeValid s typ then .inl 3
    else if s.evs.mode = .noGenesis then .inl 5
    else if s.evs.mode = .full ∨ (s.evs.mode = .reserve ∧ !typeCritical s typ) then .inl 4
    else .inr ⟨none, typ, s.evs.next, s.now, recHeader s typ 0 s.evs.next ++ pad128 payload ++ s.evs.head⟩
  else carveEntry s idx

/-- The start of step 6: EVS_HWM is written and the sequence is used (R439, R509). -/
def carveProgram (s : State) (seq : Nat) : State :=
  evsUpdate (s.setEvs { s.evs with hwm := some seq, next := seq + 1 })

/-- Step 6 fails: the sequence is used, a TORN marker is offered and EVS_FLASH is raised (R439, R516, R525). -/
def carveFlash (s : State) (seq code : Nat) : State :=
  let s1 := raise (s.setEvs { s.evs with pending := none }) 31 code
  exportsResume (evsUpdate (headOffer s1 5 (tornPayload s1 seq 2 1)))

/-- The PROVISION payload (Table 20-5). The words of rows 0x04 to 0x0B are the registers OTP_BOOT_A to OTP_PART_SECTORS and
the four hash rows, their reserved bits zero. (DEDUCED, log 71.) -/
def provisionPayload (s : State) : List Byte :=
  let le (k : Nat) : List Byte := toBytesLE 4 (s.reg k).toNat
  let rows := le Ad.OTP_BOOT_A ++ le Ad.OTP_BOOT_B ++ toBytesLE 4 (s.reg Ad.OTP_PART_BASE &&& 0xFFFFF003).toNat
    ++ toBytesLE 4 (s.fld Ad.OTP_PART_SECTORS 16 0) ++ (List.range 32).flatMap (fun i => le (Ad.OTP_HASH i))
  le Ad.OTP_DEVICE_ID_LO ++ le Ad.OTP_DEVICE_ID_HI
    ++ [BitVec.ofNat 8 (s.fld Ad.OTP_LIFECYCLE 1 0), BitVec.ofNat 8 (s.fld Ad.OTP_MIN_SVN 6 0),
      BitVec.ofNat 8 (s.fld Ad.OTP_LIFECYCLE 9 8)]
    ++ List.replicate 5 0 ++ sha256 rows ++ List.replicate 16 0 ++ (List.range 16).flatMap (fun i => le (Ad.OTP_ENDORSE i))

/-- Step 7: the chain head, provenance, the receipt, and what each device type entails (R69, R403, R489, R490, R512, R527, R713). -/
def carveConfirm (s : State) (c : CarveSt) : State :=
  let head := sha256 c.bytes
  let s1 := s.setEvs { s.evs with
    head := head, pending := none, lastSeq := some c.seq
    prov := if (typeFlags s c.typ).testBit 3 ∧ 0x40 ≤ c.typ then c.seq else s.evs.prov }
  let s2 :=
    match c.entry with
    | none => s1
    | some e =>
      let s3 := s1.setEvs { s1.evs with q := s1.evs.q.filter (fun x => x.idx != e.idx) }
      if !e.device then evsFreed (finalRcpt s3 e 0 c.seq head c.time)
      else
        let s4 :=
          if e.typ = 5 then s3.inc Ad.EVS_TORN_COUNT
          else if e.typ = 1 then s3.setFld Ad.RCC_BOOT_STATUS 8 8 0
          else if e.typ = 7 then
            { s3 with tap := match s3.tap.waiting with
                | some p => if p = e.payload then { s3.tap with waiting := none, grant := ofBytesLE (p.take 4), status := 1 } else s3.tap
                | none => s3.tap }
          else if e.typ = 0 then headOffer (s3.setEvs { s3.evs with mode := .opened }) 8 (provisionPayload s3)
          else s3
        evsFreed s4
  exportsResume (bootReenter (evsUpdate s2))

end Sys2Proof.Machine
end

