-- ==== Sys2Proof/Machine/Otp.lean ====
section
/-!
DEFINITION. Machine/Otp.lean: the OTP rows and commands (chapter 20): loading at reset (R705, R720), the operations of Table 20-3
with the results of Table 20-4 (R705 to R710, R716), and the key slots they load (Table 11-1, R419, R421).
-/
namespace Sys2Proof.Machine

/-- Words of a row (Table 20-2). -/
def otpWords (r : Nat) : Nat :=
  if r = 0 ∨ r = 6 then 2 else if r ≤ 5 then 1 else if r = 0x0C then 16 else 8

/-- The rows of Table 20-2. -/
def otpRowNo (r : Nat) : Bool := decide (r ≤ 6 ∨ (8 ≤ r ∧ r ≤ 0x0C) ∨ (0x0E ≤ r ∧ r ≤ 0x15))

/-- A programmed row. -/
def otpRow (s : State) (r : Nat) : Option OtpRow := s.otp.rows.find? (fun x => x.row == r)

/-- OTP_VARIANT, fixed at manufacture (Table 0-7, R4, R21). -/
def variantWord (s : State) : Word := if isG2B s then 0x0007030B else 0x000F070A

/-- Word i of a row as it reads: 0 for a blank or bad row. -/
def otpWord (s : State) (r i : Nat) : Word :=
  match otpRow s r with
  | some x => if x.bad then 0 else if r = 1 then variantWord s else x.words.getD i 0
  | none => 0

/-- A row replaced. -/
def setOtpRow (s : State) (x : OtpRow) : State :=
  { s with otp := { s.otp with rows := s.otp.rows.filter (fun y => y.row != x.row) ++ [x] } }

/-- The row is programmed and not bad. -/
def otpGood (s : State) (r : Nat) : Bool := (otpRow s r).any (fun x => !x.bad)

/-- The register that shows word i of a row; key rows are not mapped. -/
def otpReg (r i : Nat) : Option Nat :=
  if r = 0 then some (if i = 0 then Ad.OTP_DEVICE_ID_LO else Ad.OTP_DEVICE_ID_HI)
  else if r = 1 then some Ad.OTP_VARIANT
  else if r = 2 then some Ad.OTP_LIFECYCLE
  else if r = 3 then some Ad.OTP_MIN_SVN
  else if r = 4 then some Ad.OTP_BOOT_A
  else if r = 5 then some Ad.OTP_BOOT_B
  else if r = 6 then some (if i = 0 then Ad.OTP_PART_BASE else Ad.OTP_PART_SECTORS)
  else if 8 ≤ r ∧ r ≤ 11 then some (Ad.OTP_HASH (8 * (r - 8) + i))
  else if r = 12 then some (Ad.OTP_ENDORSE i)
  else none

/-- A row's registers and its OTP_ROW_BAD bit loaded. -/
def otpShow (s : State) (r : Nat) : State :=
  let s1 := (List.range (otpWords r)).foldl (fun s i =>
    match otpReg r i with
    | some k => s.setReg k (otpWord s r i)
    | none => s) s
  s1.setFld Ad.OTP_ROW_BAD r r (b2n ((otpRow s r).any OtpRow.bad))

/-! ### Key slots 0 to 7 -/

/-- The bytes of a row. -/
def rowBytes (x : OtpRow) : List Byte := x.words.flatMap (fun w => toBytesLE 4 w.toNat)

/-- The slot that a key row loads (Table 11-1, R419, R720). -/
def slotOfRow (s : State) (n : Nat) : KeySlot :=
  match otpRow s (0x0E + n) with
  | none => ⟨0, if n = 1 then 2 else 0, [], false⟩
  | some x =>
    if x.bad then ⟨0, if n = 1 then 2 else 0, [], true⟩
    else ⟨x.kind, if n = 1 then 2 else x.use, rowBytes x, false⟩

/-- The public key of a slot, or nothing while it is EMPTY or BROKEN. -/
def slotPub (k : KeySlot) : List Byte := if k.kind = 1 ∧ !k.broken then p256Pub (ofBytesBE k.key) else []

/-- CHZ_IDPUB and CHZ_RECPUB of slots 0 and 1. -/
def showPubs (s : State) : State :=
  let pub (n : Nat) : List Byte := pad128 (slotPub (s.chz.slots.getD n ⟨0, 0, [], false⟩))
  bufWrite (bufWrite s (Ad.CHZ_IDPUB 0) ((pub 0).take 64)) (Ad.CHZ_RECPUB 0) ((pub 1).take 64)

/-- Slots loaded from OTP at a reset; slots 8 to 15 cleared. -/
def loadSlots (s : State) : State :=
  showPubs { s with chz := { s.chz with
    slots := (List.range 8).map (slotOfRow s) ++ List.replicate 8 ⟨0, 0, [], false⟩ } }

/-- OTP_LOAD: every row into its registers, PART into the evidence store, the slots into Chisel (step 3 of Table 2-6). -/
def otpLoad (s : State) : State :=
  let s1 := ((List.range 22).filter otpRowNo).foldl otpShow s
  let s2 := { s1 with otp := { s1.otp with partOk := otpGood s1 6 } }
  loadSlots s2

/-! ### Commands (Table 20-3) -/

/-- The lifecycle is PROVISIONED. -/
def provisioned (s : State) : Bool := bit (otpWord s 2 0) 0

/-- Staged word i. -/
def otpStage (s : State) (i : Nat) : Word := s.reg (Ad.OTP_STAGE i)

/-- Staged words of a row. -/
def otpStaged (s : State) (n : Nat) : List Word := (List.range n).map (otpStage s)

/-- R706: the value staged for a row is acceptable. -/
def otpValueOk (s : State) (row : Nat) : Bool :=
  let ws := otpStaged s (otpWords row)
  let nz := ws.any (· != 0)
  if row = 4 ∨ row = 5 then bit (otpStage s 0) 1 && decide (bf (otpStage s 0) 11 2 = 0)
  else if row = 6 then
    bit (otpStage s 0) 1 && decide (128 ≤ bf (otpStage s 1) 16 0 ∧ bf (otpStage s 1) 16 0 ≤ 65536)
  else if row ≤ 11 then nz
  else
    let kind := s.fld Ad.OTP_KEYPOL 3 0
    let use := s.fld Ad.OTP_KEYPOL 12 8
    let v := ofBytesBE (ws.flatMap (fun w => toBytesLE 4 w.toNat))
    decide (1 ≤ kind ∧ kind ≤ 3) && !use.testBit 1 && (if kind = 1 then decide (1 ≤ v ∧ v < p256N) else nz)

/-- The rows PROGRAM may name in the lifecycle (Table 20-3). -/
def otpRowOk (s : State) (row : Nat) : Bool :=
  if provisioned s then row == 9 || decide (0x10 ≤ row ∧ row ≤ 0x15)
  else decide (4 ≤ row ∧ row ≤ 6) || decide (8 ≤ row ∧ row ≤ 11) || decide (0x10 ≤ row ∧ row ≤ 0x15)

/-- The flash areas of R708: chip select, first address and the address after the last. -/
def otpAreas (s : State) : List (Nat × Nat × Nat) :=
  let boot (r : Nat) : List (Nat × Nat × Nat) :=
    let w := otpWord s r 0
    if bit w 1 then [(bf w 0 0, bf w 31 12 * 4096, bf w 31 12 * 4096 + 262144)] else []
  let b := otpWord s 6 0
  boot 4 ++ boot 5 ++ [(bf b 0 0, bf b 31 12 * 4096, bf b 31 12 * 4096 + bf (otpWord s 6 1) 16 0 * 4096)]

/-- Two areas of a list overlap. -/
def areasOverlap : List (Nat × Nat × Nat) → Bool
  | [] => false
  | (c, a, b) :: t => t.any (fun x => x.1 == c && decide (x.2.1 < b ∧ a < x.2.2)) || areasOverlap t

/-- A firmware-key slot is programmed and unrevoked. -/
def fwKeyOk (s : State) (n : Nat) : Bool := otpGood s (8 + n) && !bit (otpWord s 2 0) (8 + n)

/-- The RESULT that the checks of a command give; 0 where it may run (Table 20-4). The order is that of the table. -/
def otpJudge (s : State) (op row : Nat) : Nat :=
  if op = 1 then
    if (otpRow s row).isSome then 1 else if !otpRowOk s row then 2 else if !otpValueOk s row then 3 else 0
  else if op = 2 then (if provisioned s ∨ bit (otpWord s 2 0) 4 then 2 else 0)
  else if op = 3 then
    if provisioned s ∨ !(otpGood s 4 && otpGood s 6 && otpGood s 8 && otpGood s 10 && bit (otpWord s 2 0) 4) then 2
    else if areasOverlap (otpAreas s) then 3 else 0
  else if op = 4 then
    let v := bf (otpStage s 0) 6 0
    if v ≤ (otpWord s 3 0).toNat ∨ 64 < v then 3 else 0
  else if op = 5 then
    if !provisioned s then 2 else if !fwKeyOk s (1 - bf (otpStage s 0) 0 0) then 4 else 0
  else 6

/-- OTP_CMD_STATUS of a command that has ended. -/
def otpEnd (s : State) (op result : Nat) : State :=
  (s.setFld Ad.OTP_CMD_STATUS 23 16 result).setFld Ad.OTP_CMD_STATUS 7 0 op

/-- A write of OTP_CMD: ignored while BUSY (R716); refused by its checks at once, a PROGRAM of a programmed row as a lock
violation of a WO field (R707); else it runs. -/
def otpStart (s : State) (op row : Nat) : State :=
  if op = 0 then s
  else if s.otp.cmd.isSome then s.setFld Ad.OTP_CMD_STATUS 24 24 1
  else
    let s1 := s.setFld Ad.OTP_CMD_STATUS 24 24 0
    let r := otpJudge s1 op row
    if r = 0 then { (otpEnd s1 op 0) with otp := { s1.otp with cmd := some ⟨op, row⟩ } }
    else if r = 1 then otpEnd (lockViol s1 2048 12 Ad.OTP_CMD) op 1
    else otpEnd s1 op r

/-- A lifecycle word with bits set. -/
def otpSetLife (s : State) (ok : Bool) (bits : Nat) : State :=
  otpShow (setOtpRow s ⟨2, [otpWord s 2 0 ||| w32 bits], !ok, 0, 0⟩) 2

/-- A private key from the entropy source: some scalar from 1 to n - 1 (R710). -/
def freshScalar (s : State) : Nat := 1 + Config.freeNat s.free % (p256N - 1)

/-- A scalar's row words: 32 big-endian bytes. -/
def scalarWords (d : Nat) : List Word :=
  let b := toBytesBE 32 d
  (List.range 8).map (fun i => w32 (ofBytesLE ((b.drop (4 * i)).take 4)))

/-- KEYGEN fuses slots 0 and 1 and ENDORSE, and loads the slots (R710). -/
def keygen (s : State) (ok : Bool) : State :=
  let d0 := freshScalar s
  let d1 := freshScalar s.fresh
  let s1 := setOtpRow (setOtpRow s.fresh.fresh ⟨0x0E, scalarWords d0, !ok, 1, 1⟩) ⟨0x0F, scalarWords d1, !ok, 1, 2⟩
  let s2 := showPubs { s1 with chz := { s1.chz with
    slots := slotOfRow s1 0 :: slotOfRow s1 1 :: s1.chz.slots.drop 2 } }
  let msg := toBytesLE 4 (otpWord s 0 0).toNat ++ toBytesLE 4 (otpWord s 0 1).toNat ++ p256Pub d1
  let sig := p256Sign d0 (sha256 msg)
  let ws := (List.range 16).map (fun i => w32 (ofBytesLE ((sig.drop (4 * i)).take 4)))
  let s3 := otpShow (setOtpRow s2 ⟨0x0C, ws, !ok, 0, 0⟩) 0x0C
  let s4 := otpShow (otpShow s3 0x0E) 0x0F
  if ok then otpSetLife s4 true 16 else s4

/-- The rows that an operation fuses (Table 20-3). -/
def otpFuses (c : OtpCmd) : List Nat :=
  if c.op = 1 then [c.row] else if c.op = 2 then [0x0C, 0x0E, 0x0F] else if c.op = 4 then [3] else [2]

/-- A command completes; `ok` tells whether read-back was correct, which that of a row that is already bad never is. A row with
VERIFY is bad (R720). Rows PART and KEY_2 to KEY_7 take effect at the next reset, the others at once (R705). (DEDUCED, log 71.) -/
def otpDone (s : State) (ok0 : Bool) : State :=
  match s.otp.cmd with
  | none => s
  | some c =>
    let ok := ok0 && (otpFuses c).all (fun r => !(otpRow s r).any OtpRow.bad)
    let s1 := otpEnd { s with otp := { s.otp with cmd := none } } c.op (if ok then 0 else 5)
    if c.op = 1 then
      otpShow (setOtpRow s1 ⟨c.row, otpStaged s1 (otpWords c.row), !ok, s1.fld Ad.OTP_KEYPOL 3 0, s1.fld Ad.OTP_KEYPOL 12 8⟩) c.row
    else if c.op = 2 then keygen s1 ok
    else if c.op = 3 then otpSetLife s1 ok 1
    else if c.op = 4 then otpShow (setOtpRow s1 ⟨3, [w32 (bf (otpStage s1 0) 6 0)], !ok, 0, 0⟩) 3
    else otpSetLife s1 ok (2 ^ (8 + bf (otpStage s1 0) 0 0))

end Sys2Proof.Machine
end

