-- ==== Sys2Proof/Machine/Cvu.lean ====
section
/-!
DEFINITION. Machine/Cvu.lean: the check-value units (chapter 17, R629 to R637, R649 to R651): the CRC of a channel, written
feeds, snooped streams, CLEAR, EN and LIMIT, and the reading of a result. Bytes are processed as they arrive: the FAB cycles
they take are timing.
-/
namespace Sys2Proof.Machine

/-- The six parameters of a CRC (R629): WIDTH, POLY, INIT, REFIN, REFOUT, XOROUT. -/
structure CrcPar where
  width : Nat
  poly : Nat
  init : Nat
  refin : Bool
  refout : Bool
  xorout : Nat
deriving DecidableEq, Repr

/-- The parameters a channel uses (Table 17-1). -/
def cvuPar (s : State) (n : Nat) : CrcPar :=
  let c := s.reg (Ad.CVU_CFG n)
  let alg := bf c 2 0
  if alg = 0 then ⟨32, 0x04C11DB7, 0xFFFFFFFF, true, true, 0xFFFFFFFF⟩
  else if alg = 2 then ⟨16, 0x1021, 0xFFFF, false, false, 0⟩
  else if alg = 3 then ⟨8, 0x1D, 0xFF, false, false, 0xFF⟩
  else if alg = 4 then
    let w := max 2 (bf c 12 8) + 1
    ⟨w, (s.reg (Ad.CVU_POLY n)).toNat % 2 ^ w, (s.reg (Ad.CVU_INIT n)).toNat % 2 ^ w, bit c 13, bit c 14,
      (s.reg (Ad.CVU_XOROUT n)).toNat % 2 ^ w⟩
  else ⟨32, 0x1EDC6F41, 0xFFFFFFFF, true, true, 0xFFFFFFFF⟩

/-- One bit into the register. -/
def crcBit (p : CrcPar) (r : Nat) (b : Bool) : Nat :=
  let top := xor (r.testBit (p.width - 1)) b
  let r1 := (r * 2) % 2 ^ p.width
  if top then r1 ^^^ p.poly else r1

/-- One byte into the register, least significant bit first when REFIN is 1. -/
def crcByte (p : CrcPar) (r : Nat) (b : Byte) : Nat :=
  (List.range 8).foldl (fun r i => crcBit p r (b.getLsbD (if p.refin then i else 7 - i))) r

/-- The low w bits of a number in reverse order. -/
def reflect (w n : Nat) : Nat := (List.range w).foldl (fun a i => if n.testBit i then a + 2 ^ (w - 1 - i) else a) 0

/-- The result shown for a register value. -/
def crcOut (p : CrcPar) (r : Nat) : Nat := (if p.refout then reflect p.width r else r) ^^^ p.xorout

/-- A channel. -/
def cvuCh (s : State) (n : Nat) : CvuCh := s.cvu.getD n ⟨none, 0, false⟩

/-- A channel replaced. -/
def setCvu (s : State) (n : Nat) (f : CvuCh → CvuCh) : State := { s with cvu := upd s.cvu n f }

/-- A status bit of a channel set: 0 IGN, 1 DONE, 2 POISON, 3 GAP. -/
def cvuFlag (s : State) (n b : Nat) : State := s.setRegBit (Ad.CVU_STATUS n) b

/-- IGN (R630, R633, R634). -/
def cvuIgn (s : State) (n : Nat) : State := cvuFlag s n 0

/-- EN of a channel. -/
def cvuEn (s : State) (n : Nat) : Bool := bit (s.reg (Ad.CVU_CTRL n)) 0

/-- How many of k bytes a channel takes before LIMIT (R634). -/
def cvuRoom (s : State) (n k : Nat) : Nat :=
  let lim := (s.reg (Ad.CVU_LIMIT n)).toNat
  if lim = 0 then k else min k (lim - (cvuCh s n).count)

/-- Bytes taken by a channel, up to LIMIT; at LIMIT EN clears and DONE is set (R634). -/
def cvuTake (s : State) (n : Nat) (l : List Byte) : State :=
  let p := cvuPar s n
  let t := l.take (cvuRoom s n l.length)
  let s1 := setCvu s n (fun (c : CvuCh) => { c with crc := some (t.foldl (crcByte p) (c.crc.getD p.init)), count := c.count + t.length })
  let s2 := pcu 0x79 n t.length s1
  let lim := (s.reg (Ad.CVU_LIMIT n)).toNat
  if lim ≠ 0 ∧ (cvuCh s2 n).count = lim ∧ cvuEn s2 n then
    sqEvt (cvuFlag (s2.setFld (Ad.CVU_CTRL n) 0 0 0) n 1) Ad.CVU_EVT (2 ^ n)
  else s2

/-- A written feed (R630, R631, R634): bytes not taken set IGN; none is taken while EN is 0. (DEDUCED, log 69.) -/
def cvuWrite (s : State) (n : Nat) (l : List Byte) : State :=
  if bit (s.reg (Ad.CVU_CFG n)) 16 || !cvuEn s n then cvuIgn s n
  else if cvuRoom s n l.length < l.length then cvuIgn (cvuTake s n l) n
  else cvuTake s n l

/-- The stream a snooped channel watches (values 5 to 7 act as 0). -/
def cvuStream (s : State) (n : Nat) : Nat := let x := bf (s.reg (Ad.CVU_CFG n)) 22 20; if 5 ≤ x then 0 else x

/-- The channel's selectors match an item (Table 17-2): `sel` is the port or the ring. -/
def cvuMatch (s : State) (n stream sel tenant : Nat) : Bool :=
  let c := s.reg (Ad.CVU_CFG n)
  let port := bf c 27 24
  bit c 16 && cvuEn s n && cvuStream s n == stream &&
    (if stream ≤ 1 then port == sel && decide (s.fld (Ad.CVU_TENANT n) 9 0 = tenant)
     else if stream = 2 then port == sel || port == 15
     else if stream = 4 then decide (s.fld (Ad.CVU_TENANT n) 9 0 = tenant)
     else true)

/-- An item of a stream, for every channel that selects it (R632, R649); while FAB is stopped it leaves a gap (R637). -/
def cvuItem (stream sel tenant : Nat) (l : List Byte) (s : State) : State :=
  (List.range 8).foldl (fun s n =>
    if cvuMatch s n stream sel tenant then
      if s.running 3 then cvuTake s n l else setCvu s n (fun (c : CvuCh) => { c with gap := true })
    else s) s

/-- A line of a port stream that travels as DataPoison (R636). -/
def cvuPoison (stream sel tenant : Nat) (s : State) : State :=
  (List.range 8).foldl (fun s n =>
    if cvuMatch s n stream sel tenant then sqEvt (cvuFlag s n 2) Ad.CVU_EVT (2 ^ (8 + n)) else s) s

/-- The FAB island restarts: GAP where items were missed (R637). -/
def cvuRestart (s : State) : State :=
  (List.range 8).foldl (fun s n =>
    if (cvuCh s n).gap then sqEvt (cvuFlag (setCvu s n (fun (c : CvuCh) => { c with gap := false })) n 3) Ad.CVU_EVT (2 ^ (16 + n)) else s) s

/-- CLEAR: the register to INIT of the parameters in force, the count to zero, the status bits cleared (R633). -/
def cvuClear (s : State) (n : Nat) : State :=
  (setCvu s n (fun (c : CvuCh) => { c with crc := some (cvuPar s n).init, count := 0 })).setFld (Ad.CVU_STATUS n) 3 0 0

/-- A write of CVU_n_CTRL: CLEAR first, then EN. -/
def cvuCtrl (s : State) (n : Nat) (w : Word) : State :=
  (if bit w 1 then cvuClear s n else s).setFld (Ad.CVU_CTRL n) 0 0 (b2n (bit w 0))

/-- CVU_n_RESULT as it reads (R635). -/
def cvuResult (s : State) (n : Nat) : Word :=
  let p := cvuPar s n
  w32 (crcOut p ((cvuCh s n).crc.getD p.init))

/-- A read of CVU_n_RESULT captures the byte count (R635). -/
def cvuCapture (s : State) (n : Nat) : State :=
  let c := (cvuCh s n).count
  (s.setReg (Ad.CVU_BYTES_LO n) (w32 c)).setReg (Ad.CVU_BYTES_HI n) (w32 ((c / 2 ^ 32) % 2 ^ 16))

/-- The masked bytes of a line in ascending offset. -/
def maskedBytes (d : Line) (mask : BitVec 64) : List Byte :=
  ((List.range 64).filter (fun i => mask.getLsbD i)).map (fun i => byteOf d.toNat i)

/-- All bytes of a line in ascending offset. -/
def lineBytes64 (d : Line) : List Byte := toBytesLE 64 d.toNat

/-! ### The sample buffer (R647) -/

/-- The sample entry's words (Table 17-4). A stage that the item did not reach is left out of `d` or stands as 0xFFFF there; a later
one saturates at 0xFFFE. (DESIGN CHOICE, log 44.) -/
def tagWords (kind flags eseq id time : Nat) (d : List Nat) : List Nat :=
  let x (i : Nat) : Nat := let v := d.getD i 0xFFFF; if v = 0xFFFF then v else min 0xFFFE v
  [kind + flags % 256 * 2 ^ 8 + eseq % 256 * 2 ^ 16, id, time % 2 ^ 32, time / 2 ^ 32,
   x 0 + x 1 * 65536, x 2 + x 3 * 65536, x 4 + x 5 * 65536, x 6 + x 7 * 65536]

/-- A tagged item completes (R647): `flags` are the FLAGS bits the pipeline reports beyond those known when the item entered,
`d` its stage times. (DESIGN CHOICE, log 44.) -/
def tagDone (s : State) (ha : Bool) (flags : Nat) (d : List Nat) : State :=
  let t := tagOf s ha
  match t.fly with
  | none => s
  | some (kind, f0, id, time) =>
    let s1 := setTag s ha { t with fly := none }
    if 64 ≤ s.pcu.sbCount ∧ !bit (s.reg Ad.PCU_TAG_CFG) 28 then sqEvt s1 Ad.PCU_EVT 65536
    else
      let w := tagWords kind (f0 ||| flags % 256) s.pcu.eseq id time d
      let s2 := (List.range 8).foldl (fun (s : State) i => s.setReg (Ad.PCU_SBUF (8 * s1.pcu.sbWr + i)) (w32 (w.getD i 0))) s1
      { s2 with pcu := { s2.pcu with
          eseq := (s1.pcu.eseq + 1) % 256, sbWr := (s1.pcu.sbWr + 1) % 64, sbCount := min 64 (s1.pcu.sbCount + 1) } }

/-- PCU_SBUF_CTRL.CLEAR. -/
def sbufClear (s : State) : State := { s with pcu := { s.pcu with sbWr := 0, sbCount := 0 } }

/-- PCU_SBUF_STATUS as it reads. -/
def sbufStatus (s : State) : Word :=
  w32 (b2n (decide (64 ≤ s.pcu.sbCount)) * 65536 + s.pcu.sbWr % 64 * 256 + s.pcu.sbCount)

/-! ### Bandwidth monitors (R643, R644) -/

/-- The units counted in a monitor's window. -/
def bwCount (s : State) (m : Nat) : Nat := stGet (fun _ => 0) s.pcu.bw m

/-- The window in progress of a monitor is discarded. -/
def bwDrop (s : State) (m : Nat) : State := { s with pcu := { s.pcu with bw := stDrop s.pcu.bw m } }

/-- The end of a window of an enabled monitor. -/
def bwWindow (s : State) (m : Nat) : State :=
  if !bit (s.reg (Ad.PCU_BW_CFG m)) 31 || !s.running 3 then s
  else
    let n := min 0xFFFFFFFF (bwCount s m)
    let s1 := (bwDrop s m).setReg (Ad.PCU_BW_LAST m) (w32 n)
    let s2 := s1.setReg (Ad.PCU_BW_MAX m) (w32 (max n (s1.reg (Ad.PCU_BW_MAX m)).toNat))
    let s3 := s2.setReg (Ad.PCU_BW_MIN m) (w32 (min n (s2.reg (Ad.PCU_BW_MIN m)).toNat))
    let s4 := s3.inc (Ad.PCU_BW_WINDOWS m)
    let thr := (s.reg (Ad.PCU_BW_THR m)).toNat
    if thr ≠ 0 ∧ thr < n then sqEvt s4 Ad.PCU_EVT (2 ^ m) else s4

/-- CLEAR of a monitor. -/
def bwClear (s : State) (m : Nat) : State :=
  ((s.setReg (Ad.PCU_BW_MAX m) 0).setReg (Ad.PCU_BW_MIN m) 0xFFFFFFFF).setReg (Ad.PCU_BW_WINDOWS m) 0

/-! ### Counters (R640, R653) -/

/-- The counters that are enabled, as PCU_CFG_n says. -/
def pcuRelist (s : State) : State :=
  { s with pcu := { s.pcu with on := (List.range 32).filterMap (fun n =>
      let c := s.reg (Ad.PCU_CFG n)
      if bit c 31 && decide (bf c 7 0 ≠ 0) then
        some ⟨n, bf c 7 0, bit c 30, bit c 29, bf c 25 16, ((s.pcu.on.find? (fun o => o.n == n && o.ev == bf c 7 0 && o.qual == bf c 25 16)).map PcuOn.was).getD false⟩
      else none) } }

/-- A write of PCU_CNT_n_LO (hi false) or _HI sets those bits of the count. -/
def pcuCntWrite (s : State) (n : Nat) (hi : Bool) (w : Word) : State :=
  let c := stGet (fun _ => 0) s.pcu.cnt n
  let v := if hi then (w.toNat % 65536) * 2 ^ 32 + c % 2 ^ 32 else c / 2 ^ 32 * 2 ^ 32 + w.toNat
  let s1 : State := { s with pcu := { s.pcu with cnt := stSet (fun _ => 0) s.pcu.cnt n v } }
  if hi then s1.setReg (Ad.PCU_CNT_HI n) (w32 (w.toNat % 65536)) else s1

/-- A read of PCU_CNT_n_LO: bits 31 to 0, with bits 47 to 32 captured into HI. -/
def pcuCntRead (s : State) (n : Nat) : State × Word :=
  let c := stGet (fun _ => 0) s.pcu.cnt n
  (s.setReg (Ad.PCU_CNT_HI n) (w32 (c / 2 ^ 32 % 65536)), w32 c)

end Sys2Proof.Machine
end

