-- ==== Sys2Proof/Machine/Passes.lean ====
section
/-!
DEFINITION. Machine/Passes.lean: the pass scheduler (chapter 9): passes and their totals, nominal and derated capacity (R349),
recomputation with OVERCOMMIT and its cuts (R363 to R365), and the pass commands (R357, R370).
-/
namespace Sys2Proof.Machine

/-! ### Capacity (R341, R349) -/

/-- C_nom of a speed bin in MB/s (Table 9-1). -/
def cNom (bin : Nat) : Nat := if bin = 1 then 22500 else if bin = 2 then 25625 else 19200

/-- F_ref in per cent (Table 9-2). -/
def fRef (r : Nat) : Nat := if r = 0 then 100 else if r = 1 then 96 else 88

/-- The throttle level of a channel: 3 while contained, else LEVEL raised to HOT_LEVEL while hot (R350, Table 19-3). -/
def drcLevel (s : State) (c : Nat) : Nat :=
  if contained s (16 + c) then 3
  else if (drcCh s c).hot then max (s.fld (Ad.DRC_THROTTLE c) 1 0) (s.fld (Ad.DRC_THROTTLE c) 5 4)
  else s.fld (Ad.DRC_THROTTLE c) 1 0

/-- The channel counts in C_der: READY or SELF_REFRESH, and within the N channels once N is taken (Table 9-2). -/
def drcCounts (s : State) (c : Nat) : Bool := drcUp s c && decide (s.tmm.nch = 0 ∨ c < s.tmm.nch)

/-- A channel's derated capacity in MB/s / 10,000. -/
def chanCap (s : State) (c : Nat) : Nat :=
  if drcCounts s c then
    cNom (drcCh s c).bin * fRef (drcCh s c).ref * (100 - 25 * drcLevel s c) - (if (drcCh s c).accel then 300000 else 0)
  else 0

/-- C_der in MB/s, a fraction dropped. -/
def cDer (s : State) : Nat := (((List.range 8).map (chanCap s)).sum) / 10000

/-- PAS_CAP_NOM. -/
def capNom (s : State) : Nat := ((List.range 8).map (fun c => if drcUp s c then cNom (drcCh s c).bin else 0)).sum

/-! ### Passes and policy -/

/-- A granted pass: its number and its fields of Table 9-16. -/
structure Pass where
  n : Nat
  cls : Nat
  rank : Nat
  port : Nat
  tenant : Nat
  units : Nat
deriving DecidableEq, Repr

/-- The pass of a number, when VALID. -/
def passAt (s : State) (n : Nat) : Option Pass :=
  let w := s.reg (Ad.PAS_PASS n)
  if n < 256 ∧ bit w 31 then some ⟨n, bf w 30 29, bf w 28 26, bf w 25 22, bf w 21 12, bf w 11 0⟩ else none

/-- Every granted pass, in number order. -/
def passes (s : State) : List Pass := (List.range 256).filterMap (passAt s)

/-- Units of the passes that satisfy a test, in MB/s. -/
def passTotal (s : State) (p : Pass → Bool) : Nat := (((passes s).filter p).map (fun q => q.units * 100)).sum

/-- U_total and G_total in MB/s. -/
def uTotal (s : State) : Nat := passTotal s (fun p => p.cls == 0)

/-- G_total. -/
def gTotal (s : State) : Nat := passTotal s (fun p => p.cls == 1)

/-- A port's L total. -/
def lTotal (s : State) (port : Nat) : Nat := passTotal s (fun p => p.cls == 2 && p.port == port)

/-- The tenant's DRAM pass. -/
def dramPass (s : State) (t : Nat) : Option Pass := (passes s).find? (fun p => p.cls != 2 && p.tenant == t)

/-- The tenant holds a U pass (R210). -/
def holdsU (s : State) (t : Nat) : Bool := ((dramPass s t).map Pass.cls) == some 0

/-- A 16-bit head field of the policy, with its default (Table 9-4). -/
def pol16 (s : State) (o dflt : Nat) : Nat :=
  match tblBody s 5 with
  | some b => tb16 b o
  | none => dflt

/-- OVH_RATE. -/
def ovhRate (s : State) : Nat :=
  match tblBody s 5 with
  | some b => tb32 b 8
  | none => 4000

/-- A tenant's ceiling entry (Table 9-5): outer none while no ceilings are in force (R356), inner none when it has none. -/
def ceiling (s : State) (t : Nat) : Option (Option (List Byte)) :=
  match tblBody s 5 with
  | none => none
  | some b =>
    if tb32 b 12 = 0 then none
    else some (((List.range (tb32 b 12)).map (fun i => b.drop (64 + 8 * i))).find? (fun e => tb16 e 0 == t))

/-- B weight of a tenant (R356). -/
def bWeight (s : State) (t : Nat) : Nat :=
  match ceiling s t with
  | some (some e) => (e.getD 3 1).toNat
  | _ => 1

/-- Line-rate capacity P of a port in MB/s (R357). -/
def portCap (s : State) (p : Nat) : Nat :=
  let w := (s.lnk.ports[p]?.map PortSt.width).getD 2
  if w = 1 then 3290 else if w = 4 then 13180 else 6590

/-! ### Recomputation (R349, R363 to R365) -/

/-- The cut of R364 for rank totals `g` and budget `r`: the rank that must cut and its scale, going down from rank `k - 1`. -/
def cutFrom (g : Nat → Nat) (r : Nat) : Nat → Nat → Option Nat × Nat
  | 0, _ => (none, 65536)
  | k + 1, above =>
    if above + g k > r then (some k, (r - above) * 65536 / g k) else cutFrom g r k (above + g k)

/-- The G cut while in OVERCOMMIT, with SHORT_U (R364). -/
def pasCut (s : State) : State :=
  let guard := pol16 s 2 900 * cDer s / 1000
  let u := uTotal s
  let (c, sc) := cutFrom (fun k => passTotal s (fun p => p.cls == 1 && p.rank == k)) (guard - u) 8 0
  let short := decide (guard < u)
  let s1 := { s with pas := { s.pas with cut := c, scale := sc, shortU := short } }
  if short && !s.pas.shortU then raise (sqEvt s1 Ad.PAS_EVT 4) 17 u else s1

/-- The L cut of a port (R365). -/
def linkCut (s : State) (p : Nat) : State :=
  let lim := pol16 s 4 720 * portCap s p / 1000
  let rest := s.pas.linkShort.filter (fun e => e.1 != p)
  if lTotal s p ≤ lim then { s with pas := { s.pas with linkShort := rest } }
  else
    let (c, sc) := cutFrom (fun k => passTotal s (fun q => q.cls == 2 && q.port == p && q.rank == k)) lim 8 0
    let s1 := { s with pas := { s.pas with linkShort := (p, c.getD 8, sc) :: rest } }
    if s.pas.linkShort.any (fun e => e.1 == p) then s1 else sqEvt s1 Ad.PAS_EVT 8

/-- A recomputation (R349): OVERCOMMIT entered or left (R363), and the cuts. -/
def pasRecompute (s : State) : State :=
  let u := uTotal s + gTotal s
  let big := decide (u * 1000 > pol16 s 2 900 * cDer s)
  let s1 :=
    if big then
      if s.pas.oc then { s with pas := { s.pas with hyst := 0 } }
      else raise (sqEvt { s with pas := { s.pas with oc := true, hyst := 0 } } Ad.PAS_EVT 1) 16 (cDer s)
    else if s.pas.oc then
      if s.pas.hyst + 1 < pol16 s 6 4 then { s with pas := { s.pas with hyst := s.pas.hyst + 1 } }
      else sqEvt { s with pas := { s.pas with oc := false, hyst := 0, cut := none, scale := 65536, shortU := false } } Ad.PAS_EVT 2
    else s
  let s2 := if s1.pas.oc then pasCut s1 else s1
  (List.range (nPorts s2)).foldl linkCut s2

/-- The current rate of a pass in MB/s × 65,536, under the cuts in force (R358, R364, R365). -/
def passRate (s : State) (p : Pass) : Nat :=
  let full := p.units * 100
  if p.cls = 1 ∧ s.pas.oc then
    match s.pas.cut with
    | none => full * 65536
    | some k => if p.rank < k then 0 else if p.rank = k then full * s.pas.scale else full * 65536
  else if p.cls = 2 then
    match s.pas.linkShort.find? (fun e => e.1 == p.port) with
    | none => full * 65536
    | some (_, k, sc) => if p.rank < k then 0 else if p.rank = k then full * sc else full * 65536
  else full * 65536

/-! ### Commands (R357) -/

/-- A command's end: RESULT, and CMD_DONE. -/
def pasEnd (s : State) (r : Nat) : State := sqEvt (s.setFld Ad.PAS_CMD_STATUS 23 16 r) Ad.PAS_EVT 16

/-- A pass's word (Table 9-16). -/
def passWord (p : Pass) : Word :=
  w32 (2 ^ 31 + p.cls * 2 ^ 29 + p.rank * 2 ^ 26 + p.port * 2 ^ 22 + p.tenant * 2 ^ 12 + p.units)

/-- CLASS, UNITS and PORT lie within Table 9-3, and the port of an L pass is present. -/
def passArgOk (s : State) (p : Pass) : Bool :=
  decide (p.cls < 3) && decide (1 ≤ p.units) && (p.cls != 0 || decide (p.units ≤ 20)) && (p.cls != 2 || decide (p.port < nPorts s))

/-- The pass lies within the tenant's ceiling (Table 9-5, R356). -/
def passCeiling (s : State) (p : Pass) : Bool :=
  match ceiling s p.tenant with
  | none => true
  | some none => false
  | some (some e) =>
    let fl := (e.getD 2 0).toNat
    decide (p.rank ≤ (fl / 16) % 8) && (p.cls != 0 || fl.testBit 0) && (p.cls != 1 || fl.testBit 1)
      && (if p.cls = 2 then decide (p.units ≤ tb16 e 6) else decide (p.units ≤ tb16 e 4))

/-- The commit limit for totals that the change raises by `add` units (R357). -/
def passFits (s : State) (p : Pass) (add : Nat) : Bool :=
  if p.cls = 2 then decide ((lTotal s p.port + 100 * add) * 1000 ≤ pol16 s 4 720 * portCap s p.port)
  else decide ((uTotal s + gTotal s + 100 * add) * 1000 ≤ pol16 s 0 720 * cDer s)

/-- The tenant is LIVE (R294). -/
def tenantLive (s : State) (t : Nat) : Bool := decide (s.fld (Ad.DSC_CTRL t) 2 0 = 1)

/-- LOCKED by domain PASS, recorded as a violation through the control port (R353). -/
def pasLocked (s : State) : State := pasEnd (lockViol s (2 ^ 2) 12 Ad.PAS_CMD) 8

/-- GRANT (R357). -/
def pasGrant (s : State) : State :=
  let a := s.reg Ad.PAS_CMD_ARG
  let p : Pass := ⟨0, bf a 11 10, bf a 14 12, bf a 19 16, bf a 9 0, bf a 31 20⟩
  let same (q : Pass) : Bool := q.tenant == p.tenant && (if p.cls = 2 then q.cls == 2 && q.port == p.port else q.cls != 2)
  if !passArgOk s p then pasEnd s 2
  else if locked s 2 then pasLocked s
  else if !tenantLive s p.tenant || (passes s).any same then pasEnd s 3
  else
    match (List.range 256).find? (fun n => (passAt s n).isNone) with
    | none => pasEnd s 6
    | some n =>
      if p.cls = 0 ∧ 32 ≤ ((passes s).filter (fun q => q.cls == 0)).length then pasEnd s 6
      else if !passCeiling s p then pasEnd s 4
      else if s.pas.oc then pasEnd s 7
      else if !passFits s p p.units then pasEnd s 5
      else
        let s1 := s.setReg (Ad.PAS_PASS n) (passWord { p with port := if p.cls = 2 then p.port else 0 })
        pasEnd (s1.setFld Ad.PAS_CMD_STATUS 7 0 n) 0

/-- MODIFY (R357, R370). -/
def pasModify (s : State) (n : Nat) : State :=
  let a := s.reg Ad.PAS_CMD_ARG
  let units := bf a 31 20
  let rank := bf a 14 12
  match passAt s n with
  | none => if units = 0 then pasEnd s 2 else pasEnd s 3
  | some p =>
    let q := { p with units := units, rank := rank }
    let up := decide (p.units < units)
    let raises := up || decide (p.rank < rank)
    if !passArgOk s q then pasEnd s 2
    else if locked s 2 && raises then pasLocked s
    else if !tenantLive s p.tenant then pasEnd s 3
    else if raises && !passCeiling s q then pasEnd s 4
    else if up && s.pas.oc then pasEnd s 7
    else if up && !passFits s p (units - p.units) then pasEnd s 5
    else
      let s1 := s.setReg (Ad.PAS_PASS n) (passWord q)
      pasEnd (pasRecompute s1) 0

/-- REVOKE (R357, R370). -/
def pasRevoke (s : State) (n : Nat) : State :=
  match passAt s n with
  | none => pasEnd s 3
  | some p =>
    if !tenantLive s p.tenant then pasEnd s 3
    else pasEnd (pasRecompute (s.setReg (Ad.PAS_PASS n) 0)) 0

/-- A write of PAS_CMD with a nonzero OP (Table 9-10). -/
def pasCmd (s : State) (op n : Nat) : State :=
  if op = 0 then s
  else if op = 1 then pasGrant s
  else if op = 2 then pasModify s n
  else if op = 3 then pasRevoke s n
  else pasEnd s 1

/-- Step 5 of R328: the tenant's passes end. -/
def pasEndTenant (s : State) (t : Nat) : State :=
  let l := (passes s).filter (fun p => p.tenant == t)
  let s1 := l.foldl (fun s p => s.setReg (Ad.PAS_PASS p.n) 0) s
  if l.isEmpty ∨ !s.pas.oc then s1 else pasRecompute s1

end Sys2Proof.Machine
end

