-- ==== Sys2Proof/Machine/Dram.lean ====
section
/-!
DEFINITION. Machine/Dram.lean: the DRAM controllers (chapter 9): training, MR4 polls, refresh, the order in which commands are
taken (R358 to R360), errors, scrub and the corrected-error window.
-/
namespace Sys2Proof.Machine

/-- An event of a channel (DRC_EVT). -/
def drcEvt (s : State) (c bits : Nat) : State := sqEvt s (Ad.DRC_EVT c) bits

/-- The physical line of a channel line index (the inverse of `chanLine` on channel `c`). -/
def physLine (s : State) (c k : Nat) : Nat :=
  let n := max 1 s.tmm.nch
  let hi := k / 32
  (hi * n + (c ^^^ ((hi / (8 / n)) % n))) * 32 + k % 32

/-! ### Training (R341, R374) -/

/-- A channel enters FAILED (R374). -/
def drcFail (s : State) (c : Nat) : State :=
  pasRecompute (raise (drcEvt (setDrc s c (fun d => { d with mode := .failed })) c 8) 19 c)

/-- DRC_CTRL.TRAIN (Table 9-17): BIN and REF_ALL are taken; the channel's contents become undefined (R374). -/
def drcTrain (s : State) (c : Nat) : State :=
  if nChans s ≤ c ∨ (drcCh s c).mode = .training then s
  else
    let b := s.fld (Ad.DRC_CFG c) 1 0
    let keep := s.dram.filter (fun e => chanOf s e.1 != c)
    pasRecompute (setDrc { s with dram := keep } c (fun d =>
      { d with mode := .training, bin := if b = 3 then 0 else b, refAll := bit (s.reg (Ad.DRC_CFG c)) 2, epoch := d.epoch + 1,
               q := d.q.filter (fun x => !x.write), corr := [], scrubq := [], refDue := 0, drain := false }))

/-- Training ends: READY with the usable capacity in MiB (R342: 31/32 of what is fitted), or FAILED. -/
def drcTrainDone (s : State) (c : Nat) (ok : Bool) (mib : Nat) : State :=
  if (drcCh s c).mode ≠ .training then s
  else if !ok then drcFail s c
  else pasRecompute ((setDrc s c (fun d => { d with mode := .ready, patrol := 0 })).setFld (Ad.DRC_CAP c) 15 0
    (min mib 16384 * 31 / 32))

/-- A periodic recalibration (R374). -/
def drcRecal (s : State) (c : Nat) (ok : Bool) : State := if drcUp s c && !ok then drcFail s c else s

/-! ### MR4, refresh (R348 to R350) -/

/-- A poll of MR4 finds a refresh rate, and whether the high limit is exceeded. -/
def drcPoll (s : State) (c rate : Nat) (hot : Bool) : State :=
  if (drcCh s c).mode ≠ .ready then s
  else
    let was := (drcCh s c).hot
    let s1 := setDrc s c (fun d => { d with ref := min rate 2, hot := hot })
    let s2 := if hot && !was then raise (drcEvt s1 c 4) 18 c else s1
    pasRecompute s2

/-- A refresh falls due. -/
def drcRefreshDue (s : State) (c : Nat) : State :=
  if (drcCh s c).mode = .ready then setDrc s c (fun d => { d with refDue := d.refDue + 1 }) else s

/-! ### Errors (R345 to R347, R375) -/

/-- The accelerated scrub rate for the next hour (R347). -/
def drcAccel (s : State) (c : Nat) : State :=
  if nChans s ≤ c then s else pasRecompute (drcEvt (setDrc s c (fun d => { d with accel := true })) c 2)

/-- A corrected error on a channel line (R345, R347, R375): counted; the line is queued for its corrective write. -/
def drcCe (s : State) (c line : Nat) : State :=
  let n := (drcCh s c).ce + 1
  let s1 := pcu 0x3B c 1 ((setDrc s c (fun d => { d with corr := d.corr ++ [line], ce := n })).inc (Ad.DRC_COUNT c 0))
  let lim := s.fld (Ad.DRC_SCRUB c) 31 16
  if lim ≠ 0 ∧ lim ≤ n then raise (drcAccel (setDrc s1 c (fun d => { d with ce := 0 })) c) 20 c else s1

/-- An uncorrectable error on a channel line (DRC_UE_COUNT, DRC_ERRADDR, DRC_EVT.UE). -/
def drcUe (s : State) (c line : Nat) : State :=
  drcEvt ((s.inc (Ad.DRC_COUNT c 1)).setReg (Ad.DRC_ERRADDR c) (w32 line)) c 1

/-- An uncorrectable error on a discarded speculative read (R230): latent, and scrubbed within 1 ms. -/
def drcLatent (s : State) (c line : Nat) : State :=
  sqEvt ((setDrc s c (fun d => { d with scrubq := d.scrubq ++ [line] })).inc (Ad.DRC_COUNT c 2)) Ad.HA_EVT 4

/-- A line's poison mark set in DRAM. -/
def dramMark (s : State) (line : Nat) : State := dramPut s line { dramGet s line with mark := 1 }

/-- Scrub reads a line (R346): the latent lines first, then the patrol; `err` 1 corrected, 2 uncorrectable. A channel that carries
no physical address (R343) is scrubbed like any other; its mark stands at no line of the address space. -/
def drcPatrol (s : State) (c err : Nat) : State :=
  if (drcCh s c).mode ≠ .ready then s
  else
    let d := drcCh s c
    let lines := s.fld (Ad.DRC_CAP c) 15 0 * 16384
    let (k, s1) := match d.scrubq with
      | l :: t => (chanLine s l, setDrc s c (fun d => { d with scrubq := t }))
      | [] => (d.patrol, setDrc s c (fun d => { d with patrol := (d.patrol + 1) % max 1 lines }))
    let s2 := pcu 0x38 c 1 (overhead s1 1)
    if err = 0 then s2
    else if err = 1 then drcCe s2 c k
    else
      let s3 := drcUe s2 c k
      pcu 0x39 c 1 (overhead (if c < s.tmm.nch then dramMark s3 (physLine s c k) else s3) 1)

/-- A corrective write (R345). -/
def drcCorrect (s : State) (c : Nat) : State :=
  match (drcCh s c).corr with
  | [] => s
  | _ :: t => if drcUp s c then pcu 0x39 c 1 (overhead (setDrc s c (fun d => { d with corr := t })) 1) else s

/-- The one-hour window ends (R347). -/
def drcWindowEnd (s : State) (c : Nat) : State := setDrc s c (fun d => { d with ce := 0 })

/-- The accelerated hour ends (R347). -/
def drcAccelEnd (s : State) (c : Nat) : State :=
  if (drcCh s c).accel then pasRecompute (setDrc s c (fun d => { d with accel := false })) else s

/-! ### Token buckets and the order of Table 9-6 (R358, R359, R364) -/

/-- Rate (MB/s × 65,536) and depth (bytes) of a bucket: a pass, or the overhead account. -/
def bktCfg (s : State) (n : Nat) : Nat × Nat :=
  match passAt s n with
  | some p => (passRate s p, if p.cls = 0 then 4096 else 16384)
  | none => (ovhRate s * 65536, 16384)

/-- The level of a channel's bucket now, in 1/(1,536 × 65,536) byte; a bucket not yet used is full. -/
def bktLevel (s : State) (c n : Nat) : Nat :=
  let (rate, depth) := bktCfg s n
  let full := depth * 1536 * 65536
  match (drcCh s c).bkt.find? (fun b => b.1 == n) with
  | none => full
  | some (_, l, t) => min full (l + (s.tb.cyc - t) * (rate * 10 / max 1 s.tmm.nch))

/-- 64 bytes in bucket units. -/
def bktLine : Nat := 64 * 1536 * 65536

/-- The bytes of a number of lines taken from a bucket, which does not go below empty. -/
def bktTake (s : State) (c n lines : Nat) : State :=
  let l := bktLevel s c n - lines * bktLine
  setDrc s c (fun d => { d with bkt := (n, l, s.tb.cyc) :: d.bkt.filter (fun b => b.1 != n) })

/-- The bucket a command draws on. -/
def cmdBucket (s : State) (x : DrcCmd) : Option Nat :=
  match x.charge with
  | .overhead => some 256
  | .tenant t => (dramPass s t).map Pass.n

/-- The order of Table 9-6 in which a command stands: 2 U, 3 G, 4 overhead, 5 B and beyond a bucket, 6 a withdrawn guarantee
in OVERCOMMIT (R364). -/
def cmdOrder (s : State) (c : Nat) (x : DrcCmd) : Nat :=
  match x.charge with
  | .overhead => if bktLine ≤ bktLevel s c 256 then 4 else 5
  | .tenant t =>
    match dramPass s t with
    | none => 5
    | some p =>
      if s.pas.oc ∧ passRate s p = 0 then 6
      else if bktLine ≤ bktLevel s c p.n then (if p.cls = 0 then 2 else 3) else 5

/-- The orders below the refreshes, from the first taken to the last: a withdrawn guarantee stands last, but B traffic is not
served at all in OVERCOMMIT (R364). -/
def orders (s : State) : List Nat := if s.pas.oc then [2, 3, 4, 6] else [2, 3, 4, 5]

/-- The waiting commands of one order, oldest first. -/
def ofOrder (s : State) (c o : Nat) (write : Bool) : List DrcCmd :=
  (drcCh s c).q.filter (fun x => x.write == write && cmdOrder s c x == o)

/-- The reads or the writes that have a place in the channel's queue of 64 (R367). DESIGN CHOICE (log 8): the 64 places go to the
first 64 commands in the order of Table 9-6, so that no command of a lower row keeps one of a higher row out. -/
def drcQueued (s : State) (c : Nat) (write : Bool) : List DrcCmd :=
  (((orders s ++ [5]).map (fun o => ofOrder s c o write)).flatten).take 64

/-- The first command of each tenant in a list. -/
def firstPer : List Nat → List DrcCmd → List DrcCmd
  | _, [] => []
  | seen, x :: t =>
    let k := match x.charge with | .overhead => 1024 | .tenant t => t
    if seen.contains k then firstPer seen t else x :: firstPer (k :: seen) t

/-- The element of a list with the least key, the first of equals. -/
def leastBy (f : DrcCmd → Nat) : List DrcCmd → Option DrcCmd
  | [] => none
  | x :: t =>
    match leastBy f t with
    | none => some x
    | some y => if f x ≤ f y then some x else some y

/-- The commands an order offers: reads before writes except while the write queue drains (R359). -/
def orderOffers (s : State) (c o : Nat) : List DrcCmd :=
  let l (w : Bool) : List DrcCmd := (drcQueued s c w).filter (fun x => cmdOrder s c x == o)
  let d := (drcCh s c).drain
  if (l d).isEmpty then l (!d) else l d

/-! #### Deficit round robin of order 3 (R358)

DESIGN CHOICE (log 8): a turn of a pass is worth its current rate in lines of 64 bytes per 100 MB/s, counted in 1/65,536 line;
the turns go round in pass number order; a pass with no command waiting on the channel carries no deficit over. -/

/-- The worth of one turn of a pass. -/
def drrQuantum (s : State) (n : Nat) : Nat := ((passAt s n).map (fun p => passRate s p / 100)).getD 0

/-- The deficit a pass carries. -/
def drrDeficit (s : State) (c n : Nat) : Nat := (((drcCh s c).drr.find? (fun e => e.1 == n)).map (·.2)).getD 0

/-- How far on a pass stands in the round from the pass whose turn it is. -/
def drrDist (s : State) (c n : Nat) : Nat := (n + 255 - (drcCh s c).drrAt) % 256

/-- The turns a pass needs from now until it can pay for a line: 0 where its present turn still pays. -/
def drrTurns (s : State) (c n : Nat) : Nat :=
  let d := drrDeficit s c n
  if n = (drcCh s c).drrAt ∧ 65536 ≤ d then 0
  else max 1 ((65536 - d + (drrQuantum s n - 1)) / max 1 (drrQuantum s n))

/-- When a pass is first able to pay for a line: by round, then by place in the round. -/
def drrKey (s : State) (c : Nat) (x : DrcCmd) : Nat :=
  let n := (cmdBucket s x).getD 0
  drrTurns s c n * 256 + drrDist s c n

/-- Order 3 takes `x`: every pass that offers one has had its turns up to that one, and `x`'s pass pays for the line. -/
def drrTake (s : State) (c : Nat) (x : DrcCmd) : State :=
  let w := (cmdBucket s x).getD 0
  let turns := drrTurns s c w
  let offers := (firstPer [] (orderOffers s c 3)).filterMap (cmdBucket s)
  let waits (n : Nat) : Bool := (drcCh s c).q.any (fun y => y.n != x.n && cmdBucket s y == some n)
  let new (n : Nat) : Nat × Nat :=
    let got := if !offers.contains n then 0 else if drrDist s c n ≤ drrDist s c w then turns else turns - 1
    let d := drrDeficit s c n + got * drrQuantum s n
    (n, if n = w then d - 65536 else d)
  let keep := ((offers ++ ((drcCh s c).drr.map (·.1)).filter (fun n => !offers.contains n)).filter waits).map new
  setDrc s c (fun d => { d with drrAt := w, drr := keep })

/-! #### Weighted round robin of order 5 (R356, R358)

DESIGN CHOICE (log 8): a turn of a tenant is its B weight in lines; the turns go round in tenant number order, the overhead account
standing behind tenant 1,023 with weight 1. -/

/-- The account a command stands for in the round. -/
def wrrOf (x : DrcCmd) : Nat := match x.charge with | .overhead => 1024 | .tenant t => t

/-- When an account's turn comes: at once while its present turn lasts, else by place in the round. -/
def wrrKey (s : State) (c : Nat) (x : DrcCmd) : Nat :=
  let d := drcCh s c
  if wrrOf x = d.wrrAt ∧ 0 < d.wrr then 0 else 1 + (wrrOf x + 1024 - d.wrrAt) % 1025

/-- Order 5 takes `x`: one line of its account's turn, a new turn where the present one is over. -/
def wrrTake (s : State) (c : Nat) (x : DrcCmd) : State :=
  let k := wrrOf x
  setDrc s c (fun d =>
    { d with wrrAt := k, wrr := if k = d.wrrAt ∧ 0 < d.wrr then d.wrr - 1 else (if k = 1024 then 1 else bWeight s k) - 1 })

/-- The next command of an order: the oldest in orders 2 and 4, by deficit round robin in order 3, by weighted round robin in
orders 5 and 6. -/
def pickOrder (s : State) (c o : Nat) : Option DrcCmd :=
  let l := orderOffers s c o
  if o = 2 ∨ o = 4 then l.head?
  else if o = 3 then leastBy (drrKey s c) (firstPer [] l)
  else leastBy (wrrKey s c) (firstPer [] l)

/-- The round robin's account of a command taken. -/
def rrTake (s : State) (c : Nat) (x : DrcCmd) : State :=
  let o := cmdOrder s c x
  if o = 3 then drrTake s c x else if 5 ≤ o then wrrTake s c x else s

/-- The charge of one line moved from a tenant's pass to the overhead account (R229). -/
def drcRefund (s : State) (c t : Nat) : State :=
  let s1 := match dramPass s t with
    | none => s
    | some p =>
      let l := min ((bktCfg s p.n).2 * 1536 * 65536) (bktLevel s c p.n + bktLine)
      setDrc s c (fun d => { d with bkt := (p.n, l, s.tb.cyc) :: d.bkt.filter (fun b => b.1 != p.n) })
  overhead (bktTake s1 c 256 1) 1

/-- The command a channel takes next, refreshes apart: from the first order of Table 9-6 that offers one (R358). -/
def drcNext (s : State) (c : Nat) : Option DrcCmd := (orders s).findSome? (pickOrder s c)

/-- The drain state after the write queue's length has changed (R359). -/
def drcDrain (s : State) (c : Nat) : State :=
  let w := ((drcCh s c).q.filter (·.write)).length
  setDrc s c (fun d => { d with drain := if 48 ≤ w then true else if w ≤ 16 then false else d.drain })

/-- DRC_COMMAND_ISSUE: the channel takes its next command (R358). `must`: a refresh is due that can be postponed no further. -/
def drcIssue (s : State) (c : Nat) (must : Bool) : State :=
  if (drcCh s c).mode ≠ .ready then s
  else if must && decide (0 < (drcCh s c).refDue) then
    pcu 0x3A c 1 (setDrc s c (fun d => { d with refDue := d.refDue - 1 }))
  else
    let s0 := drcDrain s c
    match drcNext s0 c with
    | none =>
      if 0 < (drcCh s c).refDue then pcu 0x3A c 1 (setDrc s0 c (fun d => { d with refDue := d.refDue - 1 })) else s0
    | some x =>
      let sr := rrTake s0 c x
      let s1 := match cmdBucket s0 x with
        | some b => if cmdOrder s0 c x < 5 then bktTake sr c b 1
                    else (match x.charge with | .tenant t => pcu 0x3E t 1 sr | .overhead => sr)
        | none => sr
      let s2 := setDrc s1 c (fun d => { d with q := d.q.filter (fun y => y.n != x.n) })
      let s3 := drcDrain s2 c
      if x.write then pcu 0x39 c 1 s3
      else
        match x.trk with
        | some _ => pcu 0x38 c 1 (setDrc s3 c (fun d => { d with issued := d.issued ++ [x] }))
        | none => pcu 0x38 c 1 s3

/-- Valley steps 7 of Table 2-3 and 6 of Table 2-4: self-refresh entered or left. A channel state change is followed by a
recomputation (R349), which finds C_der as it was. -/
def drcSelfRefresh (s : State) (enter : Bool) : State :=
  let s1 := { s with drc := s.drc.map (fun d =>
      if enter && d.mode == .ready then { d with mode := .selfRefresh }
      else if !enter && d.mode == .selfRefresh then { d with mode := .ready } else d) }
  if s.drc = s1.drc then s else pasRecompute s1

end Sys2Proof.Machine
end

