-- ==== Sys2Proof/Machine/HaCore.lean ====
section
/-!
DEFINITION. Machine/HaCore.lean: the home agent's directory, snoops and transactions (chapters 6 and 7): the rows of Table 6-8,
their settlement with R257, poison (R287 to R289), the eviction buffer and back-invalidation (R232 to R235), sweeps (R242,
R243), and the declaration of an unresponsive agent (R244 to R246).
-/
namespace Sys2Proof.Machine

/-! ### The directory (Table 6-6, R217, R218) -/

/-- The SF set of a physical line. -/
def sfSet (pa : Nat) : Nat := (pa % 65536) ^^^ ((pa / 65536) % 32768)

/-- The entries of the eviction buffer. -/
def evbEntries (s : State) : List BInv := s.ha.binv.filter BInv.evb

/-- The directory entry of a line: in the SF, or in the eviction buffer until the line is back-invalidated (R233). -/
def dirAt (s : State) (pa : Nat) : Option DirE :=
  (s.ha.sf.find? (fun e => e.pa == pa)).or (((evbEntries s).find? (fun b => b.e.pa == pa)).map BInv.e)

/-- A line's entry no longer records any holder: it leaves the SF; in the eviction buffer its back-invalidation has none left to
snoop. -/
def dirDrop (s : State) (pa : Nat) : State :=
  { s with ha := { s.ha with
      sf := s.ha.sf.filter (fun e => e.pa != pa)
      binv := s.ha.binv.map (fun b => if b.evb && !b.sent && b.e.pa == pa then
        { b with e := { b.e with st := .sh, owner := 0, precise := 0, ag0 := false, coarse := 0 } } else b) } }

/-- The entry has an owner: EX or OW. -/
def DirE.owned (e : DirE) : Bool := e.st == .ex || e.st == .ow

/-- The precise slot of an agent that is attached, or whose ID is in quarantine (R193). -/
def slotOf (s : State) (a : Nat) : Option (Option Nat) :=
  match findAgent s a with
  | some r => some r.slot
  | none => (s.lnk.quar.find? (fun q => q.1 == a)).map (fun q => q.2.2)

/-- The entry records a caching agent as a sharer. -/
def shares (e : DirE) (r : AgentRec) : Bool :=
  match r.slot with
  | some k => e.precise.getLsbD k
  | none => e.coarse.getLsbD (r.id / 16)

/-- The holders of an entry (R217), agents declared unresponsive left out (R244). -/
def holders (s : State) (e : DirE) : List Nat :=
  ((if e.owned && !unresp s e.owner then [e.owner] else []) ++ (if e.ag0 then [0] else [])
    ++ ((s.lnk.agents.filter (fun (r : AgentRec) => r.caching && !unresp s r.id && shares e r)).map AgentRec.id)).eraseDups

/-- The agent is recorded in the entry; for one without a precise slot, by its group's COARSE bit. -/
def recorded (s : State) (e : DirE) (a : Nat) : Bool :=
  (e.owned && e.owner == a) || (a == 0 && e.ag0) || (match slotOf s a with
    | some (some k) => e.precise.getLsbD k
    | some none => e.coarse.getLsbD (a / 16)
    | none => false)

/-- An entry with a sharer added (R217, R218). -/
def addSharer (s : State) (e : DirE) (a : Nat) : DirE :=
  if a = 0 then { e with ag0 := true }
  else
    match slotOf s a with
    | some (some k) => { e with precise := e.precise ||| (1#64 <<< k) }
    | some none => { e with coarse := e.coarse ||| (1#16 <<< (a / 16)) }
    | none => e

/-- An entry without an agent, as owner and as precise sharer; COARSE bits stay (R218, R257). Losing its owner leaves SH. -/
def delHolder (s : State) (e : DirE) (a : Nat) : DirE :=
  let e1 := if e.owned && e.owner == a then { e with st := .sh, owner := 0 } else e
  if a = 0 then { e1 with ag0 := false }
  else
    match (slotOf s a).bind id with
    | some k => { e1 with precise := e1.precise &&& ~~~(1#64 <<< k) }
    | none => e1

/-- The entry EX(a). -/
def exOf (e : DirE) (a : Nat) : DirE := { e with st := .ex, owner := a, precise := 0, ag0 := false, coarse := 0 }

/-- A transaction on the line is active (R211, R212). -/
def lineActive (s : State) (pa : Nat) : Bool :=
  s.ha.trks.any (fun t => t.pa == pa && (t.ph == .active || t.ph == .evb || t.ph == .resp))

/-- A free snoop ID from `base` upwards among the back-invalidations. -/
def freeSid (used : List Nat) : Nat → Nat → Nat
  | base, 0 => base
  | base, n + 1 => if used.contains base then freeSid used (base + 1) n else base

/-- The set of the line is full. -/
def sfFull (s : State) (pa : Nat) : Bool := decide (16 ≤ (s.ha.sf.filter (fun e => sfSet e.pa == sfSet pa)).length)

/-- A use of a way turns the nodes on its path away from it. `node` numbers the tree from its root 1. -/
def plruTouch (way : Nat) : Nat → Nat → Nat → Nat
  | 0, _, bits => bits
  | d + 1, node, bits =>
    let right := way.testBit d
    let cleared := if bits.testBit node then bits - 2 ^ node else bits
    plruTouch way d (2 * node + b2n right) (if right then cleared else cleared + 2 ^ node)

/-- The way that the tree points to among those allowed: at each node the half used longer ago, unless no allowed way lies there. -/
def plruPick (ok : Nat → Bool) (bits : Nat) : Nat → Nat → Nat → Nat
  | 0, _, way => way
  | d + 1, node, way =>
    let has (r : Bool) : Bool := (List.range (2 ^ d)).any (fun i => ok ((2 * way + b2n r) * 2 ^ d + i))
    let r := if bits.testBit node then has true else !has false
    plruPick ok bits d (2 * node + b2n r) (2 * way + b2n r)

/-- An entry of the SF is used: by the lookup of a transaction that finds it, and by each write of it. (DESIGN CHOICE, log 58.) -/
def sfUse (s : State) (pa way : Nat) : State :=
  { s with ha := { s.ha with
      plru := stSet (fun _ => 0) s.ha.plru (sfSet pa) (plruTouch way 4 1 (stGet (fun _ => 0) s.ha.plru (sfSet pa))) } }

/-- The entries of a line's set. -/
def sfWays (s : State) (pa : Nat) : List DirE := s.ha.sf.filter (fun e => sfSet e.pa == sfSet pa)

/-- A victim leaves a full set for the eviction buffer (R232): by tree pseudo-LRU among the ways whose lines are not active, or
among all 16 if all are. -/
def sfVictim (s : State) (pa : Nat) : State :=
  let l := sfWays s pa
  let q := l.filter (fun e => !lineActive s e.pa)
  let c := if q.isEmpty then l else q
  let w := plruPick (fun i => c.any (fun e => e.way == i)) (stGet (fun _ => 0) s.ha.plru (sfSet pa)) 4 1 0
  match c.find? (fun e => e.way == w) with
  | none => s
  | some e =>
    let b : BInv := ⟨freeSid (s.ha.binv.map BInv.sid) 2112 320, e, false, [], true, none, []⟩
    { s with ha := { s.ha with sf := s.ha.sf.filter (fun x => x.pa != e.pa), binv := s.ha.binv ++ [b] } }

/-- An entry written: in its place, in the eviction buffer if it stands there, or in a free way of its set (R232); removed when no
holder is left. -/
def dirPut (s : State) (e : DirE) : State :=
  if e.st = .sh ∧ holders s e = [] then dirDrop s e.pa
  else if s.ha.sf.any (fun x => x.pa == e.pa) then
    sfUse { s with ha := { s.ha with
      sf := s.ha.sf.map (fun x => if x.pa == e.pa then { e with way := x.way } else x) } } e.pa
      (((s.ha.sf.find? (fun x => x.pa == e.pa)).map DirE.way).getD 0)
  else if (evbEntries s).any (fun b => b.e.pa == e.pa) then
    { s with ha := { s.ha with binv := s.ha.binv.map (fun b => if b.evb && !b.sent && b.e.pa == e.pa then { b with e := e } else b) } }
  else
    let s1 := pcu 0x20 0 1 (if sfFull s e.pa then sfVictim s e.pa else s)
    let w := ((List.range 16).find? (fun i => (sfWays s1 e.pa).all (fun x => x.way != i))).getD 0
    sfUse { s1 with ha := { s1.ha with sf := s1.ha.sf ++ [{ e with way := w }] } } e.pa w

/-! ### Page entries (chapter 8) -/

/-- The image range of a tenant in lines: first line and length (R301). -/
def imgRange (s : State) (t : Nat) : Nat × Nat :=
  (s.fld (Ad.DSC_IMG_BASE t) 16 0 * 32768, s.fld (Ad.DSC_IMG_PAGES t) 16 0 * 1024)

/-- A tenant line lies in the tenant's image range. -/
def inImage (s : State) (t line : Nat) : Bool :=
  let (b, n) := imgRange s t
  decide (b ≤ line ∧ line < b + n)

/-- The tenant, first line and number of lines of a page key (Tenant memory: (tenant × 2^22 + page) × 2 + slot); a large page's
key names its first base page. -/
def keyTenant (key : Nat) : Nat := key / 2 ^ 23

/-- The first 64 KiB page of a key. -/
def keyPage (key : Nat) : Nat := (key / 2) % 2 ^ 22

/-- A base page number lies in the tenant's large-page range (R301). -/
def inLarge (s : State) (t page : Nat) : Bool :=
  decide (s.fld (Ad.DSC_LARGE_LO t) 16 0 * 32 ≤ page ∧ page < s.fld (Ad.DSC_LARGE_HI t) 16 0 * 32)

/-- Lines of a page. -/
def keyLines (s : State) (key : Nat) : Nat := if inLarge s (keyTenant key) (keyPage key) then 32768 else 1024

/-- What an unlisted page entry is: in a READY slot IMAGE_PENDING up to NPAGES and BLANK beyond (R318); BLANK in tenant 0's
first 2 GiB once the TMM is enabled (R337); otherwise UNBACKED. -/
def pgDef (s : State) (key : Nat) : PageE :=
  let t := keyTenant key
  let p := keyPage key
  let mk (st : PgSt) : PageE := ⟨st, inLarge s t p, false, false, false, false, 0, 0, 0, 0, [], 0⟩
  if inImage s t (p * 1024) then
    if s.fld (Ad.SLOT_CTRL t (key % 2)) 1 0 = 2 then
      mk (if p - s.fld (Ad.DSC_IMG_BASE t) 16 0 * 32 < s.fld (Ad.SLOT_NPAGES t (key % 2)) 16 0 then .imagePending else .blank)
    else mk .unbacked
  else if t = 0 ∧ s.tmm.nch ≠ 0 ∧ p < 32768 then mk .blank
  else mk .unbacked

/-- A page's leaf entry. -/
def pg (s : State) (key : Nat) : PageE := stGet (pgDef s) s.tmm.pages key

/-- A page's leaf entry replaced. -/
def setPg (s : State) (key : Nat) (f : PageE → PageE) : State :=
  { s with tmm := { s.tmm with pages := stSet (pgDef s) s.tmm.pages key (f (pg s key)) } }

/-- The key of a base page as the tenant's tables stand: a large page's first base page; in the image range the active slot. -/
def pageKey (s : State) (t page : Nat) : Nat :=
  if inImage s t (page * 1024) then (t * 2 ^ 22 + page) * 2 + s.fld (Ad.DSC_CTRL t) 4 4
  else if inLarge s t page then (t * 2 ^ 22 + page / 32 * 32) * 2
  else (t * 2 ^ 22 + page) * 2

/-- A write to a line sets WR of its page (Table 8-3). -/
def noteWrite (s : State) (tenant line : Nat) : State :=
  let k := pageKey s tenant (line / 1024)
  if (pg s k).wr ∨ ((pg s k).st ≠ .resident ∧ (pg s k).st ≠ .pinned) then s else setPg s k (fun e => { e with wr := true })

/-- A tenant's line written to DRAM for one of its transactions (R354). -/
def haWrite (s : State) (tenant line pa : Nat) (l : DLine) : State :=
  noteWrite (dramWrite s (.tenant tenant) pa l) tenant line

/-! ### Trackers and responses -/

/-- The request takes CompAck (R214). -/
def needsComp (k : ReqKind) : Bool := k == .readShared || k == .readUnique || k == .upgrade

/-- The request reads the line's data for its requester. -/
def isRead (k : ReqKind) : Bool := k == .readShared || k == .readUnique || k == .readOnce || k == .readReserve

/-- A tracker in use. -/
def trkAt (s : State) (id : Nat) : Option Trk := s.ha.trks.find? (fun t => t.id == id)

/-- A tracker freed. -/
def trkDrop (s : State) (id : Nat) : State := { s with ha := { s.ha with trks := s.ha.trks.filter (fun t => t.id != id) } }

/-- A tracker's contents replaced. -/
def trkPut (s : State) (t : Trk) : State :=
  { s with ha := { s.ha with trks := s.ha.trks.map (fun u => if u.id == t.id then t else u) } }

/-- The credits of a request freed: its class, and the DAT credit it may occupy (R171, R181). -/
def freeReq (s : State) (port : Nat) (m : ReqMsg) (dat : Bool) : State :=
  let s1 := reqCredit s port m.mclass
  if dat then reqCredit s1 port 4 else s1

/-- The credit that a tracker's request was still owed is freed (R303). -/
def freeOwed (s : State) (t : Trk) : State :=
  if t.r.owed then
    let s1 := freeReq s t.r.port t.r.m t.r.dat
    trkPut s1 { t with r := { t.r with owed := false } }
  else s

/-- The hub's response to a transaction: to agent 0's engine at once; to a partner's agent in a flit, its tracker held until
it is placed (R212, R214). A response to an agent that is gone is discarded (R244). -/
def haRespond (s : State) (t : Trk) (k : RspKind) (st code : Nat) (line : Line) : State :=
  let a := t.r.m.src
  let s0 := freeOwed (if k = .retry then pcu 0x18 a 1 s else s) t
  match t.r.who with
  | some w => ag0Answer (trkDrop s0 t.id) ⟨w, k, code, st, line⟩
  | none =>
    if unresp s a || (findAgent s a).isNone then trkDrop s0 t.id
    else sendTo (trkPut s0 { t with ph := if k = .retry then .retry else .resp, r := { t.r with owed := false } }) a (.rsp k t.r.m.txid t.id st code line)

/-- A response has been placed in a sequenced flit: the transaction stops being active (R212); the tracker is freed unless
CompAck is due (R214). -/
def haPlaced (s : State) (htid : Nat) : State :=
  match trkAt s htid with
  | none => s
  | some t =>
    if t.ph = .resp then (if needsComp t.r.m.kind then trkPut s { t with ph := .comp } else trkDrop s htid)
    else if t.ph = .retry then trkDrop s htid else s

/-- A race counter one higher (Table 7-3): 0 UPG_CONV, 1 EVICT_STALE, 2 WC_FAIL, 3 WC_OK, 4 WC_REPEAT, 5 TRK_WAIT. -/
def haCount (s : State) (i : Nat) : State := s.inc (Ad.HA_RACE_COUNT i)

/-- Held Upgrades of an agent whose snoop answer reports STATE I are marked (R261). -/
def markUpgrades (s : State) (a tenant line : Nat) : State :=
  let hit (r : HReq) : Bool := r.m.kind == .upgrade && r.m.src == a && r.m.tenant == tenant && r.m.line == line
  { s with ha := { s.ha with
      wait := s.ha.wait.map (fun r => if hit r then { r with marked := true } else r)
      trks := s.ha.trks.map (fun t =>
        if hit t.r && (t.ph == .walk || t.ph == .page || t.ph == .line) then { t with r := { t.r with marked := true } } else t) } }

/-! ### Snoops -/

/-- MOP of a snoop. -/
def snpCode : SnpKind → Nat
  | .shared => 0x10 | .invalidate => 0x11 | .fetch => 0x12 | .peek => 0x13

/-- The STATE an answer reports. -/
def ansSt : SnpAns → Nat
  | .ack st => st | .data st _ => st | .poison st _ => st

/-- A snoop made ready (R224): agent 0 answers it internally (R208); one to an agent declared unresponsive counts as answered
with Ack, STATE I (R244). -/
def sendSnoop (s : State) (sid : Nat) (k : SnpKind) (tenant line a : Nat) : State × Option SnpAns :=
  if a = 0 then
    if tenant = 0 then
      match rcSnoop s sid k line with
      | (s1, some r) => (if ansSt r = 0 then markUpgrades s1 0 tenant line else s1, some r)
      | (s1, none) => (s1, none)
    else (s, some (.ack 0))
  else if unresp s a || (findAgent s a).isNone then (s, some (.ack 0))
  else (pcu 0x13 a 1 (sendTo s a (.snoop (snpCode k) sid tenant line)), none)

/-- The snoops of one transaction. -/
def sendSnoops (sid : Nat) (k : SnpKind) (tenant line : Nat) : List Nat → State → State × List (Nat × SnpKind × Option SnpAns)
  | [], s => (s, [])
  | a :: t, s =>
    let (s1, r) := sendSnoop s sid k tenant line a
    let (s2, l) := sendSnoops sid k tenant line t s1
    (s2, (a, k, r) :: l)

/-- An answer that Table 6-7 allows (R219, R249); `ow`: from the owner of an OW entry, which holds the line in O and has to answer
Data. -/
def ansOk (k : SnpKind) (ow : Bool) (r : SnpAns) : Bool :=
  match k, r with
  | .shared, .ack st => !ow && decide (st ≤ 1)
  | .shared, .data st _ => st == 0 || st == 4
  | .invalidate, .ack st => !ow && st == 0
  | .invalidate, .data st _ => st == 0
  | .fetch, .ack st => !ow && decide (st ≤ 2)
  | .fetch, .data st _ => decide (st ≤ (if ow then 1 else 2))
  | .peek, .ack st => !ow && decide (st ≤ 2)
  | .peek, .data st _ => st == 0 || st == 4 || (!ow && st == 3)
  | _, .poison st _ => st == 0

/-! ### Poison (R287 to R292) -/

/-- A line is poisoned because agent `a` is lost: marked, counted, and listed for the notices of its sweep. -/
def lostLine (s : State) (a pa tenant line : Nat) : State :=
  let s1 := poisonMade (dramMark s pa) 5 tenant line a
  { s1 with ha := { s1.ha with poison := s1.ha.poison.map (fun p => if p.1 == a then (p.1, p.2 ++ [(tenant, line)]) else p) } }

/-- A line counts as poisoned because its recorded owner is lost (R244). -/
def ownerLost (s : State) (e : DirE) : State := lostLine s e.owner e.pa e.tenant e.line

/-- The same for an entry that is about to be used or dropped before the sweep of R245 has reached it; once for each line. -/
def lostMark (s : State) (e : DirE) : State :=
  if e.owned && unresp s e.owner && s.ha.poison.any (fun p => p.1 == e.owner && !p.2.contains (e.tenant, e.line)) then ownerLost s e
  else s

/-- The bytes of a line that a mask selects. -/
def expandMask (m : BitVec 64) : Line :=
  (List.range 64).foldl (fun a i => if m.getLsbD i then a ||| (BitVec.ofNat 512 255 <<< (8 * i)) else a) 0

/-- A masked write merged over a line. -/
def mergeLine (m : BitVec 64) (new old : Line) : Line := (new &&& expandMask m) ||| (old &&& ~~~expandMask m)

/-! ### DRAM reads of transactions -/

/-- A transaction's DRAM read starts; a channel that does not serve gives DRAM_UE (R374). -/
def haRead (s : State) (t : Trk) (spec : Bool) : State × Trk :=
  if !drcUp s (chanOf s t.pa) then (s, { t with rd := .have_ 0 2 })
  else
    let s1 := drcEnq s false (.tenant t.r.m.tenant) t.pa (some t.id)
    (if spec then pcu 0x15 t.r.m.tenant 1 s1 else s1, { t with rd := .pend s.pas.n, spec := spec })

/-- The read of a transaction whose data came from a snoop is discarded (R228 to R230). -/
def haDiscard (s : State) (t : Trk) : State :=
  if t.spec then
    let c := chanOf s t.pa
    let s1 := pcu 0x16 t.r.m.tenant 1 (drcRefund s c t.r.m.tenant)
    match t.rd with
    | .have_ _ 2 => drcLatent s1 c t.pa
    | _ => s1
  else s

/-- The data answer among a transaction's snoops, with its CODE (0: not poisoned). -/
def snpData (t : Trk) : Option (Line × Nat) :=
  t.snps.findSome? (fun e => match e.2.2 with
    | some (.data _ l) => some (l, 0)
    | some (.poison _ c) => some (0, c)
    | _ => none)

/-- Every snoop of the transaction is answered. -/
def allAnswered (t : Trk) : Bool := t.snps.all (fun e => e.2.2.isSome)

/-- The transaction's data and CODE when everything has arrived: the snooped data, or the DRAM read, whose uncorrectable error
poisons the line (R287). -/
def haData (s : State) (t : Trk) : State × Line × Nat :=
  match snpData t with
  | some (l, c) => (haDiscard s t, l, c)
  | none =>
    match t.rd with
    | .have_ l 2 =>
      if drcUp s (chanOf s t.pa) then (poisonMade (dramMark s t.pa) 2 t.r.m.tenant t.r.m.line t.r.m.src, l, 2) else (s, l, 2)
    | .have_ l c => (s, l, c)
    | _ => (s, 0, 0)

/-! ### Settlement (Table 6-8, R221, R222, R257, R288, R289) -/

/-- Snoop data written to DRAM: the mark in place of poisoned data (R288). -/
def writeAns (s : State) (t : Trk) (r : SnpAns) : State :=
  match r with
  | .data _ l => haWrite s t.r.m.tenant t.r.m.line t.pa ⟨l, 0⟩
  | .poison _ _ => dramMark s t.pa
  | .ack _ => s

/-- The requester is still there to be recorded (R244). -/
def alive (s : State) (t : Trk) : Bool := t.r.who.isSome || (!unresp s t.r.m.src && (findAgent s t.r.m.src).isSome)

/-- The DRAM writes of a read's snoop answers: X's Data for a SnpFetch; the Data of a responder left in I where it is the last dirty
copy (R257), which it is not where a requester that is there is granted M (R220); and the mark of poisoned Data that no write carries (R288). -/
def readWrites (t : Trk) (s : State) : List (Nat × SnpKind × Option SnpAns) → State
  | [] => s
  | (_, k, some r) :: l =>
    let w := k == .fetch || (ansSt r == 0 && (k == .shared || (k == .invalidate && !alive s t))) || (match r with | .poison _ _ => true | _ => false)
    readWrites t (if w then writeAns s t r else s) l
  | (_, _, none) :: l => readWrites t s l

/-- The responders that the new directory state loses (R257, R259, R244). -/
def goneFrom (s : State) (t : Trk) : List Nat :=
  (t.snps.filter (fun e => unresp s e.1 || (e.2.1 != .peek && (e.2.2.map ansSt) == some 0))).map (·.1)

/-- A blank entry for a transaction's line. -/
def newEntry (t : Trk) : DirE := ⟨t.pa, .sh, 0, 0, false, 0, t.r.m.tenant, t.r.m.line, 0⟩

/-- The grant and the new entry of a read (Table 6-8), `xd` telling whether the owner answered Data. No responder that is in I is
recorded (R257). -/
def readGrant (s : State) (t : Trk) (e : Option DirE) (xd : Bool) : Nat × Option DirE :=
  let R := t.r.m.src
  let gone := goneFrom s t ++ (if alive s t then [] else [R])
  let add (e : DirE) (a : Nat) : DirE := if gone.contains a then e else addSharer s e a
  let toSh (e : DirE) : DirE := add { e with st := .sh, owner := 0 } e.owner
  match t.r.m.kind, e with
  | .readShared, none => (2, some (exOf (newEntry t) R))
  | .readShared, some e =>
    if e.st = .sh then (1, some (add e R))
    else if e.st = .ow ∨ xd then (1, some (add { e with st := .ow } R))
    else (1, some (add (toSh e) R))
  | .readUnique, e => (if xd then 3 else 2, some (exOf (e.getD (newEntry t)) R))
  | .readOnce, some e => if !t.r.m.peek && e.st == .ow then (0, some (toSh e)) else (0, some e)
  | .readReserve, some e => if e.st = .ex then (0, some (if xd then { e with st := .ow } else toSh e)) else (0, some e)
  | _, e => (0, e)

/-- Reservations of other agents for the line are lost (R225, R267). -/
def loseResv (s : State) (pa keep : Nat) : State :=
  { s with ha := { s.ha with resv := s.ha.resv.filter (fun r => r.pa != pa || r.agent == keep) } }

/-- A read settles. -/
def settleRead (s : State) (t : Trk) : State :=
  let e := dirAt s t.pa
  let xd := (snpData t).isSome
  let (s1, line, code) := haData s t
  let s2 := readWrites t s1 t.snps
  let (st, ne) := readGrant s2 t e xd
  let s3 := match ne with
    | none => s2
    | some e1 =>
      let e2 := (goneFrom s2 t).foldl (delHolder s2) e1
      dirPut s2 (if alive s2 t then e2 else delHolder s2 e2 t.r.m.src)
  let s4 := if t.r.m.kind = .readUnique then loseResv s3 t.pa t.r.m.src else s3
  let s5 := if t.r.m.kind = .readReserve ∧ alive s4 t then
      { s4 with ha := { s4.ha with resv := s4.ha.resv.filter (fun r => r.agent != t.r.m.src) ++ [⟨t.r.m.src, t.pa, t.r.m.rtag⟩] } }
    else s4
  haRespond s5 { t with rd := .none } (if code = 0 then .data else .dataPoison) st code line

/-- An Upgrade of a recorded sharer settles (R222): the answered Data is discarded, poison kept (R288). Where the requester is gone
meanwhile, its copy of the owner's data is lost with it. -/
def settleUpgrade (s : State) (t : Trk) : State :=
  let e := dirAt s t.pa
  let s1 := match snpData t with
    | some (_, 0) => s
    | some (_, _) => dramMark s t.pa
    | none => s
  let e1 := e.getD (newEntry t)
  if alive s1 t then haRespond (loseResv (dirPut s1 (exOf e1 t.r.m.src)) t.pa t.r.m.src) t .ack 3 0 0
  else
    let s2 := if e1.st = .ow then lostLine s1 t.r.m.src e1.pa e1.tenant e1.line else s1
    haRespond (dirDrop s2 t.pa) t .ack 3 0 0

/-- A write settles (R223, R289): the line is in I. -/
def settleWrite (s : State) (t : Trk) : State :=
  let m := t.r.m
  let (s1, l) : State × DLine :=
    if m.kind = .writeFull then (s, ⟨m.data, 0⟩)
    else
      let (s1, base, code) := haData s t
      (s1, ⟨mergeLine m.mask m.data base, b2n (code != 0)⟩)
  let s2 := loseResv (dirDrop (haWrite s1 m.tenant m.line t.pa l) t.pa) t.pa m.src
  if m.kind = .writeConditional then haRespond (haCount s2 3) t .ack 0 1 0 else haRespond s2 t .ack 0 0 0

/-- The settlement needs a new SF entry. -/
def needsEntry (s : State) (t : Trk) : Bool :=
  (t.r.m.kind == .readShared || t.r.m.kind == .readUnique || t.r.m.kind == .upgrade) && alive s t && (dirAt s t.pa).isNone

/-- The eviction buffer has room for the tracker's victim (R233). -/
def evbRoom (s : State) (t : Trk) : Bool :=
  !sfFull s t.pa || decide ((evbEntries s).length < (if 2048 ≤ t.id then 320 else 256))

/-- An active transaction settles as soon as its snoops are answered and its data is there (R212); without speculation its DRAM
read starts only now (R231). -/
def trySettle (s : State) (id : Nat) : State :=
  match trkAt s id with
  | none => s
  | some t =>
    let data := isRead t.r.m.kind || t.r.m.kind == .writePartial || t.r.m.kind == .writeConditional
    if (t.ph ≠ .active ∧ t.ph ≠ .evb) ∨ !allAnswered t then s
    else if data && (snpData t).isNone && t.rd == .none && (haRead s t false).2.rd == .pend s.pas.n then
      let (s1, t1) := haRead s t false
      trkPut s1 t1
    else
      let t1 := if data && (snpData t).isNone && t.rd == .none then { t with rd := .have_ 0 2 } else t
      let waiting : Bool := match t1.rd with
        | .pend _ => data && (snpData t1).isNone
        | _ => false
      if waiting then s
      else if needsEntry s t1 && !evbRoom s t1 then
        let s1 := trkPut s { t1 with ph := .evb }
        if t.ph = .evb ∨ 2048 ≤ t.id then s1 else sqEvt s1 Ad.SF_EVT 4
      else if isRead t1.r.m.kind then settleRead s t1
      else if t1.r.m.kind = .upgrade then settleUpgrade s t1
      else settleWrite s t1

/-! ### Becoming active (R211, R215, R221) -/

/-- The holder that a request comes from: its agent, and for agent 0 its cache only where the record core itself asks; the other
engines of agent 0 hold nothing, so its cache is snooped for them like any other holder (R208). -/
def reqHolder (t : Trk) : Option Nat :=
  match t.r.who with
  | none => some t.r.m.src
  | some (.rcFill _) => some 0
  | some (.rcWb _) => some 0
  | some _ => none

/-- What a row of Table 6-8 does at once: its snoop, the agents snooped, and its DRAM read: 0 none, 1 now, 2 speculative, 3
after the snoops. ReadOnce with PEEK 1 on I or SH has no row of its own: it reads DRAM and leaves the state, as with PEEK 0.
(DESIGN CHOICE, log 58.) -/
def rowPlan (s : State) (t : Trk) (e : Option DirE) : SnpKind × List Nat × Nat :=
  match e with
  | none =>
    (.invalidate, [], if isRead t.r.m.kind || t.r.m.kind == .writePartial || t.r.m.kind == .writeConditional then 1 else 0)
  | some e =>
    let others := (holders s e).filter (fun a => some a != reqHolder t)
    let own (k : SnpKind) : SnpKind × List Nat × Nat :=
      if e.st = .sh then (k, [], 1) else (k, [e.owner], if e.st = .ex then 2 else 0)
    match t.r.m.kind with
    | .readShared => own .shared
    | .readUnique => if e.st = .ex then (.invalidate, [e.owner], 2) else (.invalidate, others, if e.st = .sh then 1 else 0)
    | .readOnce => own (if t.r.m.peek then .peek else .fetch)
    | .readReserve => own (if e.st = .ow then .peek else .shared)
    | .writePartial => (.invalidate, others, if e.st = .sh then 1 else 3)
    | .writeConditional => (.invalidate, others, if e.st = .sh then 1 else 3)
    | _ => (.invalidate, others, 0)

/-- The transaction becomes active and its row's snoops and read go out. A line whose recorded owner has been declared
unresponsive is already poisoned (R244, R245). -/
def doRow (s : State) (t : Trk) : State :=
  let e := dirAt s t.pa
  let lost := e.any (fun e => e.owned && unresp s e.owner)
  let s1 := match e with
    | some e1 => lostMark (if s.ha.sf.any (fun x => x.pa == t.pa) then sfUse s t.pa e1.way else s) e1
    | none => s
  let (k, tg, rd) := rowPlan s1 t e
  let spec := rd == 2 && bit (s1.reg Ad.HA_CFG) 0
  let t1 : Trk := { t with ph := .active, rd := if lost && !(t.r.m.kind == .writeFull) then .have_ 0 5 else t.rd }
  let (s2, t2) := if (rd = 1 ∨ spec) ∧ t1.rd = .none then haRead s1 t1 spec else (s1, t1)
  let (s3, sn) := sendSnoops t.id k t.r.m.tenant t.r.m.line tg s2
  trySettle (trkPut s3 { t2 with snps := sn }) t.id

/-- A requester still recorded as the line's owner holds no copy of it: an E copy was dropped silently (R206); an O copy that is
gone leaves the line poisoned. -/
def selfOwner (s : State) (t : Trk) : State × Trk :=
  match dirAt s t.pa with
  | none => (s, t)
  | some e =>
    if e.owned && some e.owner == reqHolder t then
      if e.st = .ow then
        (dirPut (poisonMade (dramMark s t.pa) 5 e.tenant e.line e.owner) (delHolder s e t.r.m.src), { t with rd := .have_ 0 5 })
      else (dirPut s (delHolder s e t.r.m.src), t)
    else (s, t)

/-- CleanEvict and DirtyEvict (Table 6-8, R218, R258). -/
def doEvict (s : State) (t : Trk) : State :=
  let R := t.r.m.src
  let s1 :=
    match dirAt s t.pa with
    | none => haCount s 1
    | some e =>
      if e.owned && e.owner == R then
        if t.r.m.kind = .dirtyEvict then dirPut (haWrite s t.r.m.tenant t.r.m.line t.pa ⟨t.r.m.data, 0⟩) (delHolder s e R)
        else if e.st = .ow then
          dirPut (haProto (poisonMade (dramMark s t.pa) 5 e.tenant e.line R) t.r.port R 9 7) (delHolder s e R)
        else dirPut s (delHolder s e R)
      else if t.r.m.kind = .cleanEvict && recorded s e R then dirPut s (delHolder s e R)
      else haCount s 1
  haRespond s1 t .ack 0 0 0

/-- A line that maps to a failed set (R250): reads are answered DataPoison SF_LOST, all else is acknowledged and discarded. -/
def doFailed (s : State) (t : Trk) : State :=
  if isRead t.r.m.kind ∨ t.r.m.kind = .upgrade then
    haRespond (poisonMade s 4 t.r.m.tenant t.r.m.line t.r.m.src) t .dataPoison 0 4 0
  else haRespond s t .ack 0 0 0

/-- The kept outcome of an agent's last WriteConditional replaced (R227), its reservation consumed (R226). -/
def wcKeep (s : State) (a rtag : Nat) (ok : Bool) : State :=
  { s with ha := { s.ha with
      wcs := s.ha.wcs.filter (fun e => e.1 != a) ++ [(a, rtag, ok)], resv := s.ha.resv.filter (fun r => r.agent != a) } }

/-- A WriteConditional that fails (R226, R268); a repeat is answered with the kept outcome (R227). -/
def wcFail (s : State) (t : Trk) : State :=
  match s.ha.wcs.find? (fun e => e.1 == t.r.m.src && e.2.1 == t.r.m.rtag) with
  | some (_, _, ok) => haRespond (haCount s 4) t .ack 0 (b2n ok) 0
  | none => haRespond (haCount (wcKeep s t.r.m.src t.r.m.rtag false) 2) t .ack 0 0 0

/-- The line's page is stalled by a flip in progress (R268, R334). -/
def flipStalls (s : State) (tenant line : Nat) : Bool := s.tmm.stall == some tenant && inImage s tenant line

/-- A transaction becomes the line's active one. An Upgrade from the recorded owner of an EX line has no row: it is served as
ReadUnique, the owner's entry dropped first. (DESIGN CHOICE, log 58.) -/
def activate (s : State) (t : Trk) : State :=
  let m := t.r.m
  let failed := s.ha.failed.contains (sfSet t.pa)
  match m.kind with
  | .cleanEvict => if failed then doFailed s t else doEvict s t
  | .dirtyEvict => if failed then doFailed s t else doEvict s t
  | .writeConditional =>
    if !s.ha.wcs.any (fun e => e.1 == m.src && e.2.1 == m.rtag) && !failed && !flipStalls s m.tenant m.line
        && s.ha.resv.any (fun r => r.agent == m.src && r.pa == t.pa && r.rtag == m.rtag) then
      doRow (wcKeep s m.src m.rtag true) t
    else wcFail s t
  | .upgrade =>
    if failed then doFailed s t
    else
      let ok := !t.r.marked && (dirAt s t.pa).any (fun e => e.st != .ex && recorded s e m.src)
      if ok then doRow s t
      else
        let s1 := if t.r.marked then pcu 0x1A m.src 1 (haCount s 0) else s
        let (s2, t2) := selfOwner s1 { t with r := { t.r with m := { m with kind := .readUnique } } }
        doRow s2 t2
  | .writeFull => if failed then doFailed s t else doRow s t
  | .writePartial => if failed then doFailed s t else doRow s t
  | _ =>
    if failed then doFailed s t
    else
      let (s1, t1) := selfOwner s t
      doRow s1 t1

/-! ### Back-invalidations and sweeps (R234, R242, R243) -/

/-- A back-invalidation's snoops go out (R234), or the next of those that a sweep's bound held back. -/
def binvSend (s : State) (b : BInv) (now rest : List Nat) : State :=
  let (s1, l) := sendSnoops b.sid .invalidate b.e.tenant b.e.line now (lostMark s b.e)
  let b1 := { b with sent := true, ans := b.ans ++ l.map (fun x => (x.1, x.2.2)), rest := rest }
  let has := s1.ha.binv.any (fun x => x.sid == b.sid)
  { s1 with ha := { s1.ha with
      binv := if has then s1.ha.binv.map (fun x => if x.sid == b.sid then b1 else x) else s1.ha.binv ++ [b1] } }

/-- Every agent to be snooped has been, and has answered or been declared to have answered. -/
def BInv.ready (b : BInv) : Bool := b.sent && b.rest.isEmpty && b.ans.all (fun x => x.2.isSome)

/-- Answered Data written to DRAM, charged to the overhead account (R354). -/
def binvWrite (e : DirE) (s : State) : List (Nat × Option SnpAns) → State
  | [] => s
  | (_, some (.data _ l)) :: t => binvWrite e (noteWrite (dramWrite s .overhead e.pa ⟨l, 0⟩) e.tenant e.line) t
  | (_, some (.poison _ _)) :: t => binvWrite e (dramMark s e.pa) t
  | _ :: t => binvWrite e s t

/-- A release sweep (R328: returned Data is discarded). -/
def isRelease : SweepKind → Bool
  | .release _ => true | _ => false

/-- A back-invalidation completes (R234): Data written, the entry freed or updated, reservations of the line lost (R225). -/
def binvFinish (s : State) (b : BInv) : State :=
  let rel := (s.ha.sweeps.find? (fun w => some w.no == b.sweep)).any (fun w => isRelease w.kind)
  let s1 := if rel then s else binvWrite b.e s b.ans
  let s2 := { s1 with ha := { s1.ha with binv := s1.ha.binv.filter (fun x => x.sid != b.sid) } }
  let s3 := if b.evb then s2
    else match dirAt s2 b.e.pa with
      | none => s2
      | some e => dirPut s2 ((b.ans.map (·.1)).foldl (delHolder s2) e)
  let s4 := { s3 with ha := { s3.ha with resv := s3.ha.resv.filter (fun r => r.pa != b.e.pa) } }
  if rel then s4 else pcu 0x21 0 1 (s4.inc Ad.SF_BACKINV_COUNT)

/-- A sweep concerns a line with these tenant and line numbers. -/
def sweepCovers (s : State) (k : SweepKind) (tenant line : Nat) : Bool :=
  match k with
  | .detach _ => true
  | .flip t _ => tenant == t && inImage s t line
  | .release t => tenant == t
  | .unbind t _ => tenant == t
  | .page key => tenant == keyTenant key && pageKey s tenant (line / 1024) == key

/-- The agents of the detach sweeps that run: several agents under detach at once share one sweep (R243). -/
def detachAgents (s : State) : List Nat :=
  s.ha.sweeps.flatMap (fun w => match w.kind, w.todo with | .detach l, some _ => l | _, _ => [])

/-- The holders of an entry that a sweep snoops. -/
def sweepTargets (s : State) (k : SweepKind) (e : DirE) : List Nat :=
  if !sweepCovers s k e.tenant e.line then []
  else
    match k with
    | .detach l => (holders s e).filter (fun a => l.contains a || (detachAgents s).contains a)
    | .unbind _ a => (holders s e).filter (· == a)
    | _ => holders s e

/-- The sweep concerns an entry at all. -/
def sweepHits (s : State) (k : SweepKind) (e : DirE) : Bool :=
  match k with
  | .detach l => (holders s e).any l.contains
  | .unbind _ _ => !(sweepTargets s k e).isEmpty
  | _ => sweepCovers s k e.tenant e.line

/-- The transactions a sweep waits for have drained. -/
def sweepDrained (s : State) (k : SweepKind) : Bool :=
  let inLine (t : Trk) : Bool := t.ph == .line || t.ph == .active || t.ph == .evb || t.ph == .resp
  match k with
  | .detach l => s.ha.wait.all (fun r => r.who.isSome || !l.contains r.m.src) &&
      s.ha.trks.all (fun t => t.r.who.isSome || !l.contains t.r.m.src)
  | .unbind tn a => s.ha.trks.all (fun t => !(inLine t && t.r.m.tenant == tn && t.r.m.src == a && t.r.who.isNone))
  | _ => s.ha.trks.all (fun t => !(inLine t && sweepCovers s k t.r.m.tenant t.r.m.line))

/-- A detach sweep. -/
def isDetach : SweepKind → Bool
  | .detach _ => true | _ => false

/-- The agents that a sweep is for. -/
def sweepAgentsOf : SweepKind → List Nat
  | .detach l => l | _ => []

/-- The sweep with this number is a detach sweep. -/
def detachNo (s : State) (no : Option Nat) : Bool := s.ha.sweeps.any (fun w => some w.no == no && isDetach w.kind)

/-- A line being back-invalidated for a sweep is one of this sweep's: its own, or for a detach one of any that shares the scan and
waits for an agent of its own. -/
def sweepOwns (s : State) (w : Sweep) (b : BInv) : Bool :=
  b.sweep == some w.no || (isDetach w.kind && detachNo s b.sweep
    && (b.ans.any (fun x => x.2.isNone && (sweepAgentsOf w.kind).contains x.1) || b.rest.any (sweepAgentsOf w.kind).contains))

/-- A sweep has swept: its drain over, every line done, and no eviction-buffer entry of its lines left. -/
def sweepDone (s : State) (w : Sweep) : Bool :=
  w.todo == some [] && s.ha.binv.all (fun b => !sweepOwns s w b && !(b.evb && sweepHits s w.kind b.e))

/-- The number of the next sweep. -/
def sweepNext (s : State) : Nat := (s.ha.sweeps.map (·.no + 1)).foldl max 0

/-- A sweep begins. -/
def sweepStart (s : State) (k : SweepKind) : State :=
  { s with ha := { s.ha with sweeps := s.ha.sweeps ++ [⟨sweepNext s, k, none⟩] } }

/-- A sweep ends. -/
def sweepEnd (s : State) (no : Nat) : State := { s with ha := { s.ha with sweeps := s.ha.sweeps.filter (fun w => w.no != no) } }

/-- Snoops of a sweep not yet answered; detach sweeps share their bound (R243). -/
def sweepOut (s : State) (w : Sweep) : Nat :=
  ((s.ha.binv.filter (fun b => b.sweep == some w.no || (isDetach w.kind && detachNo s b.sweep))).map
    (fun b => (b.ans.filter (fun x => x.2.isNone)).length)).sum

/-- A back-invalidation that a sweep has sent completes if every answer is there. -/
def binvTry (s : State) (sid : Nat) : State :=
  match s.ha.binv.find? (fun x => x.sid == sid) with
  | some b => if b.ready && !b.evb then binvFinish s b else s
  | none => s

/-- One line of a sweep taken up: not while it is active or being back-invalidated, and with at most 64 snoops out (R243). -/
def sweepLine (s : State) (w : Sweep) (pa : Nat) : State × Bool :=
  match s.ha.sf.find? (fun e => e.pa == pa) with
  | none => (s, true)
  | some e =>
    let tg := sweepTargets s w.kind e
    let room := 64 - sweepOut s w
    if lineActive s pa || s.ha.binv.any (fun b => b.e.pa == pa) then (s, false)
    else if tg.isEmpty then ((if sweepHits s w.kind e && !(match w.kind with | .detach _ => true | .unbind _ _ => true | _ => false)
      then dirDrop (lostMark s e) pa else s), true)
    else if room = 0 then (s, false)
    else
      let b : BInv := ⟨freeSid (s.ha.binv.map BInv.sid) 2432 640, e, false, [], false, some w.no, []⟩
      (binvTry (binvSend s b (tg.take room) (tg.drop room)) b.sid, true)

/-- The lines of a sweep taken up in order; the ones that must wait stay. -/
def sweepLines (w : Sweep) : List Nat → State → State × List Nat
  | [], s => (s, [])
  | pa :: t, s =>
    let (s1, ok) := sweepLine s w pa
    let (s2, l) := sweepLines w t s1
    (s2, if ok then l else pa :: l)

/-- More of a line's snoops go out as the bound allows. -/
def sweepMore (w : Sweep) (s : State) (b : BInv) : State :=
  let room := 64 - sweepOut s w
  if b.sweep ≠ some w.no ∨ b.rest.isEmpty ∨ room = 0 then s
  else binvTry (binvSend s b (b.rest.take room) (b.rest.drop room)) b.sid

/-- A line put in its place by its SF set, counted from the set at which a scan starts. -/
def scanPut (start pa : Nat) : List Nat → List Nat
  | [] => [pa]
  | x :: t => if (sfSet pa + 65536 - start) % 65536 < (sfSet x + 65536 - start) % 65536 then pa :: x :: t else x :: scanPut start pa t

/-- Where a scan starts: at the set that a running detach sweep has reached, or at set 0 (R243). -/
def scanStart (s : State) : Nat :=
  ((s.ha.sweeps.filterMap (fun w => match w.kind, w.todo with | .detach _, some (x :: _) => some (sfSet x) | _, _ => none)).head?).getD 0

/-- The lines that a sweep has to take up, set by set. -/
def scanLines (s : State) (k : SweepKind) : List Nat :=
  ((s.ha.sf.filter (sweepHits s k)).map DirE.pa).foldl (fun l pa => scanPut (if isDetach k then scanStart s else 0) pa l) []

/-- A sweep's progress. -/
def sweepStep (s : State) (w : Sweep) : State :=
  let put (s : State) (l : List Nat) : State :=
    { s with ha := { s.ha with sweeps := s.ha.sweeps.map (fun x => if x.no == w.no then { x with todo := some l } else x) } }
  let go (s : State) (l : List Nat) : State :=
    let s0 := s.ha.binv.foldl (sweepMore w) s
    let (s1, l1) := sweepLines w l s0
    put s1 l1
  match w.todo with
  | some l => go s l
  | none => if sweepDrained s w.kind then let l := scanLines s w.kind; go (put s l) l else s

/-- Victims whose lines are no longer active are back-invalidated (R234). -/
def binvStep (s : State) (b : BInv) : State :=
  if b.sent || lineActive s b.e.pa then s else binvSend s b (holders s b.e) []

/-- The home agent's own progress: held transfers, victims and sweeps. -/
def haProgress (s : State) : State :=
  let s0 := ag0Release s
  let s1 := s0.ha.binv.foldl binvStep s0
  s1.ha.sweeps.foldl sweepStep s1

/-! ### Answers (R219, R248, R249) -/

/-- An answer recorded for an outstanding snoop of an agent; a sweep's line completes with its last answer. -/
def takeAnswer (s : State) (a sid : Nat) (r : SnpAns) : State :=
  match s.ha.trks.find? (fun t => t.id == sid && t.snps.any (fun x => x.1 == a && x.2.2.isNone)) with
  | some t =>
    let s1 := if ansSt r = 0 then markUpgrades s a t.r.m.tenant t.r.m.line else s
    trySettle (trkPut s1 { t with snps := t.snps.map (fun x => if x.1 == a && x.2.2.isNone then (x.1, x.2.1, some r) else x) }) sid
  | none =>
    match s.ha.binv.find? (fun b => b.sid == sid && b.ans.any (fun x => x.1 == a && x.2.isNone)) with
    | none => s
    | some b =>
      let s1 := if ansSt r = 0 then markUpgrades s a b.e.tenant b.e.line else s
      let b1 := { b with ans := b.ans.map (fun x => if x.1 == a && x.2.isNone then (x.1, some r) else x) }
      let s2 := { s1 with ha := { s1.ha with binv := s1.ha.binv.map (fun x => if x.sid == sid then b1 else x) } }
      binvTry s2 sid

/-! ### Unresponsive agents (R244 to R247) -/

/-- Tenants bound to an agent, in ascending order. -/
def boundTenants (s : State) (a : Nat) : List Nat := (List.range 1024).filter (fun t => bindBit s t a)

/-- A TenantNotice (Table 6-9) to every attached agent bound to the tenant but one. -/
def tenantNotice (s : State) (tenant kind agent count first : Nat) : State :=
  (s.lnk.agents.filter (fun r => r.id != agent && bindBit s tenant r.id)).foldl
    (fun s r => sendTo s r.id (.notice ((toBytesLE 2 tenant ++ toBytesLE 1 kind ++ toBytesLE 1 agent ++ toBytesLE 4 count
      ++ toBytesLE 4 first).map BitVec.toNat))) s

/-- A control flit queued at a port. -/
def ctlPush (s : State) (port : Nat) (c : Ctl) : State :=
  { s with lnk := { s.lnk with ports := upd s.lnk.ports port (fun p => { p with ctl := p.ctl ++ [c] }) } }

/-- DETACH HUB_REQ for a mask of agent indices, repeated until answered (R190, R244); its NONCE is the hub's choice. -/
def hubReq (s : State) (port mask : Nat) : State :=
  let n := Config.freeNat s.free % 2 ^ 32
  let s1 := ctlPush s.fresh port (.hubReq n mask)
  { s1 with lnk := { s1.lnk with ports := upd s1.lnk.ports port (fun p => { p with hubReqs := p.hubReqs ++ [(n, mask)] }) } }

/-- A snoop outstanding to a lost agent counts as answered with Ack, STATE I; where it was the line's owner the line is poisoned
(R286). -/
def dropSnoops (a : Nat) (s : State) (t : Trk) : State :=
  if t.snps.any (fun x => x.1 == a && x.2.2.isNone) then
    let own := (dirAt s t.pa).any (fun e => e.owned && e.owner == a)
    let s1 := match dirAt s t.pa with
      | some e => if own then ownerLost s e else s
      | none => s
    let s2 := match t.rd with
      | .pend _ => if own && t.spec then haDiscard s1 t else s1
      | .have_ _ _ => if own && t.spec then haDiscard s1 t else s1
      | .none => s1
    let t1 := if own then { t with rd := .have_ 0 5, spec := false } else t
    takeAnswer (trkPut s2 t1) a t.id (.ack 0)
  else s

/-- The same for back-invalidations. -/
def dropBinv (a : Nat) (s : State) (b : BInv) : State :=
  if b.ans.any (fun x => x.1 == a && x.2.isNone) then
    takeAnswer (if b.e.owned && b.e.owner == a then ownerLost s b.e else s) a b.sid (.ack 0)
  else if b.sent && b.rest.contains a then
    let s1 := if b.e.owned && b.e.owner == a then ownerLost s b.e else s
    binvTry { s1 with ha := { s1.ha with binv := s1.ha.binv.map (fun x =>
      if x.sid == b.sid then { x with rest := x.rest.filter (· != a), ans := x.ans ++ [(a, some (.ack 0))] } else x) } } b.sid
  else s

/-- An agent is declared unresponsive (R244). -/
def declare (s : State) (a : Nat) (surprise : Bool) : State :=
  match findAgent s a with
  | none => s
  | some r =>
    if unresp s a then s
    else
      let s1 := s.setRegBit (Ad.HA_UNRESP (a / 32)) (a % 32)
      let s2 := s1.setReg Ad.HA_LAST_UNRESP (w32 (b2n surprise * 4096 + r.port % 16 * 256 + a))
      let mine (m : ReqMsg) (w : Option Ag0Who) : Bool := w.isNone && m.src == a
      let gone := s2.ha.wait.filter (fun q => mine q.m q.who)
      let owed := s2.ha.trks.filter (fun t => mine t.r.m t.r.who && t.r.owed)
      let s3 := owed.foldl freeOwed (gone.foldl (fun s q => freeReq s q.port q.m q.dat) s2)
      let s4 := { s3 with
        ha := { s3.ha with
          resv := s3.ha.resv.filter (fun x => x.agent != a)
          wait := s3.ha.wait.filter (fun q => !mine q.m q.who)
          trks := s3.ha.trks.filter (fun (t : Trk) => !mine t.r.m t.r.who || t.ph == TrkPh.active || t.ph == TrkPh.evb)
          poison := s3.ha.poison ++ [(a, [])] }
        lnk := { s3.lnk with tx := s3.lnk.tx.filter (fun m => m.agent != a) } }
      let s5 := s4.ha.trks.foldl (dropSnoops a) s4
      let s6 := s5.ha.binv.foldl (dropBinv a) s5
      let s7 := raise (sqEvt s6 Ad.HA_EVT 1) 10 (r.port % 16 * 256 + a)
      let s8 := (boundTenants s7 a).foldl (fun s t => tenantNotice s t 1 a 0 0) s7
      if surprise then s8 else hubReq s8 r.port (2 ^ r.index)

/-- The entries for which a lost agent is recorded as owner, those of the eviction buffer not yet snooped among them (R233). -/
def ownedBy (s : State) (a : Nat) : List DirE :=
  (s.ha.sf ++ ((evbEntries s).filter (fun b => !b.sent)).map BInv.e).filter (fun e => e.owned && e.owner == a)

/-- The poison sweep of a lost agent ends (R245, R246): its lines marked, its bits cleared, KIND 2 notices sent. It cannot end
while a transaction on one of its lines is active. -/
def poisonSweepDone (s : State) (a : Nat) : State :=
  if !(s.ha.poison.any (fun p => p.1 == a)) ∨ (ownedBy s a).any (fun e => lineActive s e.pa) then s
  else
    let done := ((s.ha.poison.find? (fun p => p.1 == a)).map (·.2)).getD []
    let s1 := (ownedBy s a).foldl (fun s e => if done.contains (e.tenant, e.line) then s else ownerLost s e) s
    let all := s1.ha.sf ++ ((evbEntries s1).filter (fun b => !b.sent)).map BInv.e
    let s2 := all.foldl (fun s e => if recorded s1 e a then dirPut s (delHolder s1 e a) else s) s1
    let l := ((s2.ha.poison.find? (fun p => p.1 == a)).map (·.2)).getD []
    let s3 := { s2 with ha := { s2.ha with poison := s2.ha.poison.filter (fun p => p.1 != a) } }
    let ts := (l.map (·.1)).eraseDups
    let s4 := ts.foldl (fun s t =>
      let q := (l.filter (fun x => x.1 == t)).map (·.2)
      tenantNotice s t 2 a (satU 32 q.length) (q.foldl min (2 ^ 32 - 1))) s3
    sqEvt s4 Ad.HA_EVT 16

/-- A snoop response from an agent (R219, R248, R249). -/
def snoopResponse (s : State) (a sid : Nat) (r : SnpAns) : State :=
  let chk (k : SnpKind) (ow : Bool) : State :=
    if ansOk k ow r then
      takeAnswer (match r with | .data _ _ => pcu 0x14 a 1 s | .poison _ _ => pcu 0x14 a 1 s | .ack _ => s) a sid r
    else declare s a false
  match s.ha.trks.find? (fun t => t.id == sid && t.snps.any (fun x => x.1 == a && x.2.2.isNone)) with
  | some t =>
    let k := ((t.snps.find? (fun x => x.1 == a)).map (·.2.1)).getD .invalidate
    chk k ((dirAt s t.pa).any (fun e => e.st == .ow && e.owner == a))
  | none =>
    match s.ha.binv.find? (fun b => b.sid == sid && b.ans.any (fun x => x.1 == a && x.2.isNone)) with
    | some b => chk .invalidate (b.e.st == .ow && b.e.owner == a)
    | none =>
      haProto s (((findAgent s a).map AgentRec.port).getD 0) a (match r with | .ack _ => 0x22 | .data _ _ => 0x20 | .poison _ _ => 0x21) 1

end Sys2Proof.Machine
end

