-- ==== Sys2Proof/Machine/Tmm.lean ====
section
/-!
DEFINITION. Machine/Tmm.lean: the tenant memory manager's pages (chapter 8): pools, quotas and frames (R308 to R311), page jobs
(R305, R313 to R316), translation and page access (R303 to R307, R323, R338), and image fetches (R319 to R322).
-/
namespace Sys2Proof.Machine

/-- Events of the TMM. -/
def tmmEvt (s : State) (bits : Nat) : State := sqEvt s Ad.TMM_EVT bits

/-- A TMM counter one higher (Table 8-16): 0 WALK, 1 FETCH, 2 VERIFY_FAIL, 3 FOLD, 4 UNFOLD, 5 BLANK, 6 DROP, 7 FOLD_REJECT. -/
def tmmCount (s : State) (i : Nat) : State := s.inc (Ad.TMM_COUNT i)

/-! ### Pools (R308 to R310) -/

/-- A pool of the active table, or of the default. -/
structure Pool where
  valid : Bool
  fold : Bool
  nBase : Nat
  nFrames : Nat
  fBase : Nat
  fChunks : Nat
  low : Nat
  high : Nat
deriving DecidableEq, Repr

/-- A pool entry of a pool table body (Table 8-5). Bits of N_BASE and F_BASE above PA[36] are not judged, and have no effect. (DESIGN
CHOICE, log 59.) -/
def poolOf (b : List Byte) (p : Nat) : Pool :=
  let e := b.drop (0x20 + 32 * p)
  ⟨(tb32 e 0).testBit 0, (tb32 e 0).testBit 1, tb32 e 4 % 2 ^ 21, tb32 e 8, tb32 e 12 % 2 ^ 25, tb32 e 16, tb32 e 20, tb32 e 24⟩

/-- Installed DRAM in 64 KiB frames (R342). -/
def installed (s : State) : Nat := s.tmm.nch * s.fld (Ad.DRC_CAP 0) 15 0 * 16

/-- The page-table region in force: first frame and size in frames (R301, R308). -/
def ptRegion (s : State) : Nat × Nat :=
  match tblBody s 9 with
  | some b => (tb32 b 0 % 2 ^ 21, tb32 b 4)
  | none => (0, 1024)

/-- A pool in force; the fields of one whose VALID is 0 are ignored (R308). -/
def pool (s : State) (p : Nat) : Pool :=
  match tblBody s 9 with
  | some b => let P := poolOf b p; if P.valid then P else ⟨false, false, 0, 0, 0, 0, 0, 0⟩
  | none => if p = 0 then ⟨true, false, 1024, installed s - 1024, 0, 0, 0, 0⟩ else ⟨false, false, 0, 0, 0, 0, 0, 0⟩

/-- The entry holds a frame. -/
def PageE.framed (e : PageE) : Bool := e.st == .resident || e.st == .pinned

/-- Frames a page takes. -/
def PageE.nf (e : PageE) : Nat := if e.large then 32 else 1

/-- The pool of a tenant's descriptor. -/
def tenantPool (s : State) (t : Nat) : Nat := s.fld (Ad.DSC_CTRL t) 19 16

/-- Frames in use: (pool, first frame, number), of pages and of jobs. -/
def framesUsed (s : State) : List (Nat × Nat × Nat) :=
  (s.tmm.pages.filter (fun e => e.2.framed)).map (fun e => (e.2.pool, e.2.frame, e.2.nf))
    ++ s.tmm.jobs.filterMap (fun j => j.frame.map (fun f => (tenantPool s (keyTenant j.key), f, (pg s j.key).nf)))

/-- Free frames of a pool (TMM_POOL_FREE). -/
def poolFree (s : State) (p : Nat) : Nat :=
  (pool s p).nFrames - (((framesUsed s).filter (fun u => u.1 == p)).map (fun u => u.2.2)).sum

/-- Chunks in use: (pool, first, number). -/
def chunksUsed (s : State) : List (Nat × Nat × Nat) :=
  (s.tmm.pages.filter (fun e => e.2.st == .folded)).map (fun e => (e.2.pool, e.2.chunk, e.2.folds))

/-- Free chunks of a pool (TMM_POOL_CFREE). -/
def poolCfree (s : State) (p : Nat) : Nat :=
  (if (pool s p).fold then (pool s p).fChunks else 0) - (((chunksUsed s).filter (fun u => u.1 == p)).map (fun u => u.2.2)).sum

/-- DSC_RES: frames of a tenant's RESIDENT and PINNED pages (R309). -/
def tenantRes (s : State) (t : Nat) : Nat :=
  ((s.tmm.pages.filter (fun e => keyTenant e.1 == t && e.2.framed)).map (fun e => e.2.nf)).sum

/-- DSC_FOLDED: chunks of a tenant's FOLDED pages. -/
def tenantChunks (s : State) (t : Nat) : Nat :=
  ((s.tmm.pages.filter (fun e => keyTenant e.1 == t && e.2.st == .folded)).map (fun e => e.2.folds)).sum

/-- Two ranges (start, length) share a number. -/
def overlaps (a n b m : Nat) : Bool := decide (a < b + m) && decide (b < a + n) && decide (0 < n) && decide (0 < m)

/-- A free aligned run of `k` numbers in [base, base + n), searched from a starting block onwards and round. -/
def findRun (used : List (Nat × Nat)) (base n k : Nat) : Nat → Nat → Option Nat
  | _, 0 => none
  | i, fuel + 1 =>
    let lo := (base + k - 1) / k * k
    let blocks := (base + n - lo) / k
    if blocks = 0 then none
    else
      let a := lo + (i % blocks) * k
      if used.any (fun u => overlaps a k u.1 u.2) then findRun used base n k (i + 1) fuel else some a

/-- A free frame of a pool, or 32 aligned ones for a large page; which one is a free choice. -/
def findFrame (s : State) (p k : Nat) : Option Nat :=
  let u := ((framesUsed s).filter (fun u => u.1 == p)).map (·.2)
  findRun u (pool s p).nBase (pool s p).nFrames k (Config.freeNat s.free)
    (min ((pool s p).nFrames) (((u.map (·.2)).sum + 1) * 2))

/-- Consecutive free chunks of a pool. -/
def findChunks (s : State) (p k : Nat) : Option Nat :=
  let u := ((chunksUsed s).filter (fun u => u.1 == p)).map (·.2)
  let P := pool s p
  if !P.fold then none
  else ((List.range (P.fChunks + 1 - k)).map (P.fBase + ·)).find? (fun a => u.all (fun x => !overlaps a k x.1 x.2))

/-! ### The page-table region (R301) -/

/-- Bytes of page tables and kept trees in use: 2 KiB per L0, 4 KiB per L1, 256 B per L2 table, and the verified levels. -/
def ptUsed (s : State) : Nat :=
  let ks := (s.tmm.pages.filter (fun e => e.2.st != .unbacked)).map (fun e => (keyTenant e.1, keyPage e.1, e.1 % 2, e.2.large))
  let l1 := (ks.map (fun k => (k.1, k.2.1 / 16384, k.2.2.1))).eraseDups
  let l2 := ((ks.filter (fun k => !k.2.2.2)).map (fun k => (k.1, k.2.1 / 32, k.2.2.1))).eraseDups
  let live := ((List.range 1024).filter (fun t => s.fld (Ad.DSC_CTRL t) 2 0 != 0)).length
  let slots := (s.tmm.slots.map (fun x => x.npages / 32 * 256 + 512 + x.npages / 16384 * 4096 + 4096
    + (x.levels.map (fun l => 32 * l.2.length)).sum)).sum
  2048 * live + 4096 * l1.length + 256 * l2.length + slots + (if s.tmm.nch = 0 then 0 else 2 * 4096 + 1024 * 256)

/-- The page-table region has room for what is in use and `more` bytes. -/
def ptFits (s : State) (more : Nat) : Bool := decide (ptUsed s + more ≤ (ptRegion s).2 * 65536)

/-! ### The translation cache (R303, R304) -/

/-- A page's translation cache entry invalidated; that of a PINNED page stays (R303). -/
def tcDrop (s : State) (key : Nat) : State :=
  { s with tmm := { s.tmm with tc := s.tmm.tc.filter (fun e => e.1 != key || e.2) } }

/-- A page's entry dropped whatever it holds. -/
def tcKill (s : State) (key : Nat) : State := { s with tmm := { s.tmm with tc := s.tmm.tc.filter (fun e => e.1 != key) } }

/-- A page's entry loaded: at most 2,048 of PINNED pages (R303); a full cache replaces some entry that is not pinned (a free
choice). -/
def tcPut (s : State) (key : Nat) (pinned : Bool) : State :=
  let l := s.tmm.tc.filter (fun e => e.1 != key)
  if pinned && decide (2048 ≤ (l.filter (·.2)).length) then s
  else
  let v := l.filter (fun e => !e.2)
  let l1 := if l.length < 16384 then l
    else match v.drop (Config.freeNat s.free % max 1 v.length) with
      | [] => l
      | x :: _ => l.filter (· != x)
  { s.fresh with tmm := { s.tmm with tc := l1 ++ [(key, pinned)] } }

/-- A page's entry changed, with its translation cache entry invalidated in the same step (R304). -/
def changePg (s : State) (key : Nat) (f : PageE → PageE) : State := tcKill (setPg s key f) key

/-! ### Folding: eligibility (R313) and the sweep of a fold job -/

/-- The page's job, if it is in transition. -/
def jobOf (s : State) (key : Nat) : Option PJob := s.tmm.jobs.find? (fun j => j.key == key)

/-- A job dropped. -/
def jobDrop (s : State) (key : Nat) : State := { s with tmm := { s.tmm with jobs := s.tmm.jobs.filter (fun j => j.key != key) } }

/-- The page's entry, or a table above it, cannot be read (R338). -/
def unread (s : State) (key : Nat) : Bool :=
  s.tmm.bad.any (fun b => b.t == keyTenant key && b.slot.all (· == key % 2) && decide (b.first ≤ keyPage key ∧ keyPage key < b.first + b.n))

/-- The image page index of a key. -/
def imgIdx (s : State) (key : Nat) : Nat := keyPage key - s.fld (Ad.DSC_IMG_BASE (keyTenant key)) 16 0 * 32

/-- The page is an image page of a slot and has not been written: it is dropped, not folded (R314). -/
def droppable (s : State) (key : Nat) (e : PageE) : Bool :=
  inImage s (keyTenant key) (keyPage key * 1024) && !e.wr && e.st == .resident
    && decide (imgIdx s key < s.fld (Ad.SLOT_NPAGES (keyTenant key) (key % 2)) 16 0)

/-- FOLD_EN of a tenant. -/
def foldEn (s : State) (t : Nat) : Bool := bit (s.reg (Ad.DSC_CTRL t)) 11

/-- A command is acting on the page: UNMAP or PIN of its range, RELEASE of its tenant, FLIP of its image range. -/
def cmdOn (s : State) (key : Nat) : Bool :=
  match s.tmm.cmd with
  | none => false
  | some c => c.t == keyTenant key &&
      (((c.op == 4 || c.op == 5) && decide (c.a0 ≤ keyPage key ∧ keyPage key < c.a0 + c.a1)) || c.op == 2
        || (c.op == 10 && inImage s c.t (keyPage key * 1024)))

/-- The page may be folded or dropped (R313): nor does an access wait for it, for which an earlier fold was aborted (R315). -/
def foldable (s : State) (key : Nat) (e : PageE) : Bool :=
  e.st == .resident && !e.large && foldEn s (keyTenant key) && (jobOf s key).isNone && !cmdOn s key && !unread s key
    && !s.ha.trks.any (fun t => t.ph == .page && t.key == key) && !s.ha.sweeps.any (fun w => w.kind == .page key)
    && ((pool s e.pool).fold || droppable s key e)

/-- Fold and drop jobs running. -/
def foldJobs (s : State) : Nat := (s.tmm.jobs.filter (fun j => j.kind == .fold || j.kind == .drop)).length

/-- A fold job starts with its page sweep (R314). -/
def foldStart (s : State) (key : Nat) : State :=
  let k := if droppable s key (pg s key) then PJobKind.drop else PJobKind.fold
  sweepStart { s with tmm := { s.tmm with jobs := s.tmm.jobs ++ [⟨key, k, none, false, false⟩] } } (.page key)

/-- The coldest foldable page among those a test selects; of equally cold ones, some (a free choice). -/
def coldest (s : State) (sel : Nat → PageE → Bool) : Option Nat :=
  let l := s.tmm.pages.filter (fun e => sel e.1 e.2 && foldable s e.1 e.2)
  let m := (l.map (fun e => e.2.cold)).foldl max 0
  let c := (l.filter (fun e => e.2.cold == m)).map (·.1)
  (c.drop (Config.freeNat s.free % max 1 c.length)).head?

/-! ### Frames for jobs (R309, R310) -/

/-- What an allocation gives: a frame, a wait while room is made, or none (with the event bit). -/
inductive AllocRes
  | got (f : Nat)
  | wait
  | none (bits : Nat)
deriving DecidableEq, Repr

/-- Room made by folding a page that a test selects, when no fold for it runs yet. -/
def makeRoom (s : State) (sel : Nat → PageE → Bool) (bits : Nat) : State × AllocRes :=
  if s.tmm.jobs.any (fun j => (j.kind == .fold || j.kind == .drop) && sel j.key (pg s j.key)) then (s, .wait)
  else
    match coldest s sel with
    | some k => if foldJobs s < 16 then (foldStart s.fresh k, .wait) else (s, .wait)
    | none => (s, .none bits)

/-- A frame for a tenant's page (R309, R310). -/
def allocFrame (s : State) (t k : Nat) : State × AllocRes :=
  let p := tenantPool s t
  if s.fld (Ad.DSC_QUOTA t) 21 0 ≤ tenantRes s t then
    if foldEn s t then makeRoom s (fun key _ => keyTenant key == t) 128 else (s, .none 128)
  else
    match findFrame s p k with
    | some f => (s.fresh, .got f)
    | none => makeRoom s (fun _ e => e.pool == p) 512

/-! ### Answers at translation -/

/-- A waiting request is answered Retry. -/
def tmmRetry (s : State) (t : Trk) (code : Nat) : State := haRespond s t .retry 0 code 0

/-- A request to a page that cannot be read: a read gets DataPoison, a write is acknowledged and discarded (R323, R338). -/
def tmmPoison (s : State) (t : Trk) (code : Nat) : State :=
  if isRead t.r.m.kind ∨ t.r.m.kind = .upgrade then haRespond s t .dataPoison 0 code 0 else haRespond s t .ack 0 0 0

/-- Requests waiting for a page, in the order in which they reached the TMM (R307). -/
def pageWaiters (s : State) (key : Nat) : List Trk := s.ha.trks.filter (fun t => t.ph == .page && t.key == key)

/-- Every request waiting for a page is answered Retry. -/
def retryWaiters (s : State) (key code : Nat) : State := (pageWaiters s key).foldl (fun s t => tmmRetry s t code) s

/-- A later FAB cycle in which requests join line queues. -/
def joinTick (s : State) : State := { s with ha := { s.ha with joins := s.ha.joins + 1 } }

/-- A request joins its line's queue (R211). -/
def joinLine (s : State) (t : Trk) (key pa : Nat) : State :=
  let s1 := if lineActive s pa then pcu 0x17 t.r.m.tenant 1 s else s
  trkPut s1 { t with ph := .line, key := key, pa := pa, join := s1.ha.joins }

/-- A request waits for its page. -/
def waitPage (s : State) (t : Trk) (key : Nat) : State := trkPut s { t with ph := .page, key := key }

/-- The physical line of a tenant line in a resident page. -/
def paOf (e : PageE) (line : Nat) : Nat := e.frame * 1024 + (if e.large then line % 32768 else line % 1024)

/-- A job queued for a page. -/
def jobAdd (s : State) (key : Nat) (k : PJobKind) (demand : Bool) : State :=
  { s with tmm := { s.tmm with jobs := s.tmm.jobs ++ [⟨key, k, none, demand, false⟩], ahead := s.tmm.ahead.filter (· != key) } }

/-- The job that brings a page to RESIDENT. -/
def bringJob : PgSt → Option PJobKind
  | .blank => some .fill
  | .folded => some .unfold
  | .imagePending => some .fetch
  | _ => none

/-- An access reaches a page under fold: the fold is aborted (R315). -/
def foldAbort (s : State) (key : Nat) : State :=
  match jobOf s key with
  | some j => if j.kind = .fold ∨ j.kind = .drop then jobDrop s key else s
  | none => s

/-- A sweep of the page is in progress. -/
def pageSwept (s : State) (key : Nat) : Bool := s.ha.sweeps.any (fun w => w.kind == .page key)

/-- A translated request meets its page (R306, R307, R315, R323, R268). -/
def pageAccess (s : State) (t : Trk) : State :=
  let m := t.r.m
  let key := pageKey s m.tenant (m.line / 1024)
  let e := pg s key
  if s.fld (Ad.DSC_CTRL m.tenant) 2 0 = 2 then tmmRetry s t 4
  else if s.tmm.stall = some m.tenant ∧ inImage s m.tenant m.line then
    if m.kind = .writeConditional then wcFail s t else waitPage s t key
  else if m.kind = .writeConditional ∧ (unread s key ∨ !(e.framed || e.st == .unbacked)) then wcFail s t
  else if unread s key then tmmPoison s t 2
  else
    match e.st with
    | .unbacked => tmmRetry (tmmEvt s 1024) t 3
    | .resident =>
      let s1 := foldAbort s key
      if pageSwept s1 key then waitPage s1 t key else joinLine s1 t key (paOf e m.line)
    | .pinned => if pageSwept s key then waitPage s t key else joinLine s t key (paOf e m.line)
    | st =>
      if e.ppend then
        let s1 := if e.seen then s else raise (tmmEvt (setPg s key (fun e => { e with seen := true })) 32) 15 m.tenant
        tmmPoison (if isRead m.kind ∨ m.kind = .upgrade then poisonMade s1 3 m.tenant m.line m.src else s1) t 3
      else
        match jobOf s key with
        | some j =>
          waitPage { s with tmm := { s.tmm with jobs := s.tmm.jobs.map (fun x => if x.key == j.key then { x with demand := true } else x),
                                                fetches := s.tmm.fetches.map (fun f =>
                                                  if f.what == .page key then { f with demand := true } else f) } } t key
        | none =>
          match bringJob st with
          | some k => waitPage (jobAdd s key k true) t key
          | none => waitPage s t key

/-- Requests waiting for a page go on, in order (R307). -/
def wakePage (s : State) (key : Nat) : State := (pageWaiters s key).foldl (fun s t => pageAccess (joinTick s) t) s

/-- Translation (R303): a hit goes on to the page, a miss waits for a walk; requests for one page share one walk. -/
def translate (s : State) (t : Trk) : State :=
  let m := t.r.m
  let key := pageKey s m.tenant (m.line / 1024)
  if s.tmm.tc.any (fun e => e.1 == key) then pageAccess (pcu 0x28 m.tenant 1 s) t
  else
    let s1 := trkPut (pcu 0x29 m.tenant 1 s) { t with ph := .walk, key := key }
    if s1.tmm.walks.contains key ∨ 64 ≤ s1.tmm.walks.length then s1
    else tmmCount { s1 with tmm := { s1.tmm with walks := s1.tmm.walks ++ [key] } } 0

/-- Walks started for requests that waited at the bound of 64, whose credits are then freed (R303). -/
def startWalks (s : State) : State :=
  s.ha.trks.foldl (fun s t =>
    if t.ph ≠ .walk then s
    else if s.tmm.walks.contains t.key then freeOwed s t
    else if 64 ≤ s.tmm.walks.length then s
    else tmmCount { freeOwed s t with tmm := { s.tmm with walks := s.tmm.walks ++ [t.key] } } 0) s

/-- The entry whose read found an uncorrectable error, by its level: 1 the leaf, 2 the entry of the L1 table, 3 that of the L0 table
(R301, R338). (DESIGN CHOICE, log 63.) -/
def badPt (s : State) (key ue : Nat) : BadPt :=
  let t := keyTenant key
  let p := keyPage key
  if ue = 3 then ⟨t, none, p / 16384 * 16384, 16384⟩
  else if ue = 2 ∨ inLarge s t p then ⟨t, some (key % 2), p / 32 * 32, 32⟩
  else ⟨t, some (key % 2), p, 1⟩

/-- A walk ends (R303). One that meets an uncorrectable error, or an entry that has met one, is reported (R338). -/
def walkDone (s : State) (key ue : Nat) : State :=
  if !s.tmm.walks.contains key then s
  else
    let s1 := joinTick { s with tmm := { s.tmm with walks := s.tmm.walks.filter (· != key) } }
    let s2 := if ue = 0 ∨ unread s1 key then s1 else { s1 with tmm := { s1.tmm with bad := s1.tmm.bad ++ [badPt s1 key ue] } }
    let e := pg s2 key
    let s3 := if unread s2 key then raise (tmmEvt s2 4096) 13 (keyTenant key)
      else if e.st = .unbacked then s2 else tcPut (setPg s2 key (fun e => { e with acc := true })) key (e.st == .pinned)
    startWalks ((s3.ha.trks.filter (fun t => t.ph == .walk && t.key == key)).foldl pageAccess s3)

/-! ### Image fetches (R317 to R322) -/

/-- Read IDs in use. -/
def ridsUsed (s : State) : List Nat := s.tmm.fetches.filterMap Fetch.rid

/-- The agent can be read from (R320). -/
def srcThere (s : State) (a : Nat) : Bool := (findAgent s a).isSome && !unresp s a

/-- A queued fetch takes a read ID, not that of a failed read which it repeats, and its SrcRead goes out (Table 8-7). -/
def fetchSend (s : State) (f : Fetch) : State :=
  match ((List.range 32).map (0xC00 + ·)).find? (fun r => !(ridsUsed s).contains r && f.old != some r) with
  | none => s
  | some r =>
    let s1 := { s with tmm := { s.tmm with fetches := s.tmm.fetches.map (fun g =>
      if g.what == f.what then { g with rid := some r, got := [], poisoned := false, ack := none } else g) } }
    sendTo s1 f.agent (.srcRead ((toBytesLE 2 r ++ toBytesLE 2 f.len ++ toBytesLE 4 f.object ++ toBytesLE 4 f.off).map BitVec.toNat))

/-- A demand fetch takes a free job (R322). -/
def fetchStep (s : State) (f : Fetch) : State :=
  if f.rid.isNone && f.demand && (ridsUsed s).length < 32 && srcThere s f.agent then fetchSend s f else s

/-- A run-ahead or PREFETCH fetch that has had to wait takes a free job, behind the demand fetches (R322); not while the TMM is
contained (Table 19-3). -/
def fetchLater (s : State) (f : Fetch) : State :=
  if f.rid.isNone && !f.demand && (ridsUsed s).length < 32 && srcThere s f.agent && !contained s 24
      && !s.tmm.fetches.any (fun g => g.rid.isNone && g.demand) then fetchSend s f else s

/-- A fetch has arrived whole. -/
def Fetch.whole (f : Fetch) : Bool := f.ack == some 0 && !f.poisoned && f.got.length == f.len

/-- A fetch has failed (R320). -/
def fetchFailed (s : State) (f : Fetch) : Bool := !srcThere s f.agent || (f.ack.isSome && !f.whole)

/-- A fetch removed. -/
def fetchDrop (s : State) (w : FWhat) : State :=
  { s with tmm := { s.tmm with fetches := s.tmm.fetches.filter (fun f => f.what != w) } }

/-- The bytes of a whole fetch, in line order. -/
def fetchBytes (f : Fetch) : List Byte :=
  (List.range f.len).flatMap (fun i => toBytesLE 64 (((f.got.find? (fun (x : Nat × Line) => x.1 == i)).map Prod.snd).getD 0).toNat)

/-- Hashes of 32 bytes. -/
def chop32 : Nat → List Byte → List (List Byte)
  | 0, _ => []
  | n + 1, l => l.take 32 :: chop32 n (l.drop 32)

/-- Nodes of tree level k over n pages (R317). -/
def treeNodes (n : Nat) : Nat → Nat
  | 0 => n
  | k + 1 => cdiv (treeNodes n k) 64

/-- The top level: the first whose count is 1. -/
def treeTop (n : Nat) : Nat := if n ≤ 1 then 0 else if n ≤ 64 then 1 else if n ≤ 4096 then 2 else 3

/-- Lines from TREE_OFF to a stored level. -/
def treeStart (n : Nat) : Nat → Nat
  | 0 => 0
  | k + 1 => treeStart n k + cdiv (treeNodes n k * 32) 64

/-- What is kept of a slot's image. -/
def slotX (s : State) (t slot : Nat) : Option SlotX := s.tmm.slots.find? (fun x => x.t == t && x.slot == slot)

/-- The verified leaf hash of a page of an image, when its group is held. -/
def leafHash (x : SlotX) (i : Nat) : Option (List Byte) :=
  if x.npages = 1 then some x.top
  else ((x.groups.find? (fun g => g.1 == i / 64)).map (·.2)).bind (fun l => l[i % 64]?)

/-- The verified hash of a leaf group: node g of level 1, or TOP. -/
def groupHash (x : SlotX) (g : Nat) : List Byte :=
  if x.npages ≤ 64 then x.top
  else (((x.levels.find? (fun l => l.1 == 1)).map (·.2)).bind (fun l => l[g]?)).getD []

/-- A new fetch, not yet sent. -/
def fetchNew (s : State) (t slot : Nat) (w : FWhat) (demand : Bool) (off len : Nat) : State :=
  if s.tmm.fetches.any (fun f => f.what == w) then s
  else { s with tmm := { s.tmm with fetches := s.tmm.fetches ++
    [⟨none, w, demand, s.fld (Ad.SLOT_CTRL t slot) 15 8, (s.reg (Ad.SLOT_OBJECT t slot)).toNat, off, len, [], false, none, 0, none⟩] } }

/-- The reads of a page fetch whose frame is taken: its leaf group, unless held, and its 1,024 lines (R321). -/
def fetchPage (s : State) (key : Nat) (demand : Bool) : State :=
  let t := keyTenant key
  let slot := key % 2
  match slotX s t slot with
  | none => s
  | some x =>
    let i := imgIdx s key
    let s1 := if (leafHash x i).isSome then s
      else
        let g := i / 64
        fetchNew s t slot (.group t slot g) demand (x.treeOff + g * 32) (cdiv (min 64 (x.npages - g * 64) * 32) 64)
    fetchNew s1 t slot (.page key) demand (x.dataOff + 1024 * i) 1024

/-- A job that waits for its frame is tried again (R309, R310); a fetch goes on to its reads. -/
def jobStep (s : State) (j : PJob) : State :=
  if j.frame.isSome ∨ j.kind = .fold ∨ j.kind = .drop then s
  else
    match allocFrame s (keyTenant j.key) (pg s j.key).nf with
    | (s1, .got f) =>
      let s2 := { s1 with tmm := { s1.tmm with jobs := s1.tmm.jobs.map (fun x => if x.key == j.key then { x with frame := some f } else x) } }
      if j.kind = .fetch then fetchPage s2 j.key j.demand else s2
    | (s1, .wait) => s1
    | (s1, .none bits) => tmmEvt (retryWaiters (jobDrop s1 j.key) j.key 3) bits

/-- A page fetch that is used up or abandoned: its frame is freed, its waiters answered (R320). -/
def pageFetchFail (s : State) (key : Nat) : State :=
  let g : FWhat := .group (keyTenant key) (key % 2) (imgIdx s key / 64)
  let s1 := jobDrop (fetchDrop s (.page key)) key
  let more := s1.tmm.jobs.any (fun j => j.kind == .fetch && keyTenant j.key == keyTenant key && j.key % 2 == key % 2
    && imgIdx s1 j.key / 64 == imgIdx s key / 64)
  retryWaiters (if more then s1 else fetchDrop s1 g) key 3

/-- A failed LOAD_SLOT (R318): FAIL, FAILED, SLOT_FAILED; the command ends OK. -/
def slotFail (s : State) (t slot code : Nat) : State :=
  let s1 := { s with tmm := { s.tmm with
    fetches := s.tmm.fetches.filter (fun f => match f.what with
      | .manifest a b => !(a == t && b == slot) | .level a b _ => !(a == t && b == slot) | _ => true)
    slots := s.tmm.slots.filter (fun x => !(x.t == t && x.slot == slot)) } }
  let s2 := (s1.setFld (Ad.SLOT_CTRL t slot) 23 16 code).setFld (Ad.SLOT_CTRL t slot) 1 0 3
  tmmEvt s2 16

/-- TMM_CMD ends with a RESULT (R299). -/
def tmmEnd (s : State) (r : Nat) : State :=
  tmmEvt (({ s with tmm := { s.tmm with cmd := none } }).setFld Ad.TMM_CMD_STATUS 23 16 r) 1

/-- A fetch whose repeats are used up (R320). -/
def fetchGiveUp (s : State) (f : Fetch) : State :=
  let s1 := tmmEvt s 64
  match f.what with
  | .manifest t slot => tmmEnd (slotFail s1 t slot 1) 0
  | .level t slot _ => tmmEnd (slotFail s1 t slot 1) 0
  | .page key => pageFetchFail s1 key
  | .group t slot g =>
    let s2 := fetchDrop s1 f.what
    (s2.tmm.jobs.filter (fun j => j.kind == .fetch && keyTenant j.key == t && j.key % 2 == slot && imgIdx s2 j.key / 64 == g)).foldl
      (fun s j => pageFetchFail s j.key) s2

/-- A failed fetch is repeated with a new RID, or given up (R320). -/
def fetchRetry (s : State) (f : Fetch) : State :=
  if s.tmm.fetches.contains f && fetchFailed s f then
    if f.tries < s.fld Ad.TMM_SRC_CFG 17 16 ∧ srcThere s f.agent then
      { s with tmm := { s.tmm with fetches := s.tmm.fetches.map (fun g =>
        if g.what == f.what then { g with rid := none, old := g.rid, demand := true, tries := g.tries + 1, got := [], poisoned := false, ack := none } else g) } }
    else fetchGiveUp s f
  else s

/-- A whole leaf group is verified against its node (R317): it is held verified, or the pages being fetched under it fail (R323). -/
def groupStep (s : State) (f : Fetch) : State :=
  match f.what with
  | .group t slot g =>
    if !f.whole then s
    else
      match slotX s t slot with
      | none => fetchDrop s f.what
      | some x =>
        let n := min 64 (x.npages - g * 64)
        let b := (fetchBytes f).take (32 * n)
        if sha256 b = groupHash x g then
          fetchDrop { s with tmm := { s.tmm with slots := s.tmm.slots.map (fun y =>
            if y == x then { y with groups := y.groups ++ [(g, chop32 n b)] } else y) } } f.what
        else
          fetchDrop { s with tmm := { s.tmm with jobs := s.tmm.jobs.map (fun j =>
            if j.kind == .fetch && keyTenant j.key == t && j.key % 2 == slot && imgIdx s j.key / 64 == g then { j with leafBad := true } else j) } }
            f.what
  | _ => s

/-- A Data message for a read (R319): the first for its index is kept. -/
def srcData (s : State) (a rid idx : Nat) (line : Option Line) : State :=
  { s with tmm := { s.tmm with fetches := s.tmm.fetches.map (fun f =>
      if f.rid == some rid && f.agent == a then
        match line with
        | none => { f with poisoned := true }
        | some l => if idx < f.len ∧ !f.got.any (fun x => x.1 == idx) then { f with got := f.got ++ [(idx, l)] } else f
      else f) } }

/-- The Ack of a read (R319). -/
def srcAck (s : State) (a rid code : Nat) : State :=
  { s with tmm := { s.tmm with fetches := s.tmm.fetches.map (fun f =>
      if f.rid == some rid && f.agent == a && f.ack.isNone then { f with ack := some code } else f) } }

/-- TMO has passed without the Ack (R320). -/
def srcTimeout (s : State) (rid : Nat) : State :=
  { s with tmm := { s.tmm with fetches := s.tmm.fetches.map (fun f =>
      if f.rid == some rid && f.ack.isNone then { f with ack := some 255 } else f) } }

/-- The next run-ahead or PREFETCH page starts as a fetch job comes free (R322); not while the TMM is contained (Table 19-3). -/
def aheadStart (s : State) : State :=
  match s.tmm.ahead with
  | [] => s
  | key :: rest =>
    let s1 := { s with tmm := { s.tmm with ahead := rest } }
    let e := pg s1 key
    if contained s 24 ∨ 32 ≤ (ridsUsed s).length then s
    else if e.st ≠ .imagePending ∨ e.ppend ∨ (jobOf s1 key).isSome then s1
    else
      let s2 := jobStep (jobAdd s1 key .fetch false) ⟨key, .fetch, none, false, false⟩
      s2.tmm.fetches.foldl (fun s f =>
        let grp : FWhat := .group (keyTenant key) (key % 2) (imgIdx s key / 64)
        if f.rid.isNone && (f.what == .page key || f.what == grp) && (ridsUsed s).length < 32 then fetchSend s f else s) s2

/-! ### Ends of page jobs -/

/-- Lines of a page, as physical lines. -/
def pageLines (f n : Nat) : List Nat := (List.range n).map (f * 1024 + ·)

/-- Many lines written by the TMM: 64 lines per KiB of DRAM traffic, counted on the channels they lie in. -/
def tmmWrite (s : State) (l : List (Nat × DLine)) : State :=
  l.foldl (fun s x => pcu 0x39 (chanOf s x.1) 1 (dramPut s x.1 x.2)) s

/-- Lines that the TMM moves for a tenant are charged to its pass, on the channels they lie in (R307, R354). -/
def tmmCharge (s : State) (t : Nat) (l : List Nat) : State :=
  match dramPass s t with
  | none => s
  | some p => (List.range 8).foldl (fun s c => bktTake s c p.n ((l.filter (fun a => chanOf s a == c)).length)) s

/-- A blank fill ends (R305): the frame is zero, its poison marks fresh, and mapped. -/
def fillDone (s : State) (key : Nat) : State :=
  match jobOf s key with
  | some ⟨_, .fill, some f, _, _⟩ =>
    let n := (pg s key).nf * 1024
    let s1 := overhead (tmmWrite s ((pageLines f n).map (fun a => (a, ⟨0, 0⟩)))) n
    let s2 := changePg (jobDrop s1 key) key (fun e => { e with st := .resident, frame := f, pool := tenantPool s (keyTenant key), wr := false, cold := 0 })
    wakePage (pcu 0x2A (keyTenant key) 1 (tmmCount s2 5)) key
  | _ => s

/-- An unfold ends (R316): the page stands as at the fold; a failed CRC leaves every line poisoned, cause DRAM_UE (R339). -/
def unfoldDone (s : State) (key : Nat) (crcOk : Bool) : State :=
  match jobOf s key with
  | some ⟨_, .unfold, some f, _, _⟩ =>
    let t := keyTenant key
    let sv := (pg s key).saved
    let s1 := tmmWrite s ((List.range 1024).map (fun i =>
      let d := ((sv.find? (fun x => x.1 == i)).map (·.2)).getD ⟨0, 0⟩
      (f * 1024 + i, if crcOk then d else { d with mark := 2 })))
    let s2 := changePg (jobDrop (tmmCharge s1 t (pageLines f 1024)) key) key (fun e =>
      { e with st := .resident, frame := f, pool := tenantPool s t, saved := [], chunk := 0, folds := 0, cold := 0 })
    let s3 := pcu 0x2C t 1 (tmmCount s2 4)
    wakePage (if crcOk then s3 else raise (tmmEvt s3 2048) 14 t) key
  | _ => s

/-- The page sweep of a key, when it has swept. -/
def pageSweepDone (s : State) (key : Nat) : Option Sweep := s.ha.sweeps.find? (fun w => w.kind == .page key && sweepDone s w)

/-- A fold job ends (R314): the page is dropped, or written to `chunks` consecutive chunks, or stays RESIDENT. -/
def foldDone (s : State) (key chunks : Nat) : State :=
  match jobOf s key, pageSweepDone s key with
  | some j, some w =>
    if j.kind ≠ .fold ∧ j.kind ≠ .drop then s
    else
      let s1 := jobDrop (sweepEnd s w.no) key
      let e := pg s1 key
      let t := keyTenant key
      if j.kind = .drop then
        if e.wr then wakePage s1 key
        else wakePage (tmmCount (changePg s1 key (fun e => { e with st := .imagePending, frame := 0, cold := 0 })) 6) key
      else
        let n := max 1 chunks
        let s2 := overhead s1 1024
        if 12 < n then wakePage (tmmCount s2 7) key
        else
          match findChunks s2 e.pool n with
          | none => wakePage s2 key
          | some c =>
            if s2.fld (Ad.DSC_FOLDQ t) 25 0 < tenantChunks s2 t + n then wakePage s2 key
            else
              let sv := ((List.range 1024).map (fun i => (i, dramGet s2 (e.frame * 1024 + i)))).filter (fun x => x.2 != ⟨0, 0⟩)
              let s3 := overhead s2 (64 * n)
              let s4 := changePg s3 key (fun e => { e with st := .folded, frame := 0, chunk := c, folds := n, saved := sv, cold := 0 })
              wakePage (pcu 0x2B t 1 (tmmCount s4 3)) key
  | _, _ => s

/-- A fetched page is hashed (R321, R323), and run-ahead queued behind a demand fetch (R322). -/
def hashDone (s : State) (key : Nat) : State :=
  let t := keyTenant key
  let leaf := (slotX s t (key % 2)).bind (fun x => leafHash x (imgIdx s key))
  match jobOf s key, s.tmm.fetches.find? (fun f => f.what == .page key) with
  | some ⟨_, .fetch, some f, demand, leafBad⟩, some ft =>
    if !ft.whole ∨ (leaf.isNone ∧ !leafBad) then s
    else
      let s1 := cvuItem 4 0 t (fetchBytes ft) (jobDrop (fetchDrop s (.page key)) key)
      let s2 :=
        if !leafBad ∧ leaf = some (sha256 (fetchBytes ft)) then
          let s2 := tmmCharge (tmmWrite s1 (ft.got.map (fun x => (f * 1024 + x.1, ⟨x.2, 0⟩)))) t (pageLines f 1024)
          pcu 0x2D t 1 (tmmCount (changePg s2 key (fun e => { e with st := .resident, frame := f, pool := tenantPool s t, wr := false, cold := 0 })) 1)
        else pcu 0x2E t 1 (tmmCount (changePg s1 key (fun e => { e with ppend := true, seen := false, frame := 0 })) 2)
      let nexts := (List.range (s.fld (Ad.DSC_CTRL t) 15 12)).map (fun i => key + 2 * (i + 1))
      let ok := nexts.filter (fun k => keyTenant k == t && inImage s2 t (keyPage k * 1024) && (pg s2 k).st == .imagePending && !(pg s2 k).ppend
        && (jobOf s2 k).isNone && !s2.tmm.ahead.contains k)
      let s3 := if demand && !contained s2 24 then { s2 with tmm := { s2.tmm with ahead := s2.tmm.ahead ++ ok } } else s2
      wakePage s3 key
  | _, _ => s

/-- A fold scan (R312, R313): ACC cleared and counted on every entry of the tenants with FOLD_EN. -/
def foldScan (s : State) : State :=
  let l := s.tmm.pages.filter (fun e => foldEn s (keyTenant e.1) && e.2.st != .pinned)
  let s1 := l.foldl (fun s e => tcDrop (setPg s e.1 (fun p => { p with acc := false, cold := if p.acc then 0 else p.cold + 1 })) e.1) s
  overhead s1 (cdiv l.length 8)

/-! ### Progress -/

/-- Background folding of a pool (R312), and of tenants above their quota (R311); none starts once a valley entry has stopped the
fold jobs (R333). -/
def bgStep (s : State) (p : Nat) : State :=
  let P := pool s p
  if !P.valid ∨ !bit (s.reg Ad.TMM_CTRL) 1 ∨ contained s 24 ∨ s.tmm.nch = 0 ∨ s.isl.stage = .park ∨ s.isl.stage = .waitWfi then s
  else
    let on := s.tmm.bg.contains p
    let s1 := if !on && decide (poolFree s p < P.low) then tmmEvt { s with tmm := { s.tmm with bg := s.tmm.bg ++ [p] } } 256
      else if on && decide (P.high ≤ poolFree s p) then { s with tmm := { s.tmm with bg := s.tmm.bg.filter (· != p) } } else s
    let going := s1.tmm.bg.contains p
    let sel (key : Nat) (e : PageE) : Bool := e.pool == p && decide (2 ≤ e.cold) &&
      (going || decide (s1.fld (Ad.DSC_QUOTA (keyTenant key)) 21 0 < tenantRes s1 (keyTenant key)))
    match coldest s1 sel with
    | some k => if foldJobs s1 < 16 then foldStart s1.fresh k else s1
    | none => s1

/-- A page sweep whose job was aborted, once it has swept: the requests that waited go on (R315). -/
def orphanStep (s : State) (w : Sweep) : State :=
  match w.kind with
  | .page key => if (jobOf s key).isNone && !cmdOn s key && sweepDone s w then wakePage (sweepEnd s w.no) key else s
  | _ => s

/-- The TMM's own progress, commands apart. -/
def tmmPagesStep (s : State) : State :=
  let s1 := s.tmm.fetches.foldl groupStep s
  let s2 := s1.tmm.fetches.foldl fetchRetry s1
  let s3 := s2.tmm.jobs.foldl jobStep s2
  let s4 := s3.tmm.fetches.foldl fetchStep s3
  let s4b := s4.tmm.fetches.foldl fetchLater s4
  let s5 := s4b.ha.sweeps.foldl orphanStep s4b
  (List.range 16).foldl bgStep s5

end Sys2Proof.Machine
end

