-- ==== Sys2Proof/Machine/TmmCmd.lean ====
section
/-!
DEFINITION. Machine/TmmCmd.lean: the TMM's commands (Tables 8-1 and 8-2): what each is refused for, what it does at once, and how
the commands that sweep or fetch go on and end; enabling the TMM (R337, R343); the conditions of a pool table (R308).
-/
namespace Sys2Proof.Machine

/-- State of a tenant: 0 FREE, 1 LIVE, 2 RELEASING. -/
def tenantState (s : State) (t : Nat) : Nat := s.fld (Ad.DSC_CTRL t) 2 0

/-- STATE of a slot: 0 EMPTY, 1 LOADING, 2 READY, 3 FAILED. -/
def slotState (s : State) (t slot : Nat) : Nat := s.fld (Ad.SLOT_CTRL t slot) 1 0

/-- ACTIVE_SLOT. -/
def activeSlot (s : State) (t : Nat) : Nat := s.fld (Ad.DSC_CTRL t) 4 4

/-- The command in progress. -/
def setCmd (s : State) (c : Option TmmCmd) : State := { s with tmm := { s.tmm with cmd := c } }

/-- The page range of a command lies in the plain, and starts and ends on 2 MiB boundaries where it meets the large-page range
(R295, R301). -/
def rangeOk (s : State) (t first count : Nat) : Bool :=
  decide (1 ≤ count) && decide (first + count ≤ s.fld (Ad.DSC_PLAIN t) 17 0 * 32)
    && (!inLarge s t first || first % 32 == 0) && (!inLarge s t (first + count - 1) || (first + count) % 32 == 0)

/-- The range reaches the image range (R332). -/
def rangeImage (s : State) (t first count : Nat) : Bool :=
  overlaps first count (s.fld (Ad.DSC_IMG_BASE t) 16 0 * 32) (s.fld (Ad.DSC_IMG_PAGES t) 16 0)

/-- Keys of a range, in ascending order, each page once. -/
def rangeKeys (s : State) (t first count : Nat) : List Nat := ((List.range count).map (fun i => pageKey s t (first + i))).eraseDups

/-! ### Commands that end at once -/

/-- A root for a new tenant's L0 table, 2 KiB aligned in the page-table region; where in it is a free choice. -/
def newRoot (s : State) : Nat :=
  let (b, n) := ptRegion s
  (b * 256 + 8 * (Config.freeNat s.free % max 1 (n * 32))) % 2 ^ 29

/-- CREATE (R301). LARGE_LO = LARGE_HI means no large range, and IMG_PAGES 0 no image range. -/
def tmmCreate (s : State) (t : Nat) : State :=
  let plain := s.fld (Ad.DSC_PLAIN t) 17 0
  let lo := s.fld (Ad.DSC_LARGE_LO t) 16 0
  let hi := s.fld (Ad.DSC_LARGE_HI t) 16 0
  let ib := s.fld (Ad.DSC_IMG_BASE t) 16 0
  let ip := s.fld (Ad.DSC_IMG_PAGES t) 16 0
  if tenantState s t ≠ 0 then tmmEnd s 2
  else if plain < 1 ∨ 131072 < plain ∨ hi < lo ∨ (lo < hi ∧ plain < hi) ∨ 65536 < ip ∨ (0 < ip ∧ plain * 32 < ib * 32 + ip)
      ∨ overlaps (lo * 32) ((hi - lo) * 32) (ib * 32) ip then tmmEnd s 3
  else if !ptFits s 2048 then tmmEnd s 4
  else
    let s1 := (s.setFld (Ad.DSC_CTRL t) 2 0 1).setReg (Ad.DSC_PT_ROOT t) (w32 (newRoot s))
    tmmEnd s1.fresh 0

/-- MAP (R300). An entry that cannot be read stays so (R338). -/
def tmmMap (s : State) (t first count : Nat) : State :=
  if tenantState s t ≠ 1 then tmmEnd s 2
  else if !rangeOk s t first count ∨ rangeImage s t first count then tmmEnd s 3
  else
    let ks := (rangeKeys s t first count).filter (fun k => (pg s k).st == .unbacked && !unread s k)
    let s1 := ks.foldl (fun s k => changePg s k (fun e => { e with st := .blank, large := inLarge s t (keyPage k) })) s
    if ptFits s1 0 then tmmEnd s1 0 else tmmEnd s 4

/-- UNPIN. -/
def tmmUnpin (s : State) (t first count : Nat) : State :=
  if tenantState s t ≠ 1 then tmmEnd s 2
  else if !rangeOk s t first count ∨ rangeImage s t first count then tmmEnd s 3
  else
    let ks := (rangeKeys s t first count).filter (fun k => (pg s k).st == .pinned)
    tmmEnd (ks.foldl (fun s k => changePg s k (fun e => { e with st := .resident })) s) 0

/-- Jobs and reads of a slot abandoned, their frames freed, their waiters woken. -/
def abandonSlot (s : State) (t slot : Nat) : State :=
  let mine (k : Nat) : Bool := keyTenant k == t && k % 2 == slot && inImage s t (keyPage k * 1024)
  let keys := (s.tmm.jobs.filter (fun j => j.kind == .fetch && mine j.key)).map PJob.key
  let s1 := { s with tmm := { s.tmm with
    jobs := s.tmm.jobs.filter (fun j => !(j.kind == .fetch && mine j.key))
    ahead := s.tmm.ahead.filter (fun k => !mine k)
    fetches := s.tmm.fetches.filter (fun f => match f.what with
      | .page k => !mine k | .group a b _ => !(a == t && b == slot)
      | .manifest a b => !(a == t && b == slot) | .level a b _ => !(a == t && b == slot)) } }
  keys.foldl wakePage s1

/-- UNLOAD_SLOT (R327). -/
def tmmUnload (s : State) (t slot : Nat) : State :=
  if slot = activeSlot s t then tmmEnd s 2
  else
    let s1 := abandonSlot s t slot
    let mine (k : Nat) : Bool := keyTenant k == t && k % 2 == slot && inImage s t (keyPage k * 1024)
    let s2 := { s1 with tmm := { s1.tmm with
      pages := s1.tmm.pages.filter (fun e => !mine e.1), jobs := s1.tmm.jobs.filter (fun j => !mine j.key)
      tc := s1.tmm.tc.filter (fun e => !mine e.1), slots := s1.tmm.slots.filter (fun x => !(x.t == t && x.slot == slot))
      bad := s1.tmm.bad.filter (fun b => !(b.t == t && b.slot == some slot && inImage s t (b.first * 1024))) } }
    tmmEnd (s2.setFld (Ad.SLOT_CTRL t slot) 1 0 0) 0

/-- REFETCH (R323): POISON_PEND cleared on every page of the slot. -/
def tmmRefetch (s : State) (t slot : Nat) : State :=
  if slotState s t slot ≠ 2 then tmmEnd s 2
  else
    let ks := (s.tmm.pages.filter (fun e => e.2.ppend && keyTenant e.1 == t && e.1 % 2 == slot)).map (·.1)
    tmmEnd (ks.foldl (fun s k => changePg s k (fun e => { e with ppend := false, seen := false })) s) 0

/-! ### Commands that take time -/

/-- RELEASE (R328, R297): requests not yet in a line queue are answered RELEASED. -/
def tmmRelease (s : State) (t : Nat) : State :=
  if tenantState s t ≠ 1 ∨ t = 0 then tmmEnd s 2
  else
    let s1 := s.setFld (Ad.DSC_CTRL t) 2 0 2
    let l := s1.ha.trks.filter (fun q => (q.ph == .walk || q.ph == .page) && q.r.m.tenant == t)
    sweepStart (l.foldl (fun s q => tmmRetry s q 4) s1) (.release t)

/-- The words of a tenant's descriptor (Tables 8-17 and 8-18). -/
def dscKeys (t : Nat) : List Nat := (List.range 44).map (fun i => Ad.DSC_CTRL t + 4 * i)

/-- The release scan ends (R328). -/
def releaseDone (s : State) : State :=
  match s.ha.sweeps.find? (fun w => isRelease w.kind && sweepDone s w) with
  | some ⟨no, .release t, _⟩ =>
    let s1 := sweepEnd s no
    let mine (k : Nat) : Bool := keyTenant k == t
    let s2 := { s1 with tmm := { s1.tmm with
      pages := s1.tmm.pages.filter (fun e => !mine e.1), jobs := s1.tmm.jobs.filter (fun j => !mine j.key)
      tc := s1.tmm.tc.filter (fun e => !mine e.1), ahead := s1.tmm.ahead.filter (fun k => !mine k)
      slots := s1.tmm.slots.filter (fun x => x.t != t), bad := s1.tmm.bad.filter (fun b => b.t != t), walks := s1.tmm.walks.filter (fun k => !mine k)
      fetches := s1.tmm.fetches.filter (fun f => match f.what with
        | .page k => !mine k | .group a _ _ => a != t | .manifest a _ => a != t | .level a _ _ => a != t) } }
    let s3 := pasEndTenant s2 t
    let s4 := (dscKeys t).foldl (fun s k => s.setReg k (regReset k)) s3
    tmmEnd (tmmEvt s4 8192) 0
  | _ => s

/-- The bytes of a slot's expected root hash (R10). -/
def slotRoot (s : State) (t slot : Nat) : List Byte :=
  (List.range 8).flatMap (fun i => toBytesBE 4 (s.reg (Ad.SLOT_ROOT t slot i)).toNat)

/-- FLIP (R325, R28, R36, R334). -/
def tmmFlip (s : State) (t : Nat) : State :=
  let old := activeSlot s t
  let new := 1 - old
  if s.flt.esc.isSome then tmmEnd s 7
  else if tenantState s t ≠ 1 then tmmEnd s 2
  else if slotState s t new ≠ 2 then tmmEnd s 5
  else
    let go (s : State) : State := sweepStart (abandonSlot { s with tmm := { s.tmm with stall := some t } } t old) (.flip t old)
    if bit (s.reg (Ad.DSC_CTRL t)) 8 then
      let p := pad128 (toBytesLE 2 t ++ [BitVec.ofNat 8 new, 0] ++ toBytesLE 4 (s.reg (Ad.SLOT_VERSION t old)).toNat
        ++ toBytesLE 4 (s.reg (Ad.SLOT_VERSION t new)).toNat ++ [0, 0, 0, 0] ++ slotRoot s t old ++ slotRoot s t new)
      match evsOffer s 2 p none with
      | (s1, .busy) => tmmEnd s1 6
      | (s1, _) => go s1
    else go s

/-- The flip's sweep ends (R325): the slot switches, the stall is released, FLIP_DONE (R666). -/
def flipDone (s : State) : State :=
  match s.ha.sweeps.find? (fun w => (match w.kind with | .flip _ _ => true | _ => false) && sweepDone s w) with
  | some ⟨no, .flip t _, _⟩ =>
    let s1 := sweepEnd s no
    let new := 1 - activeSlot s t
    let s2 := { s1 with tmm := { s1.tmm with
      tc := s1.tmm.tc.filter (fun e => !(keyTenant e.1 == t && inImage s t (keyPage e.1 * 1024))), stall := none } }
    let s3 := tmmEvt (s2.setFld (Ad.DSC_CTRL t) 4 4 new) 4
    let s4 := evcQueueAll t 1 50 (s3.reg (Ad.SLOT_VERSION t new)).toNat (evcAgents s3 t) s3
    let l := s4.ha.trks.filter (fun q => q.ph == .page && q.r.m.tenant == t && inImage s t q.r.m.line)
    tmmEnd (l.foldl (fun s q => pageAccess (joinTick s) q) s4) 0
  | _ => s

/-- UNBIND (R330). -/
def tmmUnbind (s : State) (t a : Nat) : State :=
  if tenantState s t ≠ 1 then tmmEnd s 2
  else if locked s 0 then tmmEnd (lockViol s 1 12 Ad.TMM_CMD) 8
  else sweepStart { s with tmm := { s.tmm with unbinding := some (t, a) } } (.unbind t a)

/-- The UNBIND scan ends (R330). -/
def unbindDone (s : State) : State :=
  match s.ha.sweeps.find? (fun w => (match w.kind with | .unbind _ _ => true | _ => false) && sweepDone s w) with
  | some ⟨no, .unbind t a, _⟩ =>
    let s1 := sweepEnd { s with tmm := { s.tmm with unbinding := none } } no
    let k := Ad.DSC_BIND t (a / 32)
    tmmEnd (if a = 0 then s1 else s1.setReg k (setBit (s1.reg k) (a % 32) false)) 0
  | _ => s

/-- PREFETCH (R322): the pages are queued; the command ends when none is left. -/
def tmmPrefetch (s : State) (t slot : Nat) : State :=
  if slotState s t slot ≠ 2 then tmmEnd s 2
  else
    let b := s.fld (Ad.DSC_IMG_BASE t) 16 0 * 32
    let ks := (List.range (s.fld (Ad.SLOT_NPAGES t slot) 16 0)).map (fun i => (t * 2 ^ 22 + b + i) * 2 + slot)
    let l := ks.filter (fun k => (pg s k).st == .imagePending && !(pg s k).ppend && (jobOf s k).isNone && !s.tmm.ahead.contains k)
    { s with tmm := { s.tmm with ahead := s.tmm.ahead ++ l } }

/-- LOAD_SLOT (R318): the slot becomes LOADING and its manifest is read. -/
def tmmLoad (s : State) (t slot : Nat) : State :=
  if tenantState s t ≠ 1 ∨ (slotState s t slot ≠ 0 ∧ slotState s t slot ≠ 3) then tmmEnd s 2
  else
    let s1 := (s.setFld (Ad.SLOT_CTRL t slot) 1 0 1).setFld (Ad.SLOT_CTRL t slot) 23 16 0
    fetchNew s1 t slot (.manifest t slot) true 0 1

/-- The slot becomes READY (R318). -/
def slotReady (s : State) (x : SlotX) (version : Nat) : State :=
  let mine (k : Nat) : Bool := keyTenant k == x.t && k % 2 == x.slot && inImage s x.t (keyPage k * 1024)
  let s0 := { s with tmm := { s.tmm with pages := s.tmm.pages.filter (fun e => !mine e.1) } }
  let s1 := (s0.setReg (Ad.SLOT_VERSION x.t x.slot) (w32 version)).setReg (Ad.SLOT_NPAGES x.t x.slot) (w32 x.npages)
  tmmEnd (tmmEvt (s1.setFld (Ad.SLOT_CTRL x.t x.slot) 1 0 2) 8) 0

/-- The next stored level to be read, from the top down to level 1, or READY (R318). -/
def loadNext (s : State) (x : SlotX) (k version : Nat) : State :=
  if k = 0 then slotReady s x version
  else fetchNew s x.t x.slot (.level x.t x.slot k) true (x.treeOff + treeStart x.npages k) (cdiv (treeNodes x.npages k * 32) 64)

/-- A manifest that has arrived whole (Table 8-6, R318). -/
def loadManifest (s : State) (t slot : Nat) (b : List Byte) : State :=
  let s1 := fetchDrop s (.manifest t slot)
  let np := tb32 b 12
  let x : SlotX := ⟨t, slot, tb32 b 16, tb32 b 20, np, b.drop 32, [], []⟩
  if b.take 5 ≠ [0x44, 0x4C, 0x56, 0x49, 0x01] ∨ (b.drop 5).take 3 ≠ [0, 0, 0] ∨ (b.drop 0x18).take 8 ≠ List.replicate 8 0 ∨ np < 1 ∨ 65536 < np then
    tmmEnd (slotFail s1 t slot 2) 0
  else if s.fld (Ad.DSC_IMG_PAGES t) 16 0 < np then tmmEnd (slotFail s1 t slot 5) 0
  else if sha256 b ≠ slotRoot s t slot then tmmEnd (slotFail s1 t slot 3) 0
  else if !ptFits s1 (np / 32 * 256 + 8192 + 40 * np / 64) then tmmEnd (slotFail s1 t slot 6) 0
  else
    let s2 := s1.setReg (Ad.SLOT_VERSION t slot) (w32 (tb32 b 8))
    loadNext { s2 with tmm := { s2.tmm with slots := s2.tmm.slots.filter (fun y => !(y.t == t && y.slot == slot)) ++ [x] } } x (treeTop np - 1) (tb32 b 8)

/-- A tree level that has arrived whole is verified against the one above (R317, R318). -/
def loadLevel (s : State) (t slot k : Nat) (b : List Byte) : State :=
  let s1 := fetchDrop s (.level t slot k)
  match slotX s1 t slot with
  | none => s1
  | some x =>
    let n := treeNodes x.npages k
    let h := chop32 n b
    let up := if k + 1 = treeTop x.npages then [x.top] else ((x.levels.find? (fun l => l.1 == k + 1)).map (·.2)).getD []
    let ok := (List.range (treeNodes x.npages (k + 1))).all (fun j =>
      sha256 (((h.drop (64 * j)).take 64).flatten) == (up[j]?).getD [])
    if !ok then tmmEnd (slotFail s1 t slot 4) 0
    else
      let x1 := { x with levels := x.levels ++ [(k, h)] }
      loadNext { s1 with tmm := { s1.tmm with slots := s1.tmm.slots.map (fun y => if y == x then x1 else y) } } x1 (k - 1)
        (s.reg (Ad.SLOT_VERSION t slot)).toNat

/-- LOAD_SLOT_FETCH_DONE: a manifest or a level that has arrived is verified. -/
def loadFetchDone (s : State) : State :=
  match s.tmm.fetches.find? (fun f => f.whole && (match f.what with | .manifest _ _ => true | .level _ _ _ => true | _ => false)) with
  | some f =>
    match f.what with
    | .manifest t slot => loadManifest s t slot (fetchBytes f)
    | .level t slot k => loadLevel s t slot k (fetchBytes f)
    | _ => s
  | none => s

/-! ### UNMAP and PIN, page by page (R300) -/

/-- UNMAP of the pages from the command's next one on: each is swept if it may be held, then UNBACKED; at the end unreadable entries
of the range are written afresh (R338). -/
def unmapLoop : Nat → State → State
  | 0, s => s
  | n + 1, s =>
    match s.tmm.cmd with
    | none => s
    | some c =>
      if c.op ≠ 4 then s
      else if c.a0 + c.a1 ≤ c.i then
        tmmEnd { s with tmm := { s.tmm with bad := s.tmm.bad.filter (fun b => !(b.t == c.t && decide (c.a0 ≤ b.first ∧ b.first + b.n ≤ c.a0 + c.a1))) } } 0
      else
        let key := pageKey s c.t c.i
        let next (s : State) : State := setCmd s (some { c with i := keyPage key + (if inLarge s c.t c.i then 32 else 1) })
        let clear (s : State) : State :=
          let s1 := changePg s key (fun e =>
            { e with st := .unbacked, acc := false, wr := false, frame := 0, saved := [], chunk := 0, folds := 0, cold := 0 })
          wakePage s1 key
        if (jobOf s key).isSome then (if (jobOf s key).any (fun j => j.kind == .fold || j.kind == .drop) then unmapLoop n (foldAbort s key) else s)
        else if pageSwept s key then
          match pageSweepDone s key with
          | some w => unmapLoop n (next (clear (sweepEnd s w.no)))
          | none => s
        else if (pg s key).framed then haProgress (sweepStart s (.page key))
        else unmapLoop n (next (clear s))

/-- PIN of the pages from the command's next one on: each is brought to RESIDENT, then PINNED. -/
def pinLoop : Nat → State → State
  | 0, s => s
  | n + 1, s =>
    match s.tmm.cmd with
    | none => s
    | some c =>
      if c.op ≠ 5 then s
      else if c.a0 + c.a1 ≤ c.i then tmmEnd s 0
      else
        let key := pageKey s c.t c.i
        let e := pg s key
        let fail (s : State) : State := tmmEnd (s.setFld Ad.TMM_CMD_ARG_0 21 0 c.i) 4
        let next (s : State) : State := setCmd s (some { c with i := keyPage key + (if inLarge s c.t c.i then 32 else 1), wait := false })
        match e.st with
        | .pinned => pinLoop n (next s)
        | .unbacked => fail s
        | .resident =>
          if (jobOf s key).isSome then pinLoop n (foldAbort s key)
          else if 2048 ≤ (s.tmm.tc.filter (·.2)).length then fail s
          else pinLoop n (next (tcPut (changePg s key (fun e => { e with st := .pinned })) key true))
        | st =>
          if e.ppend ∨ unread s key then fail s
          else if (jobOf s key).isSome then setCmd s (some { c with wait := true })
          else if c.wait then fail s
          else
            match bringJob st with
            | some k => setCmd (jobAdd s key k true) (some { c with wait := true })
            | none => fail s

/-- PREFETCH ends when no page of it is queued or being fetched. -/
def prefetchStep (s : State) : State :=
  match s.tmm.cmd with
  | some c =>
    let mine (k : Nat) : Bool := keyTenant k == c.t && k % 2 == c.a0 % 2 && inImage s c.t (keyPage k * 1024)
    if c.op = 8 ∧ !s.tmm.ahead.any mine ∧ !s.tmm.jobs.any (fun j => j.kind == .fetch && mine j.key) then tmmEnd s 0 else s
  | none => s

/-- Progress of the command in progress. -/
def tmmCmdStep (s : State) : State :=
  match s.tmm.cmd with
  | none => s
  | some c =>
    if c.op = 4 then unmapLoop (2 * c.a1 + 2) s
    else if c.op = 5 then pinLoop (2 * c.a1 + 2) s
    else if c.op = 8 then prefetchStep s
    else s

/-- UNMAP and PIN begin. -/
def tmmRangeCmd (s : State) (op t first count : Nat) : State :=
  if tenantState s t ≠ 1 then tmmEnd s 2
  else if !rangeOk s t first count ∨ (op = 4 ∧ rangeImage s t first count) then tmmEnd s 3
  else tmmCmdStep (setCmd s (some ⟨op, t, first, count, first, false⟩))

/-- A write of TMM_CMD with a nonzero OP (R299, Tables 8-1, 8-2 and 19-3). -/
def tmmCmd (s : State) (op t : Nat) : State :=
  let a0 := s.fld Ad.TMM_CMD_ARG_0 21 0
  let a1 := s.fld Ad.TMM_CMD_ARG_1 22 0
  if op = 0 then s
  else if s.tmm.cmd.isSome then tmmEvt s 2
  else
    let s1 := setCmd (s.setFld Ad.TMM_CMD_STATUS 15 8 op) (some ⟨op, t, a0, a1, a0, false⟩)
    if 12 < op then tmmEnd s1 1
    else if s.tmm.nch = 0 then tmmEnd s1 2
    else if contained s 24 ∧ (op = 7 ∨ op = 8 ∨ op = 10 ∨ op = 11) then tmmEnd s1 7
    else if op = 1 then tmmCreate s1 t
    else if op = 2 then tmmRelease s1 t
    else if op = 3 then tmmMap s1 t a0 a1
    else if op = 4 ∨ op = 5 then tmmRangeCmd s1 op t a0 a1
    else if op = 6 then tmmUnpin s1 t a0 a1
    else if op = 7 then tmmLoad s1 t (a0 % 2)
    else if op = 8 then tmmCmdStep (tmmPrefetch s1 t (a0 % 2))
    else if op = 9 then tmmUnload s1 t (a0 % 2)
    else if op = 10 then tmmFlip s1 t
    else if op = 11 then tmmRefetch s1 t (a0 % 2)
    else tmmUnbind s1 t (a0 % 256)

/-- The largest power of two for which channels 0 to N - 1 are READY (R343); 0 where channel 0 is not. -/
def readyN (s : State) : Nat :=
  let up (n : Nat) : Bool := decide (n ≤ nChans s) && (List.range n).all (fun c => (drcCh s c).mode == .ready)
  if up 8 then 8 else if up 4 then 4 else if up 2 then 2 else if up 1 then 1 else 0

/-- TMM_CTRL.EN takes effect (R337, R343): N is the largest power of two for which channels 0 to N - 1 are READY. -/
def tmmEnable (s : State) : State :=
  if s.tmm.nch ≠ 0 then s
  else
    let s1 := pasRecompute { s with tmm := { s.tmm with nch := max 1 (readyN s), pages := [] }, dram := [] }
    (s1.setReg (Ad.DSC_PT_ROOT 0) (w32 (newRoot s1))).fresh

/-- The TMM's progress. -/
def tmmProgress (s : State) : State := tmmCmdStep (tmmPagesStep s)

/-! ### Pool tables (R308) -/

/-- The ranges of a pool table in 4 KiB units: the page-table region and each VALID pool's tiers. -/
def poolRanges (b : List Byte) : List (Nat × Nat) :=
  (tb32 b 0 % 2 ^ 21 * 16, tb32 b 4 * 16) ::
    (List.range 16).flatMap (fun p =>
      let P := poolOf b p
      if P.valid then [(P.nBase * 16, P.nFrames * 16), (P.fBase, if P.fold then P.fChunks else 0)] else [])

/-- No two ranges of a list overlap. -/
def disjoint : List (Nat × Nat) → Bool
  | [] => true
  | r :: t => t.all (fun q => !overlaps r.1 r.2 q.1 q.2) && disjoint t

/-- The last two conditions of R308, judged again at the activating strobe. -/
def poolKeeps (s : State) (b : List Byte) : Bool :=
  (s.tmm.nch == 0 || (tb32 b 0 % 2 ^ 21, tb32 b 4) == ptRegion s)
    && (framesUsed s).all (fun u => let P := poolOf b u.1
      P.valid && decide (P.nBase ≤ u.2.1 ∧ u.2.1 + u.2.2 ≤ P.nBase + P.nFrames))
    && (chunksUsed s).all (fun u => let P := poolOf b u.1
      P.valid && P.fold && decide (P.fBase ≤ u.2.1 ∧ u.2.1 + u.2.2 ≤ P.fBase + P.fChunks))

/-- Installed DRAM that a pool table is judged against (R342), in 4 KiB units: that of the N channels interleaved, or before EN of those
that R343 would take. -/
def installedFor (s : State) : Nat :=
  if s.tmm.nch ≠ 0 then installed s * 16
  else readyN s * s.fld (Ad.DRC_CAP 0) 15 0 * 256

/-- The body is a pool table that the TMM accepts (R308). -/
def poolTableOk (s : State) (b : List Byte) : Bool :=
  b.length == 544 && decide (16 ≤ tb32 b 4 ∧ tb32 b 4 ≤ 65536) && (poolRanges b).all (fun r => decide (r.1 + r.2 ≤ installedFor s))
    && disjoint (poolRanges b)
    && (List.range 16).all (fun p => let P := poolOf b p
      !P.valid || (decide (P.low ≤ P.high) && (P.fold || P.fChunks == 0)))
    && poolKeeps s b

end Sys2Proof.Machine
end

