-- ==== Sys2Proof/Machine/HomeAgent.lean ====
section
/-!
DEFINITION. Machine/HomeAgent.lean: the home agent's dealings with messages (chapters 6 and 7): arrival of requests (R209, R227,
R242), allocation of trackers (R210, R272 to R275), admission (R207, R295 to R297, R330), activation (R211, R215, R250),
responses (R214, R248), and returns of DRAM data.
-/
namespace Sys2Proof.Machine

/-! ### Arrival -/

/-- The agent has an open transaction with this TXID (R209). -/
def txidOpen (s : State) (a txid : Nat) : Bool :=
  s.ha.wait.any (fun r => r.who.isNone && r.m.src == a && r.m.txid == txid)
    || s.ha.trks.any (fun t => t.r.who.isNone && t.r.m.src == a && t.r.m.txid == txid)

/-- A request of a partner's agent arrives at the home agent; `dat` tells whether it headed a DATA flit, and so took a DAT credit
besides its own (R171). -/
def haRequest (s : State) (port : Nat) (m : ReqMsg) (dat : Bool) : State :=
  match findAgent s m.src with
  | none => freeReq s port m dat
  | some r =>
    if unresp s m.src then freeReq s port m dat
    else if txidOpen s m.src m.txid then haProto (freeReq s port m dat) port m.src (reqMop m.kind) 4
    else if r.detaching then
      sendTo (sqEvt (haProto (pcu 0x18 m.src 1 (freeReq s port m dat)) port m.src (reqMop m.kind) 6) Ad.HA_EVT 32) m.src
        (.rsp .retry m.txid 0 0 6 0)
    else
      match (if m.kind = .writeConditional then s.ha.wcs.find? (fun e => e.1 == m.src && e.2.1 == m.rtag) else none) with
      | some (_, _, ok) => sendTo (haCount (freeReq s port m dat) 4) m.src (.rsp .ack m.txid 0 0 (b2n ok) 0)
      | none =>
        tagReq m { s with ha := { s.ha with
            wait := s.ha.wait ++ [⟨s.ha.arrivals, port, m, none, false, false, dat, false⟩], arrivals := s.ha.arrivals + 1 } }

/-! ### Trackers (R210, R272 to R277) -/

/-- The request competes for an urgent tracker: class UREQ, and its tenant holds a U pass (R210). -/
def isUrgent (s : State) (r : HReq) : Bool := r.who.isNone && r.m.mclass == 1 && holdsU s r.m.tenant

/-- Trackers of a kind in use that satisfy a test. -/
def trkCount (s : State) (urgent : Bool) (p : Trk → Bool) : Nat :=
  (s.ha.trks.filter (fun t => decide (2048 ≤ t.id) == urgent && p t)).length

/-- The request's agent is below its bound: HA_QUOTA, or 256 for agent 0 (R273, R275). -/
def belowQuota (s : State) (r : HReq) : Bool :=
  if r.who.isSome then decide (trkCount s false (fun t => t.r.who.isSome) < 256)
  else decide (trkCount s false (fun t => t.r.who.isNone && t.r.m.src == r.m.src) < max 1 (s.fld (Ad.HA_QUOTA (r.m.src - 1)) 11 0))

/-- A free tracker number in [base, base + n), which one being a free choice. -/
def freeTrk (s : State) (base n : Nat) : Option Nat :=
  let l := (List.range n).map (fun i => base + (i + Config.freeNat s.free) % n)
  l.find? (fun i => s.ha.trks.all (fun t => t.id != i))

/-- Admission of a request that has taken its tracker (R207, R23, R295 to R297, R330), then its translation. -/
def haAdmit (s : State) (t : Trk) : State :=
  let m := t.r.m
  let evict := m.kind == .cleanEvict || m.kind == .dirtyEvict
  let cach := evict || m.kind == .readShared || m.kind == .readUnique || m.kind == .upgrade
  if t.r.who.isNone ∧ cach ∧ !((findAgent s m.src).any AgentRec.caching) then tmmRetry s t 5
  else if t.r.who.isNone ∧ (m.tenant = 0 ∨ !bindBit s m.tenant m.src ∨ (!evict ∧ s.tmm.unbinding = some (m.tenant, m.src))) then tmmRetry s t 1
  else if tenantState s m.tenant = 2 then tmmRetry s t 4
  else if tenantState s m.tenant = 0 ∨ s.fld (Ad.DSC_PLAIN m.tenant) 17 0 * 32768 ≤ m.line then tmmRetry s t 2
  else translate s t

/-- The request waits at the bound of 64 walks (R303). -/
def walkHeld (s : State) (t : Trk) : Bool := t.ph == .walk && !s.tmm.walks.contains t.key

/-- A waiting request takes a tracker; its credit is freed (R181, R273), unless it has to wait for a walk (R277, R303). -/
def haTake (s : State) (r : HReq) (id : Nat) : State :=
  let t : Trk := ⟨id, { r with owed := r.who.isNone }, .walk, 0, 0, 0, [], .none, false⟩
  let s1 := { s.fresh with ha := { s.ha with wait := s.ha.wait.filter (fun q => q.n != r.n), trks := s.ha.trks ++ [t] } }
  let s2 := haAdmit (pcu (if 2048 ≤ id then 0x11 else 0x10) r.m.src 1 s1) t
  match trkAt s2 id with
  | none => s2
  | some u => if walkHeld s2 u then s2 else freeOwed s2 u

/-- A partner's request in Dale waits until the exit to Open has completed (R46). -/
def daleHeld (s : State) (r : HReq) : Bool := r.who.isNone && decide (s.depth = 1) && s.isl.stage == .exit

/-- An urgent request takes one of its tenant's two urgent trackers (R272). -/
def takeUrgent (s : State) (r : HReq) : State :=
  if daleHeld s r then s
  else if isUrgent s r ∧ trkCount s true (fun t => t.r.m.tenant == r.m.tenant) < 2 then
    match freeTrk s 2048 64 with
    | some id => haTake s r id
    | none => s
  else s

/-- The port at which a request waits: 0 agent 0, p + 1 port p (R273). -/
def reqSlot (r : HReq) : Nat := if r.who.isSome then 0 else r.port + 1

/-- At most one general tracker for a port: its oldest request whose agent is below quota (R273). -/
def takeGeneral (s : State) (slot : Nat) : State :=
  match s.ha.wait.find? (fun r => reqSlot r == slot && !daleHeld s r && !isUrgent s r && belowQuota s r) with
  | none => s
  | some r =>
    match freeTrk s 0 2048 with
    | some id => haTake { s with ha := { s.ha with last := slot } } r id
    | none => s

/-- TRACKER_ALLOCATE: one FAB cycle of allocation (R272, R273), and so of the joins that follow at once (R211). -/
def haAllocate (s : State) : State :=
  let s1 := s.ha.wait.foldl takeUrgent (joinTick s)
  let s2 := ((List.range 17).map (fun i => (s1.ha.last + 1 + i) % 17)).foldl takeGeneral s1
  let n := (s2.ha.wait.filter (fun r => !r.waited)).length
  { s2.incBy (Ad.HA_RACE_COUNT 5) n with ha := { s2.ha with wait := s2.ha.wait.map (fun r => { r with waited := true }) } }

/-! ### Activation (R211, R215, R250) -/

/-- No earlier request of the agent with the same FID is still to become active (R215); engines of agent 0 carry no FID. -/
def fidOk (s : State) (r : HReq) : Bool :=
  let before (q : HReq) : Bool := q.who.isNone && q.m.src == r.m.src && q.m.fid == r.m.fid && decide (q.n < r.n)
  r.who.isSome || (!s.ha.wait.any before
    && !s.ha.trks.any (fun t => before t.r && (t.ph == .walk || t.ph == .page || t.ph == .line)))

/-- Of two queued requests the one that stands ahead: an urgent one, then the one that joined in the earlier FAB cycle, then by
port, agent 0 before port 0 (R240), then by arrival (R211, R278). -/
def ahead (a b : Trk) : Bool :=
  if decide (2048 ≤ a.id) != decide (2048 ≤ b.id) then decide (2048 ≤ a.id)
  else if a.join ≠ b.join then decide (a.join < b.join)
  else if reqSlot a.r ≠ reqSlot b.r then decide (reqSlot a.r < reqSlot b.r)
  else decide (a.r.n ≤ b.r.n)

/-- The one of a list of requests that stands ahead of the others. -/
def foremost (l : List Trk) : Option Trk :=
  l.foldl (fun b t => match b with | none => some t | some u => if ahead u t then some u else some t) none

/-- The head of a line's queue, where R215 lets it become active: no other of the queue passes it (R253). An urgent request that
R215 holds back stands ahead of nothing: it waits behind the general request whose FID it shares (R216). (DESIGN CHOICE, log 58.) -/
def queueHead (s : State) (tenant line : Nat) : Option Trk :=
  (foremost (s.ha.trks.filter (fun t => t.ph == .line && t.r.m.tenant == tenant && t.r.m.line == line
    && (decide (t.id < 2048) || fidOk s t.r)))).filter (fun t => fidOk s t.r)

/-- An error found by the SF lookup (R250): 1 corrected, 2 uncorrectable. -/
def sfError (s : State) (pa err : Nat) : State :=
  if err = 1 then sqEvt (s.inc Ad.SF_CORR_COUNT) Ad.SF_EVT 1
  else if err = 2 ∧ !s.ha.failed.contains (sfSet pa) then
    let w := s.reg Ad.SF_FAILED_SET
    let n := bf w 30 16
    let v := w32 (2 ^ 31 + (if n < 0x7FFF then n + 1 else n) * 65536 + (if bit w 31 then bf w 15 0 else sfSet pa))
    let s1 := { s.setReg Ad.SF_FAILED_SET v with ha := { s.ha with failed := s.ha.failed ++ [sfSet pa] } }
    raise (sqEvt s1 Ad.SF_EVT 2) 12 (sfSet pa)
  else s

/-- LINE_ACTIVATE: the line's next request becomes active, unless a transaction on the line is active or the line is being
back-invalidated (R211, R235). -/
def lineActivate (s : State) (tenant line err : Nat) : State :=
  match queueHead s tenant line with
  | none => s
  | some t =>
    if lineActive s t.pa ∨ s.ha.binv.any (fun b => b.e.pa == t.pa) then s
    else activate (sfError s t.pa err) t

/-! ### Responses from agents -/

/-- A response message from an agent (R214, R219, R247, R248, R319); its credits have been freed (R276). -/
def haResponse (s : State) (port : Nat) (m : RspMsg) : State :=
  let a := m.src
  let mop := match m.kind with
    | .data => 0x20 | .dataPoison => 0x21 | .ack => 0x22 | .retry => 0x23 | .compAck => 0x24
  if unresp s a ∨ (findAgent s a).isNone then s
  else
    match m.kind with
    | .compAck =>
      if 4 < m.state ∨ m.code ≠ 0 then haProto s port a mop 3
      else
      match trkAt s m.htid with
      | some t => if t.ph = .comp ∧ t.r.m.src = a ∧ t.r.who.isNone then trkDrop s m.htid else haProto s port a mop 2
      | none => haProto s port a mop 2
    | .retry => haProto s port a mop 1
    | k =>
      let src := decide (0xC00 ≤ m.tag ∧ m.tag ≤ 0xC1F)
      let codeOk := match k with
        | .dataPoison => decide (1 ≤ m.code ∧ m.code ≤ 5)
        | .ack => decide (m.code = 0 ∨ (src ∧ m.code ≤ 3))
        | _ => m.code == 0
      if 4 < m.state ∨ !codeOk then haProto s port a mop 3
      else if src then
        match k with
        | .data => srcData s a m.tag m.htid (some m.line)
        | .dataPoison => srcData s a m.tag m.htid none
        | _ => srcAck s a m.tag m.code
      else
        match k with
        | .data => snoopResponse s a m.tag (.data m.state m.line)
        | .dataPoison => snoopResponse s a m.tag (.poison m.state m.code)
        | _ => snoopResponse s a m.tag (.ack m.state)

/-- No CompAck 1 ms after the response (R214). -/
def compTimeout (s : State) (htid : Nat) : State :=
  match trkAt s htid with
  | some t => if t.ph = .comp then haProto (trkDrop s htid) t.r.port t.r.m.src 0x24 5 else s
  | none => s

/-- A snoop's deadline passes (R236, R244). -/
def snoopExpiry (s : State) (sid a : Nat) : State :=
  if s.ha.trks.any (fun t => t.id == sid && t.snps.any (fun x => x.1 == a && x.2.2.isNone))
      ∨ s.ha.binv.any (fun b => b.sid == sid && b.ans.any (fun x => x.1 == a && x.2.isNone)) then
    declare s a false
  else s

/-- 10 µs after a ReadReserve's response (R225). -/
def resvExpiry (s : State) (a : Nat) : State :=
  { s with ha := { s.ha with resv := s.ha.resv.filter (fun r => r.agent != a) } }

/-- BACK_INVALIDATION_DONE: the holders of a victim have answered (R234). -/
def binvDone (s : State) (sid : Nat) : State :=
  match s.ha.binv.find? (fun b => b.sid == sid && b.evb && b.ready) with
  | some b => binvFinish s b
  | none => s

/-- EVB_ENTRY_FREE: the first general request that waits for the eviction buffer takes an entry (R233). -/
def evbFree (s : State) : State :=
  match foremost (s.ha.trks.filter (fun t => t.ph == .evb)) with
  | some t => trySettle s t.id
  | none => s

/-! ### DRAM data (R228, R230, R345, R374) -/

/-- A read's data reaches the home agent: used, held, or discarded. -/
def dramDeliver (s : State) (c : Nat) (x : DrcCmd) (err : Nat) : State :=
  let ok := drcUp s c
  let s1 := if !ok then s else if err = 1 then drcCe s c (chanLine s x.line) else if err = 2 then drcUe s c (chanLine s x.line) else s
  let held := match x.trk.bind (trkAt s1) with
    | some t => if t.rd == RdSt.pend x.n then some t else none
    | none => none
  match held with
  | some t =>
    let d := dramGet s1 x.line
    trySettle (trkPut s1 { t with rd := .have_ d.data (if !ok ∨ err = 2 then 2 else d.mark) }) t.id
  | none => if ok ∧ err = 2 then drcLatent s1 c x.line else s1

/-- The channel and command of a read for a tracker: one issued, or one queued at a channel that does not serve. -/
def findRead (s : State) (htid : Nat) : Option (Nat × DrcCmd) :=
  (List.range 8).findSome? (fun c =>
    (((drcCh s c).issued.find? (fun x => x.trk == some htid)).or
      (if drcUp s c then none else (drcCh s c).q.find? (fun x => x.trk == some htid))).map (fun x => (c, x)))

/-- DRAM_READ_RETURN: `err` 1 corrected, 2 uncorrectable. -/
def dramReturn (s : State) (htid err : Nat) : State :=
  match findRead s htid with
  | none => s
  | some (c, x) =>
    dramDeliver (setDrc s c (fun d => { d with issued := d.issued.filter (fun y => y.n != x.n), q := d.q.filter (fun y => y.n != x.n) })) c x err

end Sys2Proof.Machine
end

