-- ==== Sys2Proof/Machine/RcCache.lean ====
section
/-!
DEFINITION. Machine/RcCache.lean: the record core's registers, TCM, region table and caches (chapter 10): Tables 10-3 and 10-5,
the window's availability (R405, R406, R48), BUSERR (R399), the D-cache flush (R411), and the LR reservation and its hold of
snoops (R394, R395).
-/
namespace Sys2Proof.Machine

/-! ### Registers and TCM -/

/-- The record core's state changed. -/
def setRc (s : State) (f : RcSt → RcSt) : State := { s with rc := f s.rc }

/-- x register r; x0 reads zero. -/
def rx (s : State) (r : Nat) : Word := if r = 0 then 0 else s.rc.x.getD r 0

/-- x register r written; x0 discards writes. -/
def setX (s : State) (r : Nat) (v : Word) : State := if r = 0 then s else setRc s (fun c => { c with x := upd c.x r (fun _ => v) })

/-- The first RC address of the TCM. -/
def tcmBase : Nat := 0x10000000

/-- The address lies in TCM. -/
def inTcm (a : Nat) : Bool := decide (0x10000000 ≤ a ∧ a ≤ 0x1003FFFF)

/-- The address lies in the tenant-0 window. -/
def inWin (a : Nat) : Bool := decide (0x20000000 ≤ a ∧ a ≤ 0x9FFFFFFF)

/-- The address lies in IC space. -/
def inIc (a : Nat) : Bool := decide (0xC0000000 ≤ a ∧ a ≤ 0xCFFFFFFF)

/-- What a TCM byte that nothing has written holds: zero, the boot ROM's stack apart (R402, Table 10-8). (DESIGN CHOICE, log 42.) -/
def tcmDef (a : Nat) : Byte := if a < 0x1003E000 then 0 else Config.romStack a

/-- n bytes of TCM. -/
def tcmRead (s : State) (a n : Nat) : List Byte := memRead tcmDef s.tcm a n

/-- Bytes written to TCM; the words they reach are no longer in error (R413). -/
def tcmWrite (s : State) (a : Nat) (l : List Byte) : State :=
  setRc { s with tcm := memWrite tcmDef s.tcm a l } (fun c =>
    { c with tcmErr := c.tcmErr.filter (fun w => !decide (w + 4 > a ∧ w < a + l.length)) })

/-- A TCM word in uncorrectable error among n bytes. -/
def tcmBad (s : State) (a n : Nat) : Option Nat := s.rc.tcmErr.find? (fun w => decide (w + 4 > a ∧ w < a + n))

/-! ### The tenant-0 window -/

/-- The tenant-0 line number of a window address. -/
def winLine (a : Nat) : Nat := (a - 0x20000000) / 64

/-- The kinds of Table 10-5. -/
inductive RgnKind | cacheable | plain | device
deriving DecidableEq, Repr

/-- The attributes of a window address (R384): kind, EWA, and reservation granule. -/
def rgnOf (s : State) (a : Nat) : RgnKind × Bool × Nat :=
  match (List.range 16).find? (fun n => bit (s.reg (Ad.RCC_RGN_BASE n)) 0
      && decide (s.fld (Ad.RCC_RGN_BASE n) 31 12 ≤ a / 4096 ∧ a / 4096 ≤ s.fld (Ad.RCC_RGN_LIMIT n) 31 12)) with
  | none => (.cacheable, false, 64)
  | some n =>
    let b := s.reg (Ad.RCC_RGN_BASE n)
    let c := bit b 1
    let g := bf b 5 4
    (if bit b 2 then .device else if c then .cacheable else .plain, bit b 3 && !c, if g = 1 then 128 else if g = 2 then 256 else 64)

/-- The window is unusable: before TMM_CTRL.EN (R405), from RC_READY until the entry ends (R406), and in Glen and Basin (R48). -/
def winOff (s : State) : Bool :=
  !bit (s.reg Ad.TMM_CTRL) 0 || bit (s.reg Ad.ISL_RC_CTRL) 0 || decide (2 ≤ s.depth)

/-- An event of RCC_BUSERR with the RC address of its access (Table 10-20). -/
def buserr (s : State) (b a : Nat) : State := sqEvt (s.setReg Ad.RCC_BUSERR_ADDR (w32 a)) Ad.RCC_BUSERR (2 ^ b)

/-- An uncorrectable TCM error (R413). -/
def tcmUe (s : State) (w a : Nat) : State :=
  raise (buserr (setRc s (fun c => { c with tcmErr := if c.tcmErr.contains w then c.tcmErr else c.tcmErr ++ [w] })) 3 a) 21 a

/-! ### Fills and the held snoops -/

/-- A request of the record core for a line: ReadShared, ReadUnique or Upgrade. -/
def rcAsk (s : State) (k : ReqKind) (line : Nat) : State :=
  if s.rc.fills.contains line then s
  else setRc (ag0Req s (.rcFill line) k 0 line false 0 0) (fun c => { c with fills := c.fills ++ [line] })

/-- The answer to a fill, where it has come. -/
def rcFillTake (s : State) (line : Nat) : Option (Ag0Rsp × State) :=
  (ag0Take s (.rcFill line)).map (fun x => (x.1, setRc x.2 (fun c => { c with fills := c.fills.filter (· != line) })))

/-- Snoops that the LR hold delayed are answered (R395). -/
def releaseHold (s : State) : State :=
  let l := s.rc.heldSnp
  l.foldl (fun s x => let (s1, a) := rcSnoopNow s x.2.1 x.2.2; takeAnswer s1 0 x.1 a)
    (setRc s (fun c => { c with lrHold := none, heldSnp := [] }))

/-- The reservation is lost. -/
def loseRsv (s : State) : State := setRc s (fun c => { c with resv := none })

/-- 64 cycles after an LR: snoops are no longer delayed. -/
def holdExpiry (s : State) : State := releaseHold s

/-! ### Cache commands -/

/-- A line leaves the D-cache by DirtyEvict, or by CleanEvict where it is clean or poisoned (R291); its copy is kept until the
answer (R255). -/
def rcEvict (s : State) (l : RcLine) : State :=
  let s1 := ag0Req s (.rcWb l.line) (if l.dirty then .dirtyEvict else .cleanEvict) 0 l.line false l.data (-1)
  let s2 := setRc s1 (fun c => { c with ic := c.ic.filter (· != l.line) })
  rcPut (if rcCovers s2 l.line then loseRsv s2 else s2) { l with wb := true }

/-- The lines a flush may evict now: a line whose own request is open waits for its answer (R253). -/
def flushable (s : State) : List RcLine :=
  s.rc.dc.filter (fun l => !l.wb && (!s.rc.fills.contains l.line || (ag0Peek s (.rcFill l.line)).isSome))

/-- A flush that runs goes on to the lines it may evict. -/
def flushStep (s : State) : State := if s.rc.flushing then (flushable s).foldl rcEvict s else s

/-- RCC_CACHE_CMD.DFLUSH (R411). -/
def dflush (s : State) : State :=
  if s.rc.flushing then s else flushStep (releaseHold (setRc s (fun c => { c with flushing := true })))

/-- The flush completes once every line has left and every eviction has been answered. -/
def dflushDone (s : State) : State :=
  if s.rc.flushing ∧ s.rc.dc = [] then setRc s (fun c => { c with flushing := false }) else s

/-- RCC_CACHE_CMD.IINV. -/
def iinv (s : State) : State := setRc s (fun c => { c with ic := [] })

/-! ### Masked bytes of lines -/

/-- The line number and byte mask of n bytes at a window address, and the bytes placed in a line. -/
def linePlace (a n : Nat) (v : Nat) : BitVec 64 × Line :=
  let o := a % 64
  (BitVec.ofNat 64 ((2 ^ n - 1) <<< o), BitVec.ofNat 512 (v <<< (8 * o)))

/-- n bytes of a line at a byte offset, as a number. -/
def lineNum (l : Line) (o n : Nat) : Nat := (l.toNat >>> (8 * o)) % 2 ^ (8 * n)

/-- Bytes stored in a held line: it becomes M, and a poisoned line is clean once all 64 bytes have been written (R412). -/
def rcStore (s : State) (l : RcLine) (m : BitVec 64) (d : Line) : State :=
  let w := l.wrote ||| m
  let l1 := { l with st := 3, data := mergeLine m d l.data }
  rcPut s (if l.poison.isSome then (if w = -1 then { l1 with poison := none, wrote := 0 } else { l1 with wrote := w }) else l1)

end Sys2Proof.Machine
end

