-- ==== Sys2Proof/Machine/Boot.lean ====
section
/-!
DEFINITION. Machine/Boot.lean: the boot ROM (chapter 10): its steps (R402), the checks of Table 10-9, the BOOT offer (R403), the
failure of both copies (R414) and RETRY (R404).
-/
namespace Sys2Proof.Machine

/-- RCC_BOOT_STATUS.STAGE. -/
def bootStage (s : State) : Nat := s.fld Ad.RCC_BOOT_STATUS 2 0

/-- The firmware runs. -/
def fwRuns (s : State) : Bool := bootStage s == 0

/-- A stage of the boot ROM; outside BOOTING and RUNNING the core rests in WFI. -/
def setStage (s : State) (n : Nat) : State :=
  setRc (s.setFld Ad.RCC_BOOT_STATUS 2 0 n) (fun c => { c with wfi := n == 2 || n == 3 })

/-- Steps 2 to 4 of R402: a BLANK device waits; otherwise the first image is read. -/
def bootBegin (s : State) : State :=
  let s1 := ((s.setFld Ad.RCC_BOOT_STATUS 31 16 0).setFld Ad.RCC_BOOT_STATUS 7 6 0)
  if !provisioned s1 then setRc (setStage s1 2) (fun c => { c with boot := 0 })
  else
    let n := if bit (s1.reg Ad.RCC_BOOT_CTRL) 1 then 3 else 1
    setRc (setStage (if n = 1 then flashUp s1 else s1) 1) (fun c => { c with boot := n })

/-- The core starts after a reset: the TCM is zeroed, and the boot begins (R402). -/
def bootReset (s : State) : State := bootBegin { s with tcm := [] }

/-- RCC_BOOT_CTRL.RETRY (R404). -/
def bootRetry (s : State) : State := if bootStage s = 2 ∨ bootStage s = 3 then bootBegin s else s

/-- The OTP row with the location of a copy. -/
def bootRow (copy : Nat) : Nat := if copy = 1 then 4 else 5

/-- n bytes of an image from an offset: of a flash copy, or of the staging buffer. -/
def imageBytes (s : State) (copy off n : Nat) : List Byte :=
  if copy = 3 then ((List.range ((n + off % 4 + 3) / 4)).flatMap (fun i => toBytesLE 4 (s.reg (Ad.CP_TBL_BUF (off / 4 + i))).toNat)).drop (off % 4)
    |>.take n
  else
    let w := otpWord s (bootRow copy) 0
    flashRead s (bf w 0 0) (bf w 31 12 * 4096 + off) n

/-- The device identity. -/
def deviceId (s : State) : Nat := (otpWord s 0 0).toNat + 2 ^ 32 * (otpWord s 0 1).toNat

/-- A 32-bit field of an image header. -/
def hdr32 (h : List Byte) (o : Nat) : Nat := ofBytesLE ((h.drop o).take 4)

/-- The checks of Table 10-9 in order: the REASON of the first that fails; 0 where all pass. -/
def bootJudge (s : State) (copy : Nat) (readOk : Bool) : Nat :=
  let h := imageBytes s copy 0 128
  let len := hdr32 h 0x14
  let slot := (h.getD 5 0).toNat
  let bind_ := ofBytesLE ((h.drop 0x20).take 8)
  let key := (h.drop 0x28).take 64
  let zero (o n : Nat) : Bool := ((h.drop o).take n).all (· == 0)
  if !readOk ∨ (copy ≠ 3 ∧ !bit (otpWord s (bootRow copy) 0) 1) then 1
  else if h.take 5 ≠ [0x44, 0x4C, 0x56, 0x46, 1] ∨ !(zero 6 2 && zero 0x1C 4 && zero 0x68 24) then 2
  else if hdr32 h 0x10 % 4096 ≠ 0 ∨ len % 4 ≠ 0 ∨ len < 4 ∨ 253952 < len ∨ 253952 < hdr32 h 0x10 + len
      ∨ hdr32 h 0x18 % 2 ≠ 0 ∨ len ≤ hdr32 h 0x18 then 3
  else if bind_ ≠ 0 ∧ bind_ ≠ deviceId s then 4
  else if 1 < slot ∨ !fwKeyOk s slot then 5
  else if sha256 key ≠ (List.range 8).flatMap (fun i => toBytesLE 4 (otpWord s (8 + slot) i).toNat) then 6
  else if !p256Verify key (sha256 (imageBytes s copy 0 (128 + len))) (imageBytes s copy (128 + len) 64) then 7
  else if hdr32 h 0x0C < (otpWord s 3 0).toNat then 8
  else 0

/-- The body goes into TCM as it arrives, before checks 0x07 and 0x08 (R402, Table 10-10). -/
def bootLoad (s : State) (copy : Nat) : State :=
  let h := imageBytes s copy 0 128
  tcmWrite s (tcmBase + hdr32 h 0x10) (imageBytes s copy 128 (hdr32 h 0x14))

/-- Steps 5 to 7 of R402: the image passes. -/
def bootPass (s : State) (copy : Nat) : State :=
  let h := imageBytes s copy 0 128
  let len := hdr32 h 0x14
  let dig := sha256 (imageBytes s copy 0 (128 + len))
  let s2 := bufWrite (bootLoad s copy) (Ad.RCC_BOOT_MEAS 0) dig
  let s3 := (s2.setReg Ad.RCC_BOOT_VER (w32 (hdr32 h 8))).setFld Ad.RCC_BOOT_STATUS 7 6 copy
  let payload := pad128 ((h.drop 8).take 4 ++ (h.drop 12).take 4 ++ [BitVec.ofNat 8 copy] ++ List.replicate 7 0 ++ dig)
  let s4 := match evsOffer s3 1 payload none with
    | (t, .busy) => (t.setEvs { t.evs with keptBoot := some payload }).setFld Ad.RCC_BOOT_STATUS 8 8 1
    | (t, _) => t
  setRc (setStage s4 0) (fun c => { c with
    boot := 0, mach := true, mstatus := c.mstatus &&& ~~~(8 : Word), pc := w32 (tcmBase + hdr32 h 0x10 + hdr32 h 0x18)
    pmpcfg := upd c.pmpcfg 15 (fun _ => 0x98), pmpaddr := upd c.pmpaddr 15 (fun _ => 0x1FFF) })

/-- The boot ends FAILED with the REASON of its last image (R414). -/
def bootFail (s : State) (r : Nat) : State :=
  let s1 := setRc (setStage (s.setFld Ad.RCC_BOOT_STATUS 31 24 r) 3) (fun c => { c with boot := 0 })
  raise s1 22 (s1.reg Ad.RCC_BOOT_STATUS).toNat

/-- The location of copy B is set: its row is neither blank nor bad (R704). -/
def bootHasB (s : State) : Bool := bit (otpWord s 5 0) 1

/-- BOOT_IMAGE_CHECK: a copy's read has ended. Copy B is tried after copy A unless its row is blank, where REASON_B is 0x01 at
once (R704); the failure of the last image is R414. -/
def bootCheck (s0 : State) (readOk : Bool) : State :=
  let copy := s0.rc.boot
  if copy = 0 then s0
  else
    let r := bootJudge s0 copy readOk
    let s := if 7 ≤ r then bootLoad s0 copy else s0
    if r = 0 then bootPass s copy
    else if copy = 1 then
      let s1 := s.setFld Ad.RCC_BOOT_STATUS 23 16 r
      if bootHasB s0 then setRc s1 (fun c => { c with boot := 2 }) else bootFail s1 1
    else bootFail s r

end Sys2Proof.Machine
end

