-- ==== Sys2Proof/Machine/Acq.lean ====
section
/-!
DEFINITION. Machine/Acq.lean: acquisition (chapter 14) but for what a conversion's end does beyond this block: the sequence
table (R534), the reference (R531, R568), triggers and sequencers (R535, R536, R540 to R542, R557, R559, R560), rings (R544 to
R549, R562, R565, R566), the integrating converter (R550 to R553), and background calibration (R554 to R557, R561).
-/
namespace Sys2Proof.Machine

/-! ### The sequence table (Tables 14-3 to 14-5) -/

/-- An entry as the 64-bit number it is. -/
def acqEnt (b : List Byte) (i : Nat) : Nat := ofBytesLE ((b.drop (32 + 8 * i)).take 8)

/-- Bits hi to lo of a number. -/
def nbf (n hi lo : Nat) : Nat := (n >>> lo) % 2 ^ (hi + 1 - lo)

/-- NREG of a body. -/
def acqNreg (b : List Byte) : Nat := (b.getD 0 0).toNat

/-- NINJ of a body. -/
def acqNinj (b : List Byte) : Nat := (b.getD 1 0).toNat

/-- A trigger source byte within Table 14-5. -/
def trigOk (t : Nat) : Bool :=
  let src := t % 16
  let edge := t / 16 % 4
  decide (src ≤ 9) && decide (edge ≤ 2) && (decide (1 ≤ src ∧ src ≤ 4) || edge == 0) && t / 64 == 0

/-- An entry within Table 14-4. -/
def entOk (e : Nat) (inj : Bool) : Bool :=
  let kind := nbf e 1 0
  let n := nbf e 27 26
  let a := nbf e 7 2
  let b := nbf e 13 8
  let c := nbf e 19 14
  let d := nbf e 25 20
  decide (kind ≤ 2) && decide (a ≤ 39) && decide (b ≤ 39) && decide (c ≤ 39) && decide (d ≤ 39) &&
    (if kind = 1 then (decide (1 ≤ n) || b == 0) && (decide (2 ≤ n) || c == 0) && (decide (3 ≤ n) || d == 0)
     else n == 0 && b == 0 && c == 0 && d == 0) &&
    nbf e 31 30 == 0 && decide (nbf e 35 32 ≤ 8) && decide (nbf e 39 36 ≤ 8) && nbf e 47 43 == 0 &&
    nbf e 58 56 == 0 && nbf e 63 60 == 0 && (!inj || nbf e 59 59 == 0)

/-- Check 0x0C of a sequence body (R534). -/
def acqBodyOk (b : List Byte) : Bool :=
  let nr := acqNreg b
  let ni := acqNinj b
  decide (nr ≤ 32) && decide (ni ≤ 8) && b.length == 32 + 8 * (nr + ni) &&
    trigOk (b.getD 2 0).toNat && trigOk (b.getD 3 0).toNat && decide ((b.getD 4 0).toNat ≤ 1) &&
    ((b.drop 5).take 27).all (· == 0) &&
    (List.range nr).all (fun i => entOk (acqEnt b i) false) && (List.range ni).all (fun i => entOk (acqEnt b (nr + i)) true)

/-! ### State access -/

/-- The block's state replaced. -/
def setAcq (s : State) (f : AcqSt → AcqSt) : State := { s with acq := f s.acq }

/-- A ring's state. -/
def ringOf (s : State) (n : Nat) : AcqRing := s.acq.rings.getD n ⟨0, 1, 0, 0, [], 0, 0, none, 0, false, [], [], 0⟩

/-- A ring's state replaced. -/
def setRing (s : State) (n : Nat) (f : AcqRing → AcqRing) : State := setAcq s (fun (a : AcqSt) => { a with rings := upd a.rings n f })

/-- Event bits of ACQ_EVT. -/
def acqEvt (s : State) (b : Nat) : State := sqEvt s Ad.ACQ_EVT (2 ^ b)

/-- A valley entry that stops ANA has reached step 4 of Table 2-3 (R562). -/
def acqStopping (s : State) : Bool :=
  (s.isl.stage == .drain || s.isl.stage == .park || s.isl.stage == .gbDrain || s.isl.stage == .waitWfi) &&
    (decide (s.isl.goal = 3) || (decide (s.isl.goal = 2) && !s.fld Ad.CP_VALLEY 2 2 == 1))

/-- Records go to the hold buffer: from step 4 of an entry to Glen until the exit has completed (R562). -/
def acqHolding (s : State) : Bool :=
  ((s.isl.stage == .drain || s.isl.stage == .park || s.isl.stage == .waitWfi) && decide (s.isl.goal = 2)) || decide (2 ≤ s.depth)

/-! ### Rings (R544 to R549) -/

/-- EN of a ring. -/
def ringEn (s : State) (n : Nat) : Bool := bit (s.reg (Ad.ACQ_BUF_CTRL n)) 0

/-- Bytes of a record of a ring, and records per line (R545). -/
def recLen (n : Nat) : Nat := if n = 8 then 16 else 8

/-- Capacity C of a ring. -/
def ringCap (n : Nat) (r : AcqRing) : Nat := 64 / recLen n * r.size

/-- A SAR record (Table 14-7). -/
def sarBytes (r : AcqRec) : List Byte :=
  toBytesLE 8 (r.time % 2 ^ 40 * 2 ^ 24 + r.ch % 64 * 2 ^ 18 + b2n r.inj * 2 ^ 17 + b2n r.bad * 2 ^ 16 + r.val.toNat % 65536)

/-- An EPOCH marker (R544). -/
def epochBytes (time : Nat) : List Byte := toBytesLE 8 (time / 2 ^ 40 % 2 ^ 24 * 2 ^ 24 + 63 * 2 ^ 18)

/-- A GAP marker (R544). -/
def gapBytes (now lost : Nat) : List Byte := toBytesLE 8 (now % 2 ^ 40 * 2 ^ 24 + 63 * 2 ^ 18 + 2 ^ 16 + min lost 0xFFFF)

/-- An IADC record (Table 14-8). -/
def iadcBytes (r : AcqRec) : List Byte :=
  toBytesLE 8 r.time ++ toBytesLE 3 (unsx 24 r.val) ++ [BitVec.ofNat 8 (r.ch % 64 + 64 * b2n r.bad + 128 * b2n r.fine)] ++ toBytesLE 4 r.tint

/-- Line writes issued while fewer than 16 are outstanding (R548). -/
def acqIssue : Nat → State → State
  | 0, s => s
  | n + 1, s =>
    match s.acq.outq with
    | [] => s
    | o :: t =>
      if 16 ≤ s.acq.outst.length then s
      else
        let s1 := setAcq s (fun (a : AcqSt) => { a with outq := t, outst := a.outst ++ [(o.ring, o.id)] })
        let who : Ag0Who := if o.wr then .acqWr o.ring o.id else .acqData o.ring o.id
        let s2 := ag0Req s1 who (if o.full then .writeFull else .writePartial) o.ten o.line false o.data o.mask
        let s3 := setRing s2 o.ring (fun (r : AcqRing) => { r with shown := o.data.toNat % 2 ^ 64 })
        acqIssue n (if o.wr then evcSet s3 (76 + o.ring) (o.data.toNat % 2 ^ 32) else s2)

/-- A line write queued behind those that wait. -/
def acqWrite (s : State) (o : AcqOut) : State :=
  acqIssue 16 (setAcq s (fun (a : AcqSt) => { a with outq := a.outq ++ [{ o with id := a.nextId }], nextId := a.nextId + 1 }))

/-- The line of record k of a ring. -/
def recLine (n : Nat) (r : AcqRing) (k : Nat) : Nat := r.base + 1 + (k % ringCap n r) * recLen n / 64

/-- The collected bytes of a ring's line written out: WriteFull when the line is full, else the new bytes by WritePartial. -/
def ringOut (s : State) (n : Nat) : State :=
  let r := ringOf s n
  if r.line.length ≤ r.flushed then s
  else
    let full := decide (64 ≤ r.line.length)
    let id := s.acq.nextId
    let s1 := setRing s n (fun (r : AcqRing) => { r with
      line := if full then [] else r.line
      flushed := if full then 0 else r.line.length
      acks := r.acks ++ [(id, r.wr, false)] })
    let mask : BitVec 64 := BitVec.ofNat 64 (2 ^ r.line.length - 2 ^ (if full then 0 else r.flushed))
    acqWrite s1 ⟨n, false, id, r.ten, recLine n r (r.wr - 1), full, BitVec.ofNat 512 (ofBytesLE r.line), mask⟩

/-- One record appended to a ring (R546). -/
def ringEmit (s : State) (n : Nat) (b : List Byte) : State :=
  let s1 := setRing s n (fun (r : AcqRing) => { r with line := r.line ++ b, wr := r.wr + 1 })
  let s2 := cvuItem 2 n 0 b s1
  if 64 ≤ (ringOf s2 n).line.length then ringOut s2 n else s2

/-- The ring has room for record k (R547). -/
def ringRoom (s : State) (n : Nat) : Bool :=
  let r := ringOf s n
  bit (s.reg (Ad.ACQ_BUF_CTRL n)) 1 || decide (r.wr - r.rd < ringCap n r)

/-- The markers due before a result, then the result (R544). IADC records carry their whole time and no CH of
63, so their ring has none. (DEDUCED, log 67.) -/
def recBytes (s : State) (n : Nat) (x : AcqRec) : List (List Byte) :=
  if n = 8 then [iadcBytes x]
  else
    let r := ringOf s n
    (if r.epoch = some (x.time / 2 ^ 40) then [] else [epochBytes x.time])
      ++ (if r.lost = 0 then [] else [gapBytes s.now r.lost]) ++ [sarBytes x]

/-- Records appended while there is room; true when all have been. A marker once written is not due again. -/
def ringEmits (n time : Nat) : State → List (List Byte) → State × Bool
  | s, [] => (s, true)
  | s, b :: t =>
    if ringRoom s n then
      let gap := t.length == 1 && (ringOf s n).lost != 0
      let s1 := setRing (ringEmit s n b) n (fun (r : AcqRing) => { r with
        epoch := some (time / 2 ^ 40), full := false, lost := if gap || t.isEmpty then 0 else r.lost })
      ringEmits n time s1 t
    else (s, false)

/-- A result lost at a full ring (R547), or in the hold buffer (R562). -/
def ringLose (s : State) (n : Nat) (full : Bool) : State :=
  let s1 := pcu 0x6A 0 1 ((setRing s n (fun (r : AcqRing) => { r with lost := r.lost + 1, full := r.full || full })).inc (Ad.ACQ_BUF_LOST n))
  acqEvt s1 (if full then 11 else 13)

/-- A result for a ring: written if the cached RD allows, else it waits for a read of RD (R547). -/
def ringPut (s : State) (n : Nat) (x : AcqRec) : State :=
  if !(ringOf s n).wait.isEmpty then setRing s n (fun (r : AcqRing) => { r with wait := r.wait ++ [x] })
  else
    match ringEmits n x.time s (recBytes s n x) with
    | (s1, true) => s1
    | (s1, false) =>
      let r := ringOf s1 n
      ag0Req (setRing s1 n (fun (r : AcqRing) => { r with wait := [x] })) (.acqRd n) .readOnce r.ten r.base false 0 0

/-- A result that has waited for RD: written, or lost if the ring is still full. -/
def ringRetry (n : Nat) (s : State) (x : AcqRec) : State :=
  match ringEmits n x.time s (recBytes s n x) with
  | (s1, true) => s1
  | (s1, false) => ringLose s1 n true

/-- A result delivered to its ring: discarded while EN is 0, held in Glen (R562, R565). -/
def ringResult (s : State) (n : Nat) (x : AcqRec) : State :=
  if !ringEn s n then s
  else if acqHolding s && !acqStopping s then
    let cap := if n = 8 then 32 else 512
    if (s.acq.hold.filter (fun h => (h.1 == 8) == (n == 8))).length < cap then
      setAcq s (fun (a : AcqSt) => { a with hold := a.hold ++ [(n, x)] })
    else ringLose s n false
  else ringPut s n x

/-- Held records written once the exit has completed (R562). -/
def acqUnhold (s : State) : State :=
  if acqHolding s then s
  else s.acq.hold.foldl (fun s h => if ringEn s h.1 then ringPut s h.1 h.2 else s) (setAcq s (fun (a : AcqSt) => { a with hold := [] }))

/-- A ring's failure (R566). -/
def ringFail (s : State) (n : Nat) : State :=
  let s1 := setRing s n (fun (r : AcqRing) => { r with line := [], flushed := 0, wait := [], acks := [] })
  let s2 := setAcq s1 (fun (a : AcqSt) => { a with outq := a.outq.filter (fun o => o.ring != n) })
  let s3 := (s2.setFld (Ad.ACQ_BUF_CTRL n) 31 31 1).setFld (Ad.ACQ_BUF_CTRL n) 0 0 0
  raise (acqEvt s3 12) 35 n

/-- Records covered by acknowledged data writes, oldest first. -/
def ackedTo : List (Nat × Nat × Bool) → Option Nat
  | (_, k, true) :: t => some ((ackedTo t).getD k)
  | _ => none

/-- The acknowledged prefix of the data writes dropped. -/
def ackDrop : List (Nat × Nat × Bool) → List (Nat × Nat × Bool)
  | (i, k, true) :: t => let _ := (i, k); ackDrop t
  | l => l

/-- A line write no longer outstanding. -/
def acqReturned (s : State) (n id : Nat) : State := setAcq s (fun (a : AcqSt) => { a with outst := a.outst.erase (n, id) })

/-- RING_WRITE_ACK: an answer to a write of the ring (R546, R566). -/
def ringAck (s : State) (n : Nat) : State :=
  match s.ha.ag0.find? (fun r => match r.who with | .acqData k _ => k == n | .acqWr k _ => k == n | _ => false) with
  | none => s
  | some a =>
    let s0 := ag0Drop s a.who
    match a.who with
    | .acqData _ id =>
      let s1 := acqIssue 16 (acqReturned s0 n id)
      if a.kind = .retry then (if (ringOf s1 n).acks.any (fun x => x.1 == id) then ringFail s1 n else s1)
      else
        let s2 := setRing s1 n (fun (r : AcqRing) => { r with acks := r.acks.map (fun x => if x.1 == id then (x.1, x.2.1, true) else x) })
        let r := ringOf s2 n
        match ackedTo r.acks with
        | none => s2
        | some k =>
          acqWrite (setRing s2 n (fun (r : AcqRing) => { r with acks := ackDrop r.acks }))
            ⟨n, true, 0, r.ten, r.base, false, BitVec.ofNat 512 k, 0xFF⟩
    | .acqWr _ id =>
      let s1 := acqIssue 16 (acqReturned s0 n id)
      if a.kind = .retry then ringFail s1 n else s1
    | _ => s0

/-- RING_RD_READ_RETURN: the read of RD is answered (R547, R566). -/
def ringRd (s : State) (n : Nat) : State :=
  match ag0Take s (.acqRd n) with
  | none => s
  | some (a, s0) =>
    if a.kind = .data then
      let w := (ringOf s0 n).wait
      let s1 := setRing s0 n (fun (r : AcqRing) => { r with rd := a.line.toNat / 2 ^ 64 % 2 ^ 64, wait := [] })
      w.foldl (ringRetry n) s1
    else if ringEn s0 n then ringFail s0 n
    else setRing s0 n (fun (r : AcqRing) => { r with wait := [] })

/-- RING_FLUSH_TIMER, the end of a pass and the like: the partial line written (R546). -/
def ringFlush (s : State) (n : Nat) : State := ringOut s n

/-- A write of a ring's EN (R544, R565, R566). -/
def ringEnable (s : State) (n : Nat) (en : Bool) : State :=
  if en then
    let s0 := s.setFld (Ad.ACQ_BUF_CTRL n) 31 31 0
    if ringEn s n then s0
    else
      let s1 := setRing (s0.setFld (Ad.ACQ_BUF_CTRL n) 0 0 1) n (fun _ =>
        ⟨(s.reg (Ad.ACQ_BUF_BASE n)).toNat, max 1 (s.fld (Ad.ACQ_BUF_SIZE n) 16 0), s.fld (Ad.ACQ_BUF_CTRL n) 25 16,
          0, [], 0, 0, none, 0, false, [], [], 0⟩)
      if n = 8 then s1
      else setRing (ringEmit s1 n (epochBytes s.now)) n (fun (r : AcqRing) => { r with epoch := some (s.now / 2 ^ 40) })
  else if ringEn s n then ringFlush (s.setFld (Ad.ACQ_BUF_CTRL n) 0 0 0) n
  else s

/-! ### The reference (R531, R568) -/

/-- SEL in effect: 3 acts as 0. -/
def refSel (s : State) : Nat := let x := s.fld Ad.ACQ_REF 1 0; if x = 3 then 0 else x

/-- REF_OK. -/
def refOk (s : State) : Bool := s.acq.settled && (refSel s != 1 || s.acq.refinOk)

/-- Every conversion and integration in progress becomes suspect while REF_OK is 0 (R532). -/
def refTaint (s : State) : State :=
  if refOk s then s
  else setAcq s (fun (a : AcqSt) => { a with
    runs := a.runs.map (fun (r : AcqRun) => { r with lanes := r.lanes.map (fun (l : AcqLane) => { l with cur := l.cur || l.live }) })
    iadc := a.iadc.map (fun (i : IadcRun) => { i with bad := true }) })

/-- A strobe that changes SEL: REF_OK clears, and for VDDA sets at once; REFIN selected while out of its range is R568's case. -/
def refStrobe (s : State) : State :=
  let s1 := refTaint (setAcq s (fun (a : AcqSt) => { a with settled := false }))
  if refSel s = 2 then setAcq s1 (fun (a : AcqSt) => { a with settled := true })
  else if refSel s = 1 ∧ !s.acq.refinOk then raise (acqEvt s1 8) 34 (s.fld Ad.ACQ_REF 1 0)
  else s1

/-- REF_OK_TIMER: the settling time has passed. -/
def refTimer (s : State) : State := setAcq s (fun (a : AcqSt) => { a with settled := true })

/-- REFIN_OUT_OF_RANGE (R568). -/
def refinBad (s : State) : State :=
  if !s.acq.refinOk then s
  else
    let s1 := refTaint (setAcq s (fun (a : AcqSt) => { a with refinOk := false }))
    if refSel s = 1 then raise (acqEvt s1 8) 34 (s.fld Ad.ACQ_REF 1 0) else s1

/-- REFIN_RETURN. -/
def refinGood (s : State) : State := setAcq s (fun (a : AcqSt) => { a with refinOk := true })

/-! ### Triggers and sequencers -/

/-- Legal sample phase in ns (Table 14-2). -/
def smpNs (c : Nat) : Nat := if c = 0 then 200 else if c = 1 then 500 else if c = 2 then 1000 else 2000

/-- A logical slice has a conversion in progress. -/
def sliceLive (s : State) (l : Nat) : Bool := s.acq.runs.any (fun r => r.lanes.any (fun x => x.sl == l && x.live))

/-- Free logical slices, lowest first. -/
def freeSlices (s : State) : List Nat := (List.range 4).filter (fun l => !sliceLive s l)

/-- The slices an injected entry needs: those of a SIM entry, or the lowest free ones, made up with the lowest in use. -/
def injNeeds (s : State) (e : Nat) : List Nat :=
  if nbf e 1 0 = 1 then List.range (nbf e 27 26 + 1)
  else
    let n := if nbf e 1 0 = 2 then 2 else 1
    let f := freeSlices s
    (f ++ (List.range 4).filter (fun l => !f.contains l)).take n

/-- Conversions of a run on some slices discarded; all of a SIM entry's (R541). -/
def discardRun (need : List Nat) (r : AcqRun) : AcqRun :=
  let hit := r.lanes.any (fun l => l.live && need.contains l.sl)
  if r.inj then r
  else { r with lanes := r.lanes.map (fun (l : AcqLane) =>
    if l.live && (need.contains l.sl || (r.kind == 1 && hit)) then { l with live := false } else l) }

/-- Conversions in progress in a list of runs. -/
def liveCount (l : List AcqRun) : Nat := (l.map (fun r => (r.lanes.filter AcqLane.live).length)).foldl (· + ·) 0

/-- The injected sequence starts (R541). -/
def injStart (s : State) : State :=
  let b := s.acq.injTbl
  let need := (List.range (acqNinj b)).flatMap (fun i => injNeeds s (acqEnt b (acqNreg b + i)))
  let runs := s.acq.runs.map (discardRun need)
  let n := liveCount s.acq.runs - liveCount runs
  let s1 := setAcq s (fun (a : AcqSt) => { a with injRun := true, injNext := 0, runs := runs, convs := a.convs + n })
  pcu 0x68 0 n (pcu 0x69 0 n ((s1.incBy (Ad.ACQ_COUNT 0) n).incBy (Ad.ACQ_COUNT 1) n))

/-- A trigger ignored because its sequence or integration runs (R542, R552). -/
def trigOver (s : State) (b : Nat) : State := acqEvt (s.inc (Ad.ACQ_COUNT 3)) b

/-- An injected trigger. -/
def injTrigger (s : State) : State :=
  if acqNinj s.acq.injTbl = 0 then s else if s.acq.injRun then trigOver s 5 else injStart s

/-- The regular sequencer stands at an entry that waits (R535). -/
def atWait (s : State) : Bool :=
  let a := s.acq
  a.regRun && !a.regGo && a.regNext != 0 && decide (a.regNext < acqNreg a.regTbl) && nbf (acqEnt a.regTbl a.regNext) 59 59 == 1

/-- A regular trigger. -/
def regTrigger (s : State) : State :=
  if acqNreg s.acq.regTbl = 0 then s
  else if atWait s then setAcq s (fun (a : AcqSt) => { a with regGo := true })
  else if s.acq.regRun then trigOver s 4
  else setAcq s (fun (a : AcqSt) => { a with regRun := true, regNext := 0, regGo := false, regStop := false })

/-- Integration time of a mode in ns: 0 timed with `tint`, 1 the 20 ms preset, 2 the 16.667 ms preset. -/
def iadcTime (mode tint : Nat) : Nat := if mode = 0 then tint else if mode = 2 then 16666667 else 20000000

/-- An integration starts (R550, R551): in line-following mode it waits for a rising edge, unless it starts at one. -/
def iadcBegin (s : State) (mode ch tint : Nat) (lathe : Option Nat) (atEdge : Bool) : State :=
  let m := if mode = 3 ∧ s.acq.lineLost then 1 else mode
  let e := if m = 3 ∧ atEdge then some (max 1 (s.fld Ad.ACQ_IADC_CFG 19 16)) else none
  setAcq s (fun (a : AcqSt) => { a with iadc := some ⟨s.now, m, ch, iadcTime m tint, lathe, !refOk s, e⟩ })

/-- CH of ACQ_IADC_CFG: values above 39 act as 39. -/
def iadcCh (s : State) : Nat := min 39 (s.fld Ad.ACQ_IADC_CFG 5 0)

/-- An integration of the ACQ's own (OWNER 0). -/
def iadcOwn (s : State) (atEdge : Bool) : State :=
  let t := s.fld Ad.ACQ_IADC_TINT 19 0
  iadcBegin s (s.fld Ad.ACQ_IADC_CFG 9 8) (iadcCh s) ((if t < 1000 then 1000 else if 1000000 < t then 1000000 else t) * 1000) none atEdge

/-- A trigger of the IADC (R552, R553). -/
def iadcTrigger (s : State) : State :=
  if s.acq.owner ≠ 0 then s
  else if s.acq.iadc.isSome then trigOver s 6
  else iadcOwn s false

/-- A trigger source byte names the source and edge. -/
def trigHit (t src : Nat) (rising : Bool) : Bool :=
  let e := t / 16 % 4
  decide (src ≠ 0) && t % 16 == src && (decide (4 < src) || e == 2 || (e == 0 && rising) || (e == 1 && !rising))

/-- TRIG and EDGE of ACQ_IADC_CFG as a trigger source byte. -/
def iadcTrig (s : State) : Nat := s.fld Ad.ACQ_IADC_CFG 27 24 + 16 * s.fld Ad.ACQ_IADC_CFG 29 28

/-- A trigger acts: 20 to 22 are the commands REG_START, INJ_START and IADC_START; otherwise a source of Table 14-5. Injected
is taken before regular, which is then kept until the injected sequence ends (R559). -/
def acqTrigNow (s : State) (src : Nat) (rising : Bool) : State :=
  if src = 20 then regTrigger s
  else if src = 21 then injTrigger s
  else if src = 22 then iadcTrigger s
  else
    let b := s.acq.regTbl
    let inj := trigHit (s.acq.injTbl.getD 3 0).toNat src rising && acqNinj s.acq.injTbl != 0
    let reg := trigHit (b.getD 2 0).toNat src rising && acqNreg b != 0
    let s1 := if inj then injTrigger s else s
    let s2 := if reg then
        if inj && !s.acq.injRun then setAcq s1 (fun (a : AcqSt) => { a with keptReg := true }) else regTrigger s1
      else s1
    if trigHit (iadcTrig s) src rising then iadcTrigger s2 else s2

/-- Triggers and commands are accepted: EN, ANA not stopping, the ACQ not contained (Table 14-12, R562, Table 19-3). -/
def acqOpen (s : State) : Bool := bit (s.reg Ad.ACQ_CTRL) 0 && !contained s 28 && !acqStopping s

/-- A trigger arrives: kept during the calibration of R557, one per source. -/
def acqTrig (s : State) (src : Nat) (rising : Bool) : State :=
  if !acqOpen s then s
  else if s.acq.boot then
    if s.acq.kept.any (fun k => k.1 == src) then s else setAcq s (fun (a : AcqSt) => { a with kept := a.kept ++ [(src, rising)] })
  else acqTrigNow s src rising

/-- A command of ACQ_CTRL is ignored (Table 14-12). -/
def cmdIgn (s : State) (n : Nat) : Bool := !bit (s.reg Ad.ACQ_CTRL) 0 || n == 0

/-- ACQ_CTRL.REG_START. -/
def cmdRegStart (s : State) : State := if cmdIgn s (acqNreg s.acq.regTbl) then acqEvt s 14 else acqTrig s 20 true

/-- ACQ_CTRL.INJ_START. -/
def cmdInjStart (s : State) : State := if cmdIgn s (acqNinj s.acq.injTbl) then acqEvt s 14 else acqTrig s 21 true

/-- ACQ_CTRL.IADC_START. -/
def cmdIadcStart (s : State) : State := if cmdIgn s 1 then acqEvt s 14 else acqTrig s 22 true

/-- OWNER of ACQ_IADC_CFG: values above 4 act as 0. -/
def ownerReg (s : State) : Nat := let x := s.fld Ad.ACQ_IADC_CFG 14 12; if 4 < x then 0 else x

/-- The IADC is free again: OWNER as configured takes effect (R553). -/
def iadcFree (s : State) : State := setAcq s (fun (a : AcqSt) => { a with iadc := none, owner := ownerReg s })

/-- An integration ends without a result. -/
def iadcCancel (s : State) : State := if s.acq.iadc.isSome then iadcFree s else s

/-- ACQ_CTRL.IADC_STOP; the Lathe that owns the IADC sets its commands (R552, R553). -/
def cmdIadcStop (s : State) : State :=
  if cmdIgn s 1 then acqEvt s 14 else if s.acq.owner ≠ 0 then s else iadcCancel s

/-- The rings that the regular entries of a table write. -/
def passRings (b : List Byte) : List Nat :=
  (List.range 8).filter (fun n => (List.range (acqNreg b)).any (fun i => nbf (acqEnt b i) 42 40 == n))

/-- Partial lines of the regular rings written at the end of a pass (R546). -/
def passFlush (s : State) : State := (passRings s.acq.regTbl).foldl ringFlush s

/-- A run all of whose samples are taken. -/
def runDone (r : AcqRun) : Bool := r.lanes.all (fun l => decide (2 ^ r.avg ≤ l.cnt))

/-- The value of a lane (R537). -/
def laneVal (r : AcqRun) (l : AcqLane) : Nat := min (l.sum >>> r.shift) 0xFFFF

/-- The records of a finished entry (R537 to R539), and the effects of a mismatch; a SIM record's suspect bit is that of its own
channel's samples. (DEDUCED, log 67.) -/
def runRecord (s : State) (r : AcqRun) : State :=
  let t := r.stamp.getD 0
  let bad := r.lanes.any AcqLane.bad
  match r.kind, r.lanes with
  | 2, [x, y] =>
    let a := laneVal r x
    let b := laneVal r y
    let off := decide (r.ptol < (if a ≤ b then b - a else a - b))
    let s1 := ringResult s r.buf ⟨t, x.ch, r.inj, bad || off, ((a + b) / 2 : Nat), false, 0⟩
    if off then
      let s2 := (acqEvt s1 3).inc (Ad.ACQ_COUNT 2)
      let s3 := s2.setReg Ad.ACQ_PLAUS_LAST (w32 (x.ch * 2 ^ 24 + min b 4095 * 2 ^ 12 + min a 4095))
      raise s3 32 (s3.reg Ad.ACQ_PLAUS_LAST).toNat
    else s1
  | 1, l => l.foldl (fun s x => ringResult s r.buf ⟨t, x.ch, r.inj, x.bad, laneVal r x, false, 0⟩) s
  | _, x :: _ => ringResult s r.buf ⟨t, x.ch, r.inj, bad, laneVal r x, false, 0⟩
  | _, [] => s

/-- The first finished entry that no unfinished entry of its own sequence started before (`blocked`: of the regular and of the
injected sequence), and the other entries. (DEDUCED, log 48.) -/
def firstDone (reg inj : Bool) : List AcqRun → Option (AcqRun × List AcqRun)
  | [] => none
  | r :: t =>
    if runDone r && !(if r.inj then inj else reg) then some (r, t)
    else (firstDone (reg || !r.inj) (inj || r.inj) t).map (fun x => (x.1, r :: x.2))

/-- Finished entries recorded, those of each sequence in start order (R536; DEDUCED from step 5 of Table 14-6, log entry 48). -/
def acqRecord : Nat → State → State
  | 0, s => s
  | n + 1, s =>
    match firstDone false false s.acq.runs with
    | some (r, t) => acqRecord n (runRecord (setAcq s (fun (a : AcqSt) => { a with runs := t })) r)
    | none => s

/-- The injected sequence's end (R541, R559, R560). -/
def injSettle (s : State) : State :=
  let a := s.acq
  if a.injRun ∧ acqNinj a.injTbl ≤ a.injNext ∧ !a.runs.any AcqRun.inj then
    let s1 := setAcq (acqEvt s 1) (fun (a : AcqSt) => { a with injRun := false, injNext := 0 })
    let s2 := if a.injNew then setAcq s1 (fun (a : AcqSt) => { a with injTbl := (tblBody s1 4).getD [], injNew := false }) else s1
    if a.keptReg then regTrigger (setAcq s2 (fun (a : AcqSt) => { a with keptReg := false })) else s2
  else s

/-- The regular sequencer idle at entry 0. -/
def regIdle (a : AcqSt) : AcqSt := { a with regRun := false, regNext := 0, regGo := false, regStop := false }

/-- The regular pass's end, its stop, and a newer table (R535, R560). -/
def regSettle (s : State) : State :=
  let a := s.acq
  let none := !a.runs.any (fun r => !r.inj)
  if a.regNew && (!a.regRun || none || atWait s) then
    let s1 := if a.regRun && none && decide (acqNreg a.regTbl ≤ a.regNext) then passFlush (acqEvt s 0)
              else if a.regRun && none && a.regStop then acqEvt s 0 else s
    setAcq s1 (fun (a : AcqSt) => { regIdle a with regTbl := (tblBody s 4).getD [], regNew := false })
  else if a.regRun && none && a.regStop then setAcq (acqEvt s 0) regIdle
  else if a.regRun && none && decide (acqNreg a.regTbl ≤ a.regNext) then
    let s1 := passFlush (acqEvt s 0)
    if (a.regTbl.getD 4 0).toNat = 1 then setAcq s1 (fun (a : AcqSt) => { a with regNext := 0, regGo := false }) else setAcq s1 regIdle
  else s

/-- Before ANA stops: partial lines and WR written once nothing converts (R562). -/
def stopSettle (s : State) : State :=
  if acqStopping s && liveCount s.acq.runs == 0 && s.acq.iadc.isNone then (List.range 9).foldl ringFlush s else s

/-- Nothing is left to be written or converted before ANA stops (R562). -/
def acqQuiet (s : State) : Bool :=
  liveCount s.acq.runs == 0 && s.acq.iadc.isNone && s.acq.outst.isEmpty && s.acq.outq.isEmpty
    && s.acq.rings.all (fun r => decide (r.line.length ≤ r.flushed))

/-- The block's own progress. -/
def acqProgress (s : State) : State := stopSettle (acqUnhold (regSettle (injSettle (acqRecord 40 s))))

/-- ACQ_CTRL.REG_STOP (R535). -/
def cmdRegStop (s : State) : State :=
  if cmdIgn s (acqNreg s.acq.regTbl) then acqEvt s 14
  else if s.acq.regRun then setAcq s (fun (a : AcqSt) => { a with regStop := true }) else s

/-- A table activation reaches the sequencers (R560). -/
def acqTblStrobe (s : State) : State :=
  let s1 := setAcq s (fun (a : AcqSt) => { a with regNew := true, injNew := a.injRun })
  if s.acq.injRun then s1 else setAcq s1 (fun (a : AcqSt) => { a with injTbl := (tblBody s 4).getD [] })

/-! ### Starting entries and samples -/

/-- A channel is in the sample phase of a slice of another of the entries started (R530). -/
def sampling (s : State) (own : Option AcqRun) (ch : Nat) : Bool :=
  s.acq.runs.any (fun r => decide (own ≠ some r) &&
    r.lanes.any (fun l => l.live && l.ch == ch && decide (s.now < l.t0 + smpNs r.smp)))

/-- A sample that starts now is suspect from the start: REF_OK 0, the test DAC just changed, or a FAILED slice (R532, R556, R558). -/
def sampleBad (s : State) (sl ch : Nat) : Bool :=
  !refOk s || (match s.acq.tdac with | some (t, l) => l.contains ch && decide (s.now < t + 5000) | none => false)
    || s.acq.failed.contains (s.acq.map.getD sl 7)

/-- A lane whose sample phase starts now. -/
def laneStart (s : State) (l : AcqLane) : AcqLane := { l with live := true, t0 := s.now, cur := sampleBad s l.sl l.ch }

/-- The channels of an entry in lane order. -/
def entChans (e : Nat) : List Nat :=
  if nbf e 1 0 = 1 then [nbf e 7 2, nbf e 13 8, nbf e 19 14, nbf e 25 20].take (nbf e 27 26 + 1)
  else if nbf e 1 0 = 2 then [nbf e 7 2, nbf e 7 2]
  else [nbf e 7 2]

/-- The slices an entry takes now, if they are free (R536). -/
def entSlices (s : State) (e : Nat) : Option (List Nat) :=
  let f := freeSlices s
  let want := if nbf e 1 0 = 1 then List.range (nbf e 27 26 + 1) else f.take (if nbf e 1 0 = 2 then 2 else 1)
  if want.all f.contains && want.length == (entChans e).length then some want else none

/-- Entries in flight, discarded ones aside (R536: at most four). -/
def inFlight (s : State) : Nat := (s.acq.runs.filter (fun r => runDone r || r.lanes.any AcqLane.live)).length

/-- The entry starts, if R530 and R536 allow. -/
def entStart (s : State) (e : Nat) (inj : Bool) : Option State :=
  match entSlices s e with
  | none => none
  | some sl =>
    if (entChans e).any (sampling s none) || decide (4 ≤ inFlight s) then none
    else
      let lanes := (List.zip sl (entChans e)).map (fun x => laneStart s ⟨x.1, x.2, 0, 0, false, 0, false, false⟩)
      let r : AcqRun := ⟨inj, nbf e 1 0, nbf e 29 28, nbf e 35 32, nbf e 39 36, nbf e 42 40, nbf e 55 48, lanes, none⟩
      some (setAcq s (fun (a : AcqSt) => { a with runs := a.runs ++ [r] }))

/-- A lane of a run that stands between two of its samples, or whose conversion was discarded. -/
def laneWaits (r : AcqRun) (l : AcqLane) : Bool := !l.live && decide (l.cnt < 2 ^ r.avg)

/-- The lanes of a run of the given sequence that were stopped start their next sample (R541), once R530 allows all of them. -/
def runResume (s : State) (inj : Bool) (r : AcqRun) : AcqRun :=
  if r.inj != inj || r.lanes.any (fun l => laneWaits r l && sampling s (some r) l.ch) then r
  else { r with lanes := r.lanes.map (fun (l : AcqLane) => if laneWaits r l then laneStart s l else l) }

/-- The next sample on a slice follows the last at once (R537), unless R530 holds it back, a valley entry that stops ANA (R562), or,
for a regular entry, the injected sequence (R541). -/
def laneNext (s : State) (inj : Bool) (sl : Nat) : State :=
  if (!inj && s.acq.injRun) || acqStopping s then s
  else setAcq s (fun (a : AcqSt) => { a with runs := a.runs.map (fun r =>
    if r.inj != inj then r
    else { r with lanes := r.lanes.map (fun (l : AcqLane) =>
      if l.sl == sl && laneWaits r l && !sampling s (some r) l.ch then laneStart s l else l) }) })

/-- ACQ_ENTRY_START: samples that were held back; else the next injected entry; else conversions the injected sequence discarded are
repeated; else the next regular entry (R535, R536, R541). (DEDUCED, log 48.) -/
def acqEntryStart (s : State) : State :=
  let a := s.acq
  if acqStopping s || a.boot then s
  else if a.injRun then
    let rs := a.runs.map (runResume s true)
    if rs ≠ a.runs then setAcq s (fun (a : AcqSt) => { a with runs := rs })
    else if acqNinj a.injTbl ≤ a.injNext then s
    else
      match entStart s (acqEnt a.injTbl (acqNreg a.injTbl + a.injNext)) true with
      | some s1 => setAcq s1 (fun (a : AcqSt) => { a with injNext := a.injNext + 1 })
      | none => s
  else if a.runs.any (fun r => !r.inj && r.lanes.any (laneWaits r)) then
    setAcq s (fun (a : AcqSt) => { a with runs := a.runs.map (runResume s false) })
  else if !a.regRun || a.regStop || a.regNew || atWait s || decide (acqNreg a.regTbl ≤ a.regNext) then s
  else
    match entStart s (acqEnt a.regTbl a.regNext) false with
    | some s1 => setAcq s1 (fun (a : AcqSt) => { a with regNext := a.regNext + 1, regGo := false })
    | none => s

/-! ### Calibration (R554 to R557, R561) -/

/-- A swap that is due takes place at the next boundary of its slice's conversions. -/
def calTry (s : State) : State :=
  let a := s.acq
  match a.spare with
  | none => s
  | some p =>
    if !a.swapDue || !bit (s.reg Ad.ACQ_CAL_CFG) 8 || sliceLive s a.swapAt || a.boot then s
    else setAcq s (fun (a : AcqSt) => { a with
      map := upd a.map a.swapAt (fun _ => p), spare := none, cal := a.cal ++ [a.map.getD a.swapAt 0]
      swapAt := (a.swapAt + 1) % 4, swapDue := false, convs := 0 })

/-- CAL_SWAP: a swap falls due (R554). -/
def calSwap (s : State) : State :=
  if !bit (s.reg Ad.ACQ_CAL_CFG) 8 ∨ s.acq.spare.isNone then s
  else calTry (setAcq s (fun (a : AcqSt) => { a with swapDue := true }))

/-- Another conversion has ended or been discarded (ACQ_CONV_COUNT, R554). -/
def convCount (s : State) : State :=
  let s1 := pcu 0x68 0 1 ((setAcq s (fun (a : AcqSt) => { a with convs := a.convs + 1 })).inc (Ad.ACQ_COUNT 0))
  let n := s.fld Ad.ACQ_CAL_CFG 31 16
  if n ≠ 0 ∧ n * 1000 ≤ s1.acq.convs then calSwap s1 else s1

/-- A slice FAILED (R556): it leaves rotation; a second stays in service. -/
def calFail (s : State) (p : Nat) : State :=
  let s1 := setAcq s (fun (a : AcqSt) =>
    if a.failed.isEmpty then
      match a.map.findIdx? (· == p), a.spare with
      | some i, some q => { a with failed := [p], map := upd a.map i (fun _ => q), spare := none }
      | some _, none => { a with failed := [p] }
      | none, _ => { a with failed := [p], spare := none }
    else if a.failed.contains p then a else { a with failed := a.failed ++ [p] })
  raise (acqEvt s1 7) 33 p

/-- CAL_DONE of a physical slice with the trims found: the offset in 1/64 LSB, the gain in 10 ppm; none where they lie beyond the
limits of R556 (R555 to R557). -/
def calDone (s : State) (p : Nat) (found : Option (Int × Int)) : State :=
  if !s.acq.cal.contains p then s
  else
    let s0 := setAcq s (fun (a : AcqSt) => { a with cal := a.cal.filter (· != p) })
    let good := found.filter (fun x => decide (-1024 ≤ x.1 ∧ x.1 ≤ 1024 ∧ -1000 ≤ x.2 ∧ x.2 ≤ 1000))
    let s1 : State :=
      match good with
      | none => calFail s0 p
      | some (offset, gain) =>
        let s2 := s0.setReg (Ad.ACQ_TRIM p) (w32 (unsx 16 gain * 65536 + unsx 16 offset))
        if s.acq.failed.isEmpty ∧ !s.acq.map.contains p then setAcq s2 (fun (a : AcqSt) => { a with spare := some p }) else s2
    if s1.acq.boot ∧ s1.acq.cal.isEmpty then
      let k := s1.acq.kept
      k.foldl (fun s t => if acqOpen s then acqTrigNow s t.1 t.2 else s) (setAcq s1 (fun (a : AcqSt) => { a with boot := false, kept := [] }))
    else calTry s1

/-- ANA starts: sequencers idle, all five slices calibrated first (R557, R563). -/
def acqAnaStart (s : State) : State :=
  let s1 := setAcq s (fun (a : AcqSt) => { regIdle a with
    injRun := false, injNext := 0, runs := [], iadc := none, keptReg := false, cal := List.range 5, boot := true, kept := [],
    swapDue := false, convs := 0, lastEdge := none, good := 0 })
  let t := (tblBody s 4).getD []
  setAcq s1 (fun (a : AcqSt) => { a with regTbl := t, injTbl := t, regNew := false, injNew := false, owner := ownerReg s })

/-- The ACQ's safe state (Table 19-3): sequencers stopped, the IADC stopped, rings written out. -/
def acqContain (s : State) : State :=
  let s1 := iadcCancel (setAcq s (fun (a : AcqSt) => { a with
    regStop := a.regRun, injNext := if a.injRun then acqNinj a.injTbl else 0, keptReg := false }))
  (List.range 9).foldl ringFlush s1

/-- Released: the sequencers idle at entry 0. -/
def acqRelease (s : State) : State := setAcq s (fun (a : AcqSt) => { regIdle a with injRun := false, injNext := 0 })

/-- A write of the test DAC (R558); samples of the channels it drives that have begun no more than 5 µs before are suspect too. -/
def tdacWrite (s : State) (w : Word) : State :=
  let old := s.reg Ad.ACQ_TDAC
  let s1 := s.setReg Ad.ACQ_TDAC (w &&& (fmask 24 24 ||| fmask 20 16 ||| fmask 9 0))
  let new := s1.reg Ad.ACQ_TDAC
  if old = new then s1
  else
    let r (x : Word) : List Nat := if bit x 24 then [bf x 20 16] else []
    let on := 32 :: (r old ++ r new)
    setAcq s1 (fun (a : AcqSt) => { a with
      tdac := some (s.now, on)
      runs := a.runs.map (fun (x : AcqRun) => { x with lanes := x.lanes.map (fun (l : AcqLane) =>
        if l.live && on.contains l.ch && decide (s.now ≤ l.t0 + 5000) then { l with cur := true } else l) }) })

/-- ACQ_STATUS as it reads (Table 14-13). -/
def acqStatus (s : State) : Word :=
  let a := s.acq
  let fail := a.failed.foldl (fun n p => n + 2 ^ p) 0
  let m := (List.range 4).foldl (fun n l => n + a.map.getD l 0 * 8 ^ l) 0
  let reg := if !a.regRun then 0 else if atWait s ∨ a.regNext = 0 then a.regNext else a.regNext - 1
  w32 (fail * 2 ^ 27 + a.spare.getD 7 * 2 ^ 24 + m * 2 ^ 12 + b2n a.iadc.isSome * 2 ^ 11 + b2n (refOk s) * 2 ^ 10
    + b2n a.injRun * 2 ^ 9 + (if a.injRun then a.injNext - 1 else 0) * 2 ^ 6 + b2n a.regRun * 2 ^ 5 + reg % 32)

end Sys2Proof.Machine
end

