-- ==== Sys2Proof/Machine/Dac.lean ====
section
/-!
DEFINITION. Machine/Dac.lean: the DAC (chapter 15): ownership and load groups (R573 to R576, R587), loads of data, power-up and
fault codes (R572, R578 to R580, R585, R590), release (R580), and the multi-time rows (R582 to R584, R591).
-/
namespace Sys2Proof.Machine

/-- A channel's state. -/
def dacCh (s : State) (n : Nat) : DacCh := s.dac.ch.getD n ⟨0, 0, false⟩

/-- A channel's state replaced. -/
def setDac (s : State) (n : Nat) (f : DacCh → DacCh) : State := { s with dac := { s.dac with ch := upd s.dac.ch n f } }

/-- An OWNER value as it acts on a channel (R573): 0, or the channel's own Lathe plus one. -/
def ownerActs (n o : Nat) : Nat := if n % 4 ≠ 3 ∧ o = n / 4 + 1 then o else 0

/-- An OWNER value that the strobe applying it reports (R573). -/
def ownerBad (n o : Nat) : Bool := decide (1 ≤ o) && (n % 4 == 3 || (decide (o ≤ 4) && o != n / 4 + 1))

/-- OWNER of the active configuration, as it acts. -/
def ownerCfg (s : State) (n : Nat) : Nat := ownerActs n (s.fld (Ad.DAC_CH_CFG n) 10 8)

/-- Event bits of DAC_EVT. -/
def dacEvt (s : State) (b : Nat) : State := sqEvt s Ad.DAC_EVT (2 ^ b)

/-- FAULTED of a channel. -/
def faulted (s : State) (n : Nat) : Bool := bit (s.reg (Ad.DAC_OUT n)) 31

/-- A code and span put into the active copy; HIZ as given, FAULTED as given. -/
def dacOut (s : State) (n code : Nat) (span flt hiz : Bool) : State :=
  s.setReg (Ad.DAC_OUT n) (w32 (b2n flt * 2 ^ 31 + b2n hiz * 2 ^ 30 + b2n span * 2 ^ 16 + code % 16384))

/-- A load brings the configured owner and load group into effect (R587); power-up and fault loads are loads (R572). -/
def dacTakes (s : State) (n : Nat) : State :=
  setDac s n (fun (d : DacCh) => { d with owner := ownerCfg s n, lgrp := s.fld (Ad.DAC_CH_CFG n) 5 4 })

/-- A load of the data code (R572). -/
def dacLoad (s : State) (n : Nat) : State :=
  if faulted s n then s
  else dacTakes (dacOut s n (s.fld (Ad.DAC_DATA n) 13 0) (bit (s.reg (Ad.DAC_CH_CFG n)) 0) false false) n

/-- A power-up load (R578); a channel whose row copy is bad stays at high impedance (R590), and
goes back to it where it has left it. (DEDUCED, log 67.) -/
def puLoad (s : State) (n : Nat) : State :=
  if faulted s n then s
  else
    let r := s.reg (Ad.DAC_MTP_ROW n)
    let s0 := dacTakes s n
    if (dacCh s n).bad then dacOut s0 n 0 false false true
    else
      let sp := bit r 15
      let s1 := dacOut s0 n (bf r 13 0) sp false false
      let k := Ad.DAC_CH_CFG n
      (s1.setFld k 0 0 (b2n sp)).setStg k (setBf (s1.stg k) 0 0 (b2n sp))

/-- A channel takes its fault code (R579, R590). -/
def dacFault (s : State) (n : Nat) : State :=
  let r := s.reg (Ad.DAC_MTP_ROW n)
  dacTakes (if (dacCh s n).bad then dacOut s n 0 false true (bit (s.reg (Ad.DAC_OUT n)) 30)
    else dacOut s n (bf r 29 16) (bit r 31) true false) n

/-- Fault loads of some channels, in one ANA cycle: one event (R125, R579). -/
def faultLoads (s : State) (l : List Nat) : State := if l.isEmpty then s else dacEvt (l.foldl dacFault s) 0

/-- SRC_g and SEL_g of a load group (Table 15-1). -/
def lgrpSrc (s : State) (g : Nat) : Nat × Nat :=
  let c := s.reg Ad.DAC_LGRP_CFG
  (bf c (8 * g + 1) (8 * g), bf c (8 * g + 4) (8 * g + 2))

/-- The load groups whose source is (src, sel) are loaded: their software-owned channels (R574). -/
def groupLoad (s : State) (src : Nat) (sel : Option Nat) : State :=
  (List.range 16).foldl (fun s n =>
    let d := dacCh s n
    let x := lgrpSrc s d.lgrp
    if d.owner = 0 ∧ x.1 = src ∧ (sel = none ∨ sel = some x.2) then dacLoad s n else s) s

/-- DAC_DATA_WRITE (R573). -/
def dacDataWrite (s : State) (n : Nat) (w : Word) : State :=
  if (dacCh s n).owner ≠ 0 then dacEvt s 2 else s.setReg (Ad.DAC_DATA n) (w32 (w.toNat % 16384))

/-- What a group-4 strobe does beyond copying the staged words, given the old active words: a new SPAN goes to the active copy
at once unless FAULTED, and an OWNER that cannot act is reported (R573, R587). (DEDUCED, log 67.) -/
def dacCfgStrobe (old : List Word) (s : State) : State :=
  let s1 := (List.range 16).foldl (fun (s : State) n =>
    let c := s.reg (Ad.DAC_CH_CFG n)
    if (old.getD n 0) &&& 1 ≠ c &&& 1 ∧ !faulted s n then s.setFld (Ad.DAC_OUT n) 16 16 (bf c 0 0) else s) s
  if (List.range 16).any (fun n =>
      let c := s.fld (Ad.DAC_CH_CFG n) 10 8
      decide (bf (old.getD n 0) 10 8 ≠ c) && ownerBad n c) then dacEvt s1 2 else s1

/-- The Lathe of a Lathe-owned channel is idle. -/
def ownerIdle (s : State) (n : Nat) : Bool :=
  let o := (dacCh s n).owner
  o == 0 || (match s.lth[o - 1]? with | some l => l.mode == .idle | none => true)

/-- DAC_CMD.RELEASE of a mask (R580, Table 19-3): FAULTED clears where the release takes effect. (DEDUCED, log 50.) -/
def dacRelease (s : State) (mask : Nat) : State :=
  let want := (List.range 16).filter (fun n => mask.testBit n)
  let ok (n : Nat) : Bool := s.flt.esc.isNone && !contained s (32 + n) && ownerIdle s n
  let go := want.filter (fun n => ok n && faulted s n)
  let s1 := go.foldl (fun (s : State) n => s.setFld (Ad.DAC_OUT n) 31 31 0) s
  let bits := (if go.isEmpty then 0 else 2) + (if want.all ok then 0 else 4)
  if bits = 0 then s1 else sqEvt s1 Ad.DAC_EVT bits

/-- Every channel fault-loaded (R579, R683). -/
def faultAll (s : State) : State := faultLoads s (List.range 16)

/-- Every channel power-up loaded (R578). -/
def puAll (s : State) : State := (List.range 16).foldl puLoad s

/-- DAC_MTP_WEAR_n from its row. -/
def wearShow (s : State) (n : Nat) (bad : Bool) : State :=
  let r := s.dac.rows.getD n ⟨0, false, 0⟩
  s.setReg (Ad.DAC_MTP_WEAR n) (w32 (b2n bad * 2 ^ 31 + b2n (decide (1000 < r.count)) * 2 ^ 30 + min r.count 2047))

/-- A row replaced. -/
def setRow (s : State) (n : Nat) (f : DacRow → DacRow) : State := { s with dac := { s.dac with rows := upd s.dac.rows n f } }

/-- DAC_MTP_CMD.PROG (R582, R583). -/
def dacProg (s : State) : State :=
  if s.dac.prog.isSome then dacEvt s 2
  else
    let n := s.fld Ad.DAC_MTP_CMD 11 8
    let s1 := setRow s n (fun (r : DacRow) => { r with count := min 2047 (r.count + 1) })
    let s2 := wearShow { s1 with dac := { s1.dac with prog := some (n, s.reg Ad.DAC_MTP_STAGE) } } n
      (bit (s.reg (Ad.DAC_MTP_WEAR n)) 31)
    if 1000 < (s2.dac.rows.getD n ⟨0, false, 0⟩).count then dacEvt s2 6 else s2

/-- DAC_MTP_DONE: the program ends OK, or its read-back differs (R582, R591). -/
def dacProgDone (s : State) (ok : Bool) : State :=
  match s.dac.prog with
  | none => s
  | some (n, w) =>
    let s0 : State := { s with dac := { s.dac with prog := none } }
    if ok then
      let s1 := (setRow s0 n (fun (r : DacRow) => { r with word := w, bad := false })).setReg (Ad.DAC_MTP_ROW n) w
      dacEvt ((wearShow (setDac s1 n (fun (d : DacCh) => { d with bad := false })) n false).setFld Ad.DAC_MTP_CMD 23 16 0) 4
    else
      let s1 := wearShow (setRow s0 n (fun (r : DacRow) => { r with bad := true })) n true
      raise (sqEvt (s1.setFld Ad.DAC_MTP_CMD 23 16 1) Ad.DAC_EVT 0x30) 36 n

/-- DAC_CURRENT_LIMIT: the output of a channel begins (or ceases) to limit (R592). -/
def dacLimit (s : State) (n : Nat) (on : Bool) : State :=
  let l := if on then (if s.dac.ilim.contains n then s.dac.ilim else s.dac.ilim ++ [n]) else s.dac.ilim.filter (· != n)
  let s1 : State := { s with dac := { s.dac with ilim := l } }
  if on ∧ !s.dac.ilim.contains n then raise (dacEvt s1 7) 37 n else s1

/-- DAC_STATUS as it reads. -/
def dacStatus (s : State) : Word := w32 (s.dac.ilim.foldl (fun a n => a + 2 ^ (16 + n)) 0 + b2n (refOk s))

/-- A row program cut short by a reset or a loss of power leaves the old values or the new ones (R584). (DESIGN CHOICE, log 21.) -/
def dacCut (s : State) : State :=
  match s.dac.prog with
  | none => s
  | some (n, w) =>
    let s1 : State := { s.fresh with dac := { s.dac with prog := none } }
    setRow s1 n (fun (r : DacRow) => if Config.freeNat s.free % 2 = 1 then { r with word := w } else r)

/-- RESULT after a reset that cut a program short: ABORTED (Table 15-4). `was`: the state before the reset. (DESIGN CHOICE, log 21.) -/
def dacAborted (was s : State) : State := if was.dac.prog.isSome then s.setFld Ad.DAC_MTP_CMD 23 16 2 else s

/-- The rows copied at a reset and the power-up codes loaded (R578, R590). (DESIGN CHOICE, log 43.) -/
def dacCopy (s : State) : State :=
  let s1 : State := { s with dac := { s.dac with ilim := [] } }
  (List.range 16).foldl (fun (s : State) n =>
    let r := s.dac.rows.getD n ⟨0, false, 0⟩
    let s1 := setDac s n (fun _ => ⟨0, 0, r.bad⟩)
    let s2 := if r.bad then s1.fresh.setReg (Ad.DAC_MTP_ROW n) (w32 (Config.freeNat s1.free)) else s1.setReg (Ad.DAC_MTP_ROW n) r.word
    puLoad (wearShow (dacOut s2 n 0 false false true) n r.bad) n) s1

/-- Rows whose check code failed at the copy are reported (R590). -/
def dacReport (s : State) : State :=
  let l := (List.range 16).filter (fun n => (s.dac.rows.getD n ⟨0, false, 0⟩).bad)
  if l.isEmpty then s else l.foldl (fun s n => raise s 36 n) (dacEvt s 3)

end Sys2Proof.Machine
end

