-- ==== Sys2Proof/Machine/Lathe.lean ====
section
/-!
DEFINITION. Machine/Lathe.lean: the Lathes (chapter 16) but for their load strobes: tables and curves (R607, R610), transitions
(R608, R609), aborts (R617 to R621), results (R603, R604), fetched lists (R602), the compliance paths (R614, R615), and
autoranging (R605, R606).
-/
namespace Sys2Proof.Machine

/-! ### State access -/

/-- A Lathe. -/
def lthOf (s : State) (n : Nat) : LthSt := s.lth.getD n lthFresh

/-- A Lathe replaced. -/
def setLth (s : State) (n : Nat) (f : LthSt → LthSt) : State := { s with lth := upd s.lth n f }

/-- Event bits of LTH_EVT. -/
def lthEvt (s : State) (n b : Nat) : State := sqEvt s (Ad.LTH_EVT n) (2 ^ b)

/-! ### Tables -/

/-- A signed 32-bit field of a body. -/
def tbS (b : List Byte) (o : Nat) : Int := sext 32 (tb32 b o)

/-- NRANGE of either table. -/
def nRange (b : List Byte) : Nat := (b.getD 0 0).toNat

/-- SAFE of a range transition body. -/
def safeRange (b : List Byte) : Nat := (b.getD 1 0).toNat

/-- Full scale of a range. -/
def rangeFs (b : List Byte) (r : Nat) : Int := tbS b (0x10 + 8 * r)

/-- AUTO_OK of a range below NRANGE. -/
def autoOk (b : List Byte) (r : Nat) : Bool := decide (r < nRange b) && ((b.getD (0x15 + 8 * r) 0).toNat % 2 == 1)

/-- The steady pattern of a range. -/
def rangePattern (b : List Byte) (r : Nat) : Nat := (b.getD (0x14 + 8 * r) 0).toNat % 8

/-- The step words from an index up to the one with LAST, at most `k` of them. -/
def stepsFrom (b : List Byte) (i : Nat) : Nat → List Nat
  | 0 => []
  | k + 1 => let w := tb32 b (0xD0 + 4 * i); w :: if w.testBit 7 then [] else stepsFrom b (i + 1) k

/-- The steps of the direct transition from f to t, if there is one. -/
def transSteps (b : List Byte) (f t : Nat) : Option (List Nat) :=
  let i := tb16 b (0x50 + 2 * (8 * f + t))
  if i = 0xFFFF then none else some (stepsFrom b i 8)

/-- The steps from f to t: direct, or through SAFE (R608). -/
def pathSteps (b : List Byte) (f t : Nat) : List Nat :=
  if f = t then []
  else
  match transSteps b f t with
  | some l => l
  | none => (if f = safeRange b then [] else (transSteps b f (safeRange b)).getD [])
      ++ (if t = safeRange b then [] else (transSteps b (safeRange b) t).getD [])

/-- A step list that R607 accepts: it ends with LAST within 8 steps, each within Table 16-6, the last at the pattern. -/
def stepListOk (b : List Byte) (nstep f t : Nat) : Bool :=
  let i := tb16 b (0x50 + 2 * (8 * f + t))
  i == 0xFFFF ||
    (let l := stepsFrom b i 8
     decide (i + l.length ≤ nstep) && ((l.getLast?).any (fun w => w.testBit 7 && w % 8 == rangePattern b t)))

/-- Check 0x0C of a range transition body (R607). -/
def rangeBodyOk (b : List Byte) : Bool :=
  let n := nRange b
  let ns := tb16 b 2
  let rs := List.range 8
  let has (f t : Nat) : Bool := tb16 b (0x50 + 2 * (8 * f + t)) != 0xFFFF
  decide (1 ≤ n ∧ n ≤ 8) && decide (safeRange b < n) && decide (ns ≤ 512) && b.length == 208 + 4 * ns &&
    ((b.drop 4).take 12).all (· == 0) &&
    rs.all (fun r => if r < n then
        (b.getD (0x14 + 8 * r) 0).toNat < 8 && (b.getD (0x15 + 8 * r) 0).toNat < 2 && tb16 b (0x16 + 8 * r) == 0
      else ((b.drop (0x10 + 8 * r)).take 8).all (· == 0)) &&
    rs.all (fun f => rs.all (fun t => if n ≤ f ∨ n ≤ t then !has f t else stepListOk b ns f t)) &&
    (List.range ns).all (fun i =>
      let w := tb32 b (0xD0 + 4 * i)
      w / 8 % 16 == 0 && w / 256 % 256 == 0 && w / 65536 != 0) &&
    rangePattern b (safeRange b) == 0 &&
    (List.range n).all (fun r => (List.range n).all (fun q => r == q || rangePattern b r != rangePattern b q)) &&
    (List.range n).all (fun r => r == safeRange b || (has r (safeRange b) && has (safeRange b) r)) &&
    (List.range n).all (fun r => !(autoOk b r && autoOk b (r + 1)) ||
      (has r (r + 1) && has (r + 1) r && decide (rangeFs b r < rangeFs b (r + 1)) &&
        decide (8 * rangeFs b (r + 1) < 95 * rangeFs b r)))

/-- NK of curve c of range r. -/
def nKnots (b : List Byte) (r c : Nat) : Nat := (b.getD (0x10 + 4 * r + c) 0).toNat

/-- The first knot of a curve, in the table's order. -/
def firstKnot (b : List Byte) (r c : Nat) : Nat := ((List.range (4 * r + c)).map (fun i => nKnots b (i / 4) (i % 4))).foldl (· + ·) 0

/-- A curve's knots. -/
def knots (b : List Byte) (r c : Nat) : List (Int × Int) :=
  (List.range (nKnots b r c)).map (fun i => (tbS b (0x30 + 8 * (firstKnot b r c + i)), tbS b (0x34 + 8 * (firstKnot b r c + i))))

/-- X rises strictly. -/
def rising : List (Int × Int) → Bool
  | a :: b :: t => decide (a.1 < b.1) && rising (b :: t)
  | _ => true

/-- Check 0x0C of a calibration body (R610). -/
def calBodyOk (b : List Byte) : Bool :=
  let n := nRange b
  decide (1 ≤ n ∧ n ≤ 8) && ((b.drop 1).take 15).all (· == 0) &&
    (List.range 32).all (fun i => let k := nKnots b (i / 4) (i % 4)
      if i / 4 < n then decide (2 ≤ k ∧ k ≤ 32) else k == 0) &&
    b.length == 48 + 8 * firstKnot b 8 0 &&
    (List.range (4 * n)).all (fun i => rising (knots b (i / 4) (i % 4)))

/-- Linear interpolation between two knots; which neighbouring integer a value between two takes is open. (DESIGN CHOICE, log 40.) -/
def interp2 (x0 y0 x1 y1 x : Int) : Int :=
  let num := (y1 - y0) * (x - x0)
  let q := num / (x1 - x0)
  if num % (x1 - x0) = 0 then y0 + q else y0 + q + (if Config.interpUp x0 y0 x1 y1 x then 1 else 0)

/-- A curve at x, clamped to its end knots. -/
def curveAt : List (Int × Int) → Int → Int
  | [], _ => 0
  | [a], _ => a.2
  | a :: b :: t, x =>
    if x ≤ a.1 then a.2 else if x < b.1 then interp2 a.1 a.2 b.1 b.2 x else if t.isEmpty then b.2 else curveAt (b :: t) x

/-- A DAC code from curve F or C, clamped from 0 to 16,383 (R610). -/
def clampCode (x : Int) : Nat := min 16383 x.toNat

/-! ### Results (R603, R604) -/

/-- AIN_V or AIN_I, and the curve SV or SI, by whether the quantity is a current. -/
def senseCh (s : State) (n : Nat) (cur : Bool) : Nat := if cur then s.fld (Ad.LTH_CFG n) 29 24 else s.fld (Ad.LTH_CFG n) 21 16

/-- MODE (Table 16-2). -/
def lthFn (s : State) (n : Nat) : Nat := s.fld (Ad.LTH_CFG n) 1 0

/-- The measured quantity is a current; the compliance quantity is. -/
def measCur (s : State) (n : Nat) : Bool := lthFn s n == 0 || lthFn s n == 3

/-- The compliance channel's quantity is a current (Table 16-2). -/
def complCur (s : State) (n : Nat) : Bool := lthFn s n == 0 || lthFn s n == 2

/-- SRC 1: the list is fetched. -/
def fetched (s : State) (n : Nat) : Bool := bit (s.reg (Ad.LTH_LIST n)) 31

/-- COUNT: 0 acts as 1. -/
def lthCount (s : State) (n : Nat) : Nat := max 1 (s.fld (Ad.LTH_LIST_RANGE n) 15 0)

/-- The index shown for a point: the list RAM index, or the point's number in the fetched list. -/
def pointNo (s : State) (n i : Nat) : Nat := if fetched s n then i else s.fld (Ad.LTH_LIST_RANGE n) 26 16 + i

/-- A point's result (Table 16-4), from its dwell start, range, running result, and, with `p`, its integration's. -/
def resBytesOf (t0 range : Nat) (p : Bool) (iv : Option (Int × Bool)) (r : LthRes) (aborted : Bool) : List Byte :=
  let meas := if p then ((iv.map Prod.fst).getD 0) else if r.num = 0 then 0 else rdiv r.sum r.num
  let none := if p then iv.isNone else r.num == 0
  let bad := if p then ((iv.map Prod.snd).getD false) else r.bad
  let num := if p then b2n iv.isSome else min r.num 0xFFFF
  toBytesLE 8 t0 ++ toBytesLE 4 (unsx 32 meas) ++ toBytesLE 2 num
    ++ [BitVec.ofNat 8 (range % 8 + 64 * b2n aborted + 128 * b2n p),
      BitVec.ofNat 8 (b2n bad + 2 * b2n none + 4 * b2n r.auto + 8 * b2n r.hunt + 16 * b2n r.beyond + 32 * b2n r.under + 64 * b2n r.compl)]

/-- The point in progress is measured by the IADC. -/
def pointIadc (l : LthSt) : Bool := (l.point.map (fun p => p.iadc)).getD false

/-- The result of the point in progress. -/
def resBytes (s : State) (n : Nat) (aborted : Bool) : List Byte :=
  let l := lthOf s n
  resBytesOf l.t0 l.range (pointIadc l) l.iadcVal l.res aborted

/-- The result of a point that an abort finds in the transition before its dwell: no conversion, and a TIME that the spec does not
state. (DESIGN CHOICE, log 68.) -/
def resUnbegun (s : State) (n : Nat) : List Byte :=
  resBytesOf (Config.freeNat s.free) (lthOf s n).range (pointIadc (lthOf s n)) none noRes true

/-- Tenant of the list and results. -/
def lthTenant (s : State) (n : Nat) : Nat := s.fld (Ad.LTH_FETCH_TENANT n) 9 0

/-- The collected results of a fetched list's line written out (R604). -/
def resFlush (s : State) (n : Nat) : State :=
  let l := lthOf s n
  match l.out with
  | [] => s
  | x :: t =>
    let line := x.1 / 4
    let d := (x :: t).foldl (fun a r => a + ofBytesLE r.2 * 2 ^ (128 * (r.1 % 4))) 0
    let m := (x :: t).foldl (fun a r => a + (2 ^ 16 - 1) * 2 ^ (16 * (r.1 % 4))) 0
    let full := decide (4 ≤ (x :: t).length)
    ag0Req (setLth s n (fun (l : LthSt) => { l with out := [], resOut := l.resOut + 1 })) (.lthRes n line)
      (if full then .writeFull else .writePartial) (lthTenant s n) ((s.reg (Ad.LTH_FETCH_RES n)).toNat + line) false
      (BitVec.ofNat 512 d) (BitVec.ofNat 64 m)

/-- A result written to result RAM, or collected for its line. -/
def resPut (s : State) (n i : Nat) (b : List Byte) : State :=
  if fetched s n then
    let s0 := if ((lthOf s n).out.any (fun x => x.1 / 4 != i / 4)) then resFlush s n else s
    let s1 := setLth s0 n (fun (l : LthSt) => { l with out := l.out ++ [(i, b)] })
    if i % 4 = 3 then resFlush s1 n else s1
  else (List.range 4).foldl (fun (s : State) w => s.setReg (Ad.LTH_RES n ((4 * pointNo s n i + w) % 8192)) (w32 (tb32 b (4 * w)))) s

/-- The last result of a pass has been written once nothing is outstanding (R604). -/
def passCheck (s : State) (n : Nat) : State :=
  let l := lthOf s n
  if l.passDue ∧ l.resOut = 0 then lthEvt (setLth s n (fun (l : LthSt) => { l with passDue := false })) n 1 else s

/-- A result put in its place; the line written out where the pass or the run ends with it, and PASS once it is written (R604). -/
def resEnd (s : State) (n i : Nat) (b : List Byte) (last goes : Bool) : State :=
  let s1 := resPut s n i b
  let s2 := if last || !goes then resFlush s1 n else s1
  if last then passCheck (setLth s2 n (fun (l : LthSt) => { l with passDue := true })) n else s2

/-- A conversion of a channel held in a window is still in progress. -/
def convDue (s : State) (ch m0 upto : Nat) : Bool :=
  s.acq.runs.any (fun r => r.lanes.any (fun x =>
    x.live && x.ch == ch && decide (m0 ≤ x.t0 + smpNs r.smp ∧ x.t0 + smpNs r.smp ≤ upto)))

/-- The result of the point before is written. -/
def latePut (s : State) (n : Nat) : State :=
  match (lthOf s n).late with
  | none => s
  | some x => resEnd (setLth s n (fun (l : LthSt) => { l with late := none })) n x.idx (resBytesOf x.t0 x.range false none x.res false) x.last x.goes

/-- It is written once no conversion of its window is still in progress (R603). -/
def lateGo (s : State) (n : Nat) : State :=
  match (lthOf s n).late with
  | none => s
  | some x => if convDue s x.ch x.m0 x.upto then s else latePut s n

/-- A conversion of the window of the point before. -/
def lateConv (s : State) (n ch code : Nat) (bad : Bool) (hold : Nat) : State :=
  setLth s n (fun (l : LthSt) => { l with late := l.late.map (fun (x : LthLate) =>
    if x.ch = ch ∧ x.m0 ≤ hold ∧ hold ≤ x.upto then
      { x with res := { x.res with sum := x.res.sum + curveAt x.curve (code * 4096 : Nat), num := x.res.num + 1, bad := x.res.bad || bad } }
    else x) })

/-! ### Transitions (R608, R609) -/

/-- A transition from the current range starts, or ends at once where no step leads there. -/
def transStart (s : State) (n dest : Nat) (why : TransFor) : State :=
  let l := lthOf s n
  let b := l.tblR.getD []
  match pathSteps b l.range dest with
  | [] => lthEvt (setLth s n (fun (l : LthSt) => { l with range := dest, pattern := rangePattern b dest, trans := none })) n 3
  | w :: t => setLth s n (fun (l : LthSt) => { l with pattern := w % 8, trans := some ⟨dest, w :: t, why⟩ })

/-- The Lathe runs to SAFE, after the step in progress. -/
def toSafe (s : State) (n : Nat) : State :=
  let l := lthOf s n
  if l.trans.isSome then setLth s n (fun (l : LthSt) => { l with toSafe := true })
  else if l.range = safeRange (l.tblR.getD []) then s
  else transStart s n (safeRange (l.tblR.getD [])) .safe

/-- A TRIPPED Lathe whose CLEAR has been written becomes IDLE once SAFE is reached (R618). -/
def clearCheck (s : State) (n : Nat) : State :=
  let l := lthOf s n
  if l.mode = .tripped ∧ l.clr ∧ l.trans.isNone ∧ !l.toSafe then
    setLth s n (fun (l : LthSt) => { l with mode := .idle, clr := false, point := none, begun := false }) else s

/-- LTH_CTRL.CLEAR (R618, Table 19-3). -/
def lthClear (s : State) (n : Nat) : State :=
  if (lthOf s n).mode = .tripped ∧ !contained s (48 + n) then
    clearCheck (setLth s n (fun (l : LthSt) => { l with clr := true })) n
  else s

/-- Active tables taken into use; a Lathe at SAFE stays at SAFE. -/
def lthTables (s : State) (n : Nat) : State :=
  let l := lthOf s n
  let r := if l.newR then tblBody s n else l.tblR
  let c := if l.newC then tblBody s (10 + n) else l.tblC
  let safe := (l.tblR.map (fun b => l.range == safeRange b)).getD true
  setLth s n (fun (l : LthSt) => { l with
    tblR := r, tblC := c, newR := false, newC := false, range := if safe && l.newR then safeRange (r.getD []) else l.range })

/-! ### Aborts (R617, R619 to R622) -/

/-- The Lathe's three channels. -/
def lthChans (n : Nat) : List Nat := [4 * n, 4 * n + 1, 4 * n + 2]

/-- Classes raised for causes: 38 ANALOG and DIGITAL, 39 LIMIT, 40 FETCH and LIST_UE. -/
def abortRaise (s : State) (n causes : Nat) : State :=
  let s1 := if causes % 4 ≠ 0 then raise s 38 n else s
  let s2 := if causes.testBit 4 then raise s1 39 n else s1
  if causes.testBit 5 || causes.testBit 6 then raise s2 40 n else s2

/-- An abort with its causes (bits of LTH_TRIP_INFO.CAUSE); a TRIPPED Lathe is not aborted again (R617). Without `load` the fault
loads are those of the escalation (R621). -/
def lthAbortAs (load : Bool) (s : State) (n causes : Nat) : State :=
  let l := lthOf s n
  if l.mode = .tripped then s
  else
    let s1 := faultLoads s (if load then (lthChans n).filter (fun c => (dacCh s c).owner == n + 1) else [])
    let s2 := if (s1.acq.iadc.bind IadcRun.lathe) = some n then iadcCancel s1 else s1
    let going := l.mode == .run || l.mode == .stopping
    let s3 := if going && l.begun then resFlush (resPut s2 n l.idx (resBytes s2 n true)) n
      else if going && l.trans.isSome then resFlush (resPut s2.fresh n l.idx (resUnbegun s2 n)) n
      else resFlush s2 n
    let s4 := lthTables (setLth s3 n (fun (l : LthSt) => { l with
      mode := .tripped, meas := false, ended := false, begun := false, held := [], asked := [], fetchEnd := true })) n
    let s5 := s4.setReg (Ad.LTH_TRIP_INFO n) (w32 ((pointNo s n l.idx) % 65536 * 65536 + causes % 256))
    let s6 := (s5.setReg (Ad.LTH_TRIP_TIME_LO n) (w32 s.now)).setReg (Ad.LTH_TRIP_TIME_HI n) (w32 (s.now / 2 ^ 32))
    let s7 := pcu 0x6C n 1 (lthEvt (s6.inc (Ad.LTH_TRIP_COUNT n)) n 2)
    abortRaise (toSafe s7 n) n causes

/-- An abort with its own fault loads. -/
def lthAbort (s : State) (n causes : Nat) : State := lthAbortAs true s n causes

/-- LTH_CTRL.ABORT. -/
def cmdAbort (s : State) (n : Nat) : State := lthAbort s n 4

/-- A trip that finds the Lathe TRIPPED at this same legal time joins that abort's causes (R619). -/
def lthJoin (s : State) (n bit_ : Nat) : State :=
  let c := s.fld (Ad.LTH_TRIP_INFO n) 7 0
  let t := (s.reg (Ad.LTH_TRIP_TIME_LO n)).toNat + (s.reg (Ad.LTH_TRIP_TIME_HI n)).toNat * 2 ^ 32
  if t = s.now ∧ c ≠ 0 then
    let s1 := s.setFld (Ad.LTH_TRIP_INFO n) 7 0 (c ||| bit_)
    if c % 4 = 0 then raise s1 38 n else s1
  else s

/-- LTH_ANALOG_TRIP: the comparator has been active for 40 ns (R614). -/
def analogTrip (s : State) (n : Nat) : State :=
  if (dacCh s (4 * n)).owner ≠ n + 1 then s
  else if (lthOf s n).mode = .tripped then lthJoin s n 1
  else if faulted s (4 * n) then s
  else lthAbort s n 1

/-- Escalation aborts every Lathe whose channels are not already FAULTED (R621); its fault loads are the escalation's. One that trips at this same legal time, and is not
what escalates, has both causes (R619). -/
def lthEscalate (s : State) : State :=
  (List.range 4).foldl (fun s n =>
    let own := match s.flt.esc with | some c => decide (38 ≤ c ∧ c ≤ 40) | none => false
    let t := (s.reg (Ad.LTH_TRIP_TIME_LO n)).toNat + (s.reg (Ad.LTH_TRIP_TIME_HI n)).toNat * 2 ^ 32
    if (lthOf s n).mode = .tripped ∧ t = s.now ∧ !own then
      s.setFld (Ad.LTH_TRIP_INFO n) 7 0 (s.fld (Ad.LTH_TRIP_INFO n) 7 0 ||| 8)
    else if (lthChans n).all (faulted s) then s else lthAbortAs false s n 8) s

/-! ### Conversions delivered (R543, R595, R603, R605, R606, R615) -/

/-- A calibrated value on the range in force (in a transition, its origin: the current range until it completes). -/
def calibrate (l : LthSt) (cur : Bool) (x : Int) : Int :=
  curveAt (knots (l.tblC.getD []) l.range (if cur then 3 else 2)) x

/-- DIG_PM from 500 to 1,500. -/
def digPm (s : State) (n : Nat) : Nat := let x := s.fld (Ad.LTH_DIG n) 10 0; if x < 500 then 500 else if 1500 < x then 1500 else x

/-- The digital path judges a conversion of the compliance channel (R615). -/
def digitalPath (s : State) (n : Nat) (v : Int) : State :=
  match (lthOf s n).guard with
  | none => s
  | some g =>
    if (dacCh s (4 * n)).owner ≠ n + 1 ∨ v.natAbs * 1000 ≤ g * digPm s n then s
    else if (lthOf s n).mode = .tripped then (if bit (s.reg (Ad.LTH_CFG n)) 2 then s else lthJoin s n 2)
    else if faulted s (4 * n) then s
    else if bit (s.reg (Ad.LTH_CFG n)) 2 then
      lthEvt (setLth s n (fun (l : LthSt) => { l with res := { l.res with compl := l.res.compl || l.begun } })) n 5
    else lthAbort s n 2

/-- An autorange move from the current range (R605): the target range, if the value calls for one. -/
def autoTarget (b : List Byte) (r : Nat) (v : Int) (sat : Bool) : Option Nat :=
  let m : Int := v.natAbs
  if (sat || decide (95 * rangeFs b r ≤ 100 * m)) && autoOk b (r + 1) then some (r + 1)
  else if decide (100 * m ≤ 8 * rangeFs b r) && decide (1 ≤ r) && autoOk b (r - 1) then some (r - 1)
  else none

/-- A conversion lies beyond FS of the highest AUTO_OK range (R606). -/
def overTop (b : List Byte) (v : Int) : Bool :=
  match (List.range (nRange b)).reverse.find? (autoOk b) with
  | some r => decide (rangeFs b r < v.natAbs)
  | none => false

/-- AUTO_MAX: 0 acts as 1. -/
def autoMax (s : State) (n : Nat) : Nat := max 1 (s.fld (Ad.LTH_CFG n) 14 12)

/-- A measured-channel conversion in the measure window: averaged, or the cause of an autorange move, which moves the dwell end too
(R605, R606). With IADC it is only judged, and a move takes the point's integration back to the new window's start. (DESIGN
CHOICE, log 68.) -/
def measConv (s : State) (n : Nat) (v : Int) (sat bad : Bool) : State :=
  let l := lthOf s n
  let b := l.tblR.getD []
  match l.point with
  | none => s
  | some p =>
    let top := l.res.beyond || (p.auto && overTop b v)
    let took : LthRes := if p.iadc then { l.res with beyond := top }
      else { l.res with beyond := top, sum := l.res.sum + v, num := l.res.num + 1, bad := l.res.bad || bad }
    match if p.auto then autoTarget b l.range v sat else none with
    | some r =>
      if l.res.moves < autoMax s n then
        let s0 := if (s.acq.iadc.bind IadcRun.lathe) = some n then iadcCancel s else s
        let s1 := setLth s0 n (fun (l : LthSt) => { l with
          meas := false, ended := false, iadcDue := false, iadcVal := none
          res := { l.res with beyond := top, auto := true, moves := l.res.moves + 1, sum := 0, num := 0, bad := false } })
        transStart s1 n r .auto
      else setLth s n (fun (l : LthSt) => { l with res := { took with hunt := true } })
    | none => setLth s n (fun (l : LthSt) => { l with res := took })

/-- A SAR conversion delivered to a Lathe: its channel, its code, whether the code saturated, whether it is suspect, and its
hold instant. -/
def lthConv (ch code : Nat) (sat bad : Bool) (hold : Nat) (s0 : State) (n : Nat) : State :=
  let s := lateConv s0 n ch code bad hold
  let l := lthOf s n
  let v (cur : Bool) : Int := calibrate l cur (code * 4096 : Nat)
  let s1 := if l.tblC.isSome ∧ ch = senseCh s n (complCur s n) then digitalPath s n (v (complCur s n)) else s
  let l1 := lthOf s1 n
  if ch = senseCh s n (measCur s n) ∧ l1.meas ∧ l1.trans.isNone ∧ l1.m0 ≤ hold then
    measConv s1 n (v (measCur s n)) sat bad
  else s1

/-- An IADC result for the Lathe that asked (R601, R603). -/
def lthIadc (s : State) (n : Nat) (code : Int) (bad : Bool) : State :=
  setLth s n (fun (l : LthSt) => { l with iadcDue := false, iadcVal := some (calibrate l (measCur s n) (code * 4), bad) })

/-! ### Points and fetched lists (R598, R602) -/

/-- A point from its 16 bytes (Table 16-3). -/
def pointOf (b : List Byte) : Point :=
  let n := ofBytesLE b
  { force := sext 32 (n % 2 ^ 32), compl := nbf n 63 32, dwell := nbf n 79 64, settle := nbf n 95 80, range := nbf n 98 96,
    auto := n.testBit 99, upd := n.testBit 100, acq := n.testBit 101, iadc := n.testBit 102, last := n.testBit 103 }

/-- Another pass follows the given one (R598). -/
def morePasses (s : State) (n pass : Nat) : Bool := bit (s.reg (Ad.LTH_LIST n)) 30 || decide (pass < s.fld (Ad.LTH_LIST n) 15 0)

/-- Points held or asked for. -/
def pointsAhead (l : LthSt) : Nat := l.held.length + (l.asked.map LthAsk.n).foldl (· + ·) 0

/-- Line reads issued ahead: at most 8 outstanding and 64 points held (R602). -/
def fetchAhead : Nat → Nat → State → State
  | 0, _, s => s
  | k + 1, n, s =>
    let l := lthOf s n
    if l.fetchEnd ∨ 8 ≤ l.asked.length ∨ 60 < pointsAhead l then s
    else
      let c := lthCount s n
      let m := min 4 (c - 4 * l.nextLine)
      let done := decide (c ≤ 4 * (l.nextLine + 1))
      let s1 := setLth s n (fun (l : LthSt) => { l with
        asked := l.asked ++ [⟨l.askId, l.nextLine, l.seq, m⟩], askId := l.askId + 1, seq := l.seq + m
        nextLine := if done then 0 else l.nextLine + 1, fetchPass := if done then l.fetchPass + 1 else l.fetchPass
        fetchEnd := done && !morePasses s n l.fetchPass })
      fetchAhead k n (ag0Req s1 (.lthList n l.askId) .readOnce (lthTenant s n) ((s.reg (Ad.LTH_FETCH_LIST n)).toNat + l.nextLine) true 0 0)

/-- Fetching restarts at the first line, for a pass. -/
def fetchReset (s : State) (n pass : Nat) : State :=
  setLth s n (fun (l : LthSt) => { l with
    held := [], asked := [], nextLine := 0, seq := 0, want := 0, fetchPass := pass, fetchEnd := !fetched s n })

/-- A line read is answered: its points are held, or false for poison or Retry (R602, R626). -/
def fetchTake (s : State) (n : Nat) : Option (State × Bool) :=
  match s.ha.ag0.find? (fun r => match r.who with | .lthList k _ => k == n | _ => false) with
  | none => none
  | some a =>
    let s0 := ag0Drop s a.who
    match (lthOf s n).asked.find? (fun q => a.who == .lthList n q.id) with
    | none => some (s0, true)
    | some q =>
      let s1 := setLth s0 n (fun (l : LthSt) => { l with asked := l.asked.filter (fun x => x.id != q.id) })
      if a.kind = .data then
        some (setLth s1 n (fun (l : LthSt) => { l with
          held := l.held ++ (List.range q.n).map (fun j => (q.seq + j, toBytesLE 16 (a.line.toNat / 2 ^ (128 * j)))) }), true)
      else some (s1, false)

/-- A word of a list RAM. No reset clears it; what a loss of the main supplies leaves in a word is open until the word is written
again. (DESIGN CHOICE, log 61.) -/
def ramWord (s : State) (n w : Nat) : Word :=
  let l := lthOf s n
  if l.ramLoss = 0 ∨ l.ramSet.contains w then s.reg (Ad.LTH_RAM n w) else Config.ramWord l.ramLoss (8192 * n + w)

/-- The bytes of list RAM point i; past the RAM the spec states nothing. (DESIGN CHOICE, log 43.) -/
def ramPoint (s : State) (n i : Nat) : List Byte :=
  if i < 2048 then (List.range 4).flatMap (fun w => toBytesLE 4 (ramWord s n (4 * i + w)).toNat)
  else toBytesLE 16 (Config.freeNat (s.free + i))

/-- The point with index i of the list, if it is at hand. -/
def pointAt (s : State) (n i : Nat) : Option Point :=
  let l := lthOf s n
  if fetched s n then (l.held.find? (fun x => x.1 == l.want)).map (fun x => pointOf x.2)
  else some (pointOf (ramPoint s n (pointNo s n i)))

/-- Errors of the list RAM in the words of point i: 2 uncorrectable, 1 corrected and written back, 0 none (R627). -/
def ramCheck (s : State) (n i : Nat) : State × Nat :=
  if fetched s n then (s, 0)
  else
    let hit (w : Nat) : Bool := w / 4 == pointNo s n i
    let l := lthOf s n
    if l.ramErr.any (fun e => hit e.1 && e.2) then (s, 2)
    else if l.ramErr.any (fun e => hit e.1) then
      (lthEvt (setLth s n (fun (l : LthSt) => { l with ramErr := l.ramErr.filter (fun e => !hit e.1) })) n 7, 1)
    else (s, 0)

/-! ### Table activation (R612), status and stops -/

/-- An activation of the Lathe's tables: at once while it is idle or tripped, else at the dwell end (R612). -/
def lthTblStrobe (s : State) (n : Nat) (r c : Bool) : State :=
  let s1 := setLth s n (fun (l : LthSt) => { l with newR := l.newR || r, newC := l.newC || c })
  if (lthOf s n).mode = .idle ∨ (lthOf s n).mode = .tripped then lthTables s1 n else s1

/-- STATE as a number. -/
def lthModeNo : LthMode → Nat
  | .idle => 0
  | .run => 1
  | .stopping => 2
  | .tripped => 3

/-- LTH_STATUS as it reads. -/
def lthStatus (s : State) (n : Nat) : Word :=
  let l := lthOf s n
  w32 (l.range % 8 * 2 ^ 29 + b2n l.trans.isSome * 2 ^ 28 + s.fld (Ad.LTH_STATUS n) 27 24 * 2 ^ 24
    + pointNo s n l.idx % 65536 * 8 + lthModeNo l.mode)

/-- ANA stops: the pins go to 0b000 and the state returns to IDLE (R38, R609). -/
def lthAnaStop (s : State) : State :=
  (List.range 4).foldl (fun s n => setLth s n (fun (l : LthSt) => { l with
    mode := .idle, point := none, begun := false, meas := false, ended := false, trans := none, toSafe := false, clr := false, pattern := 0
    range := safeRange (l.tblR.getD []), guard := none })) s

/-- Each idle Lathe whose range is not SAFE runs its transition to SAFE before ANA stops (R609). -/
def lthPark (s : State) : State :=
  (List.range 4).foldl (fun s n => if (lthOf s n).mode = .idle ∧ (lthOf s n).trans.isNone then toSafe s n else s) s

/-- No Lathe is in a transition. -/
def lthStill (s : State) : Bool := s.lth.all (fun l => l.trans.isNone && !l.toSafe)

end Sys2Proof.Machine
end

