-- ==== Sys2Proof/Machine/AcqDone.lean ====
section
/-!
DEFINITION. Machine/AcqDone.lean: the ends of conversions and integrations and their deliveries (R528, R537, R543, R550 to
R553, R567), LINE_SYNC (R551).
-/
namespace Sys2Proof.Machine

/-- VREF in µV: the internal reference is 2.500 V; REFIN and VDDA are what the operand says (R531). -/
def vrefOf (s : State) (v : Nat) : Nat := if refSel s = 0 then 2500000 else max 1 v

/-- A conversion of a channel delivered to every Lathe (R543, R595). -/
def latheConvs (s : State) (ch code : Nat) (sat bad : Bool) (hold : Nat) : State :=
  (List.range 4).foldl (lthConv ch code sat bad hold) s

/-- A lane's conversion has ended with a code. -/
def laneDone (code : Nat) (out : Bool) (l : AcqLane) : AcqLane :=
  { l with live := false, cnt := l.cnt + 1, sum := l.sum + code, bad := l.bad || l.cur || out, cur := false }

/-- The input of a lane: channel 32 carries the test DAC's CODE × VREF / 1,024 (R558) within its 2 LSB (Table 14-11), once 5 µs have
passed since the last change. -/
def laneInput (s : State) (l : AcqLane) (v : Nat) (uv : Int) : Int :=
  let c : Int := s.fld Ad.ACQ_TDAC 9 0 * v / 1024
  let d : Int := 2 * v / 1024
  let still := match s.acq.tdac with | some (t, _) => decide (t + 5000 ≤ l.t0) | none => true
  if decide (l.ch = 32) && still then max (c - d) (min (c + d) uv) else uv

/-- The run with a lane's conversion ended; its timestamp is the hold instant of its first sample, within 7 ns (R529, R537).
(DESIGN CHOICE, log 39.) -/
def runLane (sl code : Nat) (out : Bool) (err : Nat) (r : AcqRun) : AcqRun :=
  match r.lanes.find? (fun l => l.sl == sl && l.live) with
  | none => r
  | some l =>
    { r with
      stamp := some (r.stamp.getD (l.t0 + smpNs r.smp + err - 7))
      lanes := r.lanes.map (fun x => if x.sl == sl && x.live then laneDone code out x else x) }

/-- SAR_CONVERSION_DONE on a logical slice, whose input was `uv` µV relative to AINCOM at the end of its sample phase, with the
reference at `vref` µV (R528, R567). Each conversion of a PLAUS entry is delivered. (DEDUCED, log 67.) -/
def sarDone (s : State) (sl : Nat) (uv : Int) (vref : Nat) : State :=
  match s.acq.runs.find? (fun r => r.lanes.any (fun l => l.sl == sl && l.live)) with
  | none => s
  | some r =>
    match r.lanes.find? (fun l => l.sl == sl && l.live) with
    | none => s
    | some l =>
      let v := vrefOf s vref
      let uv := laneInput s l v uv
      let raw := rdiv (uv * 4096) v
      let code := min 4095 raw.toNat
      let sat := decide (raw < 0 ∨ 4095 < raw)
      let out := decide (uv < -50000 ∨ (v : Int) + 50000 < uv)
      let s1 := if out then acqEvt s 9 else s
      let err := Config.freeNat s1.free % 15
      let s2 := setAcq s1.fresh (fun (a : AcqSt) => { a with runs := a.runs.map (runLane sl code out err) })
      let s3 := laneNext (convCount (calTry s2)) r.inj sl
      latheConvs s3 l.ch code sat (l.cur || out) (l.t0 + smpNs r.smp)

/-- An integration's result: the mean input in nV, with the reference in µV; `left` where the input left the range of Table
14-11 (R550, R567). -/
def iadcResult (s : State) (nv : Int) (vref : Nat) (left : Bool) (i : IadcRun) : State :=
  let raw := rdiv (nv * 2 ^ 22) (vrefOf s vref * 1000)
  let code := satS 24 raw
  let bad := i.bad || left || decide (code ≠ raw)
  let tint := if i.mode = 3 then s.now - i.t0 else i.tint
  let s1 := ringResult (acqEvt s 2) 8 ⟨i.t0, i.ch, false, bad, code, i.mode == 3, tint⟩
  match i.lathe with
  | some n => lthIadc s1 n code bad
  | none => s1

/-- With CONT 1 the next integration starts where the last one ended (R550); EN says only whether triggers and commands are taken
(Table 14-12). -/
def iadcNext (s : State) (lathe : Option Nat) (atEdge : Bool) : State :=
  if lathe.isNone && decide (s.acq.owner = 0) && bit (s.reg Ad.ACQ_IADC_CFG) 10 && !contained s 28 && !acqStopping s then iadcOwn s atEdge else s

/-- An integration ends with its result. -/
def iadcEnd (s : State) (nv : Int) (vref : Nat) (left atEdge : Bool) (i : IadcRun) : State :=
  iadcNext (iadcResult (iadcFree s) nv vref left i) i.lathe atEdge

/-- IADC_INTEGRATION_DONE: an integration whose length is a time ends (R550). -/
def iadcDone (s : State) (nv : Int) (vref : Nat) (left : Bool) : State :=
  match s.acq.iadc with
  | some i => if i.mode = 3 then s else iadcEnd s nv vref left false i
  | none => s

/-- Line-following is lost (R551): the integration in progress ends suspect, and the IADC continues on the 20 ms preset. -/
def lineLost (s : State) (nv : Int) (vref : Nat) (left : Bool) : State :=
  let s1 := acqEvt (setAcq s (fun (a : AcqSt) => { a with lineLost := true, good := 0 })) 10
  match s1.acq.iadc with
  | some i =>
    if i.mode ≠ 3 then s1
    else
      match i.edges with
      | some _ => iadcEnd s1 nv vref left false { i with bad := true }
      | none => setAcq s1 (fun (a : AcqSt) => { a with iadc := some { i with mode := 1, tint := 20000000, t0 := s1.now } })
  | none => s1

/-- The IADC follows LINE_SYNC: mode 3 in ACQ_IADC_CFG, or an integration in that mode. -/
def lineUsed (s : State) : Bool :=
  (decide (s.acq.owner = 0) && s.fld Ad.ACQ_IADC_CFG 9 8 == 3) || (s.acq.iadc.any (fun i => i.mode == 3)) || decide (s.acq.owner ≠ 0)

/-- LINE_SYNC_EDGE: a rising edge ends a line period (R550, R551). -/
def lineEdge (s : State) (nv : Int) (vref : Nat) (left : Bool) : State :=
  let t := s.now
  let s0 := setAcq s (fun (a : AcqSt) => { a with lastEdge := some t })
  let fits := match s.acq.lastEdge with | some e => decide (14290000 ≤ t - e ∧ t - e ≤ 25000000) | none => true
  if !fits then (if s.acq.lineLost then setAcq s0 (fun (a : AcqSt) => { a with good := 0 }) else if lineUsed s then lineLost s0 nv vref left else s0)
  else
    let good := if s.acq.lastEdge.isSome then s.acq.good + 1 else s.acq.good
    let s1 := setAcq s0 (fun (a : AcqSt) => { a with good := good, lineLost := a.lineLost && decide (good < 3) })
    match s1.acq.iadc with
    | some i =>
      if i.mode ≠ 3 then s1
      else
        match i.edges with
        | none => setAcq s1 (fun (a : AcqSt) => { a with iadc := some { i with t0 := t, edges := some (max 1 (s.fld Ad.ACQ_IADC_CFG 19 16)) } })
        | some 1 => iadcEnd s1 nv vref left true i
        | some n => setAcq s1 (fun (a : AcqSt) => { a with iadc := some { i with edges := some (n - 1) } })
    | none => s1

/-- LINE_SYNC_LOSS: 25.0 ms without a rising edge (R551). -/
def lineLoss (s : State) (nv : Int) (vref : Nat) (left : Bool) : State :=
  if lineUsed s && !s.acq.lineLost then lineLost (setAcq s (fun (a : AcqSt) => { a with lastEdge := none })) nv vref left
  else setAcq s (fun (a : AcqSt) => { a with lastEdge := none, good := 0 })

end Sys2Proof.Machine
end

