-- ==== Sys2Proof/Machine/Chisel.lean ====
section
/-!
DEFINITION. Machine/Chisel.lean: Chisel's operations (chapter 11): key slots and policy (R418 to R421), contexts (Table 11-4),
the queue and its order (R427, R428, R446), memory operands (R426), completion and status (R429, R430), and the CARVE
micro-routine (R438, R439, R441).
-/
namespace Sys2Proof.Machine

/-- Chisel's state changed. -/
def setChz (s : State) (f : ChzSt → ChzSt) : State := { s with chz := f s.chz }

/-- A hash context. -/
def hctx (s : State) (n : Nat) : HCtx := s.chz.h.getD n ⟨0, 0, [], []⟩

/-- A GCM context. -/
def gctx (s : State) (n : Nat) : GCtx := s.chz.g.getD n ⟨0, [], false, [], [], [], []⟩

/-- A key slot. -/
def keySlot (s : State) (n : Nat) : KeySlot := s.chz.slots.getD n ⟨0, 0, [], false⟩

/-- A hash context replaced. -/
def setH (s : State) (n : Nat) (c : HCtx) : State := setChz s (fun z => { z with h := upd z.h n (fun _ => c) })

/-- A GCM context replaced. -/
def setG (s : State) (n : Nat) (c : GCtx) : State := setChz s (fun z => { z with g := upd z.g n (fun _ => c) })

/-- A key slot replaced. -/
def setSlot (s : State) (n : Nat) (k : KeySlot) : State := setChz s (fun z => { z with slots := upd z.slots n (fun _ => k) })

/-- An event of CHZ_EVT. -/
def chzEvt (s : State) (b : Nat) : State := sqEvt s Ad.CHZ_EVT (2 ^ b)

/-! ### Operands -/

/-- The units an operation uses: bit 0 hash, 1 AES, 2 ECC, 3 key. -/
def cxUnits : CxOp → Nat
  | .hinit .. => 1
  | .hupd .. => 1
  | .hfin .. => 1
  | .ginit .. => 2
  | .gaad .. => 2
  | .gupd .. => 2
  | .gout .. => 2
  | .gfin .. => 2
  | .verify .. => 4
  | .sign .. => 4
  | .carve .. => 5
  | _ => 8

/-- The context an operation names: 0 to 3 for H0 to H3, 4 and 5 for G0 and G1. -/
def cxCtx : CxOp → Option Nat
  | .hinit c _ => some c
  | .hupd c .. => some c
  | .hfin c _ => some c
  | .verify c .. => some c
  | .sign c .. => some c
  | .ginit c .. => some (4 + c)
  | .gaad c .. => some (4 + c)
  | .gupd c .. => some (4 + c)
  | .gout c _ => some (4 + c)
  | .gfin c _ => some (4 + c)
  | _ => none

/-- The key slots an operation names. -/
def cxSlots : CxOp → List Nat
  | .ginit _ _ n _ => [n]
  | .kdf _ a b _ => [a, b]
  | .sign _ _ n => [n]
  | .kset _ _ n _ => [n]
  | .kclr n => [n]
  | .carve .. => [1]
  | _ => []

/-- The key slots an operation writes. -/
def cxWrites : CxOp → List Nat
  | .kdf _ _ b _ => [b]
  | .kset _ _ n _ => [n]
  | .kclr n => [n]
  | _ => []

/-- The slot whose key an operation uses. -/
def cxKey : CxOp → Option Nat
  | .ginit _ _ n _ => some n
  | .kdf _ a _ _ => some a
  | .sign _ _ n => some n
  | .carve .. => some 1
  | _ => none

/-- The memory an operation reads: first address and length. -/
def cxReads (s : State) : CxOp → List (Nat × Nat)
  | .hupd _ a n => [(a, n)]
  | .ginit _ a _ _ => [(a, 12)]
  | .gaad _ a n => [(a, n)]
  | .gupd _ a n => [(a, n)]
  | .gfin c a => if (gctx s c).dec then [(a, 16)] else []
  | .verify _ a b => [(a, 64), (b, 64)]
  | .kdf a _ _ _ => [(a, 32)]
  | .kset a _ _ _ => [(a, 32)]
  | .carve true _ _ a => [(a, 128)]
  | _ => []

/-- The window lines of an operand. -/
def opLines (x : Nat × Nat) : List Nat :=
  if x.2 = 0 ∨ !inWin x.1 then [] else (List.range ((x.1 % 64 + x.2 + 63) / 64)).map (fun i => winLine x.1 + i)

/-- n bytes of a line list from a window address. -/
def linesBytes (l : List (Nat × Line)) (a n : Nat) : List Byte :=
  (List.range n).map (fun i => byteOf (stGet (fun _ => (0 : Line)) l (winLine (a + i))).toNat ((a + i) % 64))

/-- The bytes of an operand that has been read. (DEDUCED, log 33.) -/
def opBytes (s : State) (e : CxEnt) (a n : Nat) : List Byte :=
  if inTcm a then tcmRead s a n else linesBytes e.lines a n

/-! ### Checks (R417 to R420, Tables 11-3 and 11-4) -/

/-- A slot used with a USE bit, and with a kind unless 0 is given: KEY_EMPTY, KEY_POLICY, or 0. -/
def slotUse (s : State) (n use kind : Nat) : Nat :=
  let k := keySlot s n
  if k.kind = 0 ∨ k.broken then 4 else if !k.use.testBit use ∨ (kind ≠ 0 ∧ k.kind ≠ kind) then 5 else 0

/-- The status that an operation's state and policy checks give; 0 where it may go on. -/
def cxPre (s : State) (op : CxOp) : Nat :=
  let held := contained s 26
  match op with
  | .hinit _ _ => 0
  | .hupd c _ n => if (hctx s c).st = 1 ∧ (hctx s c).msg.length + n < 2 ^ 40 then 0 else 6
  | .hfin c _ => if (hctx s c).st = 1 ∨ (hctx s c).st = 2 then 0 else 6
  | .ginit _ _ n d => slotUse s n (if d then 3 else 2) 2
  | .gaad c _ n => if (gctx s c).st = 1 ∧ (gctx s c).aad.length + n < 2 ^ 32 then 0 else 6
  | .gupd c _ n => if ((gctx s c).st = 1 ∨ (gctx s c).st = 2) ∧ (gctx s c).ct.length + n < 2 ^ 32 then 0 else 6
  | .gout c _ => if (gctx s c).st = 2 ∨ (gctx s c).st = 3 then 0 else 6
  | .gfin c _ => if (gctx s c).st = 1 ∨ (gctx s c).st = 2 then 0 else 6
  | .verify c _ _ => if (hctx s c).st = 2 then 0 else 6
  | .kdf _ a _ u =>
    if held then 0x0E
    else if slotUse s a 4 0 ≠ 0 then slotUse s a 4 0
    else if u % 4 ≠ 0 ∨ u &&& (keySlot s a).use ≠ u then 5 else 0
  | .sign c _ n =>
    if held ∨ (s.chz.selfFail ∧ bit (s.reg Ad.CHZ_CTRL) 1) then 0x0E
    else if (hctx s c).st ≠ 2 then 6 else slotUse s n 0 1
  | .kset _ k _ u => if held then 0x0E else if u % 4 ≠ 0 ∨ (k ≠ 2 ∧ k ≠ 3) then 5 else 0
  | .kclr _ => 0
  | .cinc => if held then 0x0E else if s.otp.ctr = 0xFFFFFFFF then 0x0B else 0
  | .carve .. =>
    if held ∨ (s.chz.selfFail ∧ bit (s.reg Ad.CHZ_CTRL) 1) then 0x0E else if slotUse s 1 1 1 = 0 then 0 else 4

/-! ### Completion (R429, R430) -/

/-- An operation ends: its entry is freed and its status kept among the last 16. -/
def cxFinish (s : State) (no code : Nat) : State :=
  setChz s (fun z => { z with q := z.q.filter (fun e => e.no != no), done := ((no, code) :: z.done).take 16 })

/-- A CARVE ends, one that runs or one that has not started: CHZ_CARVE_STATUS and its event (R438, R441). -/
def carveEnd (s : State) (no code evs : Nat) : State :=
  let s1 := cxFinish (setChz s (fun z => { z with carve := z.carve.filter (fun c => c.no != no) })) no code
  chzEvt (s1.setReg Ad.CHZ_CARVE_STATUS (w32 (no * 65536 + evs % 256 * 256 + code))) (if code = 0 then 0 else 1)

/-- The monotonic counter raised by n (R422). -/
def ctrRaise (s : State) (n : Nat) : State := { s with otp := { s.otp with ctr := s.otp.ctr + n, incs := s.otp.incs + n } }

/-- The working copy an operation commits when it ends with OK. -/
def cxCommit (s : State) (e : CxEnt) : State :=
  match e.op with
  | .hinit c alg => setH s c ⟨1, alg, [], []⟩
  | .hupd c a n => let h := hctx s c; setH s c { h with msg := h.msg ++ opBytes s e a n }
  | .hfin c _ => let h := hctx s c; setH s c { h with st := 2, dig := hashAlg h.alg h.msg }
  | .ginit c a n d => setG s c ⟨1, (keySlot s n).key, d, opBytes s e a 12, [], [], []⟩
  | .gaad c a n => let g := gctx s c; setG s c { g with aad := g.aad ++ opBytes s e a n }
  | .gupd c a n =>
    let g := gctx s c
    let i := opBytes s e a n
    let o := gcmCrypt g.key g.iv g.ct.length i
    setG s c { g with st := 2, out := o, ct := g.ct ++ (if g.dec then i else o) }
  | .gfin c _ => let g := gctx s c; setG s c { g with st := 3 }
  | .kdf a src dst u =>
    setSlot s.fresh dst ⟨2 + Config.freeNat s.free % 2, u, kdf256 (keySlot s src).key (opBytes s e a 32), false⟩
  | .kset a k n u => setSlot s n ⟨k, u, opBytes s e a 32, false⟩
  | .kclr n => setSlot s n ⟨0, 0, [], false⟩
  | .cinc =>
    let s1 := ctrRaise s 1
    if s1.otp.incs = 16777216 then chzEvt s1 5 else s1
  | _ => s

/-- What an operation's data decide: its status, and the memory it writes. -/
def cxResult (s : State) (e : CxEnt) : Nat × List (Nat × List Byte) :=
  match e.op with
  | .hfin c a => (0, if a = 0 then [] else [(a, hashAlg (hctx s c).alg (hctx s c).msg)])
  | .gout c a => (0, [(a, (gctx s c).out)])
  | .gfin c a =>
    let g := gctx s c
    let t := gcmTag g.key g.iv g.aad g.ct
    if g.dec then (if opBytes s e a 16 = t then 0 else 3, []) else (0, [(a, t)])
  | .verify c a k =>
    let key := opBytes s e k 64
    if !p256KeyOk key then (0x0D, []) else (if p256Verify key ((hctx s c).dig.take 32) (opBytes s e a 64) then 0 else 2, [])
  | .sign c a n => (0, [(a, p256Sign (ofBytesBE (keySlot s n).key) ((hctx s c).dig.take 32))])
  | _ => (0, [])

/-! ### Window writes (R426) -/

/-- One line of a window write by an engine: the record core's copy is removed, and its dirty bytes are merged. -/
def engWriteLine (who : Ag0Who) (a : Nat) (b : List Byte) (s : State) (line : Nat) : State :=
  let at_ := line * 64 + 0x20000000
  let lo := max a at_
  let hi := min (a + b.length) (at_ + 64)
  let (m, d) := linePlace lo (hi - lo) (ofBytesLE ((b.drop (lo - a)).take (hi - lo)))
  let write (s : State) (m : BitVec 64) (d : Line) : State :=
    ag0Req s who (if m = -1 then .writeFull else .writePartial) 0 line false d m
  match rcLine s line with
  | none => write s m d
  | some l =>
    if l.wb then write s m d
    else
      let s1 := rcDrop (rcLose s line) line
      if (l.st = 3 ∨ l.st = 4) ∧ l.poison.isNone then write s1 (-1) (mergeLine m d l.data)
      else if l.poison.isSome then write (rcEvict s l) m d
      else write s1 m d

/-- One line of an operation's write. -/
def cxWriteLine (no a : Nat) (b : List Byte) (s : State) (line : Nat) : State := engWriteLine (.chz no line) a b s line

/-- An operation's writes go out: to TCM at once, to the window line by line. -/
def cxWrite (s : State) (e : CxEnt) (w : List (Nat × List Byte)) : State :=
  let s1 := w.foldl (fun s x => if inTcm x.1 then tcmWrite s x.1 x.2
    else (opLines (x.1, x.2.length)).foldl (cxWriteLine e.no x.1 x.2) s) s
  let want := w.flatMap (fun x => opLines (x.1, x.2.length))
  if want.isEmpty then cxFinish (cxCommit s1 e) e.no 0
  else setChz s1 (fun z => { z with q := z.q.map (fun (x : CxEnt) => if x.no = e.no then { x with phase := 2, want := want } else x) })

/-- CX_OPERATION_COMPLETE: the unit has finished; with a failed lockstep comparison a signature ends SELFCHECK (R439). An
operation that writes the window completes when its last write is answered. -/
def cxComplete (s : State) (no : Nat) (lockBad : Bool) : State :=
  match s.chz.q.find? (fun e => e.no == no && e.phase == 1 && e.want.isEmpty) with
  | none => s
  | some e =>
    match e.op with
    | .carve .. => s
    | op =>
      let isSign : Bool := match op with | .sign .. => true | _ => false
      if e.code ≠ 0 then cxFinish s no e.code
      else if isSign ∧ lockBad then
        cxFinish (raise (chzEvt (setChz s (fun z => { z with selfFail := true })) 4) 25 (2 ^ 31 + no)) no 0x0E
      else if (cxReads s op).any (fun x => inTcm x.1 && (tcmBad s x.1 x.2).isSome) then
        let bad := ((cxReads s op).filterMap (fun x => if inTcm x.1 then tcmBad s x.1 x.2 else none)).headD 0
        cxFinish (tcmUe s bad bad) no 7
      else
        let (code, w) := cxResult s e
        if code ≠ 0 then cxFinish s no code else cxWrite s e w

/-- Answers to Chisel's window accesses are taken as they come: lines read, poison, Retry; and the end of an operation whose
last write has been answered. -/
def cxTake (s : State) (no : Nat) : Nat → State
  | 0 => s
  | n + 1 =>
    match s.chz.q.find? (fun e => e.no == no) with
    | none => s
    | some e =>
      match e.want.findSome? (fun l => (ag0Take s (.chz no l)).map (fun x => (l, x))) with
      | none => s
      | some (l, r, s1) =>
        let code := if e.code ≠ 0 then e.code else match r.kind with | .dataPoison => 7 | .retry => 8 | _ => 0
        let e1 : CxEnt := { e with
          want := e.want.erase l, code := code
          lines := if e.phase = 1 then stSet (fun _ => (0 : Line)) e.lines l r.line else e.lines }
        let s2 := setChz s1 (fun z => { z with q := z.q.map (fun x => if x.no = no then e1 else x) })
        if e1.phase = 2 ∧ e1.want.isEmpty then (if code = 0 then cxFinish (cxCommit s2 e1) no 0 else cxFinish s2 no code)
        else cxTake s2 no n

/-- Chisel's progress with the fabric. -/
def chzProgress (s : State) : State := (s.chz.q.map CxEnt.no).foldl (fun s no => cxTake s no 2048) s

/-! ### Starting (R428, R434, R435, R446, R718) -/

/-- An earlier entry still in the queue keeps a later one from starting: they share a unit, a context or a slot
that one of them writes. A CARVE in
step 6 holds no unit. -/
def cxBlocks (s : State) (o e : CxEnt) : Bool :=
  let past6 := s.chz.carve.any (fun c => c.no == o.no && decide (6 ≤ c.step))
  let isCarve (x : CxOp) : Bool := match x with | .carve .. => true | _ => false
  (!past6 && decide (cxUnits o.op &&& cxUnits e.op ≠ 0)) || (isCarve o.op && isCarve e.op)
    || ((cxCtx o.op).isSome && cxCtx o.op == cxCtx e.op)
    || (!past6 && ((cxWrites o.op).any (cxSlots e.op).contains || (cxSlots o.op).any (cxWrites e.op).contains))

/-- The entry may start. -/
def cxReady (s : State) (e : CxEnt) : Bool :=
  e.phase == 0 && (s.chz.q.takeWhile (fun o => o.no != e.no)).all (fun o => !cxBlocks s o e)
    && !(s.otp.cmd.any (fun c => c.op == 2) && (cxSlots e.op).any (fun n => decide (n ≤ 1)))

/-- Steps 1 to 4 of a CARVE (Table 11-6): the store's refusal comes before a payload in error. -/
def carveStart (s : State) (e : CxEnt) (fw : Bool) (typ idx addr : Nat) : State :=
  let pre := cxPre s e.op
  if pre ≠ 0 then carveEnd s e.no pre 0
  else
    match carveReserve s fw typ idx (tcmRead s addr 128) with
    | .inl code => carveEnd s e.no 0x0A code
    | .inr c =>
      match (if fw then tcmBad s addr 128 else none) with
      | some w => carveEnd (tcmUe s w w) e.no 7 0
      | none =>
        let s1 := s.setEvs { s.evs with pending := some c.seq }
        setChz s1 (fun z => { z with
          carve := some ⟨e.no, fw, 5, c.entry, c.seq, c.time, c.typ, c.bytes⟩
          q := z.q.map (fun (x : CxEnt) => if x.no = e.no then { x with phase := 1 } else x) })

/-- CX_OPERATION_START: a queued operation starts. `keyBad`: the slot's check code fails (R421); `ctxUe`: the context's storage
is in error (R433). -/
def cxStart (s0 : State) (no : Nat) (keyBad ctxUe : Bool) : State :=
  match s0.chz.q.find? (fun e => e.no == no) with
  | none => s0
  | some e =>
    if !cxReady s0 e then s0
    else
      let s := startIsl s0 30
      let slot := (cxKey e.op).filter (fun n => (keySlot s n).kind != 0 && !(keySlot s n).broken)
      let ctx := (cxCtx e.op).filter (fun c => if c < 4 then (hctx s c).st == 1 || (hctx s c).st == 2 else (gctx s (c - 4)).st != 0 && (gctx s (c - 4)).st != 4)
      let isInit := match e.op with | .hinit .. => true | .ginit .. => true | _ => false
      let isCarve := match e.op with | .carve .. => true | _ => false
      match slot, ctx with
      | some n, _ =>
        if keyBad then
          let s1 := showPubs (setSlot s n { keySlot s n with broken := true })
          let s2 := raise (chzEvt s1 3) 23 n
          if isCarve then carveEnd s2 no 4 0 else cxFinish s2 no 4
        else go s e ctx isInit
      | none, c => go s e c isInit
where
  /-- The start with a sound key. -/
  go (s : State) (e : CxEnt) (ctx : Option Nat) (isInit : Bool) : State :=
    match ctx with
    | some c =>
      if ctxUe ∧ !isInit then
        let s1 := if c < 4 then setH s c ⟨3, 0, [], []⟩ else setG s (c - 4) ⟨4, [], false, [], [], [], []⟩
        cxFinish (raise (chzEvt s1 2) 24 c) e.no 6
      else read s e
    | none => read s e
  /-- The checks, and the reads of the window. -/
  read (s : State) (e : CxEnt) : State :=
    match e.op with
    | .carve fw typ idx addr => carveStart (startIsl s 31) e fw typ idx addr
    | op =>
      let pre := cxPre s op
      let lines := if pre = 0 then ((cxReads s op).flatMap opLines).eraseDups else []
      let s1 := lines.foldl (fun s l =>
        ag0Req s (.chz e.no l) .readOnce 0 l ((rgnOf s (l * 64 + 0x20000000)).1 != .device) 0 0) s
      setChz s1 (fun z => { z with
        q := z.q.map (fun (x : CxEnt) => if x.no = e.no then { x with phase := 1, want := lines, code := pre } else x) })

/-! ### The CARVE from step 5 on (R438, R439, R441) -/

/-- A CARVE that ends before step 6 withdraws its reservation; an export that yielded to it goes on (R508). -/
def carveWithdraw (s : State) (no code : Nat) : State :=
  exportsResume (evsUpdate (carveEnd (s.setEvs { s.evs with pending := none }) no code 0))

/-- CARVE_SIGN_DONE: signing ends; step 6 starts, or the comparison of the two datapaths fails. -/
def carveSigned (s : State) (lockBad : Bool) : State :=
  match s.chz.carve with
  | none => s
  | some c =>
    if c.step ≠ 5 then s
    else if lockBad then
      raise (chzEvt (setChz (carveWithdraw s c.no 0x0E) (fun z => { z with selfFail := true })) 4) 25 (2 ^ 31 + c.no)
    else
      let sig := p256Sign (ofBytesBE (keySlot s 1).key) (sha256 c.bytes)
      let s1 := setChz s (fun z => { z with carve := some { c with step := 6, bytes := c.bytes ++ sig } })
      let s2 := (s1.setReg Ad.CHZ_CARVE_SEQ_LO (w32 c.seq)).setReg Ad.CHZ_CARVE_SEQ_HI (w32 (c.seq / 2 ^ 32))
      pcu 0x5B 0 1 (pcu 0x63 0 1 (carveProgram s2 c.seq))

/-- What a program that did not complete leaves of the bytes: some of the bits to be cleared are cleared, which ones the spec
leaves open. -/
def tornBytes (s : State) (l : List Byte) : List Byte :=
  l.mapIdx (fun i b => b ||| BitVec.ofNat 8 (Config.freeNat (s.free + i)))

/-- The slot of a sequence programmed with bytes. -/
def slotProgram (s : State) (seq : Nat) (l : List Byte) : State :=
  match evsPart s with
  | none => s
  | some (_, cs, _) => flashProgram s cs (slotAddr s seq) l

/-- CARVE_PROGRAM_DONE: the program ends; `code` is 0, 0x10 PROGRAM or 0x11 VERIFY (Table 13-9). -/
def carveDone (s : State) (code : Nat) : State :=
  match s.chz.carve with
  | none => s
  | some c =>
    if c.step ≠ 6 then s
    else if code = 0 then
      carveEnd (carveConfirm (setChz (cvuItem 3 0 0 c.bytes (slotProgram s c.seq c.bytes)) (fun z => { z with carve := none })) c) c.no 0 0
    else
      let s1 := { cvuItem 3 0 0 (c.bytes.take (Config.freeNat (s.free + 256) % 257)) (slotProgram s c.seq (tornBytes s c.bytes)) with
        free := s.free + 257 }
      carveFlash (carveEnd s1 c.no 0x0C code) c.seq code

/-- CX.ABORT: 0 ABORTED, 1 TOO_LATE, 2 NOT_CARVE (R441). -/
def cxAbort (s : State) (ticket : Word) : State × Nat :=
  match s.chz.q.find? (fun e => ticket == w32 (2 ^ 31 + e.no)) with
  | none => (s, 2)
  | some e =>
    match e.op with
    | .carve .. =>
      match s.chz.carve.filter (fun c => c.no == e.no) with
      | some c => if 6 ≤ c.step then (s, 1) else (carveWithdraw s e.no 9, 0)
      | none => (carveEnd s e.no 9 0, 0)
    | _ => (s, 2)

/-- The status word of a ticket (R429). -/
def cxStatus (s : State) (ticket : Word) : Nat :=
  if s.chz.q.any (fun e => ticket == w32 (2 ^ 31 + e.no)) then 1
  else ((s.chz.done.find? (fun d => ticket == w32 (2 ^ 31 + d.1))).map Prod.snd).getD 0xFF

end Sys2Proof.Machine
end

