-- ==== Sys2Proof/Machine/Motion.lean ====
section
/-!
DEFINITION. Machine/Motion.lean: pulse counting, distance, pulse speed, the k-factor curves and the plausibility states
(chapter 12, R472 to R477, R486), and the TimeOfDay message (R458).
-/
namespace Sys2Proof.Machine

/-- Motion replaced. -/
def State.setMot (s : State) (m : MotSt) : State := { s with mot := m }

/-- A motion input's state. -/
def motIn (s : State) (b : Bool) : MotIn := if b then s.mot.b else s.mot.a

/-- A motion input's state replaced. -/
def setMotIn (s : State) (b : Bool) (i : MotIn) : State :=
  s.setMot (if b then { s.mot with b := i } else { s.mot with a := i })

/-- MOT_CFG enables the input. -/
def motEn (s : State) (b : Bool) : Bool := bit (s.reg Ad.MOT_CFG) (if b then 1 else 0)

/-- Knots (FREQ, K) of a k-factor body from knot i on. -/
def kKnots (body : List Byte) (i : Nat) : Nat → List (Nat × Nat)
  | 0 => []
  | n + 1 => (tb32 body (16 + 8 * i), tb32 body (20 + 8 * i)) :: kKnots body (i + 1) n

/-- The curve of an input; none while no k-factor table is active (R475). -/
def motCurve (s : State) (b : Bool) : Option (List (Nat × Nat)) :=
  (tblBody s 7).map (fun body =>
    let na := (body.getD 0 0).toNat
    let nb := (body.getD 1 0).toNat
    if b ∧ nb ≠ 0 then kKnots body na nb else kKnots body 0 na)

/-- Linear interpolation at x = xn/xd between knots, clamped beyond the end knots; K as a fraction (R473). -/
def interp (xn xd : Nat) : List (Nat × Nat) → Nat × Nat
  | [] => (100000, 1)
  | [(_, k)] => (k, 1)
  | (x0, k0) :: (x1, k1) :: t =>
    if xn ≤ x0 * xd then (k0, 1)
    else if xn ≤ x1 * xd then
      (((k0 : Int) * ((x1 - x0 : Nat) * xd) + ((k1 : Int) - k0) * ((xn : Int) - x0 * xd)).toNat, (x1 - x0) * xd)
    else interp xn xd ((x1, k1) :: t)

/-- MOT_KDEF.K within its limits (R475). -/
def kDef (s : State) : Nat := max 100000 (min 100000000 (s.reg Ad.MOT_KDEF).toNat)

/-- The pulse frequency of an input in units of 0.01 Hz, as a fraction (R473). -/
def motFreq (s : State) (b : Bool) : Nat × Nat :=
  let i := motIn s b
  let c := (i.edges.filter (fun e => decide ((s.tb.cyc - e.1) * 4 < cycSec))).length
  if 4 ≤ c then (400 * c, 1)
  else if i.stale then (0, 1)
  else
    match i.edges with
    | (t1, _) :: (t0, _) :: _ => if 2 * cycSec ≤ s.tb.cyc - t1 then (0, 1) else (100 * cycSec, max 1 (t1 - t0))
    | _ => (0, 1)

/-- K at the input's frequency, in units of 0.001 pulses/km, as a fraction. -/
def motK (s : State) (b : Bool) : Nat × Nat :=
  match motCurve s b with
  | none => (kDef s, 1)
  | some l => interp (motFreq s b).1 (motFreq s b).2 l

/-- The distance that one edge adds, in nm: 10^15 / K (R474). -/
def motNm (s : State) (b : Bool) : Nat := 10 ^ 15 * (motK s b).2 / (max 1 (motK s b).1)

/-- The pulse speed of an input in units of 0.01 km/h (R474). -/
def motSpeed (s : State) (b : Bool) : Nat :=
  3600000 * (motFreq s b).1 * (motK s b).2 / (max 1 ((motFreq s b).2 * (motK s b).1))

/-- A message with SPEED_VALID has been accepted within the last 3 s. -/
def gnssFresh (s : State) : Bool :=
  match s.mot.gnssAt with | none => false | some c => decide (s.tb.cyc - c < 3 * cycSec)

/-- DEV_N in force. -/
def devN (s : State) : Nat := atLeast1 (s.fld Ad.MOT_PLAUS_CFG 23 16)

/-- PLAUS: the first row of Table 12-5 that applies. SPEED counts for PULSE_LOST while it is no older than 3 s. (DEDUCED, log 65.) -/
def motPlaus (s : State) : Nat :=
  let last := match s.mot.a.edges with | (c, _) :: _ => c | [] => s.mot.since
  if (motEn s false ∧ s.mot.a.overrate) ∨ (motEn s true ∧ s.mot.b.overrate) then 5
  else if gnssFresh s ∧ 100 * s.fld Ad.MOT_PLAUS_CFG 31 24 ≤ s.mot.gnss ∧
      atLeast1 (s.fld Ad.MOT_PLAUS_CFG2 7 0) * cycSec ≤ s.tb.cyc - last then 3
  else if s.mot.dev then 2
  else if motEn s true ∧ devN s ≤ s.mot.ab then 4
  else if !gnssFresh s then 1
  else 0

/-- MOT_STATE (Table 12-15). -/
def motState (s : State) : Nat := 512 * b2n s.mot.b.overrate + 256 * b2n s.mot.a.overrate + s.mot.plaus

/-- PLAUS re-evaluated: a change sets MOT_EVT.PLAUS, and R486 raises its fault class. (DESIGN CHOICE, log 36.) -/
def motEval (s : State) : State :=
  let p := motPlaus s
  if p = s.mot.plaus then s
  else
    let s1 := sqEvt (s.setMot { s.mot with plaus := p }) Ad.MOT_EVT 1
    if p = 5 then raise s1 29 (motState s1)
    else if p = 2 ∨ p = 3 ∨ p = 4 then raise s1 28 p
    else s1

/-- Edges of the last second, and in any case the last two. -/
def motKeep (cyc : Nat) : List (Nat × Nat) → List (Nat × Nat)
  | a :: b :: t => a :: b :: t.filter (fun e => decide (cyc - e.1 < cycSec))
  | l => l

/-- The first pulse on MOT_A or MOT_B since the latch was cleared sets it, in every depth and while PORST_N is low (R58).
(DEDUCED, log 30.) -/
def motLatch (falling : Bool) (held : Nat) (s : State) : State :=
  if pinsOk s ∧ !falling ∧ 20 ≤ held ∧ !bit (s.reg Ad.ISL_LATCH) 18 then setLatch s 18 else s

/-- An edge of MOT_A or MOT_B: `held` is how long in ns the level then holds (R472, R474, R58, R77). (DEDUCED, log 30.) OVERRATE
clears at an edge with no more than 2,500 edges in the last 100 ms. (DEDUCED, log 65.) -/
def motEdge (b falling : Bool) (held : Nat) (s : State) : State :=
  let s0 := motLatch falling held s
  if !motEn s b ∨ falling ≠ bit (s.reg Ad.MOT_CFG) (if b then 3 else 2) ∨ held < (s.fld Ad.MOT_CFG 7 4 + 1) * 1000 then s0
  else
    let k := if b then Ad.MOT_CNT_B else Ad.MOT_CNT_A
    let s1 := pcu (if b then 0x72 else 0x71) 0 1 (s0.setReg k (s0.reg k + 1))
    let i := motIn s1 b
    let s2 := setMotIn s1 b { i with edges := motKeep s1.tb.cyc ((s1.tb.cyc, 0) :: i.edges), stale := false }
    let nm := motNm s2 b
    let n := (i.edges.filter (fun e => decide ((s1.tb.cyc - e.1) * 10 < cycSec))).length
    let s3 := setMotIn s2 b { (motIn s2 b) with
      edges := (s1.tb.cyc, nm) :: (motIn s2 b).edges.tail, overrate := i.overrate && decide (2500 < n) }
    motEval (if b then s3 else s3.setMot { s3.mot with nm := (s3.mot.nm + nm) % 2 ^ 64 })

/-- A rate above 25 kHz has held for 100 ms on an enabled input (R472). -/
def motOverrate (b : Bool) (s : State) : State :=
  if !motEn s b ∨ (motIn s b).overrate then s
  else motEval (sqEvt (setMotIn s b { (motIn s b) with overrate := true }) Ad.MOT_EVT 2)

/-- 2 s have passed without an edge on the input: its pulse frequency is 0 (R473), and OVERRATE clears. (DEDUCED, log 65.) -/
def motEdgeTimeout (b : Bool) (s : State) : State :=
  match (motIn s b).edges with
  | (c, _) :: _ =>
    if s.tb.cyc - c < 2 * cycSec then s else motEval (setMotIn s b { (motIn s b) with stale := true, overrate := false })
  | [] => s

/-- The per-second comparison of the two inputs' speeds (Table 12-5, B_MISMATCH). AB_PM is taken of the MOT_A speed.
(DEDUCED, log 65.) -/
def abSpeedCheck (s : State) : State :=
  if !motEn s true then motEval (s.setMot { s.mot with ab := 0 })
  else
    let a := motSpeed s false
    let b := motSpeed s true
    let d := if a < b then b - a else a - b
    motEval (s.setMot { s.mot with
      ab := if s.fld Ad.MOT_PLAUS_CFG2 15 8 * a < d * 1000 ∧ 100 < d then min 255 (s.mot.ab + 1) else 0 })

/-- The pulse speed of MOT_A averaged over the last second, in units of 10^-9 of 0.01 km/h / 360: the nm of its edges (R477).
(DEDUCED, log 65.) -/
def motNmSec (s : State) : Nat :=
  ((s.mot.a.edges.filter (fun e => decide (s.tb.cyc - e.1 < cycSec))).map Prod.snd).foldl (· + ·) 0

/-- The comparison that an accepted message with SPEED_VALID starts (R477). -/
def gnssSpeed (s : State) (speed : Nat) : State :=
  let p := motNmSec s * 360
  let v := speed * 10 ^ 9
  let diff := if p < v then v - p else p - v
  let tol := max (s.fld Ad.MOT_PLAUS_CFG 7 0 * 10 * 10 ^ 9) (s.fld Ad.MOT_PLAUS_CFG 15 8 * speed * 10 ^ 6)
  let m := s.mot
  let m1 : MotSt := { m with gnss := speed, gnssAt := some s.tb.cyc }
  motEval (s.setMot (
    if diff ≤ tol then
      { m1 with bad := 0, good := min 255 (m.good + 1), dev := m.dev && decide (m.good + 1 < devN s) }
    else { m1 with good := 0, bad := min 255 (m.bad + 1), dev := m.dev || decide (devN s ≤ m.bad + 1) }))

/-- A TimeOfDay message from an agent (R458). -/
def timeOfDay (m : TodMsg) (s : State) : State :=
  let k := Ad.DSC_CTRL m.tenant
  if 1024 ≤ m.tenant ∨ s.fld k 2 0 ≠ 1 ∨ !bindBit s m.tenant m.src ∨ !bit (s.reg k) 10 then sqEvt s Ad.TBU_EVT 2
  else
    let s1 := s.setReg Ad.TBU_UTC_OFS (w32 (unsx 8 m.utcOfs))
    let s2 := if m.speedValid then gnssSpeed s1 (m.speed % 65536) else s1
    if m.timeValid then todLabel s2 (m.seconds % 2 ^ 40) else s2

/-- The distance in mm. -/
def motMm (s : State) : Nat := s.mot.nm / 10 ^ 6

/-- A read of MOT_DIST_LO captures the upper half (Table 12-15). -/
def motDistLoRead (s : State) : State :=
  (s.setReg Ad.MOT_DIST_LO (w32 (motMm s))).setReg Ad.MOT_DIST_HI (w32 ((motMm s / 2 ^ 32) % 65536))

/-- The k-factor table is gone at a warm reset (R475): MOT_EVT.NO_CURVE. -/
def motNoCurve (s : State) : State := sqEvt s Ad.MOT_EVT 4

/-- What follows an update of group 3 (R480, R473): a changed EDGE or TBU_PPS_COMP restarts the judging of edges, and an input
that has just been enabled has no edge yet. -/
def tbApplied (old s : State) : State :=
  let s1 := if bit (old.reg Ad.TBU_SRV_CFG) 0 ≠ bit (s.reg Ad.TBU_SRV_CFG) 0 ∨ old.reg Ad.TBU_PPS_COMP ≠ s.reg Ad.TBU_PPS_COMP
            then s.setTb { s.tb with restart := true } else s
  let s2 := if motEn s1 false ∧ !motEn old false then s1.setMot { s1.mot with a := ⟨[], false, false⟩, since := s1.tb.cyc } else s1
  let s3 := if motEn s2 true ∧ !motEn old true then s2.setMot { s2.mot with b := ⟨[], false, false⟩, ab := 0 } else s2
  motEval (tbReclass s3)

end Sys2Proof.Machine
end

