-- ==== Sys2Proof/Machine/Link.lean ====
section
/-!
DEFINITION. Machine/Link.lean: the Seodex ports (chapter 5): training and sessions (R182 to R184), sequence, acknowledge and
replay (R173 to R178, R196, R197), credits (R180, R181), delivery of messages (R170 to R172), sending of flits (R361), attach
and detach (R185 to R193, R242), low-power idle and park (R194, R195), and port configuration (R163, R200).
-/
namespace Sys2Proof.Machine

/-! ### Ports -/

/-- A port's state. -/
def portOf (s : State) (p : Nat) : PortSt := s.lnk.ports.getD p (portFresh .disabled 2 0)

/-- A port's state changed. -/
def setPort (s : State) (p : Nat) (f : PortSt → PortSt) : State :=
  { s with lnk := { s.lnk with ports := upd s.lnk.ports p f } }

/-- The agents of a port. -/
def portAgents (s : State) (p : Nat) : List AgentRec := s.lnk.agents.filter (fun r => r.port == p)

/-- The credits the hub advertises (Table 5-7). -/
def hubAdv : List Nat := [256, 8, 0, 512, 256, 32]

/-- A partner's advertisement as the hub takes it (R182). -/
def capAdv (l : List Nat) : List Nat := (List.range 6).map (fun c => if c ≤ 1 then 0 else min 1024 (l.getD c 0))

/-- The advertisement is below a minimum of Table 5-7. -/
def advLow (l : List Nat) : Bool :=
  decide (l.getD 2 0 < 16) || decide (l.getD 3 0 < 32) || decide (l.getD 4 0 < 16) || decide (l.getD 5 0 < 8)

/-- The distance from one sequence number forward to another, modulo 4,096. -/
def seqFrom (a b : Nat) : Nat := (b + 4096 - a % 4096) % 4096

/-! ### RETRAIN, DOWN and the loss of agents -/

/-- Control flits still to be sent after a retrain: those of attach and detach. -/
def ctlKeeps : Ctl → Bool
  | .grant .. => true
  | .refuse .. => true
  | .done .. => true
  | .hubReq .. => true
  | _ => false

/-- Entry to RETRAIN (R183, R197); LINK_RETRAIN is raised where a limit was reached (Table 5-14). -/
def retrain (s : State) (p : Nat) (limit : Bool) : State :=
  let s1 := setPort s p (fun (q : PortSt) => { q with
    mode := .retrain, replay := none, nak := none, nakHeld := false, nakN := 0, seen := false, rtSync := false, uncorr := [],
    lpiWait := false, parkWait := false,
    ctl := q.ctl.filter ctlKeeps })
  let s2 := sqEvt (s1.inc (Ad.LNK_COUNT p 5)) (Ad.LNK_EVT p) 64
  if limit then raise s2 7 p else s2

/-- A protocol error of Table 5-14: PROTO, RETRAIN, and the class LINK_PROTO. -/
def protoErr (s : State) (p : Nat) : State := retrain (raise (sqEvt s (Ad.LNK_EVT p) 512) 8 p) p false

/-- Receipts of submits that a detached agent made are discarded (R34): an ID granted anew is another agent. -/
def evsForget (ids : List Nat) (s : State) : State :=
  let f (a : Nat) : Nat := if ids.contains a then 0 else a
  let q (e : QEntry) : QEntry := { e with src := f e.src }
  { s with
    evs := { s.evs with
      q := s.evs.q.map q
      reading := s.evs.reading.map q
      dups := s.evs.dups.map (fun d => { d with src := f d.src })
      rcpts := s.evs.rcpts.map (fun r => (r.1, { r.2 with src := f r.2.src }))
      exports := s.evs.exports.map (fun e => { e with src := f e.src }) }
    chz := { s.chz with carve := s.chz.carve.map (fun c => { c with entry := c.entry.map q }) } }

/-- Agents leave their port: IDs and precise slots go into quarantine (R193, R242), what is queued for them is dropped (R34), and
their reservations are lost (R225). -/
def removeAgents (s : State) (p : Nat) (ids : List Nat) : State :=
  let gone := (portAgents s p).filter (fun r => ids.contains r.id)
  let s0 := { s with
    lnk := { s.lnk with
      agents := s.lnk.agents.filter (fun r => !(r.port == p && ids.contains r.id))
      quar := s.lnk.quar ++ gone.map (fun r => (r.id, p, r.slot))
      tx := s.lnk.tx.filter (fun m => !(m.port == p && ids.contains m.agent)) }
    evc := { s.evc with
      queue := s.evc.queue.filter (fun e => !(e.1 == p && ids.contains e.2.1))
      mseq := ids.foldl (fun m a => stDrop m a) s.evc.mseq }
    ha := { s.ha with resv := s.ha.resv.filter (fun r => !ids.contains r.agent) } }
  let s1 := evsForget ids s0
  if (portAgents s1 p).isEmpty then
    setPort s1 p (fun (q : PortSt) => { q with attach := none, answer := none, hubReqs := [], detach := [] })
  else s1

/-- A surprise detach of some of a port's agents (R192). Where it applies to no agent, SURPRISE stays as it is. (DESIGN CHOICE,
log 57.) -/
def surpriseDetach (s : State) (p : Nat) (ids : List Nat) : State :=
  if ids.isEmpty then s
  else removeAgents (sqEvt (ids.foldl (fun s a => declare s a true) s) (Ad.LNK_EVT p) 16) p ids

/-- A surprise detach of every agent of a port. -/
def surpriseAll (s : State) (p : Nat) : State := surpriseDetach s p ((portAgents s p).map AgentRec.id)

/-- The width that LNK_CFG gives a port: one that it does not have acts as 2 (R200). -/
def cfgWidth (s : State) (p : Nat) : Nat :=
  let w := bf (s.reg (Ad.LNK_CFG p)) 2 1
  if w = 0 then 1 else if w = 2 ∧ p % 2 = 0 then 4 else 2

/-- The port is enabled: EN is 1, and the even port below it neither has width 4 nor is given it (R163). -/
def portEn (s : State) (p : Nat) : Bool :=
  bit (s.reg (Ad.LNK_CFG p)) 0 && !(p % 2 == 1 && (cfgWidth s (p - 1) == 4 || (portOf s (p - 1)).width == 4))

/-- The lanes of the port's width are its own: for width 4 the next port is DISABLED (R163). -/
def laneFree (s : State) (p : Nat) : Bool := cfgWidth s p != 4 || (portOf s (p + 1)).mode == .disabled

/-- A port that starts from DISABLED at a width. Its session, sequence numbers, held flits and credits stay (R201). -/
def portRestart (q : PortSt) (mode : PortMode) (width : Nat) : PortSt :=
  { q with
    mode := mode, width := width, replay := none, ctl := [], nak := none, nakN := 0, nakHeld := false, uncorr := []
    ackDue := false, seen := false, rtSync := false, attach := none, answer := none, hubReqs := [], detach := []
    reconf := false, lpiWait := false, parkWait := false }

/-- R200: the port goes to DISABLED, and to DETECT at the new width if it is enabled; a port in DOWN stays there for its 1 ms. -/
def reconfDone (s : State) (p : Nat) : State :=
  linkCut (setPort s p (fun q =>
    portRestart q (if !portEn s p then .disabled else if q.mode = .down then .down else .detect) (cfgWidth s p))) p

/-- The reconfiguration of R200 that waits: until the agents have gone, DONE has been sent, and the lanes are free. -/
def reconfTry (s : State) (p : Nat) : State :=
  let q := portOf s p
  let done := q.ctl.all (fun (c : Ctl) => match c with | .done .. => false | _ => true)
  if q.reconf ∧ (portAgents s p).isEmpty ∧ done ∧ laneFree s p then reconfDone s p else s

/-- The same for a port and then for the one it shares lanes with, which starts if it is no longer kept DISABLED (R163). -/
def reconfCheck (s : State) (p : Nat) : State :=
  let n := if p % 2 = 0 then p + 1 else p - 1
  let s1 := reconfTry (reconfTry s p) n
  if n % 2 = 1 ∧ (portOf s1 n).mode = .disabled ∧ portEn s1 n then reconfDone s1 n else s1

/-- Entry to DOWN: surprise detach, the replay buffer discarded, the session ended (R192). -/
def portDown (s : State) (p : Nat) : State :=
  let s1 := surpriseAll (sqEvt s (Ad.LNK_EVT p) 128) p
  let s2 := setPort s1 p (fun q => { portFresh .down q.width q.epoch with reconf := q.reconf })
  reconfCheck s2 p

/-- Entry to DOWN from RETRAIN_LIMIT or a lost sequence: class LINK_DOWN (Table 5-14). -/
def portLost (s : State) (p : Nat) : State := raise (portDown s p) 9 p

/-! ### Training (Table 5-13) -/

/-- Signal on every lane. -/
def signalDetect (s : State) (p : Nat) : State :=
  if (portOf s p).mode = .detect then setPort s p (fun (q : PortSt) => { q with mode := .equalize }) else s

/-- RX_READY on every lane for 16 frames. -/
def equalizeDone (s : State) (p : Nat) : State :=
  if (portOf s p).mode = .equalize then setPort s p (fun (q : PortSt) => { q with mode := .align }) else s

/-- EQUALIZE has lasted 100 ms. -/
def equalizeTimeout (s : State) (p : Nat) : State :=
  if (portOf s p).mode = .equalize then sqEvt (setPort s p (fun (q : PortSt) => { q with mode := .detect })) (Ad.LNK_EVT p) 32 else s

/-- Codeword lock, deskew and lane order: SYNC, or its part of RETRAIN. -/
def alignLock (s : State) (p : Nat) : State :=
  if (portOf s p).mode = .align then setPort s p (fun (q : PortSt) => { q with mode := .sync, seen := false })
  else if (portOf s p).mode = .retrain then setPort s p (fun (q : PortSt) => { q with rtSync := true, seen := false })
  else s

/-- The port exchanges SYNC flits. -/
def inSync (q : PortSt) : Bool := q.mode == .sync || (q.mode == .retrain && q.rtSync)

/-- The SYNC flit of a port (Table 5-9), with the hub's advertisement (R182). -/
def syncFlit (q : PortSt) : Ctl := .sync (if q.session then q.epoch else 0) q.las q.next q.seen (!q.session) hubAdv

/-- Symbols corrected in a codeword (R168), while codewords arrive. -/
def fecCount (s : State) (p n : Nat) : State :=
  if n = 0 ∨ ((portOf s p).mode ≠ .active ∧ !inSync (portOf s p)) then s else pcu 0x07 p 1 (s.incBy (Ad.LNK_COUNT p 6) n)

/-- Codeword lock lost on an ACTIVE port. -/
def lockLost (s : State) (p : Nat) : State := if (portOf s p).mode = .active then retrain s p false else s

/-- Training frames from the partner: an ACTIVE port retrains, a port in LPI returns to ACTIVE (R183, R194). -/
def partnerFrames (s : State) (p : Nat) : State :=
  match (portOf s p).mode with
  | .active => retrain s p false
  | .lpi => setPort s p (fun (q : PortSt) => { q with mode := .active })
  | _ => s

/-- RETRAIN has lasted RETRAIN_LIMIT. -/
def retrainLimit (s : State) (p : Nat) : State := if (portOf s p).mode = .retrain then portLost s p else s

/-- 1 ms after DOWN; a contained port stays DOWN (Table 19-3). -/
def downRetry (s : State) (p : Nat) : State :=
  if (portOf s p).mode = .down ∧ !contained s p then setPort s p (fun (q : PortSt) => { q with mode := .detect }) else s

/-- LNK_CMD.RETRAIN. -/
def cmdRetrain (s : State) (p : Nat) : State := if (portOf s p).mode = .active then retrain s p false else s

/-! ### Sessions (R182, R184) -/

/-- EPOCH of the next session: one higher modulo 65,536, skipping 0. -/
def nextEpoch (e : Nat) : Nat := if (e + 1) % 65536 = 0 then 1 else (e + 1) % 65536

/-- A fresh session. -/
def sessionStart (s : State) (p : Nat) (adv : List Nat) : State :=
  let s1 := setPort s p (fun q =>
    let f := portFresh .active q.width (nextEpoch q.epoch)
    { f with session := true, adv := adv, seen := true, ctl := [syncFlit { f with session := true, seen := true }] })
  sqEvt s1 (Ad.LNK_EVT p) 1

/-- A resumed session: held flits up to the peer's LAS are freed, and the rest resent. -/
def sessionResume (s : State) (p las : Nat) : State :=
  setPort s p (fun (q : PortSt) =>
    let h := q.held.filter (fun f => decide (seqFrom q.acked las < seqFrom q.acked f.seq))
    let q1 : PortSt := { q with
      mode := .active, acked := las, held := h, seen := true, rtSync := false, ackDue := false,
      replay := if h.isEmpty then none else some ((las + 1) % 4096) }
    { q1 with ctl := syncFlit q1 :: q1.ctl })

/-! ### Received headers, NAKs and replay (R173 to R178, R196) -/

/-- ACK a: held flits up to a are freed, and a replay in progress moves past them. -/
def takeAck (q : PortSt) (a : Nat) : PortSt :=
  let d := seqFrom q.acked a
  let h := q.held.filter (fun f => decide (d < seqFrom q.acked f.seq))
  let rp := match q.replay with
    | none => none
    | some r => if h.isEmpty then none else if seqFrom q.acked r ≤ d then some ((a + 1) % 4096) else some r
  { q with acked := a, held := h, replay := rp }

/-- ACK and CFREED of a received header taken (R177, R180). -/
def hdrTake (s : State) (p : Nat) (h : FlitHdr) : State :=
  setPort s p (fun q => let q1 := takeAck q (h.ack % 4096)
    { q1 with freedTx := upd q1.freedTx h.cclass (fun _ => h.cfreed % 4096) })

/-- The header of a received flit. On an ACTIVE port its reserved bits and ACK are checked, then ACK and CFREED taken, and the rest
of the flit handled; a port that exchanges SYNC flits checks the reserved bits alone. -/
def rxHdr (s : State) (p : Nat) (h : FlitHdr) (k : State → State) : State :=
  let q := portOf s p
  let s1 := fecCount s p h.corr
  if inSync q then (if h.resv ≠ 0 then protoErr s1 p else s1)
  else if q.mode ≠ .active then s1
  else if h.resv ≠ 0 ∨ 5 < h.cclass ∨ seqFrom q.acked (q.next + 4095) < seqFrom q.acked h.ack then protoErr s1 p
  else k (hdrTake s1 p h)

/-- A SYNC flit that decides the session (R184). -/
def syncDecide (s : State) (p epoch las : Nat) (seen fresh : Bool) (adv : List Nat) : State :=
  let q := portOf s p
  let a := capAdv adv
  if advLow a then raise (sqEvt (portDown s p) (Ad.LNK_EVT p) 512) 8 p
  else
    let s1 := setPort s p (fun (q : PortSt) => { q with seen := true })
    if !seen then s1
    else if !q.session then sessionStart s1 p a
    else if epoch = q.epoch ∧ !fresh then
      if seqFrom q.acked las ≤ seqFrom q.acked (q.next + 4095) ∧ a = q.adv then sessionResume s1 p las
      else portLost (sqEvt s1 (Ad.LNK_EVT p) 256) p
    else if q.reconf then reconfCheck (surpriseAll s1 p) p
    else sessionStart (surpriseAll s1 p) p a

/-- A SYNC flit. On an ACTIVE port a SYNC without SEEN is answered with one more SYNC flit. (DESIGN CHOICE, log 57.) -/
def recvSync (s : State) (p : Nat) (h : FlitHdr) (epoch las : Nat) (seen fresh : Bool) (adv : List Nat) : State :=
  if inSync (portOf s p) ∧ h.resv = 0 then syncDecide (fecCount s p h.corr) p epoch las seen fresh adv
  else rxHdr s p h (fun s => if seen then s else setPort s p (fun q => { q with ctl := q.ctl ++ [syncFlit q] }))

/-- A replay starts at a held sequence number (LNK_REPLAY_COUNT). -/
def replayFrom (s : State) (p e : Nat) : State :=
  (setPort s p (fun (q : PortSt) => { q with replay := some e })).inc (Ad.LNK_COUNT p 4)

/-- A NAK after its ACK (R177, R196). -/
def recvNak (s : State) (p expect : Nat) : State :=
  let s1 := s.inc (Ad.LNK_COUNT p 3)
  let q := portOf s1 p
  let o := seqFrom (q.acked + 1) expect
  if seqFrom (q.acked + 1) q.next < o then protoErr s1 p
  else if expect % 4096 = q.next then s1
  else
    match q.replay with
    | some r => if o < seqFrom (q.acked + 1) r then replayFrom s1 p (expect % 4096) else s1
    | none => replayFrom s1 p (expect % 4096)

/-- REPLAY_TMR has run for the oldest held flit. -/
def replayTimer (s : State) (p : Nat) : State :=
  let q := portOf s p
  match q.held with
  | [] => s
  | f :: _ => if q.mode = .active then replayFrom s p f.seq else s

/-- A NAK with EXPECT = LAS + 1, held back while NAK_TMR runs for that EXPECT (R174); NAK_LIMIT leads to RETRAIN (R183). -/
def nakSend (s : State) (p : Nat) : State :=
  let q := portOf s p
  let e := (q.las + 1) % 4096
  if q.nak = some e then setPort s p (fun (q : PortSt) => { q with nakHeld := true })
  else
    let n := if q.nakFor = e then q.nakN + 1 else 1
    let s1 := setPort s p (fun (q : PortSt) => { q with nak := some e, nakHeld := false, nakFor := e, nakN := n, ctl := .nak e :: q.ctl })
    let s2 := pcu 0x05 p 1 (s1.inc (Ad.LNK_COUNT p 2))
    if max 1 (s.fld (Ad.LNK_ERR_CFG p) 15 8) ≤ n then retrain s2 p true else s2

/-- NAK_TMR has run: a NAK held back meanwhile is sent. -/
def nakTimer (s : State) (p : Nat) : State :=
  let q := portOf s p
  let s1 := setPort s p (fun (q : PortSt) => { q with nak := none, nakHeld := false })
  if q.mode = .active ∧ q.nakHeld then nakSend s1 p else s1

/-- n flits that failed their CRC: counted, and on an ACTIVE port a NAK. -/
def crcFail (s : State) (p n : Nat) : State :=
  let s1 := pcu 0x06 p n (s.incBy (Ad.LNK_COUNT p 1) n)
  if (portOf s p).mode = .active then nakSend s1 p else if inSync (portOf s p) then s1 else s

/-- An uncorrectable codeword (R168, R183). -/
def codewordBad (s : State) (p : Nat) : State :=
  if (portOf s p).mode ≠ .active ∧ !inSync (portOf s p) then s
  else
    let s1 := crcFail (s.inc (Ad.LNK_COUNT p 7)) p 5
    let l := ((portOf s p).uncorr ++ [s.tb.cyc]).filter (fun c => decide (s.tb.cyc < c + 153600))
    if (portOf s1 p).mode ≠ .active then s1
    else if max 1 (s.fld (Ad.LNK_ERR_CFG p) 7 0) ≤ l.length then retrain s1 p true
    else setPort s1 p (fun (q : PortSt) => { q with uncorr := l })

/-! ### Attach completes (R189) -/

/-- The attach completes: LNK_PARTNER and ATTACHED. (DESIGN CHOICE, log 36.) -/
def attachComplete (s : State) (p : Nat) : State :=
  match (portOf s p).attach with
  | none => s
  | some a =>
    if a.complete then s
    else
      let s1 := setPort s p (fun (q : PortSt) => { q with attach := some { a with complete := true } })
      sqEvt ((s1.setReg (Ad.LNK_PARTNER_LO p) (w32 a.partner)).setReg (Ad.LNK_PARTNER_HI p) (w32 (a.partner / 2 ^ 32)))
        (Ad.LNK_EVT p) 2

/-! ### Delivery of messages (R170 to R172, Table 5-14) -/

/-- MOP of a response. -/
def rspMop : RspKind → Nat
  | .data => 0x20
  | .dataPoison => 0x21
  | .ack => 0x22
  | .retry => 0x23
  | .compAck => 0x24

/-- MOP, MCLASS, SRC and DST of a message. -/
def msgHead : Msg → Nat × Nat × Nat × Nat
  | .req m => (reqMop m.kind, m.mclass, m.src, m.dst)
  | .rsp m => (rspMop m.kind, m.mclass, m.src, m.dst)
  | .door m => (0x30, m.mclass, m.src, m.dst)
  | .tod m => (0x31, m.mclass, m.src, m.dst)
  | .other mop c src dst => (mop, c, src, dst)

/-- Table 5-8 allows the class for the opcode. -/
def classOk (mop c : Nat) : Bool :=
  if 1 ≤ mop ∧ mop ≤ 10 then decide (c ≤ 1)
  else if 0x10 ≤ mop ∧ mop ≤ 0x13 then c == 2
  else if mop = 0x20 ∨ mop = 0x21 then c == 4
  else if 0x22 ≤ mop ∧ mop ≤ 0x24 then c == 3
  else decide (0x30 ≤ mop ∧ mop ≤ 0x35) && c == 5

/-- The opcode heads a DATA flit (Table 5-8). -/
def dataHead (mop : Nat) : Bool := (decide (6 ≤ mop ∧ mop ≤ 8) || mop == 10 || mop == 0x20 || mop == 0x21)

/-- The credits a message occupies: that of its class, and one DAT credit where it heads a DATA flit in another class (R171). -/
def credits (c : Nat) (head : Bool) : List Nat := (if c ≤ 5 then [c] else []) ++ (if head && c != 4 then [4] else [])

/-- The tenant of the line that a snoop names. -/
def snpTenant (s : State) (sid : Nat) : Option Nat :=
  match trkAt s sid with
  | some t => some t.r.m.tenant
  | none => (s.ha.binv.find? (fun b => b.sid == sid)).map (fun b => b.e.tenant)

/-- A message's line, for the check-value units that watch the port's ingress (Table 17-2, R636). -/
def ingress (s : State) (p : Nat) : Msg → State
  | .req r =>
    if r.kind = .writePartial then cvuItem 0 p r.tenant (maskedBytes r.data r.mask) s
    else if r.kind = .writeFull ∨ r.kind = .writeConditional ∨ r.kind = .dirtyEvict then cvuItem 0 p r.tenant (lineBytes64 r.data) s
    else s
  | .rsp r =>
    match r.kind, snpTenant s r.tag with
    | .data, some t => cvuItem 0 p t (lineBytes64 r.line) s
    | .dataPoison, some t => cvuPoison 0 p t s
    | _, _ => s
  | _ => s

/-- The credits of a message freed. -/
def creditsFree (s : State) (p c : Nat) (head : Bool) : State := (credits c head).foldl (fun s c => creditFree s p c) s

/-- A message handed to the block it is for; a request's credits are freed when the home agent takes it (R181), the others' at
once. -/
def dispatchMsg (s : State) (p : Nat) (head : Bool) (m : Msg) : State :=
  match m with
  | .req r => haRequest (if s.depth = 1 then s.later .daleWake else s) p r (head && r.mclass != 4)
  | .rsp r => creditsFree (haResponse s p r) p r.mclass head
  | .door d =>
    creditsFree (if d.kind = 0 then doorSubmit d s else if d.kind = 1 then doorExport d s
      else if d.kind = 2 then doorAck d s else doorUndef d s) p d.mclass head
  | .tod t => creditsFree (timeOfDay t s) p t.mclass head
  | .other mop c _ _ => creditsFree (if mop = 0x32 then sqEvt s Ad.EVC_EVT 2 else s) p c head

/-- The agent belongs to the port, and the GRANT that gave it its ID has been sent (R189). -/
def granted (s : State) (p a : Nat) : Bool :=
  (portAgents s p).any (fun r => r.id == a) && (portOf s p).attach.all AttachSt.sent

/-- One message of an accepted flit; `head`: it heads a DATA flit. The first from a granted ID completes the attach (R189), and
every one from an agent declared unresponsive is discarded (R244). (DESIGN CHOICE, log 34.) -/
def deliverMsg (p : Nat) (s : State) (head : Bool) (m : Msg) : State :=
  let (mop, c, src, dst) := msgHead m
  let need := credits c head
  let q := portOf s p
  let s0 := if granted s p src then attachComplete s p else s
  let s1 := setPort s0 p (fun (q : PortSt) => { q with got := need.foldl (fun l c => upd l c (· + 1)) q.got })
  if need.any (fun c => decide (hubAdv.getD c 0 ≤ q.got.getD c 0 - q.freed.getD c 0)) then
    creditsFree (raise (sqEvt s1 (Ad.LNK_EVT p) 2048) 8 p) p c head
  else if !classOk mop c ∨ dst ≠ 0 ∨ !granted s p src then
    creditsFree (raise (sqEvt s1 (Ad.LNK_EVT p) 1024) 8 p) p c head
  else if unresp s1 src then creditsFree s1 p c head
  else dispatchMsg (ingress s1 p m) p head m

/-- The messages of a flit with their places: the first of a DATA flit is its head (Table 5-5). -/
def flitSlots (data : Bool) : List Msg → List (Bool × Msg)
  | [] => []
  | m :: t => (data, m) :: t.map (fun x => (false, x))

/-- A sequenced flit that has passed its CRC (R173). -/
def recvFlit (s : State) (p : Nat) (h : FlitHdr) (seq : Nat) (data : Bool) (msgs : List Msg) : State :=
  rxHdr (if (portOf s p).mode = .active then bwAdd s p false 0 2 else s) p h (fun s =>
    let d := seqFrom (portOf s p).las seq
    if d = 1 then
      let s1 := pcu 0x01 p 1 (setPort s p (fun (q : PortSt) => { q with las := seq % 4096, ackDue := true, nak := none, nakHeld := false }))
      let s2 := if data then bwAdd s1 p false 1 1 else s1
      ((flitSlots data msgs).take (min h.nslot (if data then 2 else 7))).foldl (fun s x => deliverMsg p s x.1 x.2) s2
    else if d = 0 ∨ 2048 < d then
      pcu 0x04 p 1 ((setPort s p (fun (q : PortSt) => { q with ackDue := true })).inc (Ad.LNK_COUNT p 0))
    else nakSend s p)

/-- An IDLE flit. -/
def recvIdle (s : State) (p : Nat) (h : FlitHdr) : State := rxHdr s p h id

/-- A flit with a reserved FTYPE. -/
def reservedFlit (s : State) (p : Nat) (h : FlitHdr) : State :=
  if (portOf s p).mode = .active ∨ inSync (portOf s p) then protoErr (fecCount s p h.corr) p else s

/-! ### Sending (R175, R176, R180, R181, R361) -/

/-- The class reported after class c: those with a nonzero advertisement, in turn (R181). -/
def nextClass (c : Nat) : Nat := if c = 0 then 1 else if c = 1 then 3 else if c = 3 then 4 else if c = 4 then 5 else 0

/-- A flit leaves the port, with ACK, CCLASS and CFREED (Table 5-3). -/
def emit (s : State) (p ftype seq : Nat) (c : Option Ctl) (msgs : List (Nat × OutMsg)) : State :=
  setPort s p (fun (q : PortSt) => { q with
    out := some ⟨ftype, seq, q.las, msgs.length, q.cclass, q.freed.getD q.cclass 0 % 4096, c, msgs⟩
    cclass := nextClass q.cclass, ackDue := false })

/-- FTYPE of a control flit (Table 5-4). -/
def ctlType : Ctl → Nat
  | .nak _ => 0x8
  | .sync .. => 0x9
  | .grant .. => 0xB
  | .refuse .. => 0xB
  | .done .. => 0xC
  | .hubReq .. => 0xC
  | .park => 0xD
  | .lpi => 0xD
  | .idle => 0x0

/-- A control flit leaves the port; a GRANT lets the granted IDs send (R189). -/
def emitCtl (s : State) (p : Nat) (c : Ctl) : State :=
  let s1 := match c with
    | .grant nonce _ _ => setPort s p (fun (q : PortSt) => { q with
        attach := q.attach.map (fun a => if a.nonce = nonce then { a with sent := true } else a) })
    | _ => s
  emit s1 p (ctlType c) 0 (some c) []

/-- The MCLASS of a message from the hub. -/
def outClass : OutMsg → Nat
  | .snoop .. => 2
  | .rsp .data .. => 4
  | .rsp .dataPoison .. => 4
  | .rsp .. => 3
  | _ => 5

/-- The message heads a DATA flit. -/
def outData (m : OutMsg) : Bool := outClass m == 4

/-- Credits of a class left at a port (R180). -/
def creditLeft (q : PortSt) (c : Nat) : Bool :=
  decide (seqFrom (q.freedTx.getD c 0) (q.sent.getD c 0) < q.adv.getD c 0)

/-- The tenant for which a response carries data: that of its transaction. -/
def rspTenant (s : State) (agent : Nat) : OutMsg → Option Nat
  | .rsp _ tag htid _ _ _ =>
    ((trkAt s htid).filter (fun t => t.r.who.isNone && t.r.m.src == agent && t.r.m.txid == tag)).map (fun t => t.r.m.tenant)
  | _ => none

/-- The L pass of a tenant at a port. -/
def linkPass (s : State) (p t : Nat) : Option Pass := (passes s).find? (fun x => x.cls == 2 && x.port == p && x.tenant == t)

/-- Level of an L pass's 16 KiB bucket (R361). -/
def linkBkt (s : State) (x : Pass) : Nat :=
  match s.pas.lbkt.find? (fun b => b.1 == x.n) with
  | none => 16384 * 1536 * 65536
  | some (_, l, at_) => min (16384 * 1536 * 65536) (l + passRate s x * 10 * (s.tb.cyc - at_))

/-- The data flit goes ahead within its L pass's bucket. -/
def linkAhead (s : State) (p agent : Nat) (m : OutMsg) : Option Pass :=
  if outData m then
    ((rspTenant s agent m).bind (linkPass s p)).filter (fun x => decide (64 * 1536 * 65536 ≤ linkBkt s x))
  else none

/-- Messages waiting at a port: replies, snoops and notices, then Events. -/
def waiting (s : State) (p : Nat) : List (Nat × OutMsg) :=
  ((s.lnk.tx.filter (fun m => m.port == p)).map (fun m => (m.agent, m.m)))
    ++ ((s.evc.queue.filter (fun e => e.1 == p)).map (fun e => e.2))

/-- Messages taken in order for a flit's slots, each within its credits, data heads left out. -/
def pickMsgs : Nat → PortSt → List (Nat × OutMsg) → List (Nat × OutMsg)
  | 0, _, _ => []
  | _, _, [] => []
  | n + 1, q, x :: t =>
    let c := outClass x.2
    if !outData x.2 && creditLeft q c then x :: pickMsgs n { q with sent := upd q.sent c (· + 1) } t else pickMsgs (n + 1) q t

/-- The messages of the next new flit: the first that has credit decides the flit's type; among data heads those of L passes
within their buckets go first. -/
def pickFlit (s : State) (p : Nat) : Option (Bool × List (Nat × OutMsg)) :=
  let q := portOf s p
  let w := waiting s p
  match w.find? (fun x => creditLeft q (outClass x.2)) with
  | none => none
  | some x =>
    if outData x.2 then
      let d := ((w.find? (fun y => (linkAhead s p y.1 y.2).isSome))).getD x
      some (true, d :: pickMsgs 1 { q with sent := upd q.sent 4 (· + 1) } w)
    else some (false, pickMsgs 7 q w)

/-- A message has been placed in a sequenced flit: out of its queue, its credit counted, and the home agent told (R212, R214). -/
def placeMsg (p : Nat) (s : State) (x : Nat × OutMsg) : State :=
  let tenant := rspTenant s x.1 x.2
  let s0 := match linkAhead s p x.1 x.2 with
    | some l =>
      { s with pas := { s.pas with
          lbkt := (l.n, linkBkt s l - 64 * 1536 * 65536, s.tb.cyc) :: s.pas.lbkt.filter (fun b => b.1 != l.n) } }
    | none => s
  let s1 := match s0.lnk.tx.findIdx? (fun m => m.port == p && m.agent == x.1 && m.m == x.2) with
    | some i => { s0 with lnk := { s0.lnk with tx := s0.lnk.tx.eraseIdx i } }
    | none =>
      match s0.evc.queue.findIdx? (fun e => e == (p, x)) with
      | some i => { s0 with evc := { s0.evc with queue := s0.evc.queue.eraseIdx i } }
      | none => s0
  let s2 := setPort s1 p (fun (q : PortSt) => { q with sent := upd q.sent (outClass x.2) (fun n => (n + 1) % 4096) })
  let s3 := match x.2, tenant with
    | .rsp .data _ _ _ _ d, some t => cvuItem 1 p t (lineBytes64 d) s2
    | .rsp .dataPoison _ _ _ _ _, some t => cvuPoison 1 p t s2
    | _, _ => s2
  match x.2, tenant with
  | .rsp _ _ htid _ _ _, some _ => haPlaced s3 htid
  | _, _ => s3

/-- A new sequenced flit, kept in the replay buffer until acknowledged (R176). -/
def sendNew (s : State) (p : Nat) : State :=
  if 1024 ≤ (portOf s p).held.length then s
  else
    match pickFlit s p with
    | none => s
    | some (_, []) => s
    | some (data, l) =>
      let n := (portOf s p).next
      let s1 := l.foldl (placeMsg p) s
      let s2 := setPort s1 p (fun (q : PortSt) => { q with next := (n + 1) % 4096, held := q.held ++ [⟨n, data, l⟩] })
      let s3 := pcu 0x02 p 1 (bwAdd (if data then bwAdd s2 p true 1 1 else s2) p true 0 2)
      emit s3 p (if data then 2 else 1) n none l

/-- The next flit of a replay. -/
def sendReplay (s : State) (p r : Nat) : State :=
  match (portOf s p).held.find? (fun f => f.seq == r) with
  | none => setPort s p (fun (q : PortSt) => { q with replay := none })
  | some f =>
    let n := (r + 1) % 4096
    let s1 := setPort s p (fun (q : PortSt) => { q with replay := if n = q.next then none else some n })
    emit (pcu 0x03 p 1 (bwAdd s1 p true 0 2)) p (if f.data then 2 else 1) f.seq none f.msgs

/-- The next flit: control flits first, then the replay in progress, then new flits; while the port is not ACTIVE, only SYNC,
and PARK from LPI. -/
def sendNext (s : State) (p : Nat) : State :=
  let q := portOf s p
  if q.mode = .active then
    match q.ctl, q.replay with
    | c :: t, _ => emitCtl (setPort s p (fun (q : PortSt) => { q with ctl := t })) p c
    | [], some r => sendReplay s p r
    | [], none => sendNew s p
  else
    match q.ctl.find? (fun (c : Ctl) => match c with | .sync .. => inSync q | .park => q.mode == .lpi | _ => false) with
    | some c => emitCtl (setPort s p (fun (q : PortSt) => { q with ctl := q.ctl.erase c })) p c
    | none => s

/-- TRANSMIT_FLIT: the next flit is sent; a reconfiguration that waited for its DONE goes on. -/
def transmit (s : State) (p : Nat) : State :=
  let s1 := sendNext s p
  if (portOf s1 p).reconf then reconfCheck s1 p else s1

/-- 1 µs in SYNC: a SYNC flit is sent. -/
def syncTimer (s : State) (p : Nat) : State := if inSync (portOf s p) then emitCtl s p (syncFlit (portOf s p)) else s

/-- ACK_TMR since an acceptance without a flit sent: an IDLE flit is sent. -/
def ackTimer (s : State) (p : Nat) : State :=
  if (portOf s p).mode = .active ∧ (portOf s p).ackDue then emitCtl s p .idle else s

/-! ### Attach (R185 to R189) -/

/-- IDs free to be granted: neither granted nor in quarantine. -/
def freeIds (s : State) : List Nat :=
  (List.range 255).filter (fun i => i != 0 && !(s.lnk.agents.any (fun r => r.id == i)) && !(s.lnk.quar.any (fun q => q.1 == i)))

/-- The IDs in grant order (R187). -/
def grantOrder (s : State) : List Nat :=
  let l := freeIds s
  if bit (s.reg Ad.LNK_ID_CFG) 0 then l.filter (fun i => decide (s.lnk.lastId < i)) ++ l.filter (fun i => decide (i ≤ s.lnk.lastId))
  else l

/-- Precise slots that no agent holds and that are not in quarantine. -/
def freeSlots (s : State) : List Nat :=
  (List.range 64).filter (fun k => !(s.lnk.agents.any (fun r => r.slot == some k)) && !(s.lnk.quar.any (fun q => q.2.2 == some k)))

/-- Agent records for granted IDs, with precise slots for caching agents while some are free (R188). -/
def grantRecs (p caching : Nat) : Nat → List Nat → List Nat → List AgentRec
  | _, [], _ => []
  | i, a :: t, k =>
    if caching.testBit i then
      match k with
      | x :: k1 => ⟨a, p, i, true, some x, false⟩ :: grantRecs p caching (i + 1) t k1
      | [] => ⟨a, p, i, true, none, false⟩ :: grantRecs p caching (i + 1) t []
    else ⟨a, p, i, false, none, false⟩ :: grantRecs p caching (i + 1) t k

/-- The REASON with which an attach is refused, judged in the order of R186; 0 for none. -/
def refusal (s : State) (p n : Nat) (partial_ : Bool) : Nat :=
  let f := (freeIds s).length
  if !bit (s.reg (Ad.LNK_CFG p)) 3 then 2
  else if n = 0 ∨ s.fld (Ad.LNK_CFG p) 13 8 < n then 5
  else if !(portAgents s p).isEmpty then 4
  else if bit (s.reg Ad.CP_VALLEY) 6 ∨ s.lnk.quar.any (fun q => q.2.1 == p) then 3
  else if f = 0 ∨ (f < n ∧ !partial_) then 1
  else 0

/-- ATTACH REQ. A repeat with the same NONCE gets the same answer (R185). -/
def attachReq (s : State) (p nonce n : Nat) (partial_ : Bool) (caching partner : Nat) : State :=
  let q := portOf s p
  let same : Option Ctl := match q.attach with
    | some a => if a.nonce = nonce then some (Ctl.grant nonce a.ids a.precise) else (q.answer.filter (fun x => x.1 == nonce)).map Prod.snd
    | none => (q.answer.filter (fun x => x.1 == nonce)).map Prod.snd
  match same with
  | some c => ctlPush s p c
  | none =>
    let r := refusal s p n partial_
    if r ≠ 0 then
      sqEvt (setPort s p (fun (q : PortSt) => { q with answer := some (nonce, .refuse nonce r), ctl := q.ctl ++ [.refuse nonce r] })) (Ad.LNK_EVT p) 4
    else
      let ids := (grantOrder s).take n
      let recs := grantRecs p caching 0 ids (freeSlots s)
      let pre := (recs.filter (fun r => r.slot.isSome)).foldl (fun m r => m + 2 ^ r.index) 0
      let s1 := { s with lnk := { s.lnk with agents := s.lnk.agents ++ recs, lastId := ids.getLastD s.lnk.lastId } }
      setPort s1 p (fun (q : PortSt) => { q with attach := some ⟨nonce, ids, pre, partner, false, false⟩, ctl := q.ctl ++ [.grant nonce ids pre] })

/-- CTRL_TMR: GRANT repeated until the attach is complete (R189), and HUB_REQs until answered (R190). -/
def ctrlTimer (s : State) (p : Nat) : State :=
  if (portOf s p).mode ≠ .active then s
  else
    let s1 := match (portOf s p).attach with
      | some a => if a.complete then s else ctlPush s p (.grant a.nonce a.ids a.precise)
      | none => s
    (portOf s p).hubReqs.foldl (fun s r => ctlPush s p (.hubReq r.1 r.2)) s1

/-! ### Detach (R190 to R193, R242) -/

/-- The port's agents that a mask of indices names. -/
def maskIds (s : State) (p mask : Nat) : List Nat :=
  ((portAgents s p).filter (fun r => mask.testBit r.index)).map AgentRec.id

/-- An orderly detach ends: DONE, DETACH_DONE, and the agents released into quarantine (R242). -/
def detachEnd (s : State) (p : Nat) (d : DetachSt) : State :=
  let s1 := setPort s p (fun (q : PortSt) => { q with detach := q.detach.filter (fun x => x != d), ctl := q.ctl ++ [.done d.nonce d.mask] })
  let s2 := sqEvt (sqEvt s1 (Ad.LNK_EVT p) 8) Ad.HA_EVT 16
  let s3 := removeAgents s2 p d.agents
  reconfCheck s3 p

/-- DETACH REQ: it answers a HUB_REQ of the same MASK and starts the orderly detach of R242; for agents already settled DONE
follows at once (R244). -/
def detachReq (s : State) (p nonce mask : Nat) : State :=
  let s0 := setPort s p (fun (q : PortSt) => { q with hubReqs := q.hubReqs.filter (fun r => r.2 != mask) })
  let ids := maskIds s0 p mask
  if (portOf s0 p).detach.any (fun d => d.mask == mask) then s0
  else if ids.isEmpty then ctlPush s0 p (.done nonce mask)
  else
    let live := ids.filter (fun a => !unresp s0 a)
    let d : DetachSt := ⟨nonce, mask, ids, sweepNext s0⟩
    let s1 := { s0 with lnk := { s0.lnk with
      agents := s0.lnk.agents.map (fun (r : AgentRec) => if ids.contains r.id then { r with detaching := true } else r) } }
    let s2 := setPort s1 p (fun (q : PortSt) => { q with detach := q.detach ++ [d] })
    if live.isEmpty then detachEnd s2 p d else sweepStart s2 (.detach live)

/-- The detach sweep for a mask has completed (R243). -/
def detachSweepDone (s : State) (p mask : Nat) : State :=
  match (portOf s p).detach.find? (fun d => d.mask == mask) with
  | none => s
  | some d =>
    match s.ha.sweeps.find? (fun w => w.no == d.sweep) with
    | none => s
    | some w => if sweepDone s w ∨ d.agents.all (unresp s) then detachEnd (sweepEnd s w.no) p d else s

/-- DETACH_TMR has run since a REQ without DONE: the agents of that MASK are detached by surprise (R191, R244). -/
def detachTimer (s : State) (p mask : Nat) : State :=
  let q := portOf s p
  let ds := q.detach.filter (fun d => d.mask == mask)
  let asked := q.hubReqs.any (fun r => r.2 == mask)
  if ds.isEmpty ∧ !asked then s
  else
    let ids := ((ds.map DetachSt.agents).flatten ++ (if asked then maskIds s p mask else [])).eraseDups
    let s1 := ds.foldl (fun s d => sweepEnd s d.sweep) s
    let s2 := setPort s1 p (fun (q : PortSt) => { q with
      detach := q.detach.filter (fun d => d.mask != mask)
      hubReqs := q.hubReqs.filter (fun r => r.2 != mask) })
    reconfCheck (surpriseDetach s2 p ids) p

/-- LNK_CMD.DETACH: HUB_REQ for the agents of LNK_DETACH_MASK; none is sent where the mask selects no attached agent.
(DESIGN CHOICE, log 57.) -/
def cmdDetach (s : State) (p : Nat) : State :=
  let m := (s.reg (Ad.LNK_DETACH_MASK p)).toNat
  if (maskIds s p m).isEmpty then s else hubReq s p m

/-- LNK_CMD.FORCE_DETACH. -/
def cmdForce (s : State) (p : Nat) : State := reconfCheck (surpriseAll s p) p

/-- The home agent holds nothing that names an ID (R193). -/
def idClear (s : State) (a : Nat) : Bool :=
  s.ha.trks.all (fun t => (t.r.who.isSome || t.r.m.src != a) && t.snps.all (fun x => x.1 != a))
    && s.ha.sf.all (fun e => !recorded s e a) && s.ha.binv.all (fun b => b.ans.all (fun x => x.1 != a)
      && !b.rest.contains a && (b.sent || !recorded s b.e a))
    && s.ha.poison.all (fun x => x.1 != a)

/-- An ID leaves quarantine (R193): the descriptors' bits are cleared (R329), and what the home agent remembers of it (R247, R269). -/
def idRelease (s : State) (a : Nat) : State :=
  if s.lnk.quar.any (fun q => q.1 == a) ∧ idClear s a then
    let s1 := { s with
      lnk := { s.lnk with quar := s.lnk.quar.filter (fun q => q.1 != a) }
      ha := { s.ha with wcs := s.ha.wcs.filter (fun w => w.1 != a) } }
    let s2 := s1.setFld (Ad.HA_UNRESP (a / 32)) (a % 32) (a % 32) 0
    (boundTenants s2 a).foldl (fun s t => s.setFld (Ad.DSC_BIND t (a / 32)) (a % 32) (a % 32) 0) s2
  else s

/-! ### Low-power idle and park (R194, R195) -/

/-- Entry to Dale: an ACTIVE port sends LPI. -/
def lpiEnter (s : State) (p : Nat) : State :=
  if (portOf s p).mode = .active then setPort s p (fun (q : PortSt) => { q with lpiWait := true, ctl := q.ctl ++ [.lpi] }) else s

/-- LPI_ACK. -/
def lpiAck (s : State) (p : Nat) : State :=
  if (portOf s p).lpiWait then setPort s p (fun (q : PortSt) => { q with mode := .lpi, lpiWait := false }) else s

/-- Dale is left: ports in LPI return to ACTIVE. -/
def lpiExit (s : State) (p : Nat) : State :=
  setPort s p (fun (q : PortSt) => { q with mode := if q.mode = .lpi then .active else q.mode, lpiWait := false })

/-- Step 6 of Table 2-3: an ACTIVE or LPI port sends PARK. -/
def parkEnter (s : State) (p : Nat) : State :=
  if (portOf s p).mode = .active ∨ (portOf s p).mode = .lpi then
    setPort s p (fun (q : PortSt) => { q with parkWait := true, lpiWait := false, ctl := q.ctl ++ [.park] })
  else s

/-- PARK_ACK, or 15 µs after PARK: PARKED. -/
def parked (s : State) (p : Nat) : State :=
  if (portOf s p).parkWait then setPort s p (fun (q : PortSt) => { q with mode := .parked, parkWait := false, ctl := q.ctl.filter (· != .park) }) else s

/-- PARK_ACK with its header, checked on an ACTIVE port. -/
def parkAck (s : State) (p : Nat) (h : FlitHdr) : State :=
  if (portOf s p).mode = .active then rxHdr s p h (fun s => parked s p) else parked s p

/-- Valley exit: a PARKED port retrains. -/
def unpark (s : State) (p : Nat) : State := if (portOf s p).mode = .parked then retrain s p false else s

/-! ### Configuration (R163, R200) -/

/-- LNK_CFG of a port takes effect (R200): a port in DISABLED or DOWN at once, one in use after its agents are detached. -/
def cfgApply (s : State) (p : Nat) : State :=
  let q := portOf s p
  let en := portEn s p
  if q.mode = .disabled ∨ q.mode = .down then
    if laneFree s p then reconfDone s p else setPort s p (fun (q : PortSt) => { q with reconf := true })
  else if en && decide (cfgWidth s p = q.width) then s
  else
    let s1 := setPort s p (fun (q : PortSt) => { q with reconf := true })
    if (portAgents s1 p).isEmpty then reconfCheck s1 p
    else hubReq s1 p ((portAgents s1 p).foldl (fun m r => m + 2 ^ r.index) 0)

/-- A strobe of group 1 at a port. WIDTH_BAD sets at each strobe while LNK_CFG holds a width the port does not have. (DESIGN CHOICE,
log 57.) -/
def portConfig (s : State) (p : Nat) : State :=
  let w := bf (s.reg (Ad.LNK_CFG p)) 2 1
  cfgApply (if w = 3 ∨ (w = 2 ∧ p % 2 = 1) then sqEvt s (Ad.LNK_EVT p) 4096 else s) p

/-- A strobe of group 1 at every port, even ports before their partners, whose width 4 disables the next. -/
def portsConfig (s : State) : State := (List.range (nPorts s)).foldl portConfig s

/-- LNK_p contained: DOWN (Table 19-3). -/
def portContain (s : State) (p : Nat) : State :=
  if (portOf s p).mode = .disabled ∨ (portOf s p).mode = .down then s else portDown s p

/-- LNK_p released from containment: training starts from DETECT (Table 19-3). -/
def portRelease (s : State) (p : Nat) : State :=
  if (portOf s p).mode = .down then setPort s p (fun (q : PortSt) => { q with mode := .detect }) else s

end Sys2Proof.Machine
end

