-- ==== Sys2Proof/Machine/Tables.lean ====
section
/-!
DEFINITION. Machine/Tables.lean: configuration parity (R140 to R143, R161), update groups and their strobes (R127 to R133,
R157), and the table engine (R144 to R161).
-/
namespace Sys2Proof.Machine

/-! ### Parity -/

/-- A word as CFG_PARITY names it (R753). -/
def parCode (key : Nat) : Word :=
  if 0x10000000 ≤ key ∧ key < 0x20000000 then w32 (0x80000000 + (key - 0x10000000) / 4) else w32 key

/-- A word found in parity error is reported once for each corruption (R141). -/
def parReport (s : State) (key : Nat) (staged : Bool) : State :=
  if s.parErr.any (fun e => e.key == key && e.staged == staged && !e.reported) then
    let s1 : State := { s with parErr := s.parErr.map (fun (e : ParErr) =>
      if e.key == key && e.staged == staged then { e with reported := true } else e) }
    raise (s1.setReg Ad.FLT_PARITY_ADDR (parCode key)) 0 (parCode key).toNat
  else s

/-- A word's parity is computed afresh. -/
def parFresh (s : State) (key : Nat) (staged : Bool) : State :=
  { s with parErr := s.parErr.filter (fun e => !(e.key == key && e.staged == staged)) }

/-- Drops the parity errors of a whole bank. -/
def parBankDrop (s : State) (armed : Bool) (k : Nat) : State :=
  { s with parErr := s.parErr.filter (fun e => !(decide (bankKey armed k 0 ≤ e.key) && decide (e.key < bankKey armed k 0 + 0x10000))) }

/-! ### Update groups (Table 4-2) -/

/-- The group of table k (Table 4-6). -/
def tblGroup (k : Nat) : Nat :=
  if k ≤ 1 then 5 else if k ≤ 3 then 6 else if k = 4 then 4 else if k = 5 then 0 else if k = 6 then 7 else if k = 7 then 3
  else if k = 8 then 7 else if k = 9 then 2 else if k ≤ 11 then 5 else 6

/-- The island of table k's target block. -/
def tblIsland (k : Nat) : Nat :=
  if k ≤ 4 ∨ 10 ≤ k then 32 else if k = 5 then 3 else if k = 6 ∨ k = 7 then 1 else if k = 8 then 31 else 4

/-- The lock domain of table k (Table 4-6). -/
def tblDomain (k : Nat) : Nat :=
  if k ≤ 4 ∨ 10 ≤ k then 9 else if k = 5 then 2 else if k = 6 then 8 else if k = 7 then 5 else if k = 8 then 6 else 1

/-- Some DAC load group is loaded by the group's strobes. -/
def grpLoads (s : State) (g : Nat) : Bool := (List.range 4).any (fun i => lgrpSrc s i == (0, g))

/-- The islands a group's strobe goes to. -/
def grpIslands (s : State) (g : Nat) : List Nat :=
  (match g with
    | 0 => 3 :: (List.range (nChans s)).map (5 + ·)
    | 1 => 3 :: (List.range (nPorts s)).map (13 + ·)
    | 2 => [3, 4]
    | 3 => [1]
    | 7 => [1, 31]
    | _ => [32]) ++ (if (g ≤ 3 ∨ g = 7) ∧ grpLoads s g then [32] else [])

/-- A table is armed. -/
def tblArmed (s : State) (k : Nat) : Bool := s.tbl.armed.any (fun b => b.k == k)

/-- PEND of a group, kept in CP_UPDATE, clears once nothing of the group is staged, armed or held (R133). -/
def pendCheck (s : State) (g : Nat) : State :=
  if s.tbl.dirty.any (fun d => d.1 == g) || s.isl.heldStrobes.any (fun h => h.1 == g) then s
  else s.setFld Ad.CP_UPDATE (8 + g) (8 + g) 0

/-- Something has been staged or armed for a group in an island. -/
def pendSet (s : State) (g isl : Nat) : State :=
  let s1 : State := { s with tbl := { s.tbl with dirty := if s.tbl.dirty.contains (g, isl) then s.tbl.dirty else (g, isl) :: s.tbl.dirty } }
  s1.setFld Ad.CP_UPDATE (8 + g) (8 + g) 1

/-- The bits of a row's SH fields. -/
def shMask : List Fld → Word
  | [] => 0
  | f :: t => (if f.ty = .sh ∨ f.ty = .shlk then fmask f.hi f.lo else 0) ||| shMask t

/-- Listed SH words of a group in an island whose copies may differ from the reset value. -/
def grpWords (s : State) (g isl : Nat) : List (Nat × Word) :=
  ((s.staged.map Prod.fst ++ s.regs.map Prod.fst).eraseDups).filterMap (fun k =>
    match regAt k with
    | some (r, ix) => if r.grp = g ∧ rowIsland r ix = isl then some (k, shMask r.fields) else none
    | none => none)

/-- A staged word copied, unless it fails parity (R141, R142). -/
def copyWord (s : State) (w : Nat × Word) : State :=
  if parBad s w.1 true then parReport s w.1 true
  else parFresh (s.setReg w.1 ((s.reg w.1 &&& ~~~w.2) ||| (s.stg w.1 &&& w.2))) w.1 false

/-! ### Table activation (R149) -/

/-- The armed bank of index k removed. -/
def tblDropArmed (s : State) (k : Nat) : State :=
  let s1 : State := { s with tbl := { s.tbl with armed := s.tbl.armed.filter (fun b => b.k != k) } }
  (parBankDrop s1 true k).setFld Ad.CP_TBL_ARMED k k 0

/-- Event bits of CP_TBL_EVT. -/
def tblEvt (s : State) (b : Nat) : State := sqEvt s Ad.CP_TBL_EVT (2 ^ b)

/-- Errors of the armed bank go with the body into the active one. -/
def parBankMove (s : State) (k : Nat) : State :=
  let old := s.parErr.filter (fun e => decide (bankKey true k 0 ≤ e.key) && decide (e.key < bankKey true k 0 + 0x10000))
  let s1 := parBankDrop s false k
  { s1 with parErr := s1.parErr ++ old.map (fun (e : ParErr) => { e with key := e.key - 0x20000000 }) }

/-- What a newly active table does in its block at once. -/
def tblHook (s : State) (k : Nat) : State :=
  if k ≤ 3 then lthTblStrobe s k true false
  else if k = 4 then acqTblStrobe s
  else if k = 9 then (s.setReg Ad.TMM_PT_BASE (w32 (ptRegion s).1)).setReg Ad.TMM_PT_SIZE (w32 (ptRegion s).2)
  else if 10 ≤ k then lthTblStrobe s (k - 10) false true
  else s

/-- An armed table becomes active; a pool table that no longer fits is discarded (R308). The second result is the bits of
CP_TBL_EVT that this sets. -/
def tblActivate (x : State × Nat) (k : Nat) : State × Nat :=
  let s := x.1
  match s.tbl.armed.find? (fun b => b.k == k) with
  | none => x
  | some b =>
    if k = 9 ∧ !poolKeeps s b.body then (tblDropArmed s k, x.2 ||| 2)
    else
      let s1 := parBankMove s k
      let s2 : State := { s1 with tbl := { s1.tbl with active := s1.tbl.active.filter (fun x => x.k != k) ++ [b] } }
      let s3 := tblDropArmed s2 k
      (tblHook (s3.setReg (Ad.CP_TBL_VER k) (w32 b.version)) k, x.2 ||| 8)

/-- The armed tables of a group whose target lies in an island. -/
def tblsOf (s : State) (g isl : Nat) : List Nat :=
  (s.tbl.armed.map Bank.k).filter (fun k => tblGroup k == g && tblIsland k == isl)

/-! ### Strobes -/

/-- What a strobe changes in a block beyond copying, given the state before it. -/
def grpHook (old : State) (g isl : Nat) (s : State) : State :=
  if g = 1 ∧ 13 ≤ isl ∧ isl ≤ 28 then portConfig s (isl - 13)
  else if g = 3 ∧ isl = 1 then tbApplied old s
  else if isl = 32 then
    let s1 :=
      if g = 4 then
        let s1 := if refSel old = refSel s then s else refStrobe s
        let s2 := if s1.acq.iadc.isNone then setAcq s1 (fun (a : AcqSt) => { a with owner := ownerReg s1 }) else s1
        dacCfgStrobe ((List.range 16).map (fun n => old.reg (Ad.DAC_CH_CFG n))) s2
      else s
    groupLoad s1 0 (some g)
  else s

/-- A strobe of a group applied in one island, in one cycle of it: staged words, then armed tables, with one step of
CP_TBL_EVT.SEQ (R125), then the block's own consequences (R129). -/
def applyIsl (s : State) (g isl : Nat) : State :=
  let w := grpWords s g isl
  let left := w.any (fun x => parBad s x.1 true)
  let s1 := w.foldl copyWord s
  let act := (tblsOf s1 g isl).foldl tblActivate (s1, 0)
  let s2 := if act.2 = 0 then act.1 else sqEvt act.1 Ad.CP_TBL_EVT act.2
  let s3 : State := if left then s2 else { s2 with tbl := { s2.tbl with dirty := s2.tbl.dirty.filter (· != (g, isl)) } }
  grpHook s g isl s3

/-- An island takes a strobe: it runs, or it is stopped only because its port is disabled (R40) while the ports run. -/
def strobeTakes (s : State) (isl : Nat) : Bool :=
  s.running isl ||
    (decide (13 ≤ isl ∧ isl ≤ 28) && (portOf s (isl - 13)).mode == .disabled && decide (s.depth ≤ 1) && s.isl.phase == .run)

/-- A strobe reaches one island; a stopped one holds it (R131). -/
def strobeIsl (g : Nat) (s : State) (isl : Nat) : State :=
  if strobeTakes s isl then applyIsl s g isl
  else if s.isl.heldStrobes.contains (g, isl) then s
  else { s with isl := { s.isl with heldStrobes := s.isl.heldStrobes ++ [(g, isl)] } }

/-- After a group-0 strobe C_der is recomputed (R349): once, when every island has applied the strobe (R373). -/
def grpAfter (s : State) (g : Nat) : State :=
  pendCheck (if g = 0 && s.running 3 && !s.isl.heldStrobes.any (fun h => h.1 == 0) then pasRecompute s else s) g

/-- A strobe of a group (R128, R129). -/
def updStrobe (s : State) (g : Nat) : State := grpAfter ((grpIslands s g).foldl (strobeIsl g) s) g

/-- Strobes of a list of groups, in ascending order. -/
def updStrobes (l : List Nat) (s : State) : State := l.foldl updStrobe s

/-- An island that has started applies the strobes held for it, as its first action (R131). -/
def heldApply (s : State) (isl : Nat) : State :=
  (s.isl.heldStrobes.filter (fun h => h.2 == isl)).foldl (fun (s : State) h =>
    let s1 : State := { s with isl := { s.isl with heldStrobes := s.isl.heldStrobes.filter (· != h) } }
    grpAfter (applyIsl s1 h.1 isl) h.1) s

/-- SRC_g and LTH_g of CP_UPD_SRC. -/
def updSrc (s : State) (g : Nat) : Nat × Nat := (s.fld Ad.CP_UPD_SRC (4 * g + 1) (4 * g), s.fld Ad.CP_UPD_SRC (4 * g + 3) (4 * g + 2))

/-- The groups that a source strobes. -/
def updGroups (s : State) (src lth : Nat) : List Nat :=
  (List.range 8).filter (fun g => (updSrc s g).1 == src && (decide (src ≠ 3) || (updSrc s g).2 == lth))

/-- CP_UPDATE.STROBE (R128). -/
def cpUpdate (s : State) (m : Nat) : State := updStrobes ((List.range 8).filter (fun g => m.testBit g)) s

/-- UPD_N_EDGE: high for at least 20 ns and then low for at least 20 ns (R128). -/
def updEdge (s : State) (high low : Nat) : State := if 20 ≤ high ∧ 20 ≤ low then updStrobes (updGroups s 1 0) s else s

/-- The scheduled strobe (R132). -/
def updFire (s : State) : State :=
  let s1 : State := { s with tbl := { s.tbl with updAt := none } }
  updStrobes (updGroups s 2 0) (s1.setFld Ad.CP_UPD_TCTRL 8 8 0)

/-- SCHEDULED_STROBE: legal time has reached the armed time (R128, R132). -/
def updDue (s : State) : State :=
  match s.tbl.updAt with
  | some a => if a ≤ s.now then updFire s else s
  | none => s

/-- CP_UPD_TCTRL.ARM (R132): LATE where the time is already past; a time already reached strobes in the next TB cycle. -/
def updArm (s : State) : State :=
  let a := (s.reg Ad.CP_UPD_AT_LO).toNat + 2 ^ 32 * (s.reg Ad.CP_UPD_AT_HI).toNat
  let s1 : State := { s with tbl := { s.tbl with updAt := some a } }
  (s1.setFld Ad.CP_UPD_TCTRL 9 9 (b2n (decide (a < s.now)))).setFld Ad.CP_UPD_TCTRL 8 8 1

/-- CP_UPD_TCTRL.DISARM. -/
def updDisarm (s : State) : State := ({ s with tbl := { s.tbl with updAt := none } } : State).setFld Ad.CP_UPD_TCTRL 8 8 0

/-! ### Body checks (check 0x0C; R752) -/

/-- A byte of a body as a number. -/
def tb8 (l : List Byte) (o : Nat) : Nat := (l.getD o 0).toNat

/-- Zero bytes. -/
def tbZero (l : List Byte) (o n : Nat) : Bool := ((l.drop o).take n).all (· == 0)

/-- The numbers of a list rise strictly. -/
def ascending : List Nat → Bool
  | a :: b :: t => decide (a < b) && ascending (b :: t)
  | _ => true

/-- A pass policy body (R355). -/
def policyBodyOk (b : List Byte) : Bool :=
  let n := tb32 b 12
  let e (i : Nat) : Nat := 64 + 8 * i
  decide (n ≤ 1024) && b.length == 64 + 8 * n && tbZero b 16 48 &&
    decide (100 ≤ tb16 b 0 ∧ tb16 b 0 ≤ 950) && decide (tb16 b 0 ≤ tb16 b 2 ∧ tb16 b 2 ≤ 980) &&
    decide (100 ≤ tb16 b 4 ∧ tb16 b 4 ≤ 950) && decide (1 ≤ tb16 b 6 ∧ tb16 b 6 ≤ 255) && decide (tb32 b 8 ≤ 20000) &&
    ascending ((List.range n).map (fun i => tb16 b (e i))) &&
    (List.range n).all (fun i =>
      let f := tb8 b (e i + 2)
      decide (tb16 b (e i) < 1024) && !f.testBit 3 && !f.testBit 7 &&
        (!f.testBit 0 || f.testBit 1 || decide (tb16 b (e i + 4) ≤ 20)))

/-- A k-factor body (R476). -/
def kfactorBodyOk (b : List Byte) : Bool :=
  let na := tb8 b 0
  let nb := tb8 b 1
  let fq (i : Nat) : Nat := tb32 b (16 + 8 * i)
  decide (1 ≤ na ∧ na ≤ 32) && decide (nb ≤ 32) && b.length == 16 + 8 * (na + nb) && tbZero b 2 14 &&
    (List.range (na + nb)).all (fun i => decide (fq i ≤ 2500000) &&
      decide (100000 ≤ tb32 b (20 + 8 * i) ∧ tb32 b (20 + 8 * i) ≤ 100000000)) &&
    ascending ((List.range na).map fq) && ascending ((List.range nb).map (fun i => fq (na + i)))

/-- A fault action body (R688). -/
def faultBodyOk (b : List Byte) : Bool :=
  b.length == 128 && (List.range 64).all (fun c =>
    let e := tb16 b (2 * c)
    if 41 ≤ c then e == 0 else e % 4 != 3 && e / 8 % 32 == 0 && e / 4096 == 0)

/-- A record type layout body (R492). -/
def layoutBodyOk (b : List Byte) : Bool :=
  let n := tb32 b 0
  let e (i : Nat) : Nat := 4 + 8 * i
  decide (n ≤ 192) && decide (4 + 8 * n ≤ b.length) && ascending ((List.range n).map (fun i => tb8 b (e i))) &&
    (List.range n).all (fun i => decide (0x40 ≤ tb8 b (e i)) && decide (tb8 b (e i + 1) < 16) &&
      decide (4 + 8 * n ≤ tb32 b (e i + 4)) && decide (tb32 b (e i + 4) + tb16 b (e i + 2) ≤ b.length))

/-- The zero bits of a pool table (Table 8-5). -/
def poolZero (b : List Byte) : Bool :=
  tbZero b 8 24 && decide (tb32 b 0 < 2 ^ 21) && (List.range 16).all (fun p =>
    let o := 0x20 + 32 * p
    decide (tb32 b o < 4) && tbZero b (o + 28) 4 && ((tb32 b o).testBit 1 || tb32 b (o + 16) == 0))

/-- Check 0x0C for table k. -/
def tblBodyOk (s : State) (k : Nat) (b : List Byte) : Bool :=
  if k ≤ 3 then rangeBodyOk b
  else if k = 4 then acqBodyOk b
  else if k = 5 then policyBodyOk b
  else if k = 6 then faultBodyOk b
  else if k = 7 then kfactorBodyOk b
  else if k = 8 then layoutBodyOk b
  else if k = 9 then poolZero b && poolTableOk s b
  else calBodyOk b

/-! ### The table engine -/

/-- n bytes of the staging buffer, from a word boundary. -/
def tblBuf (s : State) (off n : Nat) : List Byte :=
  ((List.range (cdiv n 4)).flatMap (fun i => toBytesLE 4 (s.reg (Ad.CP_TBL_BUF (off / 4 + i))).toNat)).take n

/-- The index k that TABLE_ID and TARGET name (Table 4-6); none where TARGET is not one that TABLE_ID allows. -/
def tblIndex (id target : Nat) : Option Nat :=
  let lth : Option Nat := if target % 4 = 0 ∧ 0x0A0 ≤ target ∧ target ≤ 0x0AC then some ((target - 0x0A0) / 4) else none
  if id = 1 then lth
  else if id = 2 then (if target = 0x090 then some 4 else none)
  else if id = 3 then (if target = 0x050 then some 5 else none)
  else if id = 4 then (if target = 0x0D0 then some 6 else none)
  else if id = 5 then (if target = 0x078 then some 7 else none)
  else if id = 6 then (if target = 0x080 then some 8 else none)
  else if id = 7 then (if target = 0x040 then some 9 else none)
  else if id = 8 then lth.map (10 + ·)
  else none

/-- STATE of CP_TBL_STATUS. -/
def tblState (s : State) : Nat := s.fld Ad.CP_TBL_STATUS 2 0

/-- VERSION and index of the image in the buffer. -/
def imgVersion (s : State) : Nat := tb32 (tblBuf s 0 0x40) 8
def imgIndex (s : State) : Option Nat := tblIndex (tb16 (tblBuf s 0 0x40) 6) (tb16 (tblBuf s 0 0x40) 0x10)

/-- LENGTH of the image in the buffer, and its body. -/
def imgLength (s : State) : Nat := tb32 (tblBuf s 0 0x40) 12
def imgBody (s : State) : List Byte := tblBuf s 0x40 (imgLength s)

/-- Checks 0x0A and 0x0B: the code of the first that fails, else 0. -/
def tblRejudge (s : State) (k : Nat) : Nat :=
  if imgVersion s < (s.reg (Ad.CP_TBL_VER k)).toNat then 0x0A else if locked s (tblDomain k) then 0x0B else 0

/-- The table key's 64 bytes. -/
def tblKey (s : State) : List Byte := keyBytes s (Ad.CP_TBL_KEY 0)

/-- The bytes that SIG covers. -/
def imgSigned (s : State) : List Byte := tblBuf s 0 (0x44 + imgLength s)

/-- The checks of Table 4-7 in order: the code of the first that fails, else 0. -/
def tblReason (s : State) : Nat :=
  let h := tblBuf s 0 0x40
  let n := imgLength s
  if h.take 4 ≠ [0x44, 0x4C, 0x56, 0x42] then 0x01
  else if tb8 h 4 ≠ 1 ∨ tb8 h 5 ≠ 0 ∨ tb16 h 0x12 ≠ 0 ∨ imgVersion s = 0 then 0x02
  else if n % 4 ≠ 0 ∨ n < 4 ∨ 262012 < n then 0x03
  else if tb16 h 6 = 0 ∨ 8 < tb16 h 6 then 0x04
  else
    match imgIndex s with
    | none => 0x05
    | some k =>
      let bind := tb32 h 0x14 + 2 ^ 32 * tb32 h 0x18
      if bind ≠ 0 ∧ bind ≠ deviceId s then 0x06
      else if crc32c (tblBuf s 0 (0x40 + n)) ≠ w32 (tb32 (tblBuf s (0x40 + n) 4) 0) then 0x07
      else if !bit (s.reg Ad.CP_TBL_STATUS) 16 then 0x08
      else if !p256Verify (tblKey s) (sha256 (imgSigned s)) (tblBuf s (0x44 + n) 64) then 0x09
      else if tblRejudge s k ≠ 0 then tblRejudge s k
      else if !tblBodyOk s k (imgBody s) then 0x0C
      else 0

/-- STATE and REASON. -/
def tblSet (s : State) (st reason : Nat) : State := (s.setFld Ad.CP_TBL_STATUS 2 0 st).setFld Ad.CP_TBL_STATUS 15 8 reason

/-- CP_TBL_CTRL.CHECK (R146, R153). -/
def tblCheck (s : State) : State :=
  if tblState s = 0 ∨ tblState s = 3 then s.setFld Ad.CP_TBL_STATUS 2 0 1 else tblEvt s 5

/-- TABLE_CHECK_DONE: the run ends (R146, R147). The command gives no instant for each check: all are judged at the run's end, in
the order of Table 4-7. (DESIGN CHOICE, log 56.) -/
def tblCheckDone (s : State) : State :=
  if tblState s ≠ 1 then s
  else
    let r := tblReason s
    if r = 0 then tblEvt (tblSet s 2 0) 0 else sqEvt (tblSet s 3 r) Ad.CP_TBL_EVT 3

/-- The TABLE_CHANGE payload. -/
def tblChange (s : State) : List Byte :=
  let h := tblBuf s 0 0x40
  pad128 ((h.drop 6).take 2 ++ (h.drop 0x10).take 2 ++ (h.drop 8).take 4 ++ sha256 (imgSigned s))

/-- CP_TBL_CTRL.ARM (R148, R153). An accepted ARM clears the REASON of a refusal before it. (DESIGN CHOICE, log 56.) -/
def tblArm (s : State) : State :=
  match imgIndex s with
  | none => tblEvt s 5
  | some k =>
    if tblState s ≠ 2 then tblEvt s 5
    else if tblRejudge s k ≠ 0 then tblEvt (tblSet s 3 (tblRejudge s k)) 1
    else
      match evsOffer s 3 (tblChange s) none with
      | (s1, .busy) => tblEvt (tblSet s1 2 0x0D) 1
      | (s1, _) => tblSet s1 4 0

/-- TABLE_ARM_COPY_DONE (R148, R150). -/
def tblArmDone (s : State) : State :=
  match imgIndex s with
  | none => s
  | some k =>
    if tblState s ≠ 4 then s
    else
      let s1 := tblDropArmed s k
      let s2 : State := { s1 with tbl := { s1.tbl with armed := s1.tbl.armed ++ [⟨k, imgVersion s, imgBody s⟩] } }
      tblEvt ((pendSet (s2.setFld Ad.CP_TBL_ARMED k k 1) (tblGroup k) (tblIsland k)).setFld Ad.CP_TBL_STATUS 2 0 0) 2

/-- CP_TBL_CTRL.DISARM of table K (R151). -/
def tblDisarm (s : State) : State :=
  let k := s.fld Ad.CP_TBL_CTRL 11 8
  if tblArmed s k then tblDropArmed s k else s

/-- CP_TBL_CTRL.CLEAR (R153). -/
def tblClear (s : State) : State :=
  if tblState s = 1 ∨ tblState s = 4 then tblEvt s 5 else s.setFld Ad.CP_TBL_STATUS 2 0 0

/-- CP_TBL_CTRL.KEY_CHECK (R145). -/
def keyCheck (s : State) : State :=
  if s.tbl.keyBusy ∨ bit (s.reg Ad.CP_TBL_STATUS) 16 then tblEvt s 5 else { s with tbl := { s.tbl with keyBusy := true } }

/-- KEY_CHECK_DONE (R145). -/
def keyCheckDone (s : State) : State :=
  if !s.tbl.keyBusy then s
  else
    let s1 : State := { s with tbl := { s.tbl with keyBusy := false } }
    let hash := (List.range 8).flatMap (fun i => toBytesLE 4 (otpWord s 0x0A i).toNat)
    if otpGood s 0x0A && sha256 (tblKey s) == hash then s1.setFld Ad.CP_TBL_STATUS 16 16 1 else tblEvt s1 6

/-- The staging buffer takes writes (R144, R153). -/
def tblOpen (s : State) : Bool := tblState s == 0 || tblState s == 3

/-- PORST_N and WRST_N: the tables, the buffer and the engine's registers reset (R152, R162). -/
def tblReset (s : State) : State :=
  { s with
    regs := s.regs.filter (fun e => !(decide (0xF00000 ≤ e.1) && decide (e.1 < 0x1000000)))
    parErr := s.parErr.filter (fun e => !(decide (0xF00000 ≤ e.key) && decide (e.key < 0x1000000)) && !decide (0x40000000 ≤ e.key))
    tbl := ⟨[], [], false, none, []⟩ }

/-! ### Parity checks -/

/-- A bank's word with bit b flipped. -/
def bankFlip (l : List Bank) (k w b : Nat) : List Bank :=
  l.map (fun (x : Bank) => if x.k = k then { x with body := upd x.body (4 * w + b / 8) (fun y => y ^^^ BitVec.ofNat 8 (2 ^ (b % 8))) } else x)

/-- A bit of a command field (R123): it is read as 0 whatever it holds. -/
def cmdBit (key b : Nat) : Bool :=
  match regAt key with
  | some (r, _) => r.fields.any (fun f => (f.ty == .cmd || f.ty == .cmdlk) && decide (f.lo ≤ b ∧ b ≤ f.hi))
  | none => false

/-- One bit of a configuration word upset: bit b below 32 of the word, else its parity bit. The word is in parity error while
an odd number of its bits is upset. -/
def parUpset (s : State) (key : Nat) (staged : Bool) (b : Nat) : State :=
  let s1 : State :=
    if 32 ≤ b ∨ cmdBit key b then s
    else if 0x40000000 ≤ key then
      let k := key / 0x10000 % 16
      if (key / 0x20000000) % 2 = 1 then { s with tbl := { s.tbl with armed := bankFlip s.tbl.armed k (key % 0x10000) b } }
      else { s with tbl := { s.tbl with active := bankFlip s.tbl.active k (key % 0x10000) b } }
    else if staged then s.setStg key (s.stg key ^^^ w32 (2 ^ b)) else s.setReg key (s.reg key ^^^ w32 (2 ^ b))
  if parBad s key staged then parFresh s1 key staged else { s1 with parErr := s1.parErr ++ [⟨key, staged, false⟩] }

/-- Bits of a word that parity covers: RW, MK, SH, WO and LK fields (R140), command fields being RW (R123). -/
def parMask : List Fld → Word
  | [] => 0
  | f :: t => (match f.ty with
      | .rw | .mk | .sh | .wo | .lk | .shlk | .cmd | .cmdlk => fmask f.hi f.lo
      | _ => 0) ||| parMask t

/-- The word that holds the bits which a register changes: EVC_MASK_k for the MK registers of Table 18-3, else the register. -/
def parKey (key : Nat) : Nat :=
  if 0xC00060 ≤ key ∧ key < 0xC000A0 then Ad.EVC_MASK ((key - 0xC00060) / 8) else key

/-- The word named by a key carries parity, and so does its staged copy where `staged` asks for one. -/
def parHas (s : State) (key : Nat) (staged : Bool) (b : Nat) : Bool :=
  if 0x40000000 ≤ key then
    let k := key / 0x10000 % 16
    let l := if (key / 0x20000000) % 2 = 1 then s.tbl.armed else s.tbl.active
    !staged && l.any (fun x => x.k == k && decide (4 * (key % 0x10000) < x.body.length)) && key == bankKey ((key / 0x20000000) % 2 == 1) k (key % 0x10000)
  else
    match regAt key with
    | none => false
    | some (r, _) =>
      let m := if staged then shMask r.fields else parMask r.fields
      parKey key == key && m != 0 && (decide (32 ≤ b) || bit m b)

/-- The island of a configuration word. -/
def keyIsland (key : Nat) : Nat :=
  if 0x40000000 ≤ key then tblIsland (key / 0x10000 % 16) else match regAt key with | some (r, ix) => rowIsland r ix | none => 1

/-- The periodic check of a word, made while its island runs (R141, R161). -/
def parCheck (s : State) (key : Nat) (staged : Bool) : State :=
  if !parBad s key staged || !s.running (keyIsland key) then s
  else
    let s1 := parReport s key staged
    if 0x60000000 ≤ key ∧ key < 0x80000000 then tblDropArmed s1 (key / 0x10000 % 16) else s1

/-- PARITY_CHECK of a word, after an upset of one of its bits where `upset` names one. (DESIGN CHOICE, log 17.) -/
def parityCheck (s : State) (key : Nat) (staged : Bool) (upset : Option Nat) : State :=
  match upset with
  | none => parCheck s key staged
  | some b => if parHas s key staged b then parCheck (parUpset s key staged b) key staged else parCheck s key staged

end Sys2Proof.Machine
end

