-- ==== Sys2Proof/Machine/LatheRun.lean ====
section
/-!
DEFINITION. Machine/LatheRun.lean: a Lathe's run: START and STOP (R611, R620), the order within a point (R599), load strobes
(R575, R622), measure strobes (R601), dwell ends (R602 to R604), steps of transitions (R608), and list reads and result writes.
-/
namespace Sys2Proof.Machine

/-! ### Load strobes -/

/-- The codes of a point on the current range: force, upper and lower threshold (R610). -/
def pointCodes (l : LthSt) (p : Point) : List Nat :=
  let k := fun (c : Nat) => knots (l.tblC.getD []) l.range c
  [clampCode (curveAt (k 0) p.force), clampCode (curveAt (k 1) p.compl), clampCode (curveAt (k 1) (-(p.compl : Int)))]

/-- The Lathe's three channels are configured as its own. -/
def lthOwns (s : State) (n : Nat) : Bool := (lthChans n).all (fun c => ownerCfg s c == n + 1)

/-- The three channels loaded with the point's codes for the current range. -/
def lthLoad (s : State) (n : Nat) (p : Point) : State :=
  let c := pointCodes (lthOf s n) p
  let s1 := (List.range 3).foldl (fun (s : State) i =>
    dacLoad (s.setReg (Ad.DAC_DATA (4 * n + i)) (w32 (c.getD i 0))) (4 * n + i)) s
  setLth s1 n (fun (l : LthSt) => { l with guard := some p.compl })

/-- Dwell start: the load strobe (R599, R575, R622). The timestamp is accurate to 7 ns (R600). (DESIGN CHOICE, log 39.) -/
def dwellStart (s : State) (n : Nat) : State :=
  let l := lthOf s n
  match l.point with
  | none => s
  | some p =>
    if !lthOwns s n then lthAbort s n 128
    else
      let t := s.now + Config.freeNat s.free % 15 - 7
      let s1 := setLth (lthLoad s.fresh n p) n (fun (l : LthSt) => { l with
        begun := true, t0 := t, meas := false, res := noRes, iadcDue := false, iadcVal := none, ended := false })
      let s2 := groupLoad s1 2 (some n)
      if p.upd then updStrobes (updGroups s2 3 n) s2 else s2

/-! ### The next point -/

/-- A point whose FORCE, COMPL or RANGE is out of bounds (R613). -/
def pointBad (s : State) (n : Nat) (p : Point) : Bool :=
  decide (s.fld (Ad.LTH_LIMIT_F n) 30 0 < p.force.natAbs) || decide (s.fld (Ad.LTH_LIMIT_C n) 30 0 < p.compl)
    || decide (nRange ((lthOf s n).tblR.getD []) ≤ p.range)

/-- The range a point starts in: an AUTO point after an AUTO point stays where that one ended (R606). -/
def startRange (l : LthSt) (p : Point) : Nat :=
  if p.auto && l.begun && (l.point.any (fun q => q.auto)) then l.range else p.range

/-- The point is taken: fetching restarts where a LAST ends a fetched list early. -/
def pointTake (s : State) (n i : Nat) (p : Point) : State :=
  let s1 := setLth s n (fun (l : LthSt) => { l with
    idx := i, point := some p, begun := false, meas := false, ended := false, held := l.held.filter (fun x => x.1 != l.want), want := l.want + 1 })
  if fetched s n && p.last && decide (i + 1 < lthCount s n) then
    let l := lthOf s n
    let s2 := fetchReset s1 n (l.pass + 1)
    fetchAhead 8 n (if morePasses s n l.pass then s2 else setLth s2 n (fun (l : LthSt) => { l with fetchEnd := true }))
  else fetchAhead 8 n s1

/-- The point with index i begins: its checks, its transition, its dwell (R599, R613, R627). While a fetched point is not at
hand the Lathe waits. -/
def nextPoint (s : State) (n i : Nat) : State :=
  match pointAt s n i with
  | none => setLth s n (fun (l : LthSt) => { l with idx := i, point := none, begun := false, ended := true })
  | some p =>
    match ramCheck s n i with
    | (s1, 2) => lthAbort (setLth s1 n (fun (l : LthSt) => { l with idx := i, begun := false })) n 64
    | (s1, _) =>
      if pointBad s1 n p then lthAbort (setLth s1 n (fun (l : LthSt) => { l with idx := i, begun := false })) n 16
      else
        let r := startRange (lthOf s1 n) p
        let s2 := pointTake s1 n i p
        if r = (lthOf s2 n).range then dwellStart s2 n
        else
          let s3 := transStart s2 n r .point
          if (lthOf s3 n).trans.isSome then s3 else dwellStart s3 n

/-! ### START and STOP -/

/-- The reason a START is refused, in the order of R611; 0 where it is carried out. -/
def startRefuse (s : State) (n : Nat) : Nat :=
  let l := lthOf s n
  if l.mode ≠ .idle then 1
  else if s.flt.esc.isSome then 2
  else
    match l.tblR, l.tblC with
    | some r, some c =>
      if nRange r ≠ nRange c then 4
      else if !lthOwns s n then 5
      else if fetched s n ∧ 2 ≤ s.depth then 6
      else 0
    | _, _ => 3

/-- LTH_CTRL.START. -/
def lthStart (s : State) (n : Nat) : State :=
  let r := startRefuse s n
  if r ≠ 0 then lthEvt (s.setFld (Ad.LTH_STATUS n) 27 24 r) n 4
  else
    let s1 := setLth s n (fun (l : LthSt) => { l with
      mode := .run, idx := 0, pass := 0, point := none, begun := false, meas := false, ended := false, out := [] })
    nextPoint (fetchAhead 8 n (fetchReset s1 n 0)) n 0

/-- The list has ended (R604, R620); a table that waited takes effect (R612). -/
def runEnd (s : State) (n : Nat) : State :=
  lthEvt (lthTables (setLth s n (fun (l : LthSt) => { l with
    mode := .idle, begun := false, meas := false, ended := false, held := [], asked := [], fetchEnd := true })) n) n 0

/-- The point in progress is its pass's last. -/
def lastOf (s : State) (n : Nat) : Bool :=
  let l := lthOf s n
  (l.point.any (fun p => p.last)) || decide (lthCount s n ≤ l.idx + 1)

/-- Another point follows the one in progress. -/
def follows (s : State) (n : Nat) : Bool := (lthOf s n).mode == .run && (!lastOf s n || morePasses s n (lthOf s n).pass)

/-- The next point of a fetched list has not arrived. -/
def missing (s : State) (n : Nat) : Bool :=
  let l := lthOf s n
  fetched s n && follows s n && !(l.held.any (fun x => x.1 == l.want))

/-- The dwell has ended: the result, at once or, where conversions held in its window are still in progress, once they have ended
(R603); the tables that waited (R612), and what comes next (R598, R604). -/
def finishPoint (s : State) (n : Nat) : State :=
  let l := lthOf s n
  let last := lastOf s n
  let goes := follows s n
  let s0 := latePut s n
  let ch := senseCh s n (measCur s n)
  let s1 :=
    if l.meas && !pointIadc l && convDue s ch l.m0 s.now then
      let c := knots (l.tblC.getD []) l.range (if measCur s n then 3 else 2)
      setLth s0 n (fun (k : LthSt) => { k with late := some ⟨l.idx, l.t0, l.m0, s.now, ch, l.range, c, l.res, last, goes⟩ })
    else resEnd s0 n l.idx (resBytes s n false) last goes
  let s4 := lthTables (pcu 0x6B n 1 (s1.inc (Ad.LTH_POINT_COUNT n))) n
  let s5 := setLth s4 n (fun (l : LthSt) => { l with meas := false, ended := false })
  if !goes then runEnd s5 n
  else if last then nextPoint (setLth s5 n (fun (l : LthSt) => { l with pass := l.pass + 1 })) n 0
  else nextPoint s5 n (l.idx + 1)

/-- A dwell whose end has come ends once nothing is missing (R601, R602); a point waited for begins once it is there. -/
def lthGoOn (s : State) (n : Nat) : State :=
  let l := lthOf s n
  if !l.ended ∨ (l.mode ≠ .run ∧ l.mode ≠ .stopping) then s
  else if l.begun then
    if l.iadcDue then s
    else if missing s n then
      if l.res.under then s else lthEvt (setLth s n (fun (l : LthSt) => { l with res := { l.res with under := true } })) n 6
    else finishPoint s n
  else if l.mode = .stopping then runEnd s n
  else if l.point.isNone then nextPoint s n l.idx
  else s

/-- LTH_CTRL.STOP (R620). -/
def lthStop (s : State) (n : Nat) : State :=
  if (lthOf s n).mode = .run then lthGoOn (setLth s n (fun (l : LthSt) => { l with mode := .stopping })) n else s

/-! ### Measuring -/

/-- The integration a point asks for (R601). -/
def lthIntegrate (s : State) (n : Nat) (p : Point) : State :=
  iadcBegin s (s.fld (Ad.LTH_CFG n) 9 8) (senseCh s n (measCur s n)) (p.dwell * 1000 - p.settle * 100) (some n) false

/-- An integration asked for starts once the IADC is free and calibrated (R557); one that can no longer come is given up (R622). -/
def lthIadcGo (s : State) (n : Nat) : State :=
  let l := lthOf s n
  if !l.iadcDue || s.acq.boot || s.acq.iadc.isSome then s
  else
    match l.point with
    | some p =>
      if s.acq.owner = n + 1 ∧ acqOpen s then lthIntegrate s n p
      else setLth s n (fun (l : LthSt) => { l with iadcDue := false })
    | none => s

/-- LTH_MEASURE_START (R599, R601, R605). -/
def measureStart (s : State) (n : Nat) : State :=
  let l := lthOf s n
  match l.point with
  | none => s
  | some p =>
    if !l.begun || l.meas || l.trans.isSome || (l.mode != .run && l.mode != .stopping) then s
    else
      let s1 := setLth s n (fun (l : LthSt) => { l with meas := true, m0 := s.now, iadcDue := l.iadcDue || (p.iadc && l.iadcVal.isNone) })
      lthIadcGo (if p.acq then acqTrig s1 (5 + n) true else s1) n

/-- LTH_DWELL_END (R599). -/
def dwellEnd (s : State) (n : Nat) : State :=
  let l := lthOf s n
  if !l.begun || l.ended || l.trans.isSome || (l.mode != .run && l.mode != .stopping) then s
  else lthGoOn (setLth s n (fun (l : LthSt) => { l with ended := true })) n

/-! ### Transitions -/

/-- The end of a transition (R608). -/
def transEnd (s : State) (n : Nat) (t : Trans) : State :=
  let b := (lthOf s n).tblR.getD []
  let s1 := lthEvt (setLth s n (fun (l : LthSt) => { l with range := t.dest, pattern := rangePattern b t.dest, trans := none })) n 3
  match t.why with
  | .point => dwellStart s1 n
  | .auto =>
    match (lthOf s1 n).point with
    | some p => if lthOwns s1 n then lthLoad s1 n p else lthAbort s1 n 128
    | none => s1
  | .safe => clearCheck s1 n

/-- RANGE_STEP_END: a step's HOLD has run (R608, R617). -/
def stepEnd (s : State) (n : Nat) : State :=
  let l := lthOf s n
  match l.trans with
  | none => s
  | some t =>
    if l.toSafe then
      let s1 := setLth s n (fun (l : LthSt) => { l with trans := none, toSafe := false })
      clearCheck (transStart s1 n (safeRange (l.tblR.getD [])) .safe) n
    else
      match t.steps with
      | _ :: w :: r => setLth s n (fun (l : LthSt) => { l with pattern := w % 8, trans := some { t with steps := w :: r } })
      | _ => transEnd s n t

/-! ### Fetched lists -/

/-- LIST_FETCH_RETURN (R602, R626). -/
def fetchReturn (s : State) (n : Nat) : State :=
  match fetchTake s n with
  | none => s
  | some (s1, true) => lthGoOn (fetchAhead 8 n s1) n
  | some (s1, false) => if (lthOf s1 n).mode = .idle then s1 else lthAbort s1 n 32

/-- LIST_UNDERRUN_TIMEOUT: the dwell has been extended by 1 ms (R602). -/
def underrun (s : State) (n : Nat) : State :=
  let l := lthOf s n
  if l.ended && l.begun && !l.iadcDue && missing s n then lthAbort s n 32 else s

/-- LTH_RESULT_WRITE_ACK (R604, R626). -/
def resAck (s : State) (n : Nat) : State :=
  match s.ha.ag0.find? (fun r => match r.who with | .lthRes k _ => k == n | _ => false) with
  | none => s
  | some a =>
    let s1 := setLth (ag0Drop s a.who) n (fun (l : LthSt) => { l with resOut := l.resOut - 1 })
    if a.kind = .retry then lthAbort s1 n 32 else passCheck s1 n

/-! ### The Lathes' own progress -/

/-- What a Lathe does by itself once a command's effect is complete. -/
def lthProgress (s : State) : State := (List.range 4).foldl (fun s n => lthGoOn (lthIadcGo (lateGo s n) n) n) s

end Sys2Proof.Machine
end

