-- ==== Sys2Proof/Machine/RegRead.lean ====
section
/-!
DEFINITION. Machine/RegRead.lean: what a register reads as (Table 4-1): the staged copy of SH fields, conditions of LV fields at
the access instant, and the captures that a read makes (R293, R454, R474, R635, R640).
-/
namespace Sys2Proof.Machine

/-- The index of key k in an array, and the offset within its element. -/
def inArr (k base stride count : Nat) : Option Nat :=
  if base ≤ k ∧ (k - base) % stride = 0 ∧ (k - base) / stride < count then some ((k - base) / stride) else none

/-! ### Conditions by block -/

/-- STATE of LNK_STATE (Table 5-13). -/
def portModeNo : PortMode → Nat
  | .disabled => 0
  | .detect => 1
  | .equalize => 2
  | .align => 3
  | .sync => 4
  | .active => 5
  | .lpi => 6
  | .parked => 7
  | .retrain => 8
  | .down => 9

/-- A port's status registers (Tables 5-16 to 5-29). -/
def lnkView (s : State) (p o : Nat) : Option Word :=
  let q := portOf s p
  let a := portAgents s p
  let at_ (i : Nat) : Nat := ((a.find? (fun r => r.index == i)).map AgentRec.id).getD 0
  if o = 4 then some (w32 ((if q.session then q.epoch else 0) * 65536 + a.length * 16 + portModeNo q.mode))
  else if o = 8 then some (w32 (q.next % 4096 * 65536 + q.las % 4096))
  else if 0x40 ≤ o ∧ o < 0x60 ∧ o % 4 = 0 then
    let n := (o - 0x40) / 4
    some (w32 ((List.range 4).foldl (fun w j => w + at_ (4 * n + j) * 2 ^ (8 * j)) 0))
  else if o = 0x60 then some (w32 ((a.filter (fun r => r.slot.isSome)).foldl (fun w r => w + 2 ^ r.index) 0))
  else none

/-- Agent IDs granted or in quarantine; 0 and 255 always (Table 5-30). -/
def idUsed (s : State) (a : Nat) : Bool :=
  a == 0 || a == 255 || (findAgent s a).isSome || s.lnk.quar.any (fun q => q.1 == a)

/-- Bits from a test. -/
def bitsOf (n : Nat) (f : Nat → Bool) : Nat := (List.range n).foldl (fun w b => if f b then w + 2 ^ b else w) 0

/-- Requests that wait for a tracker (Table 7-6). -/
def trkWait (s : State) : Nat :=
  let u := s.ha.wait.filter (isUrgent s)
  let g := s.ha.wait.filter (fun r => !isUrgent s r)
  b2n (!u.isEmpty) * 2 ^ 17 + b2n (g.any (fun r => r.who.isSome)) * 2 ^ 16
    + bitsOf 16 (fun p => g.any (fun r => r.who.isNone && r.port == p))

/-- The agents of the detach sweeps that run. -/
def sweepAgents (s : State) : Nat :=
  (s.ha.sweeps.map (fun w => match w.kind with | .detach l => l.length | _ => 0)).foldl (· + ·) 0 + s.ha.poison.length

/-- The set a detach sweep has reached. -/
def sweepSet (s : State) : Nat := scanStart s

/-- HA and SF registers. -/
def haView (s : State) (k : Nat) : Option Word :=
  if k = Ad.HA_TRK then some (w32 (trkCount s false (fun _ => true) * 65536 + trkCount s true (fun _ => true)))
  else if k = Ad.HA_TRK_WAIT then some (w32 (trkWait s))
  else if k = Ad.SF_OCC then some (w32 s.ha.sf.length)
  else if k = Ad.SF_EVB then some (w32 (evbEntries s).length)
  else if k = Ad.SF_SWEEP then some (w32 (sweepSet s % 65536 * 65536 + b2n (decide (sweepAgents s ≠ 0)) * 256 + sweepAgents s % 256))
  else
    match inArr k (Ad.SF_SLOT 0) 4 16 with
    | some n => some (w32 ((List.range 4).foldl (fun w j =>
        w + ((s.lnk.agents.find? (fun r => r.slot == some (4 * n + j))).map AgentRec.id).getD 0 * 2 ^ (8 * j)) 0))
    | none => none

/-- TMM registers. -/
def tmmView (s : State) (k : Nat) : Option Word :=
  if k = Ad.TMM_CMD_STATUS then some (setBit (s.reg k) 31 s.tmm.cmd.isSome)
  else
    match inArr k (Ad.TMM_POOL_FREE 0) 4 16, inArr k (Ad.TMM_POOL_CFREE 0) 4 16, inArr k (Ad.DSC_RES 0) 0x100 1024,
      inArr k (Ad.DSC_FOLDED 0) 0x100 1024 with
    | some p, _, _, _ => some (w32 (if s.tmm.nch = 0 then 0 else poolFree s p))
    | _, some p, _, _ => some (w32 (if s.tmm.nch = 0 then 0 else poolCfree s p))
    | _, _, some t, _ => some (w32 (tenantRes s t))
    | _, _, _, some t => some (w32 (tenantChunks s t))
    | _, _, _, _ => none

/-- PAS registers. -/
def pasView (s : State) (k : Nat) : Option Word :=
  let p := s.pas
  if k = Ad.PAS_STATE then
    some (w32 ((if p.oc ∧ p.cut.isSome then p.scale % 65536 else 0) * 65536 + (if p.oc then p.cut.getD 15 else 15) * 16
      + b2n p.shortU * 2 + b2n p.oc))
  else if k = Ad.PAS_CAP_NOM then some (w32 (capNom s))
  else if k = Ad.PAS_CAP_DER then some (w32 (cDer s))
  else if k = Ad.PAS_COMMIT_U then some (w32 (uTotal s))
  else if k = Ad.PAS_COMMIT_G then some (w32 (gTotal s))
  else none

/-- STATE of DRC_STATUS. -/
def drcModeNo : DrcMode → Nat
  | .untrained => 0
  | .training => 1
  | .ready => 2
  | .failed => 3
  | .selfRefresh => 4

/-- DRC_STATUS. -/
def drcView (s : State) (k : Nat) : Option Word :=
  (inArr k (Ad.DRC_STATUS 0) 0x1000 8).map (fun c =>
    let d := drcCh s c
    w32 (drcModeNo d.mode * 256 + d.ref % 4 * 16 + b2n d.hot))

/-- RCC registers. -/
def rccView (s : State) (k : Nat) : Option Word :=
  if k = Ad.RCC_STATUS then
    some (w32 (b2n (winOff s) * 16 + b2n s.rc.mach * 8 + b2n s.rc.sb.isEmpty * 4 + b2n s.rc.wfi * 2))
  else if k = Ad.RCC_CACHE_CMD then some (w32 (b2n s.rc.flushing * 256))
  else none

/-- CHZ registers. -/
def chzView (s : State) (k : Nat) : Option Word :=
  let z := s.chz
  if k = Ad.CHZ_STATUS then
    let busy := (z.q.filter (fun e => e.phase != 0)).foldl (fun n e => n ||| cxUnits e.op) 0
    some (w32 (busy % 16 * 256 + ((z.carve.map CarveSt.step).getD 0) % 8 * 16 + z.q.length % 8))
  else if k = Ad.CHZ_CTX_STATE then
    some (w32 ((List.range 4).foldl (fun w n => w + (hctx s n).st * 4 ^ n) 0 + (gctx s 0).st * 256 + (gctx s 1).st * 4096))
  else if k = Ad.CHZ_CTR then some (w32 s.otp.ctr)
  else if k = Ad.CHZ_CTR_STATUS then 
    some (w32 (b2n (z.q.any (fun e => e.phase != 0 && e.op == .cinc)) * 2 + b2n (decide (16777216 ≤ s.otp.incs))))
  else
    (inArr k (Ad.CHZ_KEY_POL 0) 4 16).map (fun n =>
      let c := keySlot s n
      w32 (b2n c.broken * 65536 + b2n (decide (n < 8)) * 32768 + c.use % 32 * 256 + c.kind % 16))

/-- TBU and MOT registers. -/
def tbView (s : State) (k : Nat) : Option Word :=
  if k = Ad.TBU_QUALITY then some (w32 (tbQuality s))
  else if k = Ad.TBU_BOUND then some (w32 (tbBoundReg s))
  else if k = Ad.TBU_ALARM_CTRL then some (w32 (b2n s.tb.alarm.isSome * 256))
  else if k = Ad.MOT_SPEED then some (w32 (s.mot.gnss % 65536 * 65536 + satU 16 (motSpeed s false)))
  else if k = Ad.MOT_STATE then some (w32 (motState s))
  else none

/-- The low and high word of a 48-bit sequence. -/
def seqWord (n : Nat) (hi : Bool) : Word := if hi then w32 (n / 2 ^ 32 % 65536) else w32 n

/-- A queue entry's window (Table 13-13). -/
def qeView (s : State) (i o : Nat) : Word :=
  match s.evs.q.find? (fun e => e.idx == i) with
  | none => 0
  | some e =>
    if o = 0 then w32 (2 ^ 31 + b2n e.device * 2 ^ 30 + e.tenant % 1024 * 65536 + e.typ % 256 * 256 + e.slot % 256)
    else if o = 4 then w32 e.nonce
    else if o = 8 then w32 (e.nonce / 2 ^ 32)
    else w32 (ofBytesLE ((e.payload.drop (o - 0x40)).take 4))

/-- EVS registers. -/
def evsView (s : State) (k : Nat) : Option Word :=
  let e := s.evs
  if k = Ad.EVS_STATE then some (w32 (b2n e.erasing.isSome * 256 + e.mode.code))
  else if k = Ad.EVS_PENDING_LO then some (seqWord (e.pending.getD 0) false)
  else if k = Ad.EVS_PENDING_HI then some (seqWord (e.pending.getD 0) true ||| w32 (b2n e.pending.isSome * 2 ^ 31))
  else if k = Ad.EVS_NEXT_LO then some (seqWord e.next false)
  else if k = Ad.EVS_NEXT_HI then some (seqWord e.next true)
  else if k = Ad.EVS_PROV_LO then some (seqWord e.prov false)
  else if k = Ad.EVS_PROV_HI then some (seqWord e.prov true)
  else if k = Ad.EVS_ACK_LO then some (seqWord e.ack false)
  else if k = Ad.EVS_ACK_HI then some (seqWord e.ack true)
  else if k = Ad.EVS_FREE then some (w32 (evsFree s))
  else if k = Ad.EVS_Q then some (w32 (((e.q.head?.map QEntry.idx).getD 0) * 65536 + evsCount s))
  else if k = Ad.EVS_HWM_LO then some (seqWord (e.hwm.getD 0) false)
  else if k = Ad.EVS_HWM_HI then some (seqWord (e.hwm.getD 0) true ||| w32 (b2n e.hwm.isSome * 2 ^ 31))
  else if k = Ad.EVS_X_CTRL then some (setBit (s.reg k) 31 e.xop.isSome)
  else if 0x810000 ≤ k ∧ k < 0x814000 then some (qeView s ((k - 0x810000) / 0x100) ((k - 0x810000) % 0x100))
  else (inArr k (Ad.EVS_HEAD 0) 4 8).map (fun n => w32 (ofBytesLE ((e.head.drop (4 * n)).take 4)))

/-- The Lathe of a key. -/
def lthOfKey (k : Nat) : Nat := (k - 0xA00000) / 0x40000 % 4

/-- A list RAM word. -/
def lthRamKey (k : Nat) : Bool :=
  decide (0xA00000 ≤ k ∧ k < 0xB00000 ∧ 0x10000 ≤ (k - 0xA00000) % 0x40000 ∧ (k - 0xA00000) % 0x40000 < 0x20000)

/-- The index of a list RAM word in its RAM. -/
def ramIndex (k : Nat) : Nat := (k - 0xA10000) % 0x40000 / 4

/-- ACQ, DAC and Lathe registers. -/
def anaView (s : State) (k : Nat) : Option Word :=
  if k = Ad.ACQ_STATUS then some (acqStatus s)
  else if k = Ad.DAC_STATUS then some (dacStatus s)
  else if lthRamKey k then some (ramWord s (lthOfKey k) (ramIndex k))
  else if k = Ad.DAC_MTP_CMD then some (setBit (s.reg k) 31 s.dac.prog.isSome)
  else
    match inArr k (Ad.ACQ_BUF_CTRL 0) 0x20 9, inArr k (Ad.ACQ_BUF_WR 0) 0x20 9, inArr k (Ad.LTH_STATUS 0) 0x40000 4 with
    | some n, _, _ => some (setBit (s.reg k) 30 (ringOf s n).full)
    | _, some n, _ => some (w32 (ringOf s n).shown)
    | _, _, some n => some (lthStatus s n)
    | _, _, _ => none

/-- CVU and PCU registers. -/
def cvuView (s : State) (k : Nat) : Option Word :=
  if k = Ad.PCU_SBUF_STATUS then some (sbufStatus s)
  else
    match inArr k (Ad.CVU_RESULT 0) 0x40 8, inArr k (Ad.PCU_CNT_LO 0) 0x10 32 with
    | some n, _ => some (cvuResult s n)
    | _, some n => some (pcuCntRead s n).2
    | _, _ => none

/-- The source presented to the record core: the highest PRIO, the lowest number (R660). -/
def evcClaim (s : State) : Option (Nat × Nat) :=
  let lim := s.fld Ad.EVC_RC_THRESH 2 0
  let shown (src : Nat) : Bool :=
    let r := s.reg (Ad.EVC_ROUTE src)
    bit (s.reg (Ad.EVC_PEND (src / 32))) (src % 32) && !bit (s.reg (Ad.EVC_MASK (src / 32))) (src % 32)
      && bf r 21 20 == 1 && decide (lim < bf r 26 24)
  (List.range 256).foldl (fun best src =>
    if shown src then
      let p := bf (s.reg (Ad.EVC_ROUTE src)) 26 24
      match best with
      | some (_, bp) => if bp < p then some (src, p) else best
      | none => some (src, p)
    else best) none

/-- IRQ_N is driven low: a source with TARGET 0 is pending and not masked (R659). -/
def irqOut (s : State) : Bool :=
  (List.range 256).any (fun src =>
    bit (s.reg (Ad.EVC_PEND (src / 32))) (src % 32) && !bit (s.reg (Ad.EVC_MASK (src / 32))) (src % 32)
      && bf (s.reg (Ad.EVC_ROUTE src)) 21 20 == 0)

/-- FAULT_N is driven low: an escalation is in force (R684), or the device is held at step 1 or in reset (R65). -/
def faultOut (s : State) : Bool := s.flt.esc.isSome || s.isl.phase != .run

/-- EVC, FLT, ISL and OTP registers. -/
def sysView (s : State) (k : Nat) : Option Word :=
  if k = Ad.EVC_RC_CLAIM then
    some (match evcClaim s with | some (src, p) => w32 (2 ^ 31 + p * 256 + src) | none => 0)
  else if 0xC00060 ≤ k ∧ k < 0xC000A0 ∧ k % 4 = 0 then
    let m := (s.reg (Ad.EVC_MASK ((k - 0xC00060) / 8))).toNat
    some (w32 (if k % 8 = 0 then m % 65536 else m / 65536))
  else if k = Ad.FLT_SUMMARY then some (fltSummary s)
  else if k = Ad.FLT_CONTAINED_0 then some s.flt.con0
  else if k = Ad.FLT_CONTAINED_1 then some s.flt.con1
  else if k = Ad.ISL_RUN_0 then some (w32 s.isl.runs.toNat)
  else if k = Ad.ISL_RUN_1 then some (w32 (s.isl.runs.toNat / 2 ^ 32))
  else if k = Ad.OTP_CMD_STATUS then some (setBit (s.reg k) 31 s.otp.cmd.isSome)
  else none

/-- The value of a status or condition that a block holds in its own state. -/
def viewOver (s : State) (k : Nat) : Option Word :=
  if k < 0x200000 then sysView s k
  else if k < 0x20F000 ∨ (0x210000 ≤ k ∧ k < 0x300000) then lnkView s ((k - 0x200000) / 0x10000) ((k - 0x200000) % 0x10000)
  else if k < 0x300000 then
    (inArr k (Ad.LNK_ID_USED 0) 4 8).map (fun n => w32 (bitsOf 32 (fun b => idUsed s (32 * n + b))))
  else if k < 0x400000 then haView s k
  else if k < 0x500000 then tmmView s k
  else if k < 0x580000 then pasView s k
  else if k < 0x600000 then drcView s k
  else if k < 0x680000 then rccView s k
  else if k < 0x700000 then chzView s k
  else if k < 0x800000 then tbView s k
  else if k < 0x900000 then evsView s k
  else if k < 0xB00000 then anaView s k
  else if k < 0xC00000 then cvuView s k
  else sysView s k

/-- Fields that read as 0: command fields (R123). -/
def cmdMask : List Fld → Word
  | [] => 0
  | f :: t => (if f.ty = .cmd ∨ f.ty = .cmdlk then fmask f.hi f.lo else 0) ||| cmdMask t

/-- The bits of a register that are not reserved. -/
def listedMask : List Fld → Word
  | [] => 0
  | f :: t => fmask f.hi f.lo ||| listedMask t

/-- What a listed register reads as, without its read's own effect; reserved bits read as zero (R13). (DEDUCED, log 2.) -/
def regView (s : State) (k : Nat) (r : RegRow) : Word :=
  (match viewOver s k with
    | some w => w
    | none =>
      let m := shMask r.fields
      ((s.reg k &&& ~~~m) ||| (s.stg k &&& m)) &&& ~~~cmdMask r.fields) &&& listedMask r.fields

/-- What a read does besides returning a value. (DEDUCED, log 22.) -/
def readFx (s : State) (k : Nat) : State :=
  if k = Ad.TBU_TIME_LO then timeLoRead Ad.TBU_TIME_LO Ad.TBU_TIME_HI s
  else if k = Ad.MOT_DIST_LO then motDistLoRead s
  else if k = Ad.HA_POISON_LAST_0 then s.setFld k 31 31 0
  else
    match inArr k (Ad.CVU_RESULT 0) 0x40 8, inArr k (Ad.PCU_CNT_LO 0) 0x10 32 with
    | some n, _ => cvuCapture s n
    | _, some n => (pcuCntRead s n).1
    | _, _ => s

/-- A read of a listed register: HA_POISON_LAST_0 returns its record before VALID clears, the others what the read captures. -/
def regTake (s : State) (k : Nat) (r : RegRow) : State × Word :=
  let s1 := readFx s k
  (s1, regView (if k = Ad.HA_POISON_LAST_0 then s else s1) k r)

/-- A word found in parity error by a read (R141): the copy that the read returns. -/
def readBad (s : State) (k : Nat) (r : RegRow) : Option Bool :=
  if shMask r.fields ≠ 0 ∧ parBad s k true then some true
  else if parMask r.fields &&& ~~~shMask r.fields ≠ 0 ∧ parBad s (parKey k) false then some false
  else none

end Sys2Proof.Machine
end

