-- ==== Sys2Proof/Machine/Flt.lean ====
section
/-!
DEFINITION. Machine/Flt.lean: what a containment, a release and an escalation do in the units of Table 19-3 (R681 to R683, R690,
R73), and the record core's own restart.
-/
namespace Sys2Proof.Machine

/-- A register's key lies in the record core's island. -/
def rcKey (k : Nat) : Bool := decide (0x600000 ≤ k) && decide (k < 0x680000)

/-- The record core restarts at RC:0x0000_0000 as after WRST_N of its island alone (Table 19-3): its registers reset, its caches
and TCM are lost, and the numbers of accesses under way go on, so that no late answer is taken for a new one's. -/
def rcRestart (s : State) : State :=
  let no := s.rc.devNo
  let sb := s.rc.sbNo
  bootReset { s with
    regs := s.regs.filter (fun e => !rcKey e.1)
    parErr := s.parErr.filter (fun e => !rcKey e.key)
    rc := { rcFresh with devNo := no, sbNo := sb }
    ha := { s.ha with ag0 := s.ha.ag0.filter (fun r => match r.who with | .rcFill _ | .rcDev _ => false | _ => true) } }

/-- A DAC channel reaches its safe state: a fault load, and the Lathe that owns it aborts (Table 19-3). -/
def dacContain (s : State) (n : Nat) : State :=
  let o := (dacCh s n).owner
  let s1 := if o = 0 then s else cmdAbort s (o - 1)
  if faulted s1 n ∧ !faulted s n then s1 else faultLoads s1 [n]

/-- A unit taken to its safe state (Table 19-3). The units not named here are held where they act. -/
def containApply (s : State) (u : Nat) : State :=
  if u < 16 then portContain s u
  else if u < 24 then pasRecompute s
  else if u = 28 then (if s.running 32 then acqContain s else s)
  else if 32 ≤ u ∧ u < 48 then (if s.running 32 then dacContain s (u - 32) else s)
  else if 48 ≤ u ∧ u < 52 then (if s.running 32 then lthAbort s (u - 48) 4 else s)
  else s

/-- A unit's bit cleared, with its "On release" action (R682, Table 19-3). -/
def releaseUnit (s : State) (u : Nat) : State :=
  if !contained s u then s
  else
    let s1 : State :=
      if u < 32 then { s with flt := { s.flt with con0 := s.flt.con0 &&& ~~~w32 (2 ^ u) } }
      else { s with flt := { s.flt with con1 := s.flt.con1 &&& ~~~w32 (2 ^ (u - 32)) } }
    if u < 16 then portRelease s1 u
    else if u < 24 then pasRecompute s1
    else if u = 25 then rcRestart s1
    else if u = 28 then acqRelease s1
    else s1

/-- FLT_RELEASE_0 (base 0) and FLT_RELEASE_1 (base 32): each unit written 1 (R682). -/
def fltRelease (s : State) (base mask : Nat) : State :=
  ((List.range 32).filter (fun b => mask.testBit b)).foldl (fun s b => releaseUnit s (base + b)) s

/-- An escalation takes effect in the ANA island, where it runs (R683, R621, R579). -/
def escApply (s : State) : State := faultAll (lthEscalate s)

/-- An escalation is applied: at once where ANA runs; in Glen, and on an exit from Basin once the core PLL has locked, ANA starts
for it (R73). In Basin the wake of latch bit 21 brings the core PLL back first. -/
def escalate (s : State) : State :=
  if s.running 32 then escApply s
  else if 2 ≤ s.depth ∧ s.isl.pll.getLsbD 0 ∧ s.isl.phase = .run then startIsl s 32
  else s

/-- The escalation's fault loads and the channels contained while ANA was stopped, as ANA's first action (R73). -/
def anaFirst (s : State) : State :=
  let s1 := if s.flt.esc.isSome then escApply s else s
  faultLoads s1 ((List.range 16).filter (fun n => contained s (32 + n) && !faulted s1 n))

/-- FLT_CTRL.ESC_CLEAR (R690). -/
def escClear (s : State) : State :=
  if bf (s.reg Ad.FLT_RAISED_0) 23 0 ≠ 0 ∨ bf (s.reg Ad.FLT_RAISED_1) 16 0 ≠ 0 then sqEvt s Ad.FLT_EVT 1
  else { s with flt := { s.flt with esc := none } }

/-- FLT_CTRL.ESC_FORCE (R677): class 6. -/
def escForce (s : State) : State := raise s 6 0

/-- FLT_CNT of the classes whose raised bits a write has cleared goes to zero (R689). -/
def fltCleared (s : State) (base bits : Nat) : State :=
  ((List.range 24).filter (fun b => bits.testBit b)).foldl (fun s b =>
    s.setFld (Ad.FLT_CNT ((base + b) / 4)) (8 * ((base + b) % 4) + 7) (8 * ((base + b) % 4)) 0) s

/-- FAULT_REOFFER: offers answered BUSY are repeated (R501, R686). -/
def fltReoffer (s : State) : State := fltOfferLoop s.flt.offers.length s

end Sys2Proof.Machine
end

