-- ==== Sys2Proof/Machine/Resets.lean ====
section
/-!
DEFINITION. Machine/Resets.lean: PORST_N, WRST_N, the droop reset, losses of supplies and of VBAT (R61 to R68, R76, R726, R727,
R742, R745), and the sequence of Table 2-6 with the states of Table 2-7.
-/
namespace Sys2Proof.Machine

/-! ### What a reset interrupts -/

/-- An erase cut short leaves in each byte some of its bits erased, which ones being open. (DESIGN CHOICE, log 21.) -/
def flashCutErase (s : State) (k : Nat) : State :=
  let l := s.flash.filter (fun e => decide (k ≤ e.1 ∧ e.1 < k + 4096))
  let m := (l.mapIdx (fun i e => (e.1, e.2 ||| BitVec.ofNat 8 (Config.freeNat (s.free + i))))).foldl
    (fun m e => stSet flashDef m e.1 e.2) s.flash
  { s with flash := m, free := s.free + l.length }

/-- The evidence store stops: a page program under way completes at WRST_N (R67, R442) and is torn otherwise (R443); an erase is
cut short. (DESIGN CHOICE, log 21.) -/
def evsStop (s : State) (warm : Bool) : State :=
  let prog (s : State) (f : List Byte → State → State) (l : List Byte) : State :=
    if warm then f l s else f (tornBytes s l) { s with free := s.free + l.length }
  let s1 :=
    match s.chz.carve with
    | some c => if c.step = 6 then prog s (fun l s => slotProgram s c.seq l) c.bytes else s
    | none => s
  let s2 :=
    match s1.evs.xop with
    | some x =>
      if x.op = 2 then prog s1 (fun l s => flashProgram s x.cs x.addr l) (bufRead s1 (Ad.EVS_X_BUF 0) x.len)
      else if x.op = 3 then flashCutErase s1 (flashKey x.cs x.addr)
      else s1
    | none => s1
  match s2.evs.erasing, evsPart s2 with
  | some (c, _), some (b, cs, tot) => flashCutErase s2 (flashKey cs (b + 4096 * (c % (max 1 tot))))
  | _, _ => s2

/-- A loss of power during an OTP command: each row that it fuses holds its old values, or its new ones, or fails its check
code (R721). (DESIGN CHOICE, log 21.) -/
def otpCut (s : State) : State :=
  match s.otp.cmd with
  | none => s
  | some _ =>
    let t := otpDone s true
    let pick (r : Nat) : Option OtpRow :=
      let o := otpRow s r
      let n := otpRow t r
      let f := Config.freeNat (t.free + r) % 3
      if o = n ∨ f = 0 then o else if f = 1 then n else n.map (fun x => { x with bad := true })
    { s with otp := { s.otp with rows := (List.range 22).filterMap pick, cmd := none }, free := t.free + 22 }

/-- An increment of the monotonic counter that a reset or a loss of power interrupts leaves the old value or the new one (R423);
which is open. (DESIGN CHOICE, log 21.) -/
def ctrCut (s : State) : State :=
  let runs : Bool := s.chz.q.any (fun e => match e.op with | .cinc => e.phase == 1 && e.code == 0 | _ => false)
  if runs then ctrRaise s.fresh (Config.freeNat s.free % 2) else s

/-! ### Registers -/

/-- A register that keeps its value across WRST_N: "(kept)" (R12, R747). -/
def keptWarm (k : Nat) : Bool :=
  match regAt k with
  | some (r, _) => r.kept
  | none => false

/-- A register that AON keeps across PORST_N (Tables 2-7, 2-10, 2-15): the reset cause, the latches, the RTC. (DEDUCED, log 27.) -/
def keptCold (k : Nat) : Bool :=
  k == Ad.ISL_RESET_CAUSE || k == Ad.ISL_LATCH || k == Ad.ISL_LATCH_OVF || k == Ad.TBU_RTC_SEC_LO || k == Ad.TBU_RTC_SEC_HI
    || k == Ad.TBU_RTC_SUB

/-- The event masks of the sources that the DV1024-G2B does not have read 0 (R656). (DEDUCED, log 24.) -/
def maskVariant (s : State) : State := if isG2B s then s.setReg (Ad.EVC_MASK 1) 0xF0FF0FFF else s

/-- A register with a field that a lock domain locks: its parity is not computed afresh before PORST_N (R143). (DEDUCED, log 62.) -/
def domLocked (s : State) (k : Nat) : Bool :=
  match regAt k with
  | some (r, _) => r.fields.any (fun f =>
      (f.ty == .lk || f.ty == .shlk || f.ty == .cmdlk) && decide (f.dom < 16) && locked s f.dom)
  | none => false

/-- The registers after a reset. -/
def regsReset (s : State) (warm : Bool) : State :=
  let keep (k : Nat) : Bool := if warm then keptWarm k else keptCold k || lthRamKey k
  maskVariant { s with
    regs := s.regs.filter (fun e => keep e.1)
    staged := s.staged.filter (fun e => warm && keep e.1)
    parErr := s.parErr.filter (fun e => keep e.key && (warm || lthRamKey e.key) || warm && domLocked s e.key) }

/-! ### Blocks (Table 2-7) -/

/-- The pending bits that mirror set latches (Table 2-7). -/
def evcMirror (s : State) : State :=
  s.setReg (Ad.EVC_PEND 0) (w32 (bf (s.reg Ad.ISL_LATCH) 23 0 + b2n (decide (bf (s.reg Ad.ISL_LATCH_OVF) 23 0 ≠ 0)) * 2 ^ 27))

/-- The blocks that both resets clear. OTP rows, the flash, DRAM, the count of trainings and the RTC stay. -/
def blocksReset (s : State) : State :=
  { s with
    tap := tapFresh, cp := cpFresh, tbl := tblFresh, flt := fltFresh, evc := evcFresh, evs := evsResetSt s.evs.hwm false
    chz := chzFresh slotsBlank, lnk := lnkFresh, ha := haFresh, tmm := tmmFresh
    drc := s.drc.map (fun (d : DrcCh) => { drcOff with epoch := d.epoch }), pas := pasFresh
    rc := rcFresh, pcu := pcuFresh, cvu := cvuFresh, acq := acqFresh s.acq.refinOk, lth := s.lth.map lthReset
    effects := [] }

/-- The islands while a reset holds them: no transition, the given ones clocked. -/
def islHold (s : State) (p : Phase) (done : Bool) (runs : BitVec 34) (wip : Bool) : State :=
  { s with isl := { islFresh runs s.isl.pll with
      phase := p, porDone := done, warmInPor := wip, rtcGone := s.isl.rtcGone, supplyOut := s.isl.supplyOut,
      vbat := s.isl.vbat, vio := s.isl.vio } }

/-- Every island of the variant. -/
def islAll (s : State) : BitVec 34 := if isG2B s then 0x3E01FE1FF else allIslands

/-- Everything that a power-on reset clears; the DAC outputs go to high impedance (R66). -/
def porstBlocks (s : State) : State :=
  let s1 := otpCut (dacCut (evsStop (ctrCut s) false))
  let s2 := { regsReset (blocksReset s1) false with mot := motReset }
  let s3 : State := dacAborted s { s2 with dac := { s2.dac with ilim := [] } }
  (List.range 16).foldl (fun s n => dacOut s n 0 false false true) s3

/-- A power-on reset: the device is held in it. -/
def porst (s : State) : State := islHold (porstBlocks s) .porst false 1 false

/-- PORST_N low for `low` ns: pulses below 200 ns are ignored (R62). (DESIGN CHOICE, log 20.) -/
def porstAssert (s : State) (low : Nat) : State := if low < 200 then s else porst s

/-- Steps 3 to 7 of Table 2-6: OTP and the rows loaded, the power-up codes, the control port, the record core, FAULT_N. -/
def porSteps (s : State) : State :=
  let s1 := dacCopy (otpLoad s)
  let s2 : State := { s1 with isl := { islFresh (islAll s1) (-1) with supplyOut := s1.isl.supplyOut, vbat := s1.isl.vbat }
                              evs := evsResetSt s1.evs.hwm (otpGood s1 6) }
  dacReport (bootReset (evcMirror (acqAnaStart s2)))

/-- Step 2 of Table 2-6: legal time resumes from the RTC at Q4, or from 0 at Q3 (R470). -/
def tbStep2 (s : State) : State := { s with tb := tbResume s s.isl.rtcGone }

/-- The RTC after a number of 32.768 kHz ticks of its own crystal (R469). -/
def rtcRun (s : State) (ticks : Nat) : State :=
  let sub := s.fld Ad.TBU_RTC_SUB 14 0 + ticks
  let sec := (s.reg Ad.TBU_RTC_SEC_LO).toNat + 2 ^ 32 * s.fld Ad.TBU_RTC_SEC_HI 15 0 + sub / 32768
  ((s.setReg Ad.TBU_RTC_SUB (w32 (sub % 32768))).setReg Ad.TBU_RTC_SEC_LO (w32 sec)).setReg Ad.TBU_RTC_SEC_HI (w32 (sec / 2 ^ 32 % 65536))

/-- PORST_N rises: the whole of Table 2-6 where the TCXO is detected, else its step 1 goes on (R65). AON and CP run from their
own oscillators while it does. VBAT and VDD_IO stand by then, as R60 asks. `ticks`: what the RTC has counted since the reset
began. (DESIGN CHOICE, log 20.) -/
def porstRelease (s : State) (tcxo : Bool) (ticks cause : Nat) : State :=
  if s.isl.phase ≠ .porst then s
  else
    let s0 : State := { s with isl := { s.isl with vbat := true, vio := true } }
    let s1 := rtcRun (sqBits s0 Ad.ISL_RESET_CAUSE (1 + cause + 4 * b2n s0.isl.rtcGone)) ticks
    if tcxo then porSteps (tbStep2 s1) else islHold s1 .hold false 0x200000005 false

/-- No TCXO within 10 ms (R65): TCXO_ABSENT. -/
def tcxoTimeout (s : State) : State := if s.isl.phase = .hold then sqBits s Ad.ISL_RESET_CAUSE 32 else s

/-- WRST_N low for `low` ns (R62, R67, R68, R76, R697). Before step 7 of Table 2-6 has completed it is part of that power-on
reset: every block takes its state after PORST_N. -/
def wrst (s : State) (cause : Nat) : State :=
  match s.isl.phase with
  | .run =>
    let curve := (tblBody s 7).isSome
    let s1 := dacCut (evsStop (ctrCut (sqBits s Ad.ISL_RESET_CAUSE cause)) true)
    let s2 := dacCopy (dacAborted s (evcMirror (regsReset (blocksReset s1) true)))
    let s3 := if curve then motNoCurve s2 else s2
    islHold { s3 with effects := [] } .warm true 3 false
  | .hold => islHold (porstBlocks (sqBits s Ad.ISL_RESET_CAUSE cause)) .warm false 1 true
  | _ => s

/-- WRST_N low for `low` ns. (DESIGN CHOICE, log 20.) -/
def wrstAssert (s : State) (low : Nat) : State := if low < 200 then s else wrst s 2

/-- An OTP command still in progress completes before the rows are reloaded (R717); whether its read-back is correct is open.
(DESIGN CHOICE, log 43.) -/
def otpFinish (s : State) : State := if s.otp.cmd.isSome then otpDone s.fresh (Config.freeNat s.free % 2 == 0) else s

/-- WRST_N rises (R67): steps 5 to 7 of Table 2-6, with OTP reloaded; the power-on sequence where it was not complete.
(DESIGN CHOICE, log 20.) -/
def wrstRelease (s : State) (tcxo : Bool) (ticks : Nat) : State :=
  if s.isl.phase ≠ .warm then s
  else if s.isl.warmInPor then
    let s1 := rtcRun s ticks
    if tcxo then porSteps (tbStep2 s1) else islHold s1 .hold false 0x200000005 false
  else
    let s1 := otpLoad (otpFinish s)
    let isl : IslSt := { islFresh (islAll s1) (-1) with
      supplyOut := s1.isl.supplyOut, rtcGone := s1.isl.rtcGone, vbat := s1.isl.vbat }
    let s2 : State := { s1 with isl := isl, evs := evsResetSt s1.evs.hwm (otpGood s1 6) }
    dacReport (bootReset (acqAnaStart s2))

/-- The droop threshold in 0.1 mV (R63, R727). (DESIGN CHOICE, log 19.) -/
def droopAt : Nat := 7235 + Config.droopOver % 41

/-- VDD_CORE at `level` (0.1 mV) for `dur` ns (R63, R727): below the threshold for more than 5 µs, a power-on reset that sets
DROOP, ended by the supply's return. (DESIGN CHOICE, log 20.) -/
def droop (s : State) (level dur : Nat) (tcxo : Bool) (ticks : Nat) : State :=
  if dur ≤ 5000 ∨ droopAt ≤ level then s
  else if s.isl.phase = .porst then sqBits s Ad.ISL_RESET_CAUSE 8
  else porstRelease (porst s) tcxo ticks 8

/-- The main supplies are lost (R61, R64), VDD_IO with them (R58): AON alone goes on, and the list RAMs lose what they held. (DESIGN CHOICE, log 20.) -/
def supplyLoss (s : State) : State :=
  let s1 := porst s
  { s1 with
    regs := s1.regs.filter (fun e => !lthRamKey e.1)
    isl := { s1.isl with vio := false }
    lth := s1.lth.map (fun (l : LthSt) => { l with ramErr := [], ramLoss := l.ramLoss + 1, ramSet := [] }) }

/-- VBAT falls below its minimum (R64): the RTC and what AON keeps are lost, and no edge is latched (R58). (DEDUCED, log 27.) -/
def vbatLoss (s : State) : State :=
  { s with
    regs := s.regs.filter (fun e => !(keptCold e.1))
    evs := { s.evs with hwm := none }
    isl := { s.isl with rtcGone := true, vbat := false } }

/-! ### The supply monitor (R726, R742, R745) -/

/-- A monitored supply leaves its band; `code` is 35 VDD_CORE, 36 VDD_IO, 37 VDDA or 38 VBAT. The monitor does not run while a
power-on reset holds the device, and acts once for each time the supply leaves. -/
def supplyEvent (s : State) (code : Nat) : State :=
  let n := code - 35
  if code < 35 ∨ 38 < code ∨ s.isl.supplyOut.getLsbD n ∨ s.isl.phase = .porst then s
  else raise (setLatch { s with isl := { s.isl with supplyOut := s.isl.supplyOut ||| (1#4 <<< n) } } 22) 5 code

/-- The supply is back within its band by the hysteresis; VBAT is valid again, VDD_IO on again (R58). (DEDUCED, log 30.) -/
def supplyReturn (s : State) (code : Nat) : State :=
  let n := code - 35
  if code < 35 ∨ 38 < code then s
  else
    { s with isl := { s.isl with
        supplyOut := s.isl.supplyOut &&& ~~~(1#4 <<< n), vbat := s.isl.vbat || code == 38, vio := s.isl.vio || code == 36 } }

end Sys2Proof.Machine
end

