-- ==== Sys2Proof/Machine/Valley.lean ====
section
/-!
DEFINITION. Machine/Valley.lean: the valley sequencer (Tables 2-2 to 2-5, R37 to R57, R71 to R80): entries, exits, wakes, the PLLs,
and the on-demand islands.
-/
namespace Sys2Proof.Machine

/-! ### Interrupts of the record core (Table 10-7), which end its WFI (R407) -/

/-- The pending interrupts as bits of mip: BUSERR 16, MEI 11, MTI 7, MSI 3. -/
def rcMip (s : State) : Word :=
  let cmp := (s.reg Ad.RCC_TIMECMP_LO).toNat + 2 ^ 32 * (s.reg Ad.RCC_TIMECMP_HI).toNat
  w32 (b2n (decide (bf (s.reg Ad.RCC_BUSERR &&& s.reg Ad.RCC_BUSERR_EN) 3 0 ≠ 0)) * 2 ^ 16 + b2n (evcClaim s).isSome * 2 ^ 11
    + b2n (decide (cmp ≤ s.now)) * 2 ^ 7 + b2n (bit (s.reg Ad.RCC_MSIP) 0) * 2 ^ 3)

/-- An enabled interrupt is pending. -/
def rcIrqDue (s : State) : Bool := rcMip s &&& s.rc.mie != 0

/-- A control port access addressed to the island has not completed: the island does not stop (R112). -/
def cpHolds (s : State) (isl : Nat) : Bool := (s.cp.frame.isSome || s.cp.pendAcc.isSome) && s.cp.waitIsl == isl

/-! ### CP_VALLEY -/

/-- CP_VALLEY.BUSY. -/
def vBusy (s : State) : Bool := s.fld Ad.CP_VALLEY 6 6 == 1

/-- CURRENT and BUSY written by the device. -/
def vAt (s : State) (cur busy : Nat) : State := (s.setFld Ad.CP_VALLEY 5 4 cur).setFld Ad.CP_VALLEY 6 6 busy

/-- TARGET and WAKE_SRC. -/
def vTarget (s : State) (v : Nat) : State := s.setFld Ad.CP_VALLEY 1 0 v

/-- The stage and the goal of the transition. -/
def vStage (s : State) (st : VStage) (goal : Nat) : State := { s with isl := { s.isl with stage := st, goal := goal } }

/-- ANA stops at a depth (Table 2-1). -/
def anaOff (s : State) (depth : Nat) : Bool := decide (3 ≤ depth) || (decide (depth = 2) && s.fld Ad.CP_VALLEY 2 2 == 0)

/-- Islands stopped. -/
def stopIsls (s : State) (l : List Nat) : State :=
  { s with isl := { s.isl with runs := l.foldl (fun r n => r &&& ~~~(1#34 <<< n)) s.isl.runs } }

/-- RC_READY cleared when an entry ends or is abandoned, WAKE_REQ when an exit completes (Table 2-17). -/
def readyClear (s : State) : State := s.setFld Ad.ISL_RC_CTRL 0 0 0

/-- The ports of the variant folded over. -/
def eachPort (f : State → Nat → State) (s : State) : State := (List.range (nPorts s)).foldl f s

/-! ### Wakes (R45, R71, R73, R79) -/

/-- The depth a latch source exits to (Table 2-14). -/
def wakeDepth (s : State) (b : Nat) : Nat := if bit (s.reg Ad.ISL_WAKE_TARGET) b ∧ b ≠ 21 ∧ b ≠ 23 then 0 else 2

/-- A latch source wakes (Table 2-12). -/
def wakeEn (s : State) (b : Nat) : Bool := b == 21 || b == 23 || (decide (b ≤ 22) && bit (s.reg Ad.ISL_WAKE_EN) b)

/-- An exit begins, from wherever the device stands, to a depth (Table 2-4, R53). -/
def exitBegin (s : State) (d : Nat) : State :=
  let goal := if d = 1 then 0 else d
  let s1 := vStage ((readyClear s).setFld Ad.CP_VALLEY 6 6 1) .exit goal
  { s1 with isl := { s1.isl with thenTo := if d = 1 then 1 else 0, abandon := false } }

/-- Settled at Glen: an entry to Glen, or one to Basin that a wake has ended there. -/
def glenSettle (s : State) : State := vStage (vAt (readyClear s) 2 0) .idle 2

/-- Steps 5 and 6 of Table 2-3 begin: fold jobs stop at a page boundary, and each port parks. -/
def parkBegin (s : State) (goal : Nat) : State :=
  let keys := (s.tmm.jobs.filter (fun j => j.kind == .fold || j.kind == .drop)).map PJob.key
  eachPort parkEnter (keys.foldl foldAbort (vStage s .park goal))

/-- A wake to depth `d` with its WAKE_SRC code, which goes to the shallower of the two depths (R71). `keep`: TARGET is left as it
is (R56). `cut`: the wait of step 3 or of step 4 of Table 2-3 ends at once; the step after it then runs as usual. It is false for
a latch found set at an entry's start (R79), when neither wait has begun. (DEDUCED, log 29.) -/
def wakeAs (s : State) (d src : Nat) (keep cut : Bool) : State :=
  let note (s : State) : State :=
    let s1 := s.setFld Ad.CP_VALLEY 15 8 src
    if keep then s1 else vTarget s1 d
  let c := s.depth
  match s.isl.stage with
  | .idle => if d < c then exitBegin (note s) d else s
  | .toDale => if d < s.isl.goal then vStage (note s) .toDale d else s
  | .waitRc | .drain | .park =>
    let s1 := if d < s.isl.goal then note s else s
    let g := min s.isl.goal d
    if g = 0 then exitBegin s1 0
    else if cut ∧ s.isl.stage = .waitRc then vStage s1 .drain g
    else if cut ∧ s.isl.stage = .drain then parkBegin s1 g
    else vStage s1 s.isl.stage g
  | .gbDrain | .waitWfi =>
    if s.isl.goal ≤ d then s else if d = 0 then exitBegin (note s) 0 else (glenSettle (note s)).later .keptTarget
  | .exit => if d < s.isl.goal then vStage (note s) .exit d else s

/-- A wake that occurs now. -/
def wakeTo (s : State) (d src : Nat) (keep : Bool) : State := wakeAs s d src keep true

/-- A wake source has set: the wake it causes, and the other source of R56. An escalation or a carve-due wakes at each occurrence
(R55, R73), the other sources by their latch. -/
def wake (s : State) (b : Nat) : State :=
  if s.isl.phase ≠ .run ∨ !wakeEn s b then s
  else
    let auto := b == 23 && bit (s.reg Ad.ISL_VALLEY_CFG) 31 && s.fld Ad.CP_VALLEY 1 0 == 3
    let s1 : State := if b = 23 then s else { s with isl := { s.isl with otherWake := true } }
    let s2 := wakeTo s1 (wakeDepth s b) b auto
    if auto ∧ s2.isl.stage = .exit ∧ s.isl.stage ≠ .exit then { s2 with isl := { s2.isl with autoRet := true, otherWake := false } } else s2

/-- A request that arrives in Dale starts the exit to Open (R46). -/
def daleWake (s : State) : State := if s.depth = 1 ∧ !vBusy s then wakeTo s 0 0xFE false else s

/-- The set latches that end an entry as if they had set at its start (R79). -/
def latchWakes (s : State) : State :=
  (List.range 23).foldl (fun s b => if b ≠ 21 ∧ bit (s.reg Ad.ISL_LATCH) b ∧ wakeEn s b then wakeAs s (wakeDepth s b) b false false else s) s

/-! ### Entries (Table 2-3, R53) -/

/-- An entry to a deeper depth starts. -/
def entryStart (s : State) (v : Nat) : State :=
  let s1 := s.setFld Ad.CP_VALLEY 6 6 1
  let s2 : State := { s1 with isl := { s1.isl with autoRet := false, otherWake := false, thenTo := 0, abandon := false } }
  let s3 :=
    if v = 1 then eachPort lpiEnter (vStage s2 .toDale 1)
    else if s.depth = 2 then evcSet (vStage s2 .gbDrain 3) 24 0
    else evcSet (vStage s2 .waitRc v) 24 0
  latchWakes s3

/-- A TARGET acted on while no transition runs (R44, R45, R53). -/
def targetAct (s : State) (v : Nat) : State :=
  if v = s.depth then s
  else if s.depth < v then entryStart s v
  else exitBegin (s.setFld Ad.CP_VALLEY 15 8 0xFF) v

/-- VALLEY_TARGET_WRITE: a write of CP_VALLEY.TARGET; kept while a transition runs (R72). A write of the depth the device stands
at clears ABANDONED and changes nothing else: a re-entry of R56 stays due. (DEDUCED, log 29.) -/
def targetWrite (s : State) (v : Nat) : State :=
  let s1 := vTarget (s.setFld Ad.CP_VALLEY 7 7 0) v
  if vBusy s then { s1 with isl := { s1.isl with keptTarget := some v } } else targetAct s1 v

/-- A kept TARGET is acted on once the transition has completed (R72). -/
def keptAct (s : State) : State :=
  match s.isl.keptTarget with
  | none => s
  | some v => if vBusy s then s else targetAct (vTarget { s with isl := { s.isl with keptTarget := none } } v) v

/-- Step 3 of Table 2-3 ends: recorder firmware is ready. -/
def readyTaken (s : State) : State :=
  if s.isl.stage = .waitRc ∧ bit (s.reg Ad.ISL_RC_CTRL) 0 then vStage s .drain s.isl.goal else s

/-- The evidence store's queue is empty. -/
def evsIdle (s : State) : Bool := s.evs.q.isEmpty && s.evs.reading.isEmpty

/-- Step 4 of Table 2-3 is over: trackers released, image fetches complete, no flip and no OTP command, and for Basin an empty
submit queue (R52, R53, R562, R717). The acquisition has stopped where ANA is to stop. -/
def drainOk (s : State) : Bool :=
  s.ha.trks.isEmpty && s.ha.wait.isEmpty && s.tmm.fetches.isEmpty && s.tmm.cmd.isNone && s.tmm.stall.isNone && s.otp.cmd.isNone
    && (s.isl.goal != 3 || evsIdle s) && (!anaOff s s.isl.goal || acqQuiet s)

/-- The Glen to Basin wait is over (R53): both queues empty, no OTP or row program, ANA ready to stop. -/
def gbOk (s : State) : Bool :=
  evsIdle s && s.chz.q.isEmpty && s.otp.cmd.isNone && s.dac.prog.isNone && !cpHolds s 32
    && (!s.running 32 || (acqQuiet s && lthStill s && s.lth.all (fun l => l.mode == .idle || l.mode == .tripped)))

/-- ANA stops: power-up codes, and the Lathe and acquisition state lost (R38, R51, R578). -/
def anaStop (s : State) : State := if s.running 32 then stopIsls (lthAnaStop (puAll s)) [32] else s

/-- VALLEY_DRAIN_DONE: fold jobs stop at a page boundary and each port parks; in Glen, ANA stops (Table 2-3, R53). -/
def drainDone (s : State) : State :=
  match s.isl.stage with
  | .drain =>
    if drainOk s then parkBegin s s.isl.goal else s
  | .gbDrain => if gbOk s then vStage (anaStop s) .waitWfi 3 else s
  | _ => s

/-- An entry is abandoned (R49); from Glen the device stays in Glen (R53). -/
def abandonEntry (s : State) : State :=
  let s1 := evcSet ((readyClear s).setFld Ad.CP_VALLEY 7 7 1) 26 0
  if s.isl.stage = .gbDrain then keptAct (glenSettle (vTarget s1 2))
  else
    let s2 := exitBegin (vTarget s1 0) 0
    { s2 with isl := { s2.isl with abandon := true } }

/-- VALLEY_RC_LIMIT_EXPIRY. -/
def rcLimit (s : State) : State := if s.isl.stage = .waitRc then abandonEntry s else s

/-- VALLEY_DRAIN_LIMIT_EXPIRY: steps 4 and 8 of Table 2-3 and the wait of R53 count. -/
def drainLimit (s : State) : State :=
  match s.isl.stage with
  | .drain | .park | .gbDrain => abandonEntry s
  | _ => s

/-- The islands that Glen stops. -/
def glenStops : List Nat := [3, 4] ++ (List.range 24).map (· + 5)

/-- Steps 5 to 8 of Table 2-3 have ended: every port is parked, no fold runs (R333), the accesses of the control port have completed
(R112) and ANA may stop (R50, R588). Trackers that the cut wait of R71 left under way rest in the stopped islands (R38). -/
def parkOk (s : State) : Bool :=
  glenStops.all (fun n => !cpHolds s n) &&
  s.lnk.ports.all (fun p => p.mode != .active && p.mode != .lpi && !p.parkWait) && s.tmm.jobs.all (fun j => j.kind != .fold && j.kind != .drop)
    && (!anaOff s s.isl.goal
      || (s.dac.prog.isNone && !cpHolds s 32 && acqQuiet s && lthStill s && s.lth.all (fun l => l.mode == .idle || l.mode == .tripped)))

/-- Glen is reached (step 8 of Table 2-3). -/
def glenArrive (s : State) : State :=
  let s1 := stopIsls ((List.range 16).foldl bwDrop (drcSelfRefresh s true)) glenStops
  let s2 := if anaOff s s.isl.goal then anaStop s1 else s1
  if s.isl.goal = 3 then vStage (vAt s2 2 1) .waitWfi 3 else keptAct (glenSettle s2)

/-- Step 9 of Table 2-3 (R37, R407): the record core rests in WFI with no enabled interrupt pending, and the accesses of the control port have
completed (R112). (DEDUCED, log 29.) -/
def basinOk (s : State) : Bool :=
  s.isl.stage == .waitWfi && [29, 30, 31].all (fun n => !cpHolds s n) && s.rc.wfi && !rcIrqDue s && s.chz.q.isEmpty

/-- The control port island has nothing in hand. -/
def cpIdle (s : State) : Bool := s.cp.pendAcc.isNone && s.cp.frame.isNone && !s.tbl.keyBusy && (tblState s == 0 || tblState s == 2 || tblState s == 3)

/-- Basin is reached. -/
def basinArrive (s : State) : State :=
  let s1 := stopIsls s ([29, 30, 31] ++ (if cpIdle s then [2] else []))
  let s2 := vStage (vAt (readyClear s1) 3 0) .idle 3
  keptAct { s2 with isl := { s2.isl with pll := 0 } }

/-- VALLEY_ENTRY_COMPLETE. -/
def entryComplete (s : State) : State :=
  match s.isl.stage with
  | .toDale =>
    if s.isl.goal = 0 then exitBegin (vAt s 1 1) 0 else keptAct (vStage (vAt s 1 0) .idle 1)
  | .park => if parkOk s then glenArrive s else s
  | .waitWfi => if basinOk s then basinArrive s else s
  | _ => s

/-! ### PLLs and exits (Table 2-4, R37, R78) -/

/-- The PLL that serves an island: 0 the core PLL, 1 the DRAM PLL, 2 + p that of port p. -/
def pllOf (isl : Nat) : Option Nat :=
  if isl = 3 ∨ isl = 4 ∨ (29 ≤ isl ∧ isl ≤ 32) then some 0
  else if 5 ≤ isl ∧ isl ≤ 12 then some 1
  else if 13 ≤ isl ∧ isl ≤ 28 then some (isl - 11)
  else none

/-- The island stalls: its PLL has lost lock (R78). -/
def stalled (s : State) (isl : Nat) : Bool :=
  s.running isl && (match pllOf isl with | some k => !s.isl.pll.getLsbD k | none => false)

/-- PLL_LOCK: a PLL reaches lock. On an exit from Basin the core PLL brings up RC, CHZ, EVS and CP, the record core resuming after
its WFI, and ANA where an escalation is in force (R73). -/
def pllLock (s : State) (k : Nat) : State :=
  if 2 + nPorts s ≤ k ∨ s.isl.phase ≠ .run ∨ s.isl.pll.getLsbD k ∨ (s.depth = 3 ∧ s.isl.stage ≠ .exit) then s
  else
    let s1 : State := { s with isl := { s.isl with pll := s.isl.pll ||| (1#18 <<< k) } }
    if k = 0 ∧ s.depth = 3 ∧ !s.running 29 then
      let s2 := setRc ([29, 30, 31, 2].foldl startIsl s1) (fun c => { c with wfi := c.wfi && !fwRuns s1 })
      if s.flt.esc.isSome then startIsl s2 32 else s2
    else s1

/-- PLL_LOCK_LOSS: CLK_LOCK, once for the loss (R78). -/
def pllLoss (s : State) (k : Nat) : State :=
  if 2 + nPorts s ≤ k ∨ s.isl.phase ≠ .run ∨ !s.isl.pll.getLsbD k then s
  else
    raise { s with isl := { s.isl with pll := s.isl.pll &&& ~~~(1#18 <<< k) } } 3
      (if k = 0 then 0x100 else if k = 1 then 0x200 else 0x300 + (k - 2))

/-- REF_HOLD_EXPIRY: the TCXO has been lost for 10 ms (R78). -/
def refHold (s : State) : State := if s.tb.intOsc then raise s 4 0 else s

/-- The PLLs that an exit from Basin waits for have locked. -/
def exitReady (s : State) : Bool :=
  decide (s.depth ≠ 3) ||
    (s.isl.pll.getLsbD 0 && (decide (s.isl.goal = 2) || (s.isl.pll.getLsbD 1
      && (List.range (nPorts s)).all (fun p => s.isl.pll.getLsbD (2 + p) || (portOf s p).mode == .disabled))))

/-- The islands of the shallow depths that an exit to Open starts: ANA first, then FAB, TMM, the channels and the ports. -/
def openStarts (s : State) : List Nat :=
  [32, 3, 4] ++ (List.range (nChans s)).map (· + 5)
    ++ ((List.range (nPorts s)).filter (fun p => (portOf s p).mode != .disabled)).map (· + 13) ++ [2, 29, 30, 31]

/-- The port begins its retrain, or leaves LPI. -/
def portWake (s : State) (p : Nat) : State := lpiExit (unpark (parked s p) p) p

/-- VALLEY_EXIT_COMPLETE (step 8 of Table 2-4, R53, R54): every island of the new depth runs. -/
def exitComplete (s : State) : State :=
  if s.isl.stage ≠ .exit ∨ !exitReady s then s
  else
    let g := s.isl.goal
    let deep := decide (2 ≤ s.depth)
    let s1 :=
      if g = 0 then
        let t := (openStarts s).foldl startIsl s
        eachPort portWake (if deep then drcSelfRefresh t false else t)
      else if anaOff s 2 ∧ s.flt.esc.isNone then s else startIsl s 32
    let s2 := vStage (vAt (readyClear (s1.setFld Ad.ISL_RC_CTRL 1 1 0)) g 0) .idle g
    let s3 := if s.isl.abandon then s2 else evcSet s2 25 0
    let next := s.isl.thenTo
    let s4 : State := { s3 with isl := { s3.isl with thenTo := 0, abandon := false, autoRet := s3.isl.autoRet && decide (g = 2) } }
    match s4.isl.keptTarget with
    | some _ => keptAct s4
    | none => if next = 1 ∧ g = 0 then entryStart s4 1 else s4

/-! ### WAKE_REQ, RC_READY (Table 2-17) -/

/-- ISL_RC_CTRL written with RC_READY and WAKE_REQ (R45, R71, R406). -/
def rcCtrlWrite (s : State) (ready req : Bool) : State :=
  let s1 := s.setFld Ad.ISL_RC_CTRL 0 0 (b2n ready)
  if !req then s1
  else if s.depth = 0 ∧ !vBusy s then s1
  else wakeTo (s1.setFld Ad.ISL_RC_CTRL 1 1 1) 0 0xFD false

/-! ### On-demand islands (R39) and AUTO_RETURN (R56) -/

/-- An on-demand island has nothing to do. -/
def demandIdle (s : State) (isl : Nat) : Bool :=
  if cpHolds s isl then false
  else if isl = 2 then cpIdle s
  else if isl = 30 then s.chz.q.isEmpty && s.chz.carve.isNone
  else if isl = 31 then
    evsIdle s && s.evs.exports.isEmpty && s.evs.erasing.isNone && s.evs.xop.isNone && s.evs.mode != .scanning
  else false

/-- ISLAND_IDLE_STOP: idle for 100 µs at a depth where the island is on demand (Table 2-1, R39). -/
def idleStop (s : State) (isl : Nat) : State :=
  if s.isl.phase = .run ∧ !vBusy s ∧ (s.depth = 2 ∨ s.depth = 3) ∧ demandIdle s isl then stopIsls s [isl] else s

/-- AUTO_RETURN_REENTRY (R56). -/
def autoReentry (s : State) : State :=
  if s.isl.autoRet ∧ !s.isl.otherWake ∧ bit (s.reg Ad.ISL_VALLEY_CFG) 31 ∧ s.depth = 2 ∧ !vBusy s ∧ evsIdle s then
    entryStart (vTarget s 3) 3
  else s

/-- With AUTO_RETURN off, or another wake source set, the device stays and TARGET takes the depth reached (R56). -/
def autoCancel (s : State) : State :=
  if s.isl.autoRet ∧ !vBusy s ∧ (s.isl.otherWake ∨ !bit (s.reg Ad.ISL_VALLEY_CFG) 31) then
    vTarget { s with isl := { s.isl with autoRet := false } } s.depth
  else s

/-! ### Latches (Table 2-5) -/

/-- WAKE_EDGE: an edge of `width` ns on the pin of a latch source: WAKE_0 to WAKE_15 by ISL_WAKE_EDGE, CP_CS_N falling, PPS_IN
by the edge selected in the TBU (R58). The CP island starts at every fall of CP_CS_N (R39). (DEDUCED, log 30.) -/
def wakeEdge (s : State) (src : Nat) (rising : Bool) (width : Nat) : State :=
  let sel :=
    if src < 16 then bit (s.reg Ad.ISL_WAKE_EDGE) (2 * src + b2n (!rising))
    else if src = 16 then !rising
    else if src = 17 then rising == !bit (s.reg Ad.TBU_SRV_CFG) 0
    else false
  let s1 := if src = 16 ∧ !rising ∧ pinsOk s ∧ s.isl.phase = .run then startIsl s 2 else s
  if width < 20 ∨ !pinsOk s ∨ !sel then s1 else setLatch s1 src

/-- What the sequencer does by itself once a command's effect is complete. -/
def valleyProgress (s : State) : State :=
  let s1 := readyTaken s
  let s2 := if s1.isl.stage = .park then eachPort (fun s p => if (portOf s p).parkWait then s else parkEnter s p) s1 else s1
  let s3 := if (s2.isl.stage = .park ∧ anaOff s2 s2.isl.goal ∨ s2.isl.stage = .gbDrain) ∧ s2.running 32 then lthPark s2 else s2
  let s4 := if basinOk s3 then basinArrive s3 else s3
  creditsReturn (autoCancel s4)

end Sys2Proof.Machine
end

