-- ==== Sys2Proof/Machine/RegWrite.lean ====
section
/-!
DEFINITION. Machine/RegWrite.lean: what a write of a register does (Table 4-1, R121 to R143): each field by its type, lock
domains and write-once fields, configuration parity, the conditions under which a block takes no write, and the commands and
other consequences that a write has in its block.
-/
namespace Sys2Proof.Machine

/-- The source bit of FLT_LOCKVIOL. -/
def srcBit : Src → Nat
  | .cp => 12
  | .rc => 13
  | .dbg => 14

/-! ### Presence (R17, R746, R750) -/

/-- A listed key that the variant reserves. -/
def keyAbsent (s : State) (k : Nat) : Bool :=
  isG2B s && (decide (0x280000 ≤ k ∧ k < 0x300000) || decide (0x584000 ≤ k ∧ k < 0x588000) || decide (0xB80500 ≤ k ∧ k < 0xB80600))

/-- The listed register at a key on this variant. (DEDUCED, log 2.) -/
def regHere (s : State) (k : Nat) : Option (RegRow × List Nat) := if keyAbsent s k then none else regAt k

/-! ### Field by field -/

/-- What a write has done so far: the two copies, the commands with their values in ascending order of their lowest bits, the
causes of a lock violation, a refused change of a guarded field (R383), and whether a staged copy was written. -/
structure WAcc where
  reg : Word
  stg : Word
  cmds : List (Nat × Nat)
  causes : Nat
  fault : Bool
  took : Bool
deriving DecidableEq, Repr

/-- The causes that lock an LK field now (R135, R137): its domain bit, and bit 15 for its condition. -/
def lockCauses (s : State) (f : Fld) : Nat :=
  (if f.dom < 16 ∧ locked s f.dom then 2 ^ f.dom else 0) +
  (match f.cond with
    | .none => 0
    | .keyOk => if bit (s.reg Ad.CP_TBL_STATUS) 16 then 32768 else 0
    | .rgnLock => if bit (s.reg Ad.RCC_CTRL) 1 then 32768 else 0)

/-- A field that no record core store or debug write changes (R383): domains TENANT to EVIDENCE. -/
def guarded (src : Src) (f : Fld) : Bool := src != .cp && decide (f.dom ≤ 6)

/-- Bits m of a word replaced by those of w. -/
def merge (old m w : Word) : Word := (old &&& ~~~m) ||| (w &&& m)

/-- One field of a write: the bits `mask` of w (R121, R134 to R137). `one` is an alias write. -/
def fldWrite (s : State) (src : Src) (one : Bool) (mask w : Word) (a : WAcc) (f : Fld) : WAcc :=
  let m := fmask f.hi f.lo &&& mask
  if m = 0 then a
  else
    match f.ty with
    | .rw => { a with reg := merge a.reg m w }
    | .cmd => if w &&& m = 0 then a else { a with cmds := (f.lo, bf (w &&& m) f.hi f.lo) :: a.cmds }
    | .cmdlk =>
      if w &&& m = 0 then a
      else if guarded src f then { a with fault := true }
      else if lockCauses s f ≠ 0 then { a with causes := a.causes ||| lockCauses s f }
      else { a with cmds := (f.lo, bf (w &&& m) f.hi f.lo) :: a.cmds }
    | .sq => if one || bf w 31 24 == bf a.reg 31 24 then { a with reg := a.reg &&& ~~~(w &&& m) } else a
    | .sh => { a with stg := merge a.stg m w, took := true }
    | .wo =>
      if merge a.reg m w = a.reg then a
      else if bf a.reg f.hi f.lo = f.reset then { a with reg := merge a.reg m w }
      else { a with causes := a.causes ||| 2048 }
    | .lk =>
      if lockCauses s f = 0 ∧ !guarded src f then { a with reg := merge a.reg m w }
      else if merge a.reg m w = a.reg then a
      else if guarded src f then { a with fault := true }
      else { a with causes := a.causes ||| lockCauses s f }
    | .shlk =>
      if lockCauses s f = 0 ∧ !guarded src f then { a with stg := merge a.stg m w, took := true }
      else if merge a.stg m w = a.stg then a
      else if guarded src f then { a with fault := true }
      else { a with causes := a.causes ||| lockCauses s f }
    | .ro | .seq | .lv | .mk => a

/-- A field is locked at this write (R143). -/
def fldLocked (s : State) (key : Nat) (f : Fld) : Bool :=
  match f.ty with
  | .wo => s.fld key f.hi f.lo != f.reset
  | .lk | .shlk | .cmdlk => lockCauses s f != 0
  | _ => false

/-- Parity of the written copies is computed afresh while no field of the word is locked (R140, R143). An MK register is a way to
write the word it changes, whose parity it is. -/
def parWritten (s : State) (key : Nat) (r : RegRow) (mask : Word) : State :=
  if r.fields.any (fldLocked s key) then s
  else
    let sh := shMask r.fields
    let s1 := if sh &&& mask ≠ 0 then parFresh s key true else s
    if parMask r.fields &&& ~~~sh &&& mask ≠ 0 then parFresh s1 (parKey key) false else s1

/-! ### Writes that a block does not take -/

/-- LTH_CFG, LTH_LIST, LTH_DIG and the fetch registers (R623). -/
def lthGuardKey (k : Nat) : Bool :=
  decide (0xA00000 ≤ k ∧ k < 0xB00000) && [0x04, 0x10, 0x14, 0x1C, 0x20, 0x24].contains ((k - 0xA00000) % 0x40000)

/-- The Lathe is IDLE or TRIPPED. -/
def lthRests (s : State) (n : Nat) : Bool := (lthOf s n).mode == .idle || (lthOf s n).mode == .tripped

/-- A Lathe register that takes no write now (R623). -/
def lthIgnores (s : State) (k : Nat) : Bool :=
  (lthGuardKey k && !lthRests s (lthOfKey k)) ||
    (lthRamKey k && !lthRests s (lthOfKey k) && !bit (s.reg (Ad.LTH_LIST (lthOfKey k))) 31)

/-- Bits of tenant descriptors that take no write (R296, R330, Tables 8-17 and 8-18). (DEDUCED, log 25.) -/
def dscGate (s : State) (k : Nat) (w : Word) : Word :=
  let t := (k - 0x410000) / 0x100
  let o := (k - 0x410000) % 0x100
  let free := s.fld (Ad.DSC_CTRL t) 2 0 == 0
  if o = 0 then (if free then 0 else fmask 19 16)
  else if o = 0x1C ∧ t = 0 then -1
  else if o = 4 ∨ (0x10 ≤ o ∧ o ≤ 0x1C) then (if free then 0 else -1)
  else if 0x20 ≤ o ∧ o < 0x40 then
    if free then -1
    else (if o = 0x20 then 1 else if o = 0x3C then 0x80000000 else 0) |||
      (if s.fld (Ad.DSC_CTRL t) 2 0 = 1 then s.reg k &&& ~~~w else 0)
  else if 0x50 ≤ o ∧ o < 0xB0 then
    let st := slotState s t (if o < 0x80 then 0 else 1)
    if st = 0 ∨ st = 3 then 0 else -1
  else 0

/-- The registers whose writes change nothing while an OTP command runs (R716). -/
def otpKey (k : Nat) : Bool :=
  k == Ad.OTP_CMD || k == Ad.OTP_KEYPOL || decide (Ad.OTP_STAGE 0 ≤ k ∧ k ≤ Ad.OTP_STAGE 15)

/-- Bits of a register that take no write now, the write being answered OK all the same (R122). -/
def writeGate (s : State) (k : Nat) (w : Word) : Word :=
  if 0x410000 ≤ k ∧ k < 0x450000 then dscGate s k w
  else if lthIgnores s k then -1
  else if k = Ad.TMM_CMD then (if s.tmm.cmd.isSome then -1 else 0)
  else if otpKey k then (if s.otp.cmd.isSome then -1 else 0)
  else if Ad.EVC_MASK 0 ≤ k ∧ k ≤ Ad.EVC_MASK 7 then
    w32 (bitsOf 32 (fun b => evcReserved s (32 * ((k - Ad.EVC_MASK 0) / 4) + b)))
  else if Ad.EVC_ROUTE 0 ≤ k ∧ k ≤ Ad.EVC_ROUTE 255 then (if evcReserved s ((k - Ad.EVC_ROUTE 0) / 4) then -1 else 0)
  else
    match inArr k (Ad.ACQ_BUF_CTRL 0) 0x20 9, inArr k (Ad.ACQ_BUF_BASE 0) 0x20 9, inArr k (Ad.ACQ_BUF_SIZE 0) 0x20 9 with
    | some n, _, _ => 1 ||| (if ringEn s n then fmask 25 16 ||| 2 else 0)
    | _, some n, _ => if ringEn s n then -1 else 0
    | _, _, some n => if ringEn s n then fmask 16 0 else 0
    | _, _, _ => if 0xB00000 ≤ k ∧ k < 0xB00200 ∧ [0x04, 0x0C, 0x10, 0x14, 0x24].contains ((k - 0xB00000) % 0x40)
        ∧ cvuEn s ((k - 0xB00000) / 0x40) then -1 else 0

/-- What an ignored write records in its block. -/
def writeIgnored (s : State) (k : Nat) : State :=
  if lthIgnores s k then lthEvt s (lthOfKey k) 4
  else if k = Ad.TMM_CMD ∧ s.tmm.cmd.isSome then tmmEvt s 2
  else if k = Ad.OTP_CMD ∧ s.otp.cmd.isSome then s.setFld Ad.OTP_CMD_STATUS 24 24 1
  else if 0xB00000 ≤ k ∧ k < 0xB00200 ∧ [0x04, 0x0C, 0x10, 0x14, 0x24].contains ((k - 0xB00000) % 0x40)
    ∧ cvuEn s ((k - 0xB00000) / 0x40) then cvuIgn s ((k - 0xB00000) / 0x40)
  else s

/-! ### Commands (R123) -/

/-- A command field written with a nonzero value, by the register and the field's lowest bit. -/
def regCmd (key : Nat) (s : State) (c : Nat × Nat) : State :=
  let lo := c.1
  let v := c.2
  if key = Ad.CP_UPDATE then cpUpdate s v
  else if key = Ad.CP_TBL_CTRL then
    (if lo = 0 then tblCheck s else if lo = 1 then tblArm s else if lo = 2 then tblClear s else if lo = 3 then tblDisarm s else keyCheck s)
  else if key = Ad.CP_UPD_TCTRL then (if lo = 0 then updArm s else updDisarm s)
  else if key = Ad.RCC_BOOT_CTRL then bootRetry s
  else if key = Ad.RCC_CACHE_CMD then (if lo = 0 then dflush s else iinv s)
  else if key = Ad.TBU_ALARM_CTRL then (if lo = 0 then alarmArm s else alarmDisarm s)
  else if key = Ad.EVS_CMD then evsDrop s
  else if key = Ad.EVS_GENESIS then evsGenesis s
  else if key = Ad.ACQ_CTRL then
    (if lo = 1 then cmdRegStart s else if lo = 2 then cmdRegStop s else if lo = 3 then cmdInjStart s else if lo = 8 then cmdIadcStart s
      else cmdIadcStop s)
  else if key = Ad.DAC_CMD then dacRelease s v
  else if key = Ad.DAC_MTP_CMD then dacProg s
  else if key = Ad.PCU_SBUF_CTRL then sbufClear s
  else if key = Ad.FLT_CTRL then (if lo = 0 then escClear s else escForce s)
  else if key = Ad.FLT_RELEASE_0 then fltRelease s 0 v
  else if key = Ad.FLT_RELEASE_1 then fltRelease s 32 v
  else
    match inArr key (Ad.LNK_CMD 0) 0x10000 16, inArr key (Ad.LTH_CTRL 0) 0x40000 4, inArr key (Ad.DRC_CTRL 0) 0x1000 8,
      inArr key (Ad.DRC_SCRUB 0) 0x1000 8, inArr key (Ad.PCU_BW_CFG 0) 0x20 16 with
    | some p, _, _, _, _ => if lo = 0 then cmdRetrain s p else if lo = 1 then cmdDetach s p else cmdForce s p
    | _, some n, _, _, _ => if lo = 0 then lthStart s n else if lo = 1 then lthStop s n else if lo = 2 then cmdAbort s n else lthClear s n
    | _, _, some c, _, _ => drcTrain s c
    | _, _, _, some c, _ => drcAccel s c
    | _, _, _, _, some m => bwClear s m
    | _, _, _, _, _ => s

/-- A register's commands in the order in which they act: an ESC_CLEAR is judged after the raise of the same write (R695). -/
def cmdSeq (key : Nat) (l : List (Nat × Nat)) : List (Nat × Nat) := if key = Ad.FLT_CTRL then l.reverse else l

/-! ### Other consequences -/

/-- What follows a write in its block, besides its commands: s0 before the write, s after it. `w` holds the written bits of
the mask. -/
def regHook (key : Nat) (mask w : Word) (s0 s : State) : State :=
  if key = Ad.CP_VALLEY then (if mask &&& 3 ≠ 0 then targetWrite s (s.fld Ad.CP_VALLEY 1 0) else s)
  else if key = Ad.TMM_CMD then (if s0.tmm.cmd.isSome ∨ mask = 0 then s else tmmCmd s (s.fld key 7 0) (s.fld key 25 16))
  else if key = Ad.TMM_CTRL then (if !bit (s0.reg key) 0 && bit (s.reg key) 0 then tmmEnable s else s)
  else if key = Ad.PAS_CMD then pasCmd s (s.fld key 7 0) (s.fld key 15 8)
  else if key = Ad.EVS_X_CTRL then evsXStart s
  else if key = Ad.OTP_CMD then
    (if s0.otp.cmd.isSome ∨ locked s0 7 then s else otpStart s (s.fld key 7 0) (s.fld key 23 16))
  else if key = Ad.FLT_RAISED_0 then fltCleared s 0 (s0.reg key &&& ~~~s.reg key).toNat
  else if key = Ad.FLT_RAISED_1 then fltCleared s 24 (s0.reg key &&& ~~~s.reg key).toNat
  else if lthRamKey key then
    (if lthIgnores s0 key then s
      else setLth s (lthOfKey key) (fun (l : LthSt) =>
        { l with
          ramErr := l.ramErr.filter (fun e => e.1 != ramIndex key)
          ramSet := if l.ramLoss = 0 ∨ l.ramSet.contains (ramIndex key) then l.ramSet else ramIndex key :: l.ramSet }))
  else
    match inArr key (Ad.EVS_REC_CTRL 0) 0x20 4, inArr key (Ad.ACQ_BUF_CTRL 0) 0x20 9, inArr key (Ad.PCU_CFG 0) 0x10 32,
      inArr key (Ad.PCU_BW_CFG 0) 0x20 16 with
    | some n, _, _, _ => evsRecWritten n s
    | _, some n, _, _ => ringEnable s n (bit w 0)
    | _, _, some _, _ => pcuRelist s
    | _, _, _, some m => if s0.reg key = s.reg key then s else bwDrop s m
    | _, _, _, _ => s

/-! ### Registers with a write of their own -/

/-- A pending bit that a source may change (R662, R663): reserved sources are never set; the record core reaches only sources
with TARGET 1, and sets SW sources besides. -/
def evcMay (s : State) (src : Src) (n : Nat) (set : Bool) : Bool :=
  if set && evcReserved s n then false
  else if src = .cp then true
  else decide (bf (s.reg (Ad.EVC_ROUTE n)) 21 20 = 1) || (set && decide (192 ≤ n ∧ n ≤ 223))

/-- The bits of word k that a source may change. -/
def evcMayMask (s : State) (src : Src) (k : Nat) (set : Bool) : Word := w32 (bitsOf 32 (fun b => evcMay s src (32 * k + b) set))

/-- Pending bits of word k set by software (R662): no SEQ, no mask bit, no message. -/
def evcSoftSet (s : State) (src : Src) (k : Nat) (w : Word) : State :=
  s.setReg (Ad.EVC_PEND k) (s.reg (Ad.EVC_PEND k) ||| (w &&& evcMayMask s src k true))

/-- Pending bits of word k cleared by software. -/
def evcSoftClr (s : State) (src : Src) (k : Nat) (w : Word) : State :=
  s.setReg (Ad.EVC_PEND k) (s.reg (Ad.EVC_PEND k) &&& ~~~(w &&& evcMayMask s src k false))

/-- A write of EVC_PEND_k: the bits of the mask take the written value. -/
def evcPendWrite (s : State) (src : Src) (k : Nat) (mask w : Word) : State :=
  evcSoftSet (evcSoftClr s src k (~~~w &&& mask)) src k (w &&& mask)

/-- A write of EVC_MASK_MK_k_L or _H (R668, Table 18-3). -/
def evcMkWrite (s : State) (src : Src) (k : Nat) (hi : Bool) (w : Word) : State :=
  let sel := if hi then w32 (bf w 31 16 * 65536) else w32 (bf w 31 16)
  let v := if hi then w32 (bf w 15 0 * 65536) else w32 (bf w 15 0)
  let res := w32 (bitsOf 32 (fun b => evcReserved s (32 * k + b)))
  let may := if src = .cp then sel else sel &&& evcMayMask s src k false
  s.setReg (Ad.EVC_MASK k) (merge (s.reg (Ad.EVC_MASK k)) (may &&& ~~~res) v)

/-- A write of ISL_RC_CTRL. -/
def rcCtrlReg (s : State) (w : Word) : State := rcCtrlWrite s (bit w 0) (bit w 1)

/-- The registers whose write is their block's own operation; none for the others. -/
def ownWrite (s : State) (src : Src) (key : Nat) (mask w : Word) : Option State :=
  if key = Ad.ISL_RC_CTRL then some (rcCtrlReg s w)
  else if key = Ad.ACQ_TDAC then some (tdacWrite s w)
  else if 0xC00000 ≤ key ∧ key < 0xC00020 then some (evcPendWrite s src ((key - 0xC00000) / 4) mask w)
  else if 0xC00040 ≤ key ∧ key < 0xC00060 then some (evcSoftClr s src ((key - 0xC00040) / 4) w)
  else if 0xC000A0 ≤ key ∧ key < 0xC000C0 then some (evcSoftSet s src ((key - 0xC000A0) / 4) w)
  else if 0xC00060 ≤ key ∧ key < 0xC000A0 then some (evcMkWrite s src ((key - 0xC00060) / 8) (key % 8 == 4) w)
  else
    match inArr key (Ad.DAC_DATA 0) 4 16, inArr key (Ad.CVU_CTRL 0) 0x40 8, inArr key (Ad.PCU_CNT_LO 0) 0x10 32,
      inArr key (Ad.PCU_CNT_HI 0) 0x10 32 with
    | some n, _, _, _ => some (dacDataWrite s n w)
    | _, some n, _, _ => some (cvuCtrl s n w)
    | _, _, some n, _ => some (pcuCntWrite s n false w)
    | _, _, _, some n => some (pcuCntWrite s n true w)
    | _, _, _, _ =>
      if 0xB00000 ≤ key ∧ key < 0xB00200 then
        let n := (key - 0xB00000) / 0x40
        let o := (key - 0xB00000) % 0x40
        if o = 0x30 then some (cvuWrite s n (toBytesLE 1 w.toNat))
        else if o = 0x34 then some (cvuWrite s n (toBytesLE 2 w.toNat))
        else if o = 0x38 then some (cvuWrite s n (toBytesLE 4 w.toNat))
        else none
      else none

/-- Registers that only the control port writes (R663, R691). -/
def cpOnly (key : Nat) : Bool :=
  [Ad.FLT_CTRL, Ad.FLT_RELEASE_0, Ad.FLT_RELEASE_1, Ad.FLT_CFG, Ad.EVC_IRQ_CFG].contains key ||
    decide (Ad.EVC_ROUTE 0 ≤ key ∧ key ≤ Ad.EVC_ROUTE 255)

/-! ### The write -/

/-- The mask and value of a write: a word, or one bit through its alias (R100). -/
def aliasMask (one : Option Nat) (w : Word) : Word × Word :=
  match one with
  | none => (-1, w)
  | some b => (w32 (2 ^ b), w32 ((w.toNat % 2) * 2 ^ b))

/-- A field that a lock domain or a condition may lock while software writes it (R135). -/
def lkField (f : Fld) : Bool := f.ty == .lk || f.ty == .shlk

/-- What a write does to the fields of a register, the bits of `gate` taking nothing: a locked field is judged by all the bits that
the write reaches (R135), whether the block would have taken them or not; the OTP registers while a command runs change nothing and
are answered OK (R716). -/
def fieldsJudge (s : State) (src : Src) (key : Nat) (r : RegRow) (one : Bool) (gate mask w : Word) : WAcc :=
  let a0 : WAcc := ⟨s.reg key, s.stg key, [], 0, false, false⟩
  let a := r.fields.foldl (fldWrite s src one (mask &&& ~~~gate) w) a0
  if gate = 0 ∨ otpKey key then a
  else
    let j := (r.fields.filter (fun f => lkField f && (lockCauses s f != 0 || guarded src f))).foldl (fldWrite s src one mask w) a0
    { a with causes := a.causes ||| j.causes, fault := a.fault || j.fault }

/-- The fields of a register written, its parity, PEND of its group, and the lock violation if there is one. -/
def fieldsWrite (s : State) (src : Src) (key : Nat) (r : RegRow) (ix : List Nat) (one : Bool) (gate mask w : Word) : State × WAcc :=
  let a := fieldsJudge s src key r one gate mask w
  let s1 := parWritten s key r (mask &&& ~~~gate)
  let s2 := (s1.setReg key a.reg).setStg key a.stg
  let s3 := if a.took then pendSet s2 r.grp (rowIsland r ix) else s2
  (if a.causes = 0 then s3 else lockViol s3 a.causes (srcBit src) key, a)

/-- A PROGRAM of a programmed row: the OTP_CMD write that is answered LOCKED (R707). -/
def otpRowViol (s0 s : State) (key : Nat) : Bool :=
  key == Ad.OTP_CMD && s0.otp.cmd.isNone && !locked s0 7 && s.fld key 7 0 != 0
    && otpJudge (s.setFld Ad.OTP_CMD_STATUS 24 24 0) (s.fld key 7 0) (s.fld key 23 16) == 1

/-- A write of a listed register by a source: the state after it, whether it is answered LOCKED (a lock violation, or R153), and
whether a record core store or debug write takes an access fault. -/
def regWrite (s : State) (src : Src) (key : Nat) (one : Option Nat) (w0 : Word) : State × Bool × Bool :=
  match regAt key with
  | none => (s, false, false)
  | some (r, ix) =>
    let mw := aliasMask one w0
    if src ≠ .cp ∧ cpOnly key then (s, false, true)
    else if 0xF10000 ≤ key ∧ key < 0xF50000 ∧ !tblOpen s then (tblEvt s 4, src == .cp, false)
    else
      match ownWrite s src key mw.1 mw.2 with
      | some s1 => (parWritten s1 key r mw.1, false, false)
      | none =>
        let x := fieldsWrite (writeIgnored s key) src key r ix one.isSome (writeGate s key mw.2) mw.1 mw.2
        let viol := decide (x.2.causes ≠ 0) || otpRowViol s x.1 key
        let s2 := regHook key mw.1 mw.2 s x.1
        ((cmdSeq key x.2.cmds).foldl (regCmd key) s2, viol, src != .cp && (x.2.fault || viol))

end Sys2Proof.Machine
end

