-- ==== Sys2Proof/Machine/RecMem.lean ====
section
/-!
DEFINITION. Machine/RecMem.lean: the record core's accesses (chapter 10): PMP (R400, R401), the address map (Table 10-3), IC space
(R381 to R383), and the store buffer (R387 to R389, R399).
-/
namespace Sys2Proof.Machine

/-! ### PMP -/

/-- The range of a PMP entry in bytes, grain 64 (R400): mode 1 TOR, 3 NAPOT. -/
def pmpRange (s : State) (i : Nat) : Nat × Nat :=
  let a (n : Nat) : Nat := (s.rc.pmpaddr.getD n 0).toNat
  match s.rc.pmpcfg.getD i 0 / 8 % 4 with
  | 1 => (if i = 0 then 0 else a (i - 1) / 16 * 64, a i / 16 * 64)
  | 3 =>
    let v := a i ||| 7
    let ones := (List.range 33).find? (fun b => !v.testBit b)
    let k := (ones.getD 32) + 3
    (v * 4 / 2 ^ k * 2 ^ k, v * 4 / 2 ^ k * 2 ^ k + 2 ^ k)
  | _ => (0, 0)

/-- PMP lets a 64-byte granule be accessed: perm 0 read, 1 write, 2 execute. The lowest-numbered matching entry decides; with
none, machine mode may and user mode may not. -/
def pmpGranule (s : State) (mach : Bool) (g perm : Nat) : Bool :=
  match (List.range 16).find? (fun i => let r := pmpRange s i; decide (r.1 ≤ g * 64 ∧ g * 64 < r.2)) with
  | none => mach
  | some i =>
    let c := s.rc.pmpcfg.getD i 0
    (mach && !c.testBit 7) || c.testBit perm

/-- PMP lets n bytes be accessed. -/
def pmpOk (s : State) (mach : Bool) (a n perm : Nat) : Bool :=
  (List.range ((a + n - 1) / 64 - a / 64 + 1)).all (fun i => pmpGranule s mach (a / 64 + i) perm)

/-- The privilege of loads and stores: that of MPP while MPRV is set in machine mode. -/
def dataMach (s : State) : Bool :=
  if s.rc.mach && bit s.rc.mstatus 17 then bf s.rc.mstatus 12 11 == 3 else s.rc.mach

/-- The kinds of an RC address (Table 10-3). -/
inductive MemKind | rom | tcm | cached | plain | device | ic | none
deriving DecidableEq, Repr

/-- The kind of an RC address. -/
def memKind (s : State) (a : Nat) : MemKind :=
  if a < 0x10000 then .rom
  else if inTcm a then .tcm
  else if inWin a then
    match (rgnOf s a).1 with
    | .cacheable => .cached
    | .plain => .plain
    | .device => .device
  else if inIc a then .ic
  else .none

/-! ### IC space (Table 10-4, R746) -/

/-- The access map lets the record core load. -/
def icLoadOk (k : Nat) : Bool := decide (0x100000 ≤ k ∧ k < 0x1000000) && !decide (Ad.OTP_STAGE 0 ≤ k ∧ k ≤ Ad.OTP_STAGE 15)

/-- The access map lets the record core store. -/
def icStoreOk (k : Nat) : Bool :=
  k == Ad.ISL_RC_CTRL || decide (0x600000 ≤ k ∧ k < 0xE00000) || decide (0xF00000 ≤ k ∧ k < 0x1000000)

/-- How an access of IC space ends: done with a value, an access fault, or a wait for a relocking PLL (R78). -/
inductive IcRes
  | done (s : State) (w : Word)
  | fault (s : State)
  | wait
deriving DecidableEq, Repr

/-- A load of IC offset k. A listed register of a stopped island faults; a reserved address reads 0 (R48, R746). -/
def icLoad (s : State) (k : Nat) : IcRes :=
  if !icLoadOk k then .fault s
  else
    match regHere s k with
    | none => .done s 0
    | some (r, ix) =>
      if !s.running (rowIsland r ix) then .fault s
      else if stalled s (rowIsland r ix) then .wait
      else
        let x := regTake s k r
        let s1 := match readBad s k r with | some st => parReport x.1 k st | none => x.1
        .done s1 x.2

/-- A store to IC offset k from the record core or debug. -/
def icStore (s : State) (src : Src) (k : Nat) (w : Word) : IcRes :=
  if !icStoreOk k then .fault s
  else
    match regHere s k with
    | none => .done s 0
    | some (r, ix) =>
      if !s.running (rowIsland r ix) then .fault s
      else if stalled s (rowIsland r ix) then .wait
      else
        let x := regWrite s src k none w
        if x.2.2 then .fault x.1 else .done x.1 0

/-! ### The store buffer -/

/-- The masked bytes of a buffer entry: address and byte. -/
def sbBytes (e : SbEnt) : List (Nat × Byte) :=
  (List.range 16).filterMap (fun i => if e.mask.getLsbD i then some (e.block * 16 + i, byteOf e.data.toNat i) else none)

/-- The RC address of an entry's first byte. -/
def sbAddr (e : SbEnt) : Nat := ((sbBytes e).head?.map Prod.fst).getD (e.block * 16)

/-- The mask and data of an entry as part of its line. -/
def sbLine (e : SbEnt) : BitVec 64 × Line :=
  (BitVec.ofNat 64 (e.mask.toNat <<< (16 * (e.block % 4))), BitVec.ofNat 512 (e.data.toNat <<< (128 * (e.block % 4))))

/-- An entry leaves the buffer. -/
def sbDrop (s : State) (id : Nat) : State := setRc s (fun c => { c with sb := c.sb.filter (fun e => e.id != id) })

/-- An entry has begun to drain. -/
def sbSent (s : State) (id : Nat) : State :=
  setRc s (fun c => { c with sb := c.sb.map (fun (e : SbEnt) => if e.id = id then { e with sent := true } else e) })

/-- RCC_CTRL.ORDER selects mode S. -/
def modeS (s : State) : Bool := bit (s.reg Ad.RCC_CTRL) 0

/-- A cacheable entry drains into a line held in E or M; the line is fetched or upgraded first. A fill answered Retry or
DataPoison discards the data (R399). -/
def sbDrainCached (s : State) (e : SbEnt) : State :=
  let line := winLine (e.block * 16)
  let go (s : State) : State :=
    match rcLine s line with
    | some l =>
      if l.wb then s
      else if l.st = 2 ∨ l.st = 3 then sbDrop (rcStore s l (sbLine e).1 (sbLine e).2) e.id
      else if s.rc.fills.contains line then s
      else rcAsk (sbSent s e.id) .upgrade line
    | none =>
      if s.rc.fills.contains line then s else pcu 0x4B 0 1 (rcAsk (sbSent s e.id) .readUnique line)
  match rcFillTake s line with
  | some (r, s1) =>
    if r.kind = .retry ∨ r.kind = .dataPoison then sbDrop (buserr s1 1 (sbAddr e)) e.id else go s1
  | none => go s

/-- A non-cacheable entry is complete when the home agent takes its WritePartial into a tracker (R385). -/
def sbDrainPlain (s : State) (e : SbEnt) : State :=
  let who := Ag0Who.rcDev (2 * e.id + 1)
  if !e.sent then
    sbSent (ag0Req s who .writePartial 0 (winLine (e.block * 16)) false (sbLine e).2 (sbLine e).1) e.id
  else if s.ha.wait.any (fun r => r.who == some who) then s
  else sbDrop (setRc s (fun c => { c with ewaOut := c.ewaOut ++ [(2 * e.id + 1, sbAddr e)] })) e.id

/-- One entry tries to drain. -/
def sbDrain (s : State) (e : SbEnt) : State :=
  if e.kind = 0 then sbDrop ((sbBytes e).foldl (fun s b => tcmWrite s b.1 [b.2]) s) e.id
  else if e.kind = 1 then sbDrainCached s e
  else sbDrainPlain s e

/-- Entries drain from the oldest on, until one has to wait. -/
def drainLoop : Nat → State → State
  | 0, s => s
  | n + 1, s =>
    match s.rc.sb with
    | [] => s
    | e :: _ =>
      let s1 := sbDrain s e
      if s1.rc.sb.any (fun x => x.id == e.id) then s1 else drainLoop n s1

/-- The whole buffer drains as far as it can. -/
def drainAll (s : State) : State := drainLoop 8 s

/-- The entry may begin to drain before the older ones (R389). -/
def sbMay (s : State) (e : SbEnt) : Bool :=
  (s.rc.sb.takeWhile (fun o => o.id != e.id)).all (fun o =>
    !modeS s && decide (o.block / 4 ≠ e.block / 4) && !(o.kind == 2 && e.kind == 2))

/-- STORE_BUFFER_DRAIN: entry i drains, if the mode lets it. -/
def sbDrainCmd (s : State) (i : Nat) : State :=
  match s.rc.sb[i]? with
  | none => s
  | some e => if sbMay s e then sbDrain s e else s

/-- A store enters the buffer: merged into an entry that has not begun to drain, or a new entry; none where it is full. -/
def sbPut (s : State) (a n v kind : Nat) (ewa : Bool) : Option State :=
  let o := a % 16
  let m := BitVec.ofNat 16 ((2 ^ n - 1) <<< o)
  let d := BitVec.ofNat 128 ((v % 2 ^ (8 * n)) <<< (8 * o))
  let bits := BitVec.ofNat 128 ((2 ^ (8 * n) - 1) <<< (8 * o))
  let fits (e : SbEnt) : Bool := e.block == a / 16 && !e.sent && e.kind == kind && e.ewa == ewa
  let cand := if modeS s then s.rc.sb.getLast?.filter fits else (s.rc.sb.filter fits).getLast?
  match cand with
  | some e =>
    some (setRc s (fun c => { c with sb := c.sb.map (fun (x : SbEnt) =>
      if x.id = e.id then { x with data := (x.data &&& ~~~bits) ||| d, mask := x.mask ||| m } else x) }))
  | none =>
    if 8 ≤ s.rc.sb.length then none
    else some (setRc s (fun c => { c with
      sb := c.sb ++ [⟨c.sbNo, a / 16, d, m, kind, ewa, false⟩], sbNo := c.sbNo + 1 }))

/-- The youngest buffered byte for an address. -/
def sbByte (s : State) (a : Nat) : Option Byte :=
  s.rc.sb.foldl (fun acc e =>
    if e.block = a / 16 ∧ e.mask.getLsbD (a % 16) then some (byteOf e.data.toNat (a % 16)) else acc) none

/-- What a load of n bytes finds in the buffer (R389). -/
inductive Fwd
  | clear
  | hit (v : Nat)
  | wait
deriving DecidableEq, Repr

/-- The load's overlap with buffered stores. -/
def sbFwd (s : State) (a n : Nat) : Fwd :=
  let l := (List.range n).map (fun i => sbByte s (a + i))
  if l.all Option.isNone then .clear
  else if modeS s ∨ l.any Option.isNone then .wait
  else .hit (ofBytesLE (l.map (fun b => b.getD 0)))

/-- Answers to stores acknowledged early: a Retry sets RCC_BUSERR (R399). -/
def ewaPoll (s : State) : State :=
  s.rc.ewaOut.foldl (fun s x =>
    match ag0Take s (.rcDev x.1) with
    | none => s
    | some (r, s1) =>
      let s2 := setRc s1 (fun c => { c with ewaOut := c.ewaOut.filter (fun y => y.1 != x.1) })
      if r.kind = .retry then buserr s2 0 x.2 else s2) s

/-- Entries that have begun to drain go on. -/
def sbPoll (s : State) : State := (s.rc.sb.filter SbEnt.sent).foldl sbDrain s

end Sys2Proof.Machine
end

