-- ==== Sys2Proof/Machine/RecCore.lean ====
section
/-!
DEFINITION. Machine/RecCore.lean: the record core's instructions (R377 to R379, R385 to R399, R406 to R413): each row is one
instruction at the pc. One that has to wait stays in `cur` and goes on with the machine; the core runs in order.
-/
namespace Sys2Proof.Machine

/-! ### Retirement and traps -/

/-- The core executes firmware: not held in the boot ROM, contained, halted or in WFI. -/
def rcLive (s : State) : Bool :=
  fwRuns s && !s.rc.wfi && !contained s 25 && (!s.rc.halted || s.rc.step1)

/-- The core may begin an instruction. -/
def rcFree (s : State) : Bool := rcLive s && s.rc.cur.isNone

/-- The instruction ends, with the pc at a value. -/
def retireTo (s : State) (pc : Word) : State :=
  let s1 := setRc s (fun c => { c with
    pc := pc, cur := none, dev := none, sbWait := false, step1 := false, instret := if bit c.mcountinhibit 2 then c.instret else (c.instret + 1) % 2 ^ 64 })
  pcu 0x49 0 1 s1

/-- The instruction ends, n bytes long. -/
def retire (s : State) (n : Nat) : State := retireTo s (s.rc.pc + w32 n)

/-- A trap falls due: cause (bit 31 an interrupt), mtval and mepc. The store buffer drains before it is taken (R398). -/
def trapDue (s : State) (cause : Nat) (tval epc : Word) : State :=
  setRc s (fun c => { c with cur := some (.trap cause tval epc), dev := none, sbWait := false })

/-- A trap of the instruction at the pc. -/
def trapHere (s : State) (cause : Nat) (tval : Word) : State := trapDue s cause tval s.rc.pc

/-- Trap entry, steps 3 to 5 of R398: the reservation is lost, mepc, mcause, mtval and mstatus are written, and the handler's
address is BASE, or in vectored mode BASE + 4 c for interrupt cause c (R397). -/
def trapEnter (s : State) (cause : Nat) (tval epc : Word) : State :=
  let s1 := pcu 0x4F 0 1 (loseRsv s)
  setRc s1 (fun c => { c with
    cur := none, dev := none, step1 := false, wfi := false
    mepc := epc &&& ~~~(1 : Word), mcause := w32 cause, mtval := tval
    mstatus := setBf (setBf (setBf c.mstatus 7 7 (bf c.mstatus 3 3)) 3 3 0) 12 11 (if c.mach then 3 else 0)
    mach := true
    pc := (c.mtvec &&& ~~~(127 : Word)) + (if bit c.mtvec 0 ∧ 2 ^ 31 ≤ cause then w32 (4 * (cause - 2 ^ 31)) else 0) })

/-! ### Integer instructions -/

/-- The arithmetic of RV32I. -/
def aluOp (f : AluFn) (a b : Word) : Word :=
  match f with
  | .add => a + b
  | .sub => a - b
  | .sll => a <<< (b.toNat % 32)
  | .slt => if a.toInt < b.toInt then 1 else 0
  | .sltu => if a.toNat < b.toNat then 1 else 0
  | .xor => a ^^^ b
  | .srl => a >>> (b.toNat % 32)
  | .sra => a.sshiftRight (b.toNat % 32)
  | .or => a ||| b
  | .and => a &&& b

/-- The conditions of RV32I branches. -/
def brOp (f : BrFn) (a b : Word) : Bool :=
  match f with
  | .eq => a == b
  | .ne => a != b
  | .lt => decide (a.toInt < b.toInt)
  | .ge => decide (b.toInt ≤ a.toInt)
  | .ltu => decide (a.toNat < b.toNat)
  | .geu => decide (b.toNat ≤ a.toNat)

/-- A signed immediate as a word. -/
def immW (i : Int) : Word := w32 (unsx 32 i)

/-- A squash of CX instructions leaves exactly their issue numbers, consumed; the PCU's counts; and the reads already sent, whose
answers are discarded (R270, R436). An operand in a device region is not read before retirement (R435). (DESIGN CHOICE, log 64.) -/
def cxSquash (s : State) (q : Squash) : State :=
  let no := s.chz.nextNo
  let n := min q.n (4 - s.chz.q.length)
  let s1 := pcu 0x59 0 n (pcu 0x58 0 n { s with chz := { s.chz with nextNo := (no + n) % 65536 } })
  if n = 0 then s1
  else (q.lines.filter (fun l => (rgnOf s (l * 64 + 0x20000000)).1 != .device)).foldl (fun s l =>
    ag0Req s (.chz no l) .readOnce 0 l true 0 0) s1

/-- RV_ALU: `c` marks a compressed form, `miss` a branch or jump that was mispredicted, with the CX instructions that squashed. -/
def rvAlu (s : State) (i : RvAlu) (c : Bool) (miss : Option Squash) : State :=
  if !rcFree s then s
  else
    let n := if c then 2 else 4
    let next := s.rc.pc + w32 n
    let tally (s : State) : State :=
      match miss with
      | some q => cxSquash (pcu 0x4A 0 1 s) q
      | none => s
    let s0 := tagItem false 1 0 s.rc.pc.toNat s
    match i with
    | .lui rd u => retire (setX s0 rd (w32 (u * 4096))) n
    | .auipc rd u => retire (setX s0 rd (s.rc.pc + w32 (u * 4096))) n
    | .jal rd off => retireTo (tally (setX s0 rd next)) (s.rc.pc + immW off)
    | .jalr rd rs1 off => retireTo (tally (setX s0 rd next)) ((rx s rs1 + immW off) &&& ~~~(1 : Word))
    | .branch f rs1 rs2 off => retireTo (tally s0) (if brOp f (rx s rs1) (rx s rs2) then s.rc.pc + immW off else next)
    | .imm f rd rs1 v => retire (setX s0 rd (aluOp f (rx s rs1) (immW v))) n
    | .reg f rd rs1 rs2 => retire (setX s0 rd (aluOp f (rx s rs1) (rx s rs2))) n

/-- The M extension; a division by zero and the signed overflow as the RISC-V specification gives them. -/
def mulOp (f : MulFn) (a b : Word) : Word :=
  match f with
  | .mul => a * b
  | .mulh => w32 (unsx 64 (a.toInt * b.toInt) / 2 ^ 32)
  | .mulhsu => w32 (unsx 64 (a.toInt * b.toNat) / 2 ^ 32)
  | .mulhu => w32 (a.toNat * b.toNat / 2 ^ 32)
  | .div => if b = 0 then -1 else immW (Int.tdiv a.toInt b.toInt)
  | .divu => if b = 0 then -1 else w32 (a.toNat / b.toNat)
  | .rem => if b = 0 then a else immW (Int.tmod a.toInt b.toInt)
  | .remu => if b = 0 then a else w32 (a.toNat % b.toNat)

/-- RV_MUL_DIV. -/
def rvMulDiv (s : State) (f : MulFn) (rd rs1 rs2 : Nat) : State :=
  if !rcFree s then s
  else retire (setX (tagItem false 1 0 s.rc.pc.toNat s) rd (mulOp f (rx s rs1) (rx s rs2))) 4

/-- The 32-bit encodings that R377 implements; a CSR or CX instruction judges its own fields. -/
def rvKnown32 (w : Word) : Bool :=
  let op := bf w 6 0
  let f3 := bf w 14 12
  let f7 := bf w 31 25
  if op = 0x37 ∨ op = 0x17 ∨ op = 0x6F then true
  else if op = 0x67 then f3 == 0
  else if op = 0x63 then f3 != 2 && f3 != 3
  else if op = 0x03 then [0, 1, 2, 4, 5].contains f3
  else if op = 0x23 then decide (f3 ≤ 2)
  else if op = 0x13 then (if f3 = 1 then f7 == 0 else if f3 = 5 then f7 == 0 || f7 == 0x20 else true)
  else if op = 0x33 then decide (f7 ≤ 1) || (f7 == 0x20 && (f3 == 0 || f3 == 5))
  else if op = 0x0F then decide (f3 ≤ 1)
  else if op = 0x73 then
    (if f3 = 0 then w == 0x00000073 || w == 0x00100073 || w == 0x30200073 || w == 0x10500073 else f3 != 4)
  else if op = 0x2F then
    f3 == 2 && ((bf w 31 27 == 2 && bf w 24 20 == 0) || [3, 1, 0, 4, 12, 8, 16, 20, 24, 28].contains (bf w 31 27))
  else if op = 0x0B then [1, 2, 3, 4, 5, 6, 7, 8, 9, 0xA, 0x10, 0x11, 0x12].contains f7
  else if op = 0x2B then [1, 2, 3, 4, 5, 6].contains f7
  else false

/-- The 16-bit encodings of the C extension on RV32 that R377 implements. -/
def rvKnown16 (w : Word) : Bool :=
  let q := bf w 1 0
  let f := bf w 15 13
  let rd := bf w 11 7
  let rs2 := bf w 6 2
  let b12 := bf w 12 12
  if q = 0 then (f == 0 && bf w 12 5 != 0) || f == 2 || f == 6
  else if q = 1 then
    (if f = 3 then b12 != 0 || rs2 != 0
      else if f = 4 then (if bf w 11 10 ≤ 1 then b12 == 0 else if bf w 11 10 = 2 then true else b12 == 0)
      else true)
  else
    (if f = 0 then b12 == 0
      else if f = 2 then rd != 0
      else if f = 4 then b12 == 1 || rs2 != 0 || rd != 0
      else f == 6)

/-- The instruction bits are an encoding that R377 implements. -/
def rvKnown (w : Word) : Bool := if bf w 1 0 = 3 then rvKnown32 w else rvKnown16 (w &&& 0xFFFF)

/-- An instruction begins: it is tagged where it is eligible, and waits in `cur` for the machine's progress. -/
def rvBegin (s : State) (op : RvOp) : State :=
  let flags := match op with
    | .load .. => 4
    | .lr .. => 4
    | .store .. => 8
    | .sc .. => 8
    | .amo .. => 12
    | .cx _ => 32
    | .trap .. => 2
    | _ => 0
  if !rcFree s then s else setRc (tagItem false 1 flags s.rc.pc.toNat s) (fun c => { c with cur := some op, dev := none, sbWait := false })

/-- ILLEGAL_INSTRUCTION: the bits fetched are no encoding of R377. -/
def rvIllegal (s : State) (bits : Word) : State :=
  if rvKnown bits then s else rvBegin s (.trap 2 (if bf bits 1 0 = 3 then bits else bits &&& 0xFFFF) s.rc.pc)

/-- ECALL: cause 8 from user mode, 11 from machine mode. -/
def rvEcall (s : State) : State := rvBegin s (.trap (if s.rc.mach then 11 else 8) 0 s.rc.pc)

/-- EBREAK: cause 3, mtval the pc. -/
def rvEbreak (s : State) : State := rvBegin s (.trap 3 s.rc.pc s.rc.pc)

/-! ### CSRs (R379, R397, Table 10-1) -/

/-- A CSR exists and may be read at the core's privilege. -/
def csrReadable (s : State) (n : Nat) : Bool :=
  let exists_ := [0x300, 0x301, 0x304, 0x305, 0x306, 0x30A, 0x310, 0x31A, 0x320, 0x340, 0x341, 0x342, 0x343, 0x344, 0xF11, 0xF12, 0xF13, 0xF14,
      0xF15, 0xC01, 0xC81].contains n
    || decide (0x323 ≤ n ∧ n ≤ 0x33F) || decide (0x3A0 ≤ n ∧ n ≤ 0x3A3) || decide (0x3B0 ≤ n ∧ n ≤ 0x3BF)
    || (decide (0xB00 ≤ n ∧ n ≤ 0xB1F) && n != 0xB01) || (decide (0xB80 ≤ n ∧ n ≤ 0xB9F) && n != 0xB81)
    || decide (0xC00 ≤ n ∧ n ≤ 0xC1F) || decide (0xC80 ≤ n ∧ n ≤ 0xC9F)
  let user := decide (0xC00 ≤ n ∧ n < 0xD00) && bit s.rc.mcounteren (n % 32)
  exists_ && (s.rc.mach || user)

/-- pmpaddr as it reads with grain 64. -/
def pmpAddrRead (s : State) (i : Nat) : Word :=
  let v := s.rc.pmpaddr.getD i 0
  if (s.rc.pmpcfg.getD i 0).testBit 4 then v ||| 7 else v &&& ~~~(15 : Word)

/-- What a CSR reads as. -/
def csrValue (s : State) (n : Nat) : Word :=
  let c := s.rc
  if n = 0x300 then c.mstatus
  else if n = 0x301 then 0x40901105
  else if n = 0x304 then c.mie
  else if n = 0x305 then c.mtvec
  else if n = 0x306 then c.mcounteren
  else if n = 0x320 then c.mcountinhibit
  else if n = 0x340 then c.mscratch
  else if n = 0x341 then c.mepc
  else if n = 0x342 then c.mcause
  else if n = 0x343 then c.mtval
  else if n = 0x344 then rcMip s
  else if n = 0xF12 then 0x00000D24
  else if n = 0xF13 then 0x00000100
  else if 0x3A0 ≤ n ∧ n ≤ 0x3A3 then w32 ((List.range 4).foldl (fun v i => v + c.pmpcfg.getD (4 * (n - 0x3A0) + i) 0 * 2 ^ (8 * i)) 0)
  else if 0x3B0 ≤ n ∧ n ≤ 0x3BF then pmpAddrRead s (n - 0x3B0)
  else if n = 0xB00 ∨ n = 0xC00 then w32 c.cycle
  else if n = 0xB80 ∨ n = 0xC80 then w32 (c.cycle / 2 ^ 32)
  else if n = 0xB02 ∨ n = 0xC02 then w32 c.instret
  else if n = 0xB82 ∨ n = 0xC82 then w32 (c.instret / 2 ^ 32)
  else if n = 0xC01 then w32 c.timeCap
  else if n = 0xC81 then w32 (c.timeCap / 2 ^ 32)
  else 0

/-- A read of time captures a value that legal time has held, at most 25 ns behind it, and never less than an earlier capture
(R379); which of those the spec leaves open. (DESIGN CHOICE, log 14.) -/
def csrCapture (s : State) (n : Nat) : State :=
  if n = 0xC01 then
    let may := (s.now :: s.tb.held).filter (fun v => decide (s.rc.timeCap ≤ v ∧ v ≤ s.now ∧ s.now ≤ v + 25))
    setRc s.fresh (fun c => { c with timeCap := may.getD (Config.freeNat s.free % max 1 may.length) s.now })
  else s

/-- A pmpcfg byte as a write leaves it (R400): a locked entry keeps its byte; NA4 is taken as OFF; bits 6 and 5 are zero; the
reserved combination of W without R is taken as neither. -/
def pmpCfgByte (old v : Nat) : Nat :=
  if old.testBit 7 then old
  else
    let v1 := v % 256 &&& 0x9F
    let v2 := if v1 / 8 % 4 = 2 then v1 - 16 else v1
    if v2.testBit 1 ∧ !v2.testBit 0 then v2 - 2 else v2

/-- pmpaddr i takes no write. -/
def pmpAddrLocked (s : State) (i : Nat) : Bool :=
  (s.rc.pmpcfg.getD i 0).testBit 7 || ((s.rc.pmpcfg.getD (i + 1) 0).testBit 7 && decide (s.rc.pmpcfg.getD (i + 1) 0 / 8 % 4 = 1))

/-- mstatus as a write leaves it: MIE, MPIE, MPP (machine or user), MPRV and TW. -/
def mstatusWrite (old w : Word) : Word :=
  let v := w &&& 0x00220088
  let mpp := bf w 12 11
  setBf v 12 11 (if mpp = 3 then 3 else if mpp = 0 then 0 else bf old 12 11)

/-- A CSR written. -/
def csrWrite (s : State) (n : Nat) (w : Word) : State :=
  if n = 0x300 then setRc s (fun c => { c with mstatus := mstatusWrite c.mstatus w })
  else if n = 0x304 then setRc s (fun c => { c with mie := w &&& 0x00010888 })
  else if n = 0x305 then setRc s (fun c => { c with mtvec := w &&& 0xFFFFFF81 })
  else if n = 0x306 then setRc s (fun c => { c with mcounteren := w &&& 7 })
  else if n = 0x320 then setRc s (fun c => { c with mcountinhibit := w &&& 5 })
  else if n = 0x340 then setRc s (fun c => { c with mscratch := w })
  else if n = 0x341 then setRc s (fun c => { c with mepc := w &&& ~~~(1 : Word) })
  else if n = 0x342 then setRc s (fun c => { c with mcause := w })
  else if n = 0x343 then setRc s (fun c => { c with mtval := w })
  else if 0x3A0 ≤ n ∧ n ≤ 0x3A3 then
    setRc s (fun c => { c with pmpcfg := c.pmpcfg.mapIdx (fun i b =>
      if i / 4 = n - 0x3A0 then pmpCfgByte b (w.toNat >>> (8 * (i % 4))) else b) })
  else if 0x3B0 ≤ n ∧ n ≤ 0x3BF then
    if pmpAddrLocked s (n - 0x3B0) then s else setRc s (fun c => { c with pmpaddr := upd c.pmpaddr (n - 0x3B0) (fun _ => w) })
  else if n = 0xB00 then setRc s (fun c => { c with cycle := c.cycle / 2 ^ 32 * 2 ^ 32 + w.toNat })
  else if n = 0xB80 then setRc s (fun c => { c with cycle := w.toNat * 2 ^ 32 + c.cycle % 2 ^ 32 })
  else if n = 0xB02 then setRc s (fun c => { c with instret := c.instret / 2 ^ 32 * 2 ^ 32 + w.toNat })
  else if n = 0xB82 then setRc s (fun c => { c with instret := w.toNat * 2 ^ 32 + c.instret % 2 ^ 32 })
  else s

/-- CSR_ACCESS: CSRRW, CSRRS, CSRRC, with a register or an immediate `src`. A CSR that does not exist, is not open to the mode,
or is read-only and written, raises illegal-instruction. A write of minstret stands over the instruction's own count. -/
def rvCsr (s : State) (f : CsrFn) (imm : Bool) (n rd src : Nat) : State :=
  if !rcFree s then s
  else
    let f3 := (match f with | .rw => 1 | .rs => 2 | .rc => 3) + (if imm then 4 else 0)
    let bits := w32 (n % 4096 * 2 ^ 20 + src % 32 * 2 ^ 15 + f3 * 2 ^ 12 + rd % 32 * 2 ^ 7 + 0x73)
    let writes := f == .rw || src % 32 != 0
    if !csrReadable s n || (writes && decide (3072 ≤ n)) then rvBegin s (.trap 2 bits s.rc.pc)
    else
      let s1 := csrCapture (tagItem false 1 0 s.rc.pc.toNat s) n
      let old := csrValue s1 n
      let v := if imm then w32 (src % 32) else rx s src
      let s2 := retire s1 4
      let s3 := if writes then csrWrite s2 n (match f with | .rw => v | .rs => old ||| v | .rc => old &&& ~~~v) else s2
      setX s3 rd old

/-! ### Loads, stores, atomics -/

/-- A loaded value, extended. -/
def loadExt (w : Nat) (signed : Bool) (v : Nat) : Word :=
  if signed then immW (sext (8 * w) v) else w32 (v % 2 ^ (8 * w))

/-- TCM read with what its check finds (R413): none for an uncorrectable word. -/
def tcmCheck (s : State) (a n ecc : Nat) : State × Bool :=
  match tcmBad s a n with
  | some w => (tcmUe s w a, false)
  | none =>
    if ecc = 1 then (s.inc Ad.RCC_TCM_CE_COUNT, true)
    else if ecc = 2 then (tcmUe s (a / 4 * 4) a, false)
    else (s, true)

/-- A poisoned answer or line: BUSERR.POISON and the access fault (R412). -/
def poisonFault (s : State) (cause a : Nat) : State := trapHere (buserr s 2 a) cause (w32 a)

/-- A fabric access of the current instruction goes out: ReadOnce or WritePartial, never twice for one instruction (R391). -/
def devSend (s : State) (k : ReqKind) (a : Nat) (peek ewa : Bool) (d : Line) (m : BitVec 64) : State :=
  let id := 2 * s.rc.devNo
  setRc (ag0Req s (.rcDev id) k 0 (winLine a) peek d m) (fun c => { c with dev := some id, devNo := c.devNo + 1, devEwa := ewa })

/-- A cacheable line read by the core: what it holds, a fault of a cause, or a wait. -/
inductive LineRes
  | have_ (l : RcLine) (s : State)
  | stop (s : State)
deriving DecidableEq, Repr

/-- A cacheable line for a load or fetch (own false), or in E or M for an atomic (own true). A miss asks for it, and is the PCU
event `ev`; `ret` says that its fill's return may be taken now. -/
def lineFor (s : State) (a cause ev : Nat) (own ret : Bool) : LineRes :=
  let line := winLine a
  let ask (s : State) : State :=
    match rcLine s line with
    | some l => if l.wb ∨ s.rc.fills.contains line then s else rcAsk s .upgrade line
    | none => if s.rc.fills.contains line then s else pcu ev 0 1 (rcAsk s (if own then .readUnique else .readShared) line)
  let look (s : State) : LineRes :=
    match rcLine s line with
    | some l =>
      if l.poison.isSome ∧ !l.wb then .stop (poisonFault s cause a)
      else if l.wb ∨ (own ∧ l.st ≠ 2 ∧ l.st ≠ 3) then .stop (ask s)
      else .have_ l s
    | none => .stop (ask s)
  if s.rc.fills.contains line then
    if !ret then .stop s
    else
      match rcFillTake s line with
      | none => .stop s
      | some (r, s1) =>
        if r.kind = .retry then .stop (trapHere s1 cause (w32 a))
        else if r.kind = .dataPoison then .stop (poisonFault s1 cause a)
        else look s1
  else look s

/-- The window access waits for a flush, or may go on (R411). -/
def winWaits (s : State) : Bool := s.rc.flushing

/-- A load's overlap with the buffer; in mode S it waits, from an overlap on, until the whole buffer has drained (R389). -/
def loadFwd (s : State) (a n : Nat) : Fwd := if s.rc.sbWait ∧ !s.rc.sb.isEmpty then .wait else sbFwd s a n

/-- A load waits for the buffer. -/
def loadWait (s : State) : State := drainAll (setRc s (fun c => { c with sbWait := modeS s }))

/-- The answer to the fabric access of a load: never abandoned, whatever has become of its region since (R391). -/
def loadAnswer (s : State) (id a : Nat) (fin : State → Nat → State) (w : Nat) : State :=
  match ag0Take s (.rcDev id) with
  | none => s
  | some (r, s1) =>
    match r.kind with
    | .data => fin s1 (lineNum r.line (a % 64) w)
    | .dataPoison => poisonFault s1 5 a
    | _ => trapHere s1 5 (w32 a)

/-- RV_LOAD. -/
def tryLoad (s : State) (w : Nat) (signed : Bool) (rd rs1 : Nat) (imm : Int) (c : Bool) (ecc : Nat) (ret : Bool) : State :=
  let a := (rx s rs1 + immW imm).toNat
  let fin (s : State) (v : Nat) : State := retire (setX s rd (loadExt w signed v)) (if c then 2 else 4)
  let k := memKind s a
  if let some id := s.rc.dev then loadAnswer s id a fin w
  else if !pmpOk s (dataMach s) a w 0 then trapHere s 5 (w32 a)
  else
    match k with
    | .none | .rom => trapHere s 5 (w32 a)
    | .ic =>
      if w ≠ 4 ∨ a % 4 ≠ 0 then trapHere s 5 (w32 a)
      else
        let s1 := drainAll s
        if !s1.rc.sb.isEmpty then s1
        else
          match icLoad s1 (a - 0xC0000000) with
          | .done s2 v => fin s2 v.toNat
          | .fault s2 => trapHere s2 5 (w32 a)
          | .wait => s1
    | .tcm =>
      if a % w ≠ 0 then trapHere s 4 (w32 a)
      else
        match loadFwd s a w with
        | .hit v => fin s v
        | .wait => loadWait s
        | .clear =>
          match tcmCheck s a w ecc with
          | (s1, true) => fin s1 (ofBytesLE (tcmRead s1 a w))
          | (s1, false) => trapHere s1 5 (w32 a)
    | .cached | .plain | .device =>
      if winOff s then trapHere s 5 (w32 a)
      else if a % w ≠ 0 then trapHere s 4 (w32 a)
      else if winWaits s then s
      else
        match (if k = .device then (if s.rc.sb.isEmpty then Fwd.clear else .wait) else loadFwd s a w) with
        | .hit v => fin s v
        | .wait => loadWait s
        | .clear =>
          if k = .cached then
            match lineFor s a 5 0x4B false ret with
            | .have_ l s1 => fin s1 (lineNum l.data (a % 64) w)
            | .stop s1 => s1
          else devSend s .readOnce a (k != .device) false 0 0

/-- The answer to the fabric access of a store (R385, R391). -/
def storeAnswer (s : State) (id a n : Nat) : State :=
  if s.rc.devEwa ∧ !s.ha.wait.any (fun r => r.who == some (.rcDev id)) then
    retire (setRc s (fun c => { c with ewaOut := c.ewaOut ++ [(id, a)] })) n
  else
    match ag0Take s (.rcDev id) with
    | none => s
    | some (r, s1) => if r.kind = .retry then trapHere s1 7 (w32 a) else retire s1 n

/-- RV_STORE. A non-cacheable store without EWA, and every device store, retires on its Ack (R385); a store with EWA is complete
once it has been taken. -/
def tryStore (s : State) (w rs1 rs2 : Nat) (imm : Int) (c : Bool) : State :=
  let a := (rx s rs1 + immW imm).toNat
  let v := (rx s rs2).toNat
  let n := if c then 2 else 4
  let k := memKind s a
  let put (s : State) (kind : Nat) (ewa : Bool) : State :=
    match sbPut s a w v kind ewa with
    | some s1 => retire s1 n
    | none =>
      let s1 := drainAll s
      (match sbPut s1 a w v kind ewa with | some s2 => retire s2 n | none => s1)
  let send (s : State) (ewa : Bool) : State :=
    let p := linePlace a w (v % 2 ^ (8 * w))
    devSend s .writePartial a false ewa p.2 p.1
  if let some id := s.rc.dev then storeAnswer s id a n
  else if !pmpOk s (dataMach s) a w 1 then trapHere s 7 (w32 a)
  else
    match k with
    | .none | .rom => trapHere s 7 (w32 a)
    | .ic =>
      if w ≠ 4 ∨ a % 4 ≠ 0 then trapHere s 7 (w32 a)
      else
        let s1 := drainAll s
        if !s1.rc.sb.isEmpty then s1
        else
          match icStore s1 .rc (a - 0xC0000000) (w32 v) with
          | .done s2 _ => retire s2 n
          | .fault s2 => trapHere s2 7 (w32 a)
          | .wait => s1
    | .tcm => if a % w ≠ 0 then trapHere s 6 (w32 a) else put s 0 false
    | .cached | .plain | .device =>
      let ewa := (rgnOf s a).2.1
      if winOff s then trapHere s 7 (w32 a)
      else if a % w ≠ 0 then trapHere s 6 (w32 a)
      else if winWaits s then s
      else if k = .cached then put s 1 false
      else if k = .plain ∧ ewa then put s 2 true
      else
        let s1 := drainAll s
        if s1.rc.sb.isEmpty then send s1 ewa else s1

/-- The granule that holds an address (R394). -/
def granule (s : State) (a : Nat) : RcResv :=
  if inTcm a then ⟨true, a / 64 * 64, 64⟩
  else
    let g := (rgnOf s a).2.2
    ⟨false, (a - 0x20000000) / g * g, g⟩

/-- LR, SC and AMO reach only TCM and cacheable regions, aligned, through PMP (R393). 0 where they may, else the cause. -/
def atomCheck (s : State) (a : Nat) (load write : Bool) : Nat :=
  let fault := if load then 5 else 7
  let k := memKind s a
  if a % 4 ≠ 0 then (if load then 4 else 6)
  else if !pmpOk s (dataMach s) a 4 (if load then 0 else 1) ∨ (write ∧ !pmpOk s (dataMach s) a 4 0) then fault
  else if k = .tcm then 0
  else if k = .cached ∧ !winOff s then 0
  else fault

/-- The word an atomic works on, read from TCM or from a line held in E or M, and what to do with it. -/
def atomWord (s : State) (a cause ecc : Nat) (f : State → Word → State) : State :=
  if inTcm a then
    match tcmCheck s a 4 ecc with
    | (s1, true) => f s1 (w32 (ofBytesLE (tcmRead s1 a 4)))
    | (s1, false) => trapHere s1 cause (w32 a)
  else if winWaits s then s
  else
    match lineFor s a cause 0x4B true true with
    | .have_ l s1 => f s1 (w32 (lineNum l.data (a % 64) 4))
    | .stop s1 => s1

/-- A word an atomic writes. -/
def atomPut (s : State) (a : Nat) (v : Word) : State :=
  if inTcm a then tcmWrite s a (toBytesLE 4 v.toNat)
  else
    match rcLine s (winLine a) with
    | some l => let p := linePlace a 4 v.toNat; rcStore s l p.1 p.2
    | none => s

/-- LR: the snoops that an earlier one delayed are answered; then it loads, and reserves its granule. -/
def tryLr (s : State) (rd rs1 ecc : Nat) : State :=
  let a := (rx s rs1).toNat
  let c := atomCheck s a true false
  if c ≠ 0 then trapHere s c (w32 a)
  else
    let s1 := drainAll s
    if !s1.rc.sb.isEmpty then s1
    else
      atomWord (releaseHold s1) a 5 ecc (fun s v =>
        retire (setX (setRc s (fun c => { c with resv := some (granule s a), lrHold := some (granule s a) })) rd v) 4)

/-- SC: stores if the reservation holds, and loses it either way; it may fail spuriously. -/
def trySc (s : State) (rd rs1 rs2 : Nat) (spurious : Bool) : State :=
  let a := (rx s rs1).toNat
  let c := atomCheck s a false false
  let fail (s : State) : State := pcu 0x50 0 1 (retire (setX (releaseHold (loseRsv s)) rd 1) 4)
  if c ≠ 0 then trapHere s c (w32 a)
  else
    let s1 := drainAll s
    if !s1.rc.sb.isEmpty then s1
    else if spurious ∨ s1.rc.resv ≠ some (granule s1 a) then fail s1
    else
      let go (s : State) : State := retire (setX (releaseHold (loseRsv (atomPut s a (rx s rs2)))) rd 0) 4
      if inTcm a then go s1
      else if winWaits s1 then s1
      else
        match lineFor s1 a 7 0x4B true true with
        | .have_ _ s2 => if s2.rc.resv = some (granule s2 a) then go s2 else fail s2
        | .stop s2 => s2

/-- The AMOs. -/
def amoOp (f : AmoFn) (m b : Word) : Word :=
  match f with
  | .swap => b
  | .add => m + b
  | .xor => m ^^^ b
  | .and => m &&& b
  | .or => m ||| b
  | .min => if b.toInt < m.toInt then b else m
  | .max => if m.toInt < b.toInt then b else m
  | .minu => if b.toNat < m.toNat then b else m
  | .maxu => if m.toNat < b.toNat then b else m

/-- AMO. -/
def tryAmo (s : State) (f : AmoFn) (rd rs1 rs2 ecc : Nat) : State :=
  let a := (rx s rs1).toNat
  let b := rx s rs2
  let c := atomCheck s a false true
  if c ≠ 0 then trapHere s c (w32 a)
  else
    let s1 := drainAll s
    if !s1.rc.sb.isEmpty then s1
    else atomWord s1 a 7 ecc (fun s v => retire (setX (atomPut s a (amoOp f v b)) rd v) 4)

/-! ### Fences, MRET, WFI, fetch -/

/-- The pc and mode after MRET (R394: the reservation is lost). -/
def mretDo (s : State) : State :=
  let s1 := loseRsv s
  let m := s.rc.mstatus
  let mpp := bf m 12 11
  let m1 := setBf (setBf (setBf m 3 3 (bf m 7 7)) 7 7 1) 12 11 0
  let m2 := if mpp = 3 then m1 else setBf m1 17 17 0
  retireTo (setRc s1 (fun c => { c with mstatus := m2, mach := mpp == 3 })) s.rc.mepc

/-- WFI: the core rests unless an enabled interrupt is pending. -/
def wfiDo (s : State) : State :=
  let s1 := retire s 4
  if rcIrqDue s1 then s1 else setRc s1 (fun c => { c with wfi := true })

/-- The fetch of one half-word (R380, R412, R413), and whether it has been fetched: a refused one raises an instruction access
fault; one that is allowed brings its line into the I-cache, a miss of which is counted once (Table 17-3). -/
def fetchHalf (s : State) (a ecc : Nat) : State × Bool :=
  let no (s : State) : State × Bool := (trapHere s 1 (w32 a), false)
  if !pmpOk s s.rc.mach a 2 2 then no s
  else
    match memKind s a with
    | .tcm =>
      match tcmCheck s a 2 ecc with
      | (s1, true) => (s1, true)
      | (s1, false) => no s1
    | .cached =>
      if winOff s then no s
      else if s.rc.ic.contains (winLine a) then (s, true)
      else
        match lineFor s a 1 0x4C false true with
        | .have_ _ s1 =>
          (pcu 0x4C 0 (b2n (!s.rc.fills.contains (winLine a))) (setRc s1 (fun c => { c with ic := c.ic ++ [winLine a] })), true)
        | .stop s1 => (s1, false)
    | _ => no s

/-- The fetch of the instruction at the pc, of one half-word or (`wide`) two; one that is allowed raises nothing. An error operand
is for the first half-word. (DESIGN CHOICE, log 63.) -/
def tryFetch (s : State) (wide : Bool) (ecc : Nat) : State :=
  let ok (s : State) : State := setRc s (fun c => { c with cur := none, dev := none })
  let a := s.rc.pc.toNat
  match fetchHalf s a ecc with
  | (s1, false) => s1
  | (s1, true) =>
    if !wide then ok s1
    else
      match fetchHalf s1 ((a + 2) % 2 ^ 32) 0 with
      | (s2, true) => ok s2
      | (s2, false) => s2

/-! ### Interrupts -/

/-- The interrupt to be taken first: BUSERR, MEI, MSI, MTI (R396). -/
def irqFirst (s : State) : Option Nat := [16, 11, 3, 7].find? (fun b => bit (rcMip s &&& s.rc.mie) b)

/-- Interrupts are enabled at the core's privilege. -/
def irqOn (s : State) : Bool := !s.rc.mach || bit s.rc.mstatus 3

/-- The instruction in progress gives way to an interrupt: a CX instruction that has not issued (R437, R440). -/
def curYields (s : State) : Bool := match s.rc.cur with | none => true | some (.cx _) => true | _ => false

/-- INTERRUPT_TAKEN at an instruction boundary, with mepc at the instruction that has not retired. The CX instructions `sq` had
issued behind it and are squashed (R436, R437). -/
def rvInterrupt (s : State) (sq : Squash) : State :=
  match irqFirst s with
  | none => s
  | some b =>
    if !fwRuns s ∨ contained s 25 ∨ s.rc.halted ∨ !irqOn s ∨ !curYields s then s
    else
      trapDue (setRc (cxSquash s sq) (fun c => { c with wfi := false })) (2 ^ 31 + b) 0 s.rc.pc

end Sys2Proof.Machine
end

