-- ==== Sys2Proof/Machine/RecCx.lean ====
section
/-!
DEFINITION. Machine/RecCx.lean: the CX instructions as the record core issues them (R424 to R429, R440, R441, R444), and the
progress of the instruction in progress.
-/
namespace Sys2Proof.Machine

/-! ### Legality (R424, Table 11-5) -/

/-- funct7 of a CX instruction (Table 11-2). -/
def cxFunct7 : CxName → Nat
  | .hinit => 1 | .hupd => 2 | .hfin => 3 | .ginit => 4 | .gaad => 5 | .gupd => 6 | .gout => 7 | .gfin => 8 | .verify => 9 | .kdf => 0xA
  | .wait => 0x10 | .poll => 0x11 | .crd => 0x12
  | .sign => 1 | .kset => 2 | .kclr => 3 | .cinc => 4 | .carve => 5 | .abort => 6

/-- The instruction lies in custom-1. -/
def cxCustom1 : CxName → Bool
  | .sign => true | .kset => true | .kclr => true | .cinc => true | .carve => true | .abort => true
  | _ => false

/-- The number of contexts that funct3 may name: four H, two G, or none. -/
def cxContexts : CxName → Nat
  | .hinit => 4 | .hupd => 4 | .hfin => 4 | .verify => 4 | .sign => 4
  | .ginit => 2 | .gaad => 2 | .gupd => 2 | .gout => 2 | .gfin => 2
  | _ => 1

/-- The instruction bits. -/
def cxBits (i : CxIn) : Word :=
  w32 (cxFunct7 i.name * 2 ^ 25 + i.rs2 % 32 * 2 ^ 20 + i.rs1 % 32 * 2 ^ 15 + i.f3 % 8 * 2 ^ 12 + i.rd % 32 * 2 ^ 7
    + (if cxCustom1 i.name then 0x2B else 0x0B))

/-- The operand values lie in the fields Table 11-2 names: a the value of rs1, b that of rs2. -/
def cxFields (n : CxName) (a b : Word) : Bool :=
  match n with
  | .hupd | .gaad => decide (b.toNat ≤ 65535)
  | .gupd => decide (1 ≤ b.toNat ∧ b.toNat ≤ 256)
  | .ginit => b &&& ~~~(0x10F : Word) == 0
  | .verify => true
  | .kdf | .kset => b &&& ~~~(0x1F0F0F : Word) == 0 && decide (8 ≤ bf b 11 8)
  | .sign => decide (b.toNat ≤ 15)
  | .kclr => b == 0 && decide (8 ≤ bf a 3 0)
  | .carve =>
    a &&& ~~~(0x80FF003F : Word) == 0 && (if bit a 31 then decide (bf a 5 0 = 0) else decide (bf a 23 16 = 0) && b == 0)
  | _ => b == 0

/-- The instruction is legal at the core's privilege. (DEDUCED, log 33.) -/
def cxLegal (s : State) (i : CxIn) (a b : Word) : Bool :=
  (s.rc.mach || (!cxCustom1 i.name && bit (s.reg Ad.CHZ_CTRL) 0)) && decide (i.f3 < cxContexts i.name) && cxFields i.name a b

/-! ### Operands (R425) -/

/-- The algorithm a hash context will have, with what is queued for it. -/
def cxAlg (s : State) (c : Nat) : Nat :=
  s.chz.q.foldl (fun n e => match e.op with | .hinit d alg => if d = c then alg else n | _ => n) (hctx s c).alg

/-- The direction a GCM context will have. -/
def cxDec (s : State) (c : Nat) : Bool :=
  s.chz.q.foldl (fun n e => match e.op with | .ginit d _ _ dec => if d = c then dec else n | _ => n) (gctx s c).dec

/-- The bytes a GCM context's output buffer will hold. -/
def cxOut (s : State) (c : Nat) : Nat :=
  s.chz.q.foldl (fun n e => match e.op with
    | .ginit d .. => if d = c then 0 else n
    | .gupd d _ len => if d = c then len else n
    | _ => n) (gctx s c).out.length

/-- A memory operand: address, length, written, and TCM only. -/
structure CxMem where
  a : Nat
  n : Nat
  w : Bool
  tcm : Bool
deriving DecidableEq, Repr

/-- The memory operands of an instruction. -/
def cxMems (s : State) (i : CxIn) (a b : Nat) : List CxMem :=
  let l : List CxMem := match i.name with
    | .hupd => [⟨a, b, false, false⟩]
    | .gaad => [⟨a, b, false, false⟩]
    | .gupd => [⟨a, b, false, false⟩]
    | .hfin => if a = 0 then [] else [⟨a, if cxAlg s i.f3 = 1 then 48 else 32, true, false⟩]
    | .ginit => [⟨a, 12, false, false⟩]
    | .gout => [⟨a, cxOut s i.f3, true, false⟩]
    | .gfin => [⟨a, 16, !cxDec s i.f3, false⟩]
    | .verify => [⟨a, 64, false, false⟩, ⟨b, 64, false, false⟩]
    | .kdf => [⟨a, 32, false, false⟩]
    | .sign => [⟨a, 64, true, false⟩]
    | .kset => [⟨a, 32, false, true⟩]
    | .carve => if 2 ^ 31 ≤ a then [⟨b, 128, false, true⟩] else []
    | _ => []
  l.filter (fun m => m.n != 0)

/-- The cause that an operand's check raises; 0 where it passes. -/
def cxMemCheck (s : State) (m : CxMem) : Nat :=
  let e := m.a + m.n - 1
  if m.a % 4 ≠ 0 then (if m.w then 6 else 4)
  else if pmpOk s s.rc.mach m.a m.n (if m.w then 1 else 0)
      && ((inTcm m.a && inTcm e) || (!m.tcm && inWin m.a && inWin e && !winOff s)) then 0
  else if m.w then 7 else 5

/-- The queued operation of an instruction; none for an immediate one. (DEDUCED, log 33.) -/
def cxOpOf (i : CxIn) (a b : Word) : Option CxOp :=
  match i.name with
  | .hinit => some (.hinit i.f3 (bf a 0 0))
  | .hupd => some (.hupd i.f3 a.toNat b.toNat)
  | .hfin => some (.hfin i.f3 a.toNat)
  | .ginit => some (.ginit i.f3 a.toNat (bf b 3 0) (bit b 8))
  | .gaad => some (.gaad i.f3 a.toNat b.toNat)
  | .gupd => some (.gupd i.f3 a.toNat b.toNat)
  | .gout => some (.gout i.f3 a.toNat)
  | .gfin => some (.gfin i.f3 a.toNat)
  | .verify => some (.verify i.f3 a.toNat b.toNat)
  | .kdf => some (.kdf a.toNat (bf b 3 0) (bf b 11 8) (bf b 20 16))
  | .sign => some (.sign i.f3 a.toNat (bf b 3 0))
  | .kset => some (.kset a.toNat (bf b 3 0) (bf b 11 8) (bf b 20 16))
  | .kclr => some (.kclr (bf a 3 0))
  | .cinc => some .cinc
  | .carve => some (.carve (bit a 31) (bf a 23 16) (bf a 5 0) b.toNat)
  | .wait => none
  | .poll => none
  | .crd => none
  | .abort => none

/-- A queued instruction takes an entry and writes its ticket to rd (R427). -/
def cxQueue (s : State) (rd : Nat) (op : CxOp) : State :=
  let no := s.chz.nextNo
  let s1 := setChz s (fun z => { z with q := z.q ++ [⟨no, op, 0, [], [], 0⟩], nextNo := (no + 1) % 65536 })
  retire (setX (pcu 0x58 0 1 s1) rd (w32 (2 ^ 31 + no))) 4

/-- An immediate instruction: CX.WAIT stalls while its ticket is pending (R429, R440). -/
def cxNow (s : State) (i : CxIn) (a : Word) : State :=
  match i.name with
  | .wait => if cxStatus s a = 1 then s else retire (setX s i.rd (w32 (cxStatus s a))) 4
  | .poll => retire (setX s i.rd (w32 (cxStatus s a))) 4
  | .crd => retire (setX s i.rd (w32 s.otp.ctr)) 4
  | .abort => let x := cxAbort s a; retire (setX x.1 i.rd (w32 x.2)) 4
  | _ => s

/-- A CX instruction at issue. -/
def tryCx (s0 : State) (i : CxIn) : State :=
  let s := startIsl s0 30
  let a := rx s i.rs1
  let b := rx s i.rs2
  if !cxLegal s i a b then trapHere s 2 (cxBits i)
  else
    match cxOpOf i a b with
    | none => cxNow s i a
    | some op =>
      match (cxMems s i a.toNat b.toNat).find? (fun m => cxMemCheck s m != 0) with
      | some m => trapHere s (cxMemCheck s m) (w32 m.a)
      | none =>
        let s1 := if (cxMems s i a.toNat b.toNat).any (fun m => !m.w) then drainAll s else s
        if (cxMems s i a.toNat b.toNat).any (fun m => !m.w) ∧ !s1.rc.sb.isEmpty then s1
        else if 4 ≤ s1.chz.q.length then s1
        else cxQueue s1 i.rd op

/-! ### Progress -/

/-- An instruction that only needs the buffer drained. -/
def drainedThen (s : State) (f : State → State) : State :=
  let s1 := drainAll s
  if s1.rc.sb.isEmpty then f s1 else s1

/-- The instruction in progress tries to go on; `ret`: a load miss's fill returns (LOAD_FILL_RETURN). -/
def rcTry (ret : Bool) (s : State) : State :=
  match s.rc.cur with
  | none => s
  | some op =>
    match op with
    | .load w sg rd rs1 imm c ecc => tryLoad s w sg rd rs1 imm c ecc ret
    | .store w rs1 rs2 imm c => tryStore s w rs1 rs2 imm c
    | .lr rd rs1 ecc => tryLr s rd rs1 ecc
    | .sc rd rs1 rs2 sp => trySc s rd rs1 rs2 sp
    | .amo f rd rs1 rs2 ecc => tryAmo s f rd rs1 rs2 ecc
    | .fence => drainedThen s (fun s => retire s 4)
    | .fenceI => drainedThen s (fun s => retire (setRc s (fun c => { c with ic := [] })) 4)
    | .mret => drainedThen s mretDo
    | .wfi => drainedThen s wfiDo
    | .cx i => tryCx s i
    | .fetch wide ecc => tryFetch s wide ecc
    | .icStore key w => drainedThen s (fun s => setRc (regWrite s .rc key none w).1 (fun c => { c with cur := none }))
    | .trap cause tval epc => drainedThen s (fun s => trapEnter s cause tval epc)

/-- WFI ends once an enabled interrupt is pending (R407). -/
def wfiWake (s : State) : State :=
  if fwRuns s && s.rc.wfi && rcIrqDue s then setRc s (fun c => { c with wfi := false }) else s

/-- A contained core finishes its issued access and drains its buffer (Table 19-3). -/
def rcDrainHeld (s : State) : State := if contained s 25 && s.rc.cur.isNone then drainAll s else s

/-- The record core's progress with the fabric: answers taken, entries that drain, the instruction in progress, WFI. -/
def rcProgress (s : State) : State :=
  if !s.running 29 || stalled s 29 then s else wfiWake (rcDrainHeld (rcTry false (flushStep (ewaPoll (sbPoll s)))))

/-- LOAD_FILL_RETURN: the fill that a load waits for has come back, and the load takes it (R412). -/
def loadFillReturn (s : State) : State :=
  match s.rc.cur with
  | some (.load ..) => rcTry true s
  | _ => s

/-- An instruction begun and tried at once. (DESIGN CHOICE, log 11.) -/
def rvRun (s : State) (op : RvOp) : State := if rcFree s then rcTry false (rvBegin s op) else s

/-- MRET in user mode is illegal. -/
def rvMret (s : State) : State := if s.rc.mach then rvRun s .mret else rvRun s (.trap 2 0x30200073 s.rc.pc)

/-- WFI in user mode is illegal while TW is set. -/
def rvWfi (s : State) : State :=
  if !s.rc.mach && bit s.rc.mstatus 21 then rvRun s (.trap 2 0x10500073 s.rc.pc) else rvRun s .wfi

/-- The 1,024 cycles of a reservation have passed (R394). -/
def resvPassed (s : State) : State := loseRsv s

/-- TIMECMP_MATCH: legal time has reached RCC_TIMECMP and MTIP is 1; an enabled MTI ends a WFI (R407, R409). -/
def timecmpMatch (s : State) : State := if bit (rcMip s) 7 then wfiWake s else s

end Sys2Proof.Machine
end

