-- ==== Sys2Proof/Machine/CtlPort.lean ====
section
/-!
DEFINITION. Machine/CtlPort.lean: the control port (chapter 3): frames, the map of Table 3-5, bit aliases, the windows, the status
byte, repeated writes, and accesses that stall.
-/
namespace Sys2Proof.Machine

/-- The control port's state changed. -/
def setCp (s : State) (f : CpSt → CpSt) : State := { s with cp := f s.cp }

/-! ### The map (Tables 3-5 and 3-6, R99 to R103) -/

/-- The register of a direct word. -/
def directKey (w : Nat) : Option Nat :=
  if w ≤ 7 ∨ (0x20 ≤ w ∧ w ≤ 0x22) ∨ (0x24 ≤ w ∧ w ≤ 0x26) ∨ w = 0x28 ∨ w = 0x40 ∨ w = 0x41 then some (0x10000000 + 4 * w)
  else if 8 ≤ w ∧ w ≤ 0xF then some (Ad.EVC_PEND (w - 8))
  else if 0x10 ≤ w ∧ w ≤ 0x17 then some (Ad.EVC_MASK (w - 0x10))
  else if w = 0x18 then some Ad.FLT_SUMMARY
  else if w = 0x19 then some Ad.FLT_LOCKVIOL
  else if w = 0x42 then some Ad.TBU_QUALITY
  else none

/-- The region of a word; none beyond the map. -/
def cpRegion (w : Nat) : Nat :=
  if w < 0x100 then 0 else if w < 0x500 then 1 else if w < 0x600 then 2 else if w < 0x620 then 3 else if w < 0x640 then 4 else
  if w < 0x1000 then 5 else 6

/-- The words of a frame lie in one region. -/
def cpLenOk (addr len : Nat) : Bool := cpRegion addr == cpRegion (addr + len) && decide (addr + len < 0x1000)

/-- A bit that some field of a register holds; bits of reserved event sources are reserved (R656). -/
def bitListed (s : State) (key b : Nat) (r : RegRow) : Bool :=
  r.fields.any (fun f => decide (f.lo ≤ b ∧ b ≤ f.hi)) &&
    !(decide (0xC00000 ≤ key ∧ key < 0xC00040) && evcReserved s (32 * (key % 0x20 / 4) + b))

/-- The window of an aperture word: 0 A, 1 B. -/
def cpWindow (w : Nat) : Option Nat := if 0x600 ≤ w ∧ w < 0x620 then some 0 else if 0x620 ≤ w ∧ w < 0x640 then some 1 else none

/-- The BASE register of a window; CTRL and ERRADDR follow it. -/
def winReg (n : Nat) : Nat := if n = 0 then Ad.CP_WA_BASE else Ad.CP_WB_BASE

/-- BASE of a window. -/
def winBase (s : State) (n : Nat) : Nat := s.fld (winReg n) 27 7 * 128

/-- What a word of the map reaches: key and alias bit; none for a reserved word. `base` is the window's BASE. -/
def cpTarget (s : State) (w base : Nat) : Option (Nat × Option Nat) :=
  if w < 0x100 then (directKey w).map (fun k => (k, none))
  else if w < 0x500 then
    match directKey ((w - 0x100) / 32) with
    | none => none
    | some k =>
      match regHere s k with
      | some (r, _) => if bitListed s k ((w - 0x100) % 32) r then some (k, some ((w - 0x100) % 32)) else none
      | none => none
  else if 0x600 ≤ w ∧ w < 0x640 then
    let k := (base + 4 * (w % 32)) % 2 ^ 28
    if k < 0x1000000 ∧ (regHere s k).isSome then some (k, none) else none
  else none

/-- The IC address of a window word. -/
def winAddr (w base : Nat) : Nat := (base + 4 * (w % 32)) % 2 ^ 28

/-! ### One word -/

/-- How the access of one word ends: its code and the value read, or a wait. -/
inductive WordRes
  | done (s : State) (code : Nat) (v : Word)
  | wait
deriving DecidableEq, Repr

/-- One read of a word, judged in the order of Table 3-4. (DEDUCED, log 23.) -/
def cpReadWord (s : State) (w base : Nat) : WordRes :=
  match cpTarget s w base with
  | none => .done s 2 0
  | some (k, one) =>
    match regHere s k with
    | none => .done s 2 0
    | some (r, ix) =>
      if !s.running (rowIsland r ix) then .done s 5 0
      else if stalled s (rowIsland r ix) then .wait
      else if Ad.OTP_STAGE 0 ≤ k ∧ k ≤ Ad.OTP_STAGE 15 then .done s 3 0
      else
        let x := regTake s k r
        let v := match one with | none => x.2 | some b => w32 (bf x.2 b b)
        (match readBad s k r with
          | some st => .done (parReport x.1 k st) 4 v
          | none => .done x.1 0 v)

/-- One write of a word. -/
def cpWriteWord (s : State) (w base : Nat) (v : Word) : WordRes :=
  match cpTarget s w base with
  | none => .done s 2 0
  | some (k, one) =>
    match regHere s k with
    | none => .done s 2 0
    | some (r, ix) =>
      if !s.running (rowIsland r ix) then .done s 5 0
      else if stalled s (rowIsland r ix) then .wait
      else
        let x := regWrite s .cp k one v
        .done x.1 (if x.2.1 then 1 else 0) 0

/-! ### A frame's words (R90, R103, R105) -/

/-- The CP_STATUS bit of a word code. -/
def codeBit (c : Nat) : Nat :=
  if c = 1 then 2048 else if c = 2 then 512 else if c = 3 then 1024 else if c = 4 then 4096 else if c = 5 then 256 else if c = 6 then 32 else 0

/-- A code received by the word in turn. -/
def frameCode (f : CpFrame) (c : Nat) : CpFrame :=
  if c = 0 then f
  else { f with bits := f.bits ||| codeBit c, code := if f.code = 0 then c else f.code, cidx := if f.code = 0 then f.idx else f.cidx }

/-- What a window records and does when one of its words has ended with a code: ERRADDR, and BASE's advance after word 31. -/
def winAfter (s : State) (w base c : Nat) : State :=
  match cpWindow w with
  | none => s
  | some n =>
    let s1 := if c = 0 then s else s.setReg (winReg n + 8) (w32 (winAddr w base / 4 * 4))
    if w % 32 = 31 ∧ c ≠ 5 ∧ c ≠ 6 ∧ bit (s1.reg (winReg n + 4)) 0 then
      s1.setFld (winReg n) 27 7 (s1.fld (winReg n) 27 7 + 1)
    else s1

/-- BASE as the word in turn finds it when its access starts. -/
def frameBase (s : State) (f : CpFrame) : Nat := match cpWindow (f.addr + f.idx) with | some n => winBase s n | none => 0

/-- The word in turn accessed. -/
def frameWord (s : State) (f : CpFrame) : WordRes :=
  let w := f.addr + f.idx
  if f.opc = 1 then cpReadWord s w f.base else cpWriteWord s w f.base (f.words.getD f.idx 0)

/-- The words of a frame, one at a time; true where the frame has ended, false where the word in turn waits. -/
def frameRun : Nat → State → CpFrame → State × CpFrame × Bool
  | 0, s, f => (s, f, true)
  | n + 1, s, f =>
    if f.len < f.idx then (s, f, true)
    else
      match frameWord s f with
      | .wait => (s, f, false)
      | .done s1 c v =>
        let s2 := winAfter s1 (f.addr + f.idx) f.base c
        let f1 : CpFrame := { frameCode f c with out := f.out ++ [v] }
        if c = 5 then (s2, f1, true)
        else
          let f2 : CpFrame := { f1 with idx := f.idx + 1 }
          frameRun n s2 { f2 with base := frameBase s2 f2 }

/-! ### The end of a frame -/

/-- The header bytes. -/
def frameHdr (f : CpFrame) : List Byte :=
  [BitVec.ofNat 8 (f.opc * 16 + f.tag), BitVec.ofNat 8 (f.len * 16 + f.addr / 256), BitVec.ofNat 8 f.addr]

/-- Header, write data and CCRC (R95). -/
def frameBytes (f : CpFrame) : List Byte := frameHdr f ++ f.words.flatMap (fun (w : Word) => toBytesLE 4 w.toNat) ++ [f.ccrc]

/-- The status byte. -/
def frameStatus (f : CpFrame) : Byte := BitVec.ofNat 8 (f.tag * 16 + f.code)

/-- The read data of the response: words not accessed read as zero. -/
def frameData (f : CpFrame) : List Byte :=
  if f.opc = 1 then ((f.out ++ List.replicate 16 0).take (f.len + 1)).flatMap (fun (w : Word) => toBytesLE 4 w.toNat) else []

/-- The response phase: data, status byte and RCRC (R86); nothing is driven once CP_CS_N is high. -/
def frameResp (f : CpFrame) (data : List Byte) : List Byte :=
  if f.late then [] else data ++ [frameStatus f, crc8 (frameHdr f ++ data ++ [frameStatus f])]

/-! ### CP_SDO (R83, R85, R88, R89, R93) -/

/-- The wait bytes that a frame may take: CP_CFG.STALL_MAX, a value below 96 acting as 96 (Table 3-12). -/
def stallMax (s : State) : Nat := max 96 (s.fld Ad.CP_CFG 15 8)

/-- The bytes of a frame's command phase, CCRC included (Table 3-3). -/
def cmdBytes (f : CpFrame) : Nat := 4 + 4 * f.words.length

/-- The frame's bytes on CP_SDO up to `waits` wait bytes: 0xFF throughout (R85, R88). -/
def sdoWaits (f : CpFrame) (waits : Nat) : List Byte := List.replicate (cmdBytes f + waits) 0xFF

/-- The wait bytes of a frame that has ended: STALL_MAX where they ran out, and otherwise from 1 to STALL_MAX, as long as its
accesses took, which the spec bounds and does not fix. (DESIGN CHOICE, log 60.) -/
def waitBytes (s : State) (f : CpFrame) : Nat := if f.expired then stallMax s else 1 + Config.freeNat s.free % stallMax s

/-- A frame is answered: its wait bytes, the ready byte 0xA5, and the response phase. Once CP_CS_N is high, nothing is driven. -/
def sdoAnswer (s : State) (f : CpFrame) (resp : List Byte) : State :=
  setCp s.fresh (fun c => { c with
    resp := resp
    sdo := some (if f.late then sdoWaits f 0 else sdoWaits f (waitBytes s f) ++ [0xA5] ++ resp) })

/-- Byte `i` on CP_SDO since CP_CS_N fell: 0xFF in the command phase, in the wait bytes and after the RCRC (R85, R88, R93), and
what the pull-up gives where the port does not answer (R83). -/
def sdoByte (s : State) (i : Nat) : Byte := (s.cp.sdo.getD []).getD i 0xFF

/-- Bits of CP_STATUS set by a frame. -/
def cpStatusSet (s : State) (bits : Nat) : State := if bits = 0 then s else sqBits s Ad.CP_STATUS bits

/-- A frame that only reads CP_LAST, CP_STATUS or both (R94). -/
def onlyStatus (f : CpFrame) : Bool :=
  f.opc == 1 && (List.range (f.len + 1)).all (fun i => f.addr + i == 1 || f.addr + i == 6)

/-- CP_LAST describes a frame (R94). PEND stays 1 while an access pends, whichever frame is described (R97, R118); IDX is 0 for a
frame-level code, of which the spec states none. (DESIGN CHOICE, log 56.) -/
def cpLast (s : State) (f : CpFrame) (pend : Bool) : State :=
  if f.opc = 3 ∨ onlyStatus f then s
  else (setCp s (fun c => { c with pendShown := pend })).setReg Ad.CP_LAST (w32 (f.tag * 2 ^ 28 + f.code * 2 ^ 24
    + (if f.code = 0 then 0 else f.cidx) * 2 ^ 20 + f.opc * 2 ^ 16 + b2n (pend || s.cp.pendAcc.isSome) * 2 ^ 15 + f.addr))

/-- A WR frame that was carried out is kept with its status byte (R95). -/
def frameKeep (s : State) (f : CpFrame) : State :=
  if f.opc = 2 ∧ f.dup then setCp s (fun c => { c with kept := some (frameBytes f, frameStatus f), pendWr := false }) else s

/-- A frame ends: its bits, CP_LAST, the kept frame, and its response. `done` is false for a frame-level code. -/
def frameEnd (s : State) (f : CpFrame) (done : Bool) : State :=
  let s1 := cpLast (cpStatusSet s (f.bits + if f.late then 128 else 0)) f false
  setCp (sdoAnswer (if done then frameKeep s1 f else s1) f
      (frameResp f (if done ∨ f.opc ≠ 1 then frameData f else (List.replicate (4 * (f.len + 1)) 0))))
    (fun c => { c with frame := none })

/-- The access of a frame's word in turn goes on (R97): PEND. -/
def pendStart (s : State) (f : CpFrame) : State :=
  setCp (cpLast s f true) (fun c => { c with pendAcc := some f, pendWr := f.opc == 2 })

/-- The island that the access of the word in turn is addressed to. -/
def frameIsl (s : State) (f : CpFrame) : Nat :=
  match cpTarget s (f.addr + f.idx) f.base with
  | none => 2
  | some (k, _) => match regHere s k with | some (r, ix) => rowIsland r ix | none => 2

/-- The words of a frame go on; a word that waits leaves the frame in its stall phase, or pending where CP_CS_N is high. -/
def frameGo (s : State) (f : CpFrame) : State :=
  match frameRun 17 s f with
  | (s1, f1, true) => frameEnd s1 f1 true
  | (s1, f1, false) =>
    let s2 := setCp s1 (fun c => { c with
      waitIsl := frameIsl s1 f1, resp := if f1.late then [] else c.resp, sdo := some (sdoWaits f1 0) })
    if f1.late then pendStart (cpStatusSet s2 128) f1 else setCp s2 (fun c => { c with frame := some f1 })

/-! ### The start of a frame -/

/-- CP_LAST.PEND. -/
def cpPend (s : State) : Bool := s.cp.pendAcc.isSome

/-- A word of the frame reaches a register outside the CP island (R97). -/
def frameCrosses (s : State) (f : CpFrame) : Bool :=
  f.opc != 3 && (List.range (f.len + 1)).any (fun i =>
    match cpTarget s (f.addr + i) (frameBase s { f with idx := i }) with
    | none => false
    | some (k, _) => match regHere s k with | some (r, ix) => rowIsland r ix != 2 | none => false)

/-- The ST copies of legal time are refreshed for the frame that reads them, from a value that legal time has held: at most
160 ns behind, never ahead, and never less than before (R108, R109); which of those the spec leaves open. (DESIGN CHOICE,
log 14.) -/
def timeCopy (s : State) (f : CpFrame) : State :=
  if f.opc = 1 ∧ f.addr ≤ 0x41 ∧ 0x40 ≤ f.addr + f.len then
    let old := (s.reg Ad.CP_TIME_LO).toNat + 2 ^ 32 * (s.reg Ad.CP_TIME_HI).toNat
    let may := (s.now :: s.tb.held).filter (fun v => decide (old ≤ v ∧ v ≤ s.now ∧ s.now ≤ v + 160))
    let t := may.getD (Config.freeNat s.free % max 1 may.length) s.now
    (s.fresh.setReg Ad.CP_TIME_LO (w32 t)).setReg Ad.CP_TIME_HI (w32 (t / 2 ^ 32))
  else s

/-- The port answers: from step 5 of Table 2-6 on, and not in reset nor at its step 1 (R65, R83). (DEDUCED, log 31.) -/
def cpAnswers (s : State) : Bool := pinsOk s && s.isl.phase == .run

/-- A saturating 16-bit count of CP_ERRCNT. -/
def errCount (s : State) (lo : Nat) : State :=
  s.setFld Ad.CP_ERRCNT (lo + 15) lo (min 0xFFFF (s.fld Ad.CP_ERRCNT (lo + 15) lo + 1))

/-- CP_CS_N falls: its wake source latches, and the CP island starts in Glen and Basin (R39, R58). -/
def csFall (s : State) : State := startIsl (setLatch s 16) 2

/-- The frame-level codes of Table 3-4: 0 where the words are accessed. -/
def frameJudge (s : State) (f : CpFrame) : Nat :=
  if f.opc = 0 ∨ 3 < f.opc then 9
  else if f.opc ≠ 3 ∧ !cpLenOk f.addr f.len then 0xA
  else if cpPend s ∧ frameCrosses s f then 7
  else 0

/-- A frame-level code answered: nothing is accessed (R116). -/
def frameRefuse (s : State) (f : CpFrame) (code : Nat) : State :=
  frameEnd s { f with code := code, bits := if code = 9 then 4 else if code = 0xA then 8 else 16 } false

/-- A frame whose CCRC has been checked and is right. -/
def frameGood (s : State) (f0 : CpFrame) : State :=
  let dup := bit (s.reg Ad.CP_CFG) 0
  let f : CpFrame := { f0 with dup := dup }
  let same : Bool := match s.cp.kept with | some k => k.1 == frameBytes f | none => false
  if f.opc = 2 ∧ dup ∧ same then
    let st := match s.cp.kept with | some k => k.2 | none => 0
    sdoAnswer (cpStatusSet s (64 + if f.late then 128 else 0)) f (if f.late then [] else [st, crc8 (frameHdr f ++ [st])])
  else
    let s1 := if f.opc = 2 ∧ !dup then setCp s (fun c => { c with kept := none, pendWr := false }) else s
    let code := frameJudge s1 f
    if code ≠ 0 then frameRefuse s1 f code
    else if f.opc = 3 then frameEnd s1 f true
    else
      let s2 := timeCopy s1 f
      frameGo s2 { f with base := frameBase s2 f }

/-- A frame up to its CCRC check (Table 3-4). A frame that finds another in its stall phase is not possible and does nothing.
(DEDUCED, log 30, 31.) -/
def cpFrame (s0 : State) (opc tag len addr : Nat) (words : List Word) (ccrc : Byte) (late : Bool) : State :=
  if !cpAnswers s0 ∨ s0.cp.frame.isSome then s0
  else
    let s := csFall s0
    let f : CpFrame := ⟨opc % 16, tag % 16, len % 16, addr % 4096, if opc = 2 then (words ++ List.replicate 16 0).take (len % 16 + 1) else [],
      ccrc, 0, [], 0, 0, 0, false, late, false, 0⟩
    if crc8 (frameHdr f ++ f.words.flatMap (fun (w : Word) => toBytesLE 4 w.toNat)) = ccrc then frameGood s f
    else
      let f1 : CpFrame := { f with code := 8 }
      sdoAnswer (errCount (cpStatusSet s (2 + if late then 128 else 0)) 0) f1
        (frameResp f1 (if opc % 16 = 1 then List.replicate (4 * (len % 16 + 1)) 0 else []))

/-! ### Early and late rises, stalls (R92, R97, R118) -/

/-- CP_CS_EARLY_RISE: CP_CS_N falls, and rises before the last bit of the CCRC. -/
def cpEarly (s : State) : State :=
  if !cpAnswers s ∨ s.cp.frame.isSome then s
  else setCp (errCount (cpStatusSet (csFall s) 1) 16) (fun c => { c with sdo := some [] })

/-- CP_CS_LATE_RISE: CP_CS_N rises once the CCRC has been checked: of the frame in its stall phase, or else of the frame given.
(DEDUCED, log 31.) -/
def cpLate (s : State) (opc tag len addr : Nat) (words : List Word) (ccrc : Byte) : State :=
  match s.cp.frame with
  | some f => frameGo (setCp s (fun c => { c with frame := none })) { f with late := true }
  | none => cpFrame s opc tag len addr words ccrc true

/-- The words of a frame that STALL_MAX cuts off: the word in turn is answered STALL_EXPIRED (R90). -/
def cutOff (f : CpFrame) : CpFrame := { frameCode f 6 with expired := true }

/-- CP_STALL_EXPIRY: STALL_MAX wait bytes have been sent. The access in progress goes on inside the device; between two words
(`between`) the next one is not accessed and PEND is not set (R97). (DEDUCED, log 31.) -/
def cpStall (s : State) (between : Bool) : State :=
  match s.cp.frame with
  | none => s
  | some f =>
    let f1 := cutOff f
    let s1 := frameEnd (winAfter s (f.addr + f.idx) f.base 6) f1 true
    if between then s1 else pendStart s1 f1

/-- The access that pended has completed: PEND ends. -/
def pendEnd (s : State) : State := (setCp s (fun c => { c with pendAcc := none })).setFld Ad.CP_LAST 15 15 0

/-- CP_PENDING_ACCESS_DONE: the access in progress completes: a write takes effect, a read's result is discarded. A frame whose
CP_CS_N rose early goes on with its remaining words; CP_LAST and the kept frame take its final values unless a later frame has
taken its place there (R92, R94, R95). -/
def cpPendDone (s : State) : State :=
  match s.cp.pendAcc with
  | none => s
  | some f =>
    if f.expired then
      match frameWord s f with
      | .wait => s
      | .done s1 _ _ => pendEnd s1
    else
      match frameRun 17 s f with
      | (s1, f1, true) =>
        let s2 := pendEnd (cpStatusSet s1 f1.bits)
        let s3 := if s2.cp.pendShown then cpLast s2 f1 false else s2
        if s3.cp.pendWr then frameKeep s3 f1 else s3
      | (s1, f1, false) => setCp s1 (fun c => { c with pendAcc := some f1, waitIsl := frameIsl s1 f1 })

/-- CP_STALL_FAULT_TIMEOUT: CP_LAST.PEND has been 1 for 10 ms (R118). -/
def cpStallFault (s : State) : State := if cpPend s then raise s 1 (s.reg Ad.CP_LAST).toNat else s

/-- The frame in its stall phase goes on once the island it waits for can answer. -/
def cpProgress (s : State) : State :=
  match s.cp.frame with
  | none => s
  | some f => frameGo (setCp s (fun c => { c with frame := none })) f

/-! ### A write from any source -/

/-- A word write of a listed register of a running island (R121); any other address takes nothing. -/
def anyWrite (s : State) (src : Src) (key : Nat) (w : Word) : State :=
  match regHere s key with
  | none => s
  | some (r, ix) => if s.running (rowIsland r ix) && !stalled s (rowIsland r ix) then (regWrite s src key none w).1 else s

/-- A word write through the control port or, for a register of IC space, by a record core store that the access map lets pass.
(DEDUCED, log 2.) -/
def rowWrite (s : State) (src : Src) (key : Nat) (w : Word) : State :=
  if (if src = .cp then cpAnswers s else icStoreOk key) then anyWrite s src key w else s

end Sys2Proof.Machine
end

