-- ==== Sys2Proof/Machine/Debug.lean ====
section
/-!
DEFINITION. Machine/Debug.lean: the TAP (R69, Table 2-8), the authenticated unlock, and DBG_ACCESS (R70).
-/
namespace Sys2Proof.Machine

/-- The TAP's state changed. -/
def setTap (s : State) (f : TapSt → TapSt) : State := { s with tap := f s.tap }

/-- An instruction in the TAP's register, with what its data register captures. -/
def tapIr (s : State) (ir dr : Nat) : State := setTap s (fun t => { t with ir := ir, dr := dr })

/-- TRST_N resets the TAP only. (PRESUMED, log 26.) -/
def tapTrst (s : State) : State := tapIr s 1 0

/-- EXTEST: the boundary register captures the pins, which the spec does not lay out. (PRESUMED, log 26.) -/
def tapExtest (s : State) : State := tapIr s.fresh 0 (Config.freeNat s.free)

/-- IDCODE. -/
def tapIdcode (s : State) : State := tapIr s 1 0x1D1024A3

/-- SAMPLE/PRELOAD. (PRESUMED, log 26.) -/
def tapSample (s : State) : State := tapIr s.fresh 2 (Config.freeNat s.free)

/-- BYPASS. (PRESUMED, log 26.) -/
def tapBypass (s : State) : State := tapIr s 0x3F 0

/-- Capture-DR of UNLOCK_CHAL: 32 fresh bytes, whatever the entropy source gives. A challenge ends at any reset, so none stands while
a reset or its step 1 holds the device. (DESIGN CHOICE, log 55.) -/
def tapChal (s : State) : State :=
  let l := (List.range 32).map (fun i => BitVec.ofNat 8 (Config.freeNat (s.free + i)))
  setTap (tapIr { s with free := s.free + 32 } 0x20 (ofBytesLE l)) (fun t => { t with chal := if s.isl.phase = .run then some l else none })

/-- The unlock's checks at Update-DR of UNLOCK_RESP: 0 where all pass, else the STATUS. -/
def unlockJudge (s : State) (grant : Word) (sig key : List Byte) : Nat :=
  match s.tap.chal with
  | none => 3
  | some c =>
    let hash := (List.range 8).flatMap (fun i => toBytesLE 4 (otpWord s 0x0B i).toNat)
    if grant &&& ~~~(0x3F : Word) ≠ 0 then 4
    else if !otpGood s 0x0B || sha256 key != hash
        || !p256Verify key (sha256 (c ++ toBytesLE 4 grant.toNat ++ toBytesLE 8 (deviceId s))) sig then 2
    else 0

/-- Update-DR of UNLOCK_RESP: the challenge is spent; on success a DEBUG_UNLOCK record is offered, and its carve opens the
grant. -/
def tapResp (s : State) (grant : Word) (sig key : List Byte) : State :=
  let r := unlockJudge s grant sig key
  let s1 := setTap s (fun t => { t with ir := 0x21, chal := none, status := r })
  if r ≠ 0 then s1
  else
    let p := pad128 (toBytesLE 4 grant.toNat ++ List.replicate 12 0 ++ sha256 (s.tap.chal.getD []))
    match evsOffer s1 7 p none with
    | (s2, .busy) => setTap s2 (fun t => { t with status := 5 })
    | (s2, _) => setTap s2 (fun t => { t with waiting := some p })

/-- Capture-DR of UNLOCK_RESP. -/
def tapStatus (s : State) : State := tapIr s 0x21 s.tap.status

/-- DEBUG_UNLOCK_TIMEOUT: 1 s after the offer the record has not been carved. -/
def tapTimeout (s : State) : State :=
  if s.tap.waiting.isSome then setTap s (fun t => { t with waiting := none, status := 5 }) else s

/-! ### DBG_ACCESS -/

/-- An operation's end: STATUS and DATA for the next Capture-DR. -/
def accEnd (s : State) (st : Nat) (d : Word) : State := setTap s (fun t => { t with acc := none, accStatus := st, accData := d })

/-- The registers of OTP commands, which no grant reaches. -/
def otpCmdReg (k : Nat) : Bool := decide (Ad.OTP_STAGE 0 ≤ k ∧ k ≤ Ad.OTP_CMD_STATUS)

/-- IC read and write (OP 1 and 2). -/
def accIc (s : State) (op a : Nat) (d : Word) : State :=
  let k := a - 0xC0000000
  if !inIc a ∨ a % 4 ≠ 0 then accEnd s 3 0
  else if otpCmdReg k then accEnd s 2 0
  else
    match (if op = 1 then icLoad s k else icStore s .dbg k d) with
    | .done s1 v => accEnd s1 0 v
    | .fault s1 => accEnd s1 3 0
    | .wait => setTap s (fun t => { t with acc := some (op, a, d), accStatus := 1 })

/-- Window read and write (OP 3 and 4), with the attributes of the region table. -/
def accWin (s : State) (op a : Nat) (d : Word) : State :=
  if !inWin a ∨ a % 4 ≠ 0 ∨ winOff s then accEnd s 3 0
  else
    let s1 :=
      if op = 3 then ag0Req s .dbg .readOnce 0 (winLine a) ((rgnOf s a).1 != .device) 0 0
      else engWriteLine .dbg a (toBytesLE 4 d.toNat) s (winLine a)
    setTap s1 (fun t => { t with acc := some (op, a, d), accStatus := 1 })

/-- An answer for debug: data, or FAULT for what would be an access fault of the record core. -/
def accAnswer (s : State) (op a : Nat) (r : Ag0Rsp) : State :=
  match r.kind with
  | .data => accEnd s 0 (if op = 3 then w32 (lineNum r.line (a % 64) 4) else 0)
  | .ack => accEnd s 0 0
  | _ => accEnd s 3 0

/-- The progress of an operation that is PENDING. -/
def dbgProgress (s : State) : State :=
  match s.tap.acc with
  | none => s
  | some (op, a, d) =>
    if op ≤ 2 then accIc s op a d
    else match ag0Take s .dbg with
      | none => s
      | some (r, s1) => accAnswer s1 op a r

/-- DBG_ACCESS with an operation that GRANT bit `g` opens. Before an unlock it selects BYPASS; a data register scan first captures
the last operation's STATUS and DATA; while an operation is PENDING no other starts. -/
def dbgAccess (s : State) (g : Nat) (f : State → State) : State :=
  if s.tap.grant = 0 then tapBypass s
  else
    let s1 := tapIr s 0x22 (s.tap.accStatus * 2 ^ 32 + s.tap.accData.toNat)
    if s1.tap.acc.isSome then s1
    else if !s1.tap.grant.testBit g then accEnd s1 2 0
    else f s1

/-- OP 1. -/
def dbgIcRead (s : State) (a : Nat) : State := dbgAccess s 1 (fun s => accIc s 1 a 0)

/-- OP 2. -/
def dbgIcWrite (s : State) (a : Nat) (d : Word) : State := dbgAccess s 2 (fun s => accIc s 2 a d)

/-- OP 3. -/
def dbgWinRead (s : State) (a : Nat) : State := dbgAccess s 3 (fun s => accWin s 3 a 0)

/-- OP 4. -/
def dbgWinWrite (s : State) (a : Nat) (d : Word) : State := dbgAccess s 4 (fun s => accWin s 4 a d)

/-- OP 5: the core halts once the instruction in progress has ended. -/
def dbgHalt (s : State) : State := dbgAccess s 0 (fun s => accEnd (setRc s (fun c => { c with halted := true })) 0 0)

/-- OP 6. -/
def dbgResume (s : State) : State := dbgAccess s 0 (fun s => accEnd (setRc s (fun c => { c with halted := false, step1 := false })) 0 0)

/-- OP 7: the halted core executes one instruction. (DESIGN CHOICE, log 55.) -/
def dbgStep (s : State) : State :=
  dbgAccess s 0 (fun s => if s.rc.halted then accEnd (setRc s (fun c => { c with step1 := true })) 0 0 else accEnd s 2 0)

/-- OP 7 and 8 answer DENIED while the core is not halted, and OP 8 FAULT for a register number above 31: the spec states no STATUS
there. OP 8: the PC for 0, x1 to x31, of the halted core. (DESIGN CHOICE, log 55.) -/
def dbgReg (s : State) (n : Nat) : State :=
  dbgAccess s 0 (fun s =>
    if !s.rc.halted then accEnd s 2 0 else if n = 0 then accEnd s 0 s.rc.pc else if n ≤ 31 then accEnd s 0 (rx s n) else accEnd s 3 0)

/-- OP 9: a warm reset, with ISL_RESET_CAUSE.DBG, up to its end; it sets DBG alone, not WRST. (DESIGN CHOICE, log 55.) -/
def dbgWarm (s : State) (tcxo : Bool) (ticks : Nat) : State := dbgAccess s 5 (fun s => wrstRelease (wrst s 16) tcxo ticks)

end Sys2Proof.Machine
end

