-- ==== Sys2Proof/Machine/Finish.lean ====
section
/-!
DEFINITION. Machine/Finish.lean: what follows a command's own effect: the consequences it left to be applied (containments,
escalations, wakes, islands that start), what the blocks go on to do by themselves, level sources (R657), level events of the
performance counters (R638), the islands of enabled ports (R40); and one cycle of the TB clock.
-/
namespace Sys2Proof.Machine

/-! ### Consequences -/

/-- An island has started: held strobes first (R131), then its block's first actions. -/
def islStarted (s : State) (isl : Nat) : State :=
  let s1 := heldApply s isl
  if isl = 32 then acqAnaStart (anaFirst s1)
  else if isl = 3 then cvuRestart s1
  else if isl = 31 then fltReoffer (evsFreed s1)
  else s1

/-- One consequence applied. -/
def effectApply (s : State) (e : Effect) : State :=
  match e with
  | .contain u => containApply s u
  | .escalate => escalate s
  | .wake b => wake s b
  | .started isl => islStarted s isl
  | .jump => timecmpMatch (updDue s)
  | .daleWake => daleWake s
  | .keptTarget => keptAct s

/-- Consequences applied in order, until none is left. -/
def effectLoop : Nat → State → State
  | 0, s => s
  | n + 1, s =>
    match s.effects with
    | [] => s
    | e :: t => effectLoop n (effectApply { s with effects := t } e)

/-- All consequences of a command. (DESIGN CHOICE, log 3.) -/
def effectsRun (s : State) : State := effectLoop 512 s

/-! ### What the blocks do by themselves -/

/-- The home agent has victims, sweeps or held transfers under way. -/
def haBusy (s : State) : Bool := !s.ha.binv.isEmpty || !s.ha.sweeps.isEmpty || !s.ha.ag0Held.isEmpty

/-- The TMM has work under way, or watches its pools. -/
def tmmBusy (s : State) : Bool :=
  decide (s.tmm.nch ≠ 0) || s.tmm.cmd.isSome || !s.tmm.jobs.isEmpty || !s.tmm.fetches.isEmpty || !s.ha.sweeps.isEmpty

/-- The record core has something in hand, or wakes. -/
def rcBusy (s : State) : Bool :=
  s.rc.cur.isSome || s.rc.flushing || !s.rc.ewaOut.isEmpty || s.rc.sb.any SbEnt.sent || contained s 25 || (s.rc.wfi && rcIrqDue s)

/-- The acquisition runs, or has a table or a record to take up. -/
def acqBusy (s : State) : Bool :=
  !s.acq.runs.isEmpty || s.acq.injRun || s.acq.regRun || s.acq.regNew || !s.acq.hold.isEmpty || acqStopping s

/-- Some Lathe runs. -/
def lthBusy (s : State) : Bool := s.lth.any (fun l => l.ended || l.iadcDue || l.late.isSome)

/-- A transition runs, or withheld credits are left. -/
def valleyBusy (s : State) : Bool :=
  s.isl.stage != .idle || s.isl.autoRet || s.lnk.ports.any (fun p => !p.withheld.isEmpty)

/-- Every block goes on as far as it can, each in an island that runs. (DESIGN CHOICE, log 3.) -/
def blocksGo (s : State) : State :=
  let go (b : State → Bool) (f : State → State) (s : State) : State := if b s then f s else s
  let on (i : Nat) (s : State) : Bool := s.running i && !stalled s i
  let s1 := go (fun s => haBusy s && on 3 s) haProgress s
  let s2 := go (fun s => tmmBusy s && on 4 s) tmmProgress s1
  let s3 := go (fun s => !s.chz.q.isEmpty && on 30 s) chzProgress s2
  let s4 := go rcBusy rcProgress s3
  let s5 := go (fun s => acqBusy s && on 32 s) acqProgress s4
  let s6 := go (fun s => lthBusy s && on 32 s) lthProgress s5
  let s7 := go valleyBusy valleyProgress s6
  let s8 := go (fun s => s.cp.frame.isSome) cpProgress s7
  go (fun s => s.tap.acc.isSome) dbgProgress s8

/-- The blocks go on, with the consequences of what they do. (DESIGN CHOICE, log 3.) -/
def goOn : Nat → State → State
  | 0, s => s
  | n + 1, s => goOn n (effectsRun (blocksGo s))

/-- The island of a port runs while the port is enabled and the device is in Open or Dale (R40, Table 2-1). -/
def portIsl (s : State) (p : Nat) : State :=
  let on := (portOf s p).mode != .disabled
  if on == s.running (13 + p) then s
  else if on then startIsl s (13 + p)
  else if cpHolds s (13 + p) then s
  else stopIsls s [13 + p]

/-- The islands of the ports. -/
def portIsls (s : State) : State := if s.depth ≤ 1 then (List.range (nPorts s)).foldl portIsl s else s

/-! ### Level sources and level events -/

/-- The condition of a level source (R657, Table 18-1). -/
def levelOn (s : State) (src : Nat) : Bool :=
  if src ≤ 23 then bit (s.reg Ad.ISL_LATCH) src
  else if src = 27 then decide (bf (s.reg Ad.ISL_LATCH_OVF) 23 0 ≠ 0)
  else if src = 30 then decide (fltSummary s ≠ 0)
  else false

/-- The sources whose condition holds. -/
def levelsOn (s : State) : List Nat := (List.range 32).filter (levelOn s)

/-- Level sources set their pending bits in every TB cycle in which their conditions hold (R657); an AUTO_MASK source sets its mask
bit each time (R661). (DESIGN CHOICE, log 3.) -/
def levelsSet (s : State) : State := (levelsOn s).foldl evcPend s

/-- The pending load stalls on a buffered store (R389). (DEDUCED, log 7.) -/
def fwdStall (s : State) : Bool :=
  match s.rc.cur with
  | some (.load w _ _ rs1 imm _ _) => decide (loadFwd s (rx s rs1 + immW imm).toNat w = .wait)
  | _ => false

/-- A level event of Table 17-3 holds for a qualifier, or for any where none is given. -/
def pcuHolds (s : State) (ev : Nat) (q : Option Nat) : Bool :=
  let some' (l : List Nat) (f : Nat → Bool) : Bool := match q with | none => l.any f | some n => f n
  if ev = 0x08 then
    some' (List.range (nPorts s)) (fun p => (waiting s p).any (fun x => !creditLeft (portOf s p) (outClass x.2)))
  else if ev = 0x09 then some' (List.range (nPorts s)) (fun p => (portOf s p).mode == .retrain)
  else if ev = 0x12 then some' (s.ha.wait.map (fun r => r.m.src)) (fun a => s.ha.wait.any (fun r => r.m.src == a))
  else if ev = 0x22 then s.ha.trks.any (fun t => t.ph == .evb && decide (t.id < 2048))
  else if ev = 0x2F then some' s.tmm.stall.toList (fun t => s.tmm.stall == some t)
  else if ev = 0x3C then some' (List.range (nChans s)) (fun c => (drcCh s c).drain)
  else if ev = 0x3F then s.pas.oc
  else if ev = 0x48 then s.running 29 && !s.rc.wfi
  else if ev = 0x4D then decide (8 ≤ s.rc.sb.length)
  else if ev = 0x4E then fwdStall s
  else if ev = 0x5A then decide (4 ≤ s.chz.q.length)
  else ev == 0xFF

/-- A counter's level event holds. -/
def pcuOnNow (s : State) (c : PcuOn) : Bool := pcuHolds s c.ev (if c.qall || !pcuHasQual c.ev then none else some (pcuQual c.ev c.qual))

/-- Level events over `n` FAB cycles: MODE 0 adds 1 where the event becomes true, MODE 1 each cycle in which it holds (R638).
(DESIGN CHOICE, log 37.) -/
def pcuLevels (n : Nat) (s : State) : State :=
  if !s.running 3 || stalled s 3 then s
  else
    let s1 := s.pcu.on.foldl (fun (s : State) c =>
      if pcuOnNow s c then (if c.mode then (if n = 0 then s else pcuAdd s c.n n) else if c.was then s else pcuAdd s c.n 1) else s) s
    { s1 with pcu := { s1.pcu with on := s1.pcu.on.map (fun c => { c with was := pcuOnNow s c }) } }

/-- IRQ_N asserted by what has been done (event 0x78). -/
def irqCount (s0 s : State) : State :=
  if s.pcu.on.any (fun c => c.ev == 0x78) && irqOut (levelsSet s) && !irqOut s0 then pcu 0x78 0 1 s else s

/-! ### The end of a command, and a TB cycle -/

/-- What follows a command's own effect; s0 is the state before it. Nothing goes on in power-on reset or at its step 1.
(DESIGN CHOICE, log 3.) -/
def follow (s0 s : State) : State :=
  let s1 := effectsRun s
  match s1.isl.phase with
  | .run => levelsSet (irqCount s0 (pcuLevels 0 (effectsRun (portIsls (goOn 3 s1)))))
  | .warm => levelsSet s1
  | _ => s1

/-- The end of a command: what follows it, and the queue and the variant as they were. (DESIGN CHOICE, log 3.) -/
def finish (s0 s : State) : State := { follow s0 s with pending := s0.pending, variant := s0.variant }

/-- FAB cycles from the start of legal counting to TB cycle n: 1.6 GHz in Open, 400 MHz in Dale (R41). (DESIGN CHOICE, log 5.) -/
def fabCycles (s : State) (n : Nat) : Nat := n * 125 / (if s.depth = 1 then 48 else 12)

/-- FAB cycles in the TB cycle now ending. -/
def fabInCycle (s : State) : Nat := fabCycles s s.tb.cyc - fabCycles s (s.tb.cyc - 1)

/-- The record core's cycle count over one TB cycle: 800 MHz against 153.6 MHz, counted while the core is clocked and CY is 0.
(DESIGN CHOICE, log 5.) -/
def rcCycles (s : State) : State :=
  if !s.running 29 || stalled s 29 || bit s.rc.mcountinhibit 0 then s
  else
    let n := s.rc.cycAcc + 125
    setRc s (fun c => { c with cycle := (c.cycle + n / 24) % 2 ^ 64, cycAcc := n % 24 })

/-- One cycle of the TB clock while no command waits: legal time, its comparators (R132, R409, R479), the cycle counts, and what
the blocks do by themselves. (DESIGN CHOICE, log 5.) -/
def tick (s : State) : State :=
  match s.isl.phase with
  | .run => finish s (pcuLevels (fabInCycle (tbTick s)) (timecmpMatch (updDue (alarmFire (classDue (rcCycles (tbTick s)))))))
  | .warm => if s.isl.warmInPor then s else finish s (alarmFire (classDue (tbTick s)))
  | _ => s

end Sys2Proof.Machine
end

