-- ==== Sys2Proof/Machine/Rows.lean ====
section
/-!
DEFINITION. Machine/Rows.lean: what the rows' meanings share: the islands whose clock an event needs, a message delivered by a
port, and the words that dedicated register writes carry.
-/
namespace Sys2Proof.Machine

/-- An event of a clocked island; nothing occurs in a stopped or stalled one (R658, R78). (DEDUCED, log 7.) -/
def onIsl (i : Nat) (f : State → State) (s : State) : State := if s.running i && !stalled s i then f s else s

/-- An event of a device that no reset holds. (DEDUCED, log 7.) -/
def onRun (f : State → State) (s : State) : State := if s.isl.phase = .run then f s else s

/-- An event at a port that the variant has. (DEDUCED, log 7.) -/
def onPort (p : Nat) (f : State → State) (s : State) : State := if p < nPorts s then onIsl (13 + p) f s else s

/-- An event of a channel that the variant has. (DEDUCED, log 7.) -/
def onChan (c : Nat) (f : State → State) (s : State) : State := if c < nChans s then onIsl (5 + c) f s else s

/-- One message of a sequenced flit that an ACTIVE port has accepted (R172, R276); one with a data opcode heads a DATA flit.
(DESIGN CHOICE, log 34.) -/
def msgIn (s : State) (p : Nat) (m : Msg) : State :=
  if (portOf s p).mode = .active then deliverMsg p s (dataHead (msgHead m).1) m else s

/-- TMM_CMD: OP and TENANT. -/
def tmmWord (op t : Nat) : Word := w32 (op % 256 + 65536 * (t % 1024))

/-- PAS_CMD: OP and PASS. -/
def pasWord (op pass : Nat) : Word := w32 (op % 256 + 256 * (pass % 256))

/-- EVS_X_CTRL: OP, CS and LEN_M1. -/
def evsXWord (op : Nat) (len : Byte) (cs : Bool) : Word := w32 (op + 16 * b2n cs + 256 * len.toNat)

/-- A CX instruction of Table 11-2. (DEDUCED, log 33.) -/
def cxRow (s : State) (n : CxName) (rd rs1 rs2 f3 : Nat) : State := rvRun s (.cx ⟨n, rd, rs1, rs2, f3⟩)

/-- A write of RCC_CTRL: the record core's own is an IC store, which drains the buffer first (R390). (DEDUCED, log 15.) -/
def orderWrite (s : State) (src : Src) (w : Word) : State :=
  match src with
  | .rc => rvRun s (.icStore Ad.RCC_CTRL w)
  | _ => rowWrite s src Ad.RCC_CTRL w

end Sys2Proof.Machine
end

