-- ==== Sys2Proof/Machine/AcqRows.lean ====
section
/-!
DEFINITION. Machine/AcqRows.lean: the meanings of the commands of acquisition (chapter 14).
-/
namespace Sys2Proof.Machine

/-- REG_START (R535). -/
def execRegStart (src : Src) (en : Bool) (s : State) : Host.Outcome State Fault Refusal :=
  .next (finish s (rowWrite s src Ad.ACQ_CTRL (w32 (2 + b2n en))))

/-- REG_STOP (R535). -/
def execRegStop (src : Src) (en : Bool) (s : State) : Host.Outcome State Fault Refusal :=
  .next (finish s (rowWrite s src Ad.ACQ_CTRL (w32 (4 + b2n en))))

/-- INJ_START (R541). -/
def execInjStart (src : Src) (en : Bool) (s : State) : Host.Outcome State Fault Refusal :=
  .next (finish s (rowWrite s src Ad.ACQ_CTRL (w32 (8 + b2n en))))

/-- IADC_START (R552). -/
def execIadcStart (src : Src) (en : Bool) (s : State) : Host.Outcome State Fault Refusal :=
  .next (finish s (rowWrite s src Ad.ACQ_CTRL (w32 (256 + b2n en))))

/-- IADC_STOP (R552). -/
def execIadcStop (src : Src) (en : Bool) (s : State) : Host.Outcome State Fault Refusal :=
  .next (finish s (rowWrite s src Ad.ACQ_CTRL (w32 (512 + b2n en))))

/-- ATRIG_EDGE (R540). -/
def execAtrigEdge (n : Nat) (rising : Bool) (held : Nat) (s : State) : Host.Outcome State Fault Refusal :=
  .next (finish s (onIsl 32 (fun s => if held < 20 then s else acqTrig s (1 + n % 4) rising) s))

/-- ACQ_TIMER_TICK (R540). -/
def execAcqTimerTick (s : State) : Host.Outcome State Fault Refusal :=
  .next (finish s (onIsl 32 (fun s => acqTrig s 9 true) s))

/-- ACQ_ENTRY_START (R536). -/
def execAcqEntryStart (s : State) : Host.Outcome State Fault Refusal :=
  .next (finish s (onIsl 32 (fun s => acqEntryStart s) s))

/-- SAR_CONVERSION_DONE (R528). -/
def execSarConversionDone (sl : Nat) (uv : Int) (vref : Nat) (s : State) : Host.Outcome State Fault Refusal :=
  .next (finish s (onIsl 32 (fun s => sarDone s sl uv vref) s))

/-- IADC_INTEGRATION_DONE (R550). -/
def execIadcIntegrationDone (nv : Int) (vref : Nat) (left : Bool) (s : State) : Host.Outcome State Fault Refusal :=
  .next (finish s (onIsl 32 (fun s => iadcDone s nv vref left) s))

/-- LINE_SYNC_EDGE (R551). -/
def execLineSyncEdge (nv : Int) (vref : Nat) (left : Bool) (s : State) : Host.Outcome State Fault Refusal :=
  .next (finish s (onIsl 32 (fun s => lineEdge s nv vref left) s))

/-- LINE_SYNC_LOSS (R551). -/
def execLineSyncLoss (nv : Int) (vref : Nat) (left : Bool) (s : State) : Host.Outcome State Fault Refusal :=
  .next (finish s (onIsl 32 (fun s => lineLoss s nv vref left) s))

/-- CAL_SWAP (R554). -/
def execCalSwap (s : State) : Host.Outcome State Fault Refusal :=
  .next (finish s (onIsl 32 (fun s => calSwap s) s))

/-- CAL_DONE (R555). -/
def execCalDone (p : Nat) (found : Option (Int × Int)) (s : State) : Host.Outcome State Fault Refusal :=
  .next (finish s (onIsl 32 (fun s => calDone s p found) s))

/-- RING_FLUSH_TIMER (R546). -/
def execRingFlushTimer (n : Nat) (s : State) : Host.Outcome State Fault Refusal :=
  .next (finish s (onIsl 32 (fun s => ringFlush s n) s))

/-- RING_WRITE_ACK (R546). -/
def execRingWriteAck (n : Nat) (s : State) : Host.Outcome State Fault Refusal :=
  .next (finish s (onIsl 32 (fun s => ringAck s n) s))

/-- RING_RD_READ_RETURN (R547). -/
def execRingRdReadReturn (n : Nat) (s : State) : Host.Outcome State Fault Refusal :=
  .next (finish s (onIsl 32 (fun s => ringRd s n) s))

/-- ACQ_RING_ENABLE_WRITE (R565). -/
def execAcqRingEnableWrite (src : Src) (n : Nat) (w : Word) (s : State) : Host.Outcome State Fault Refusal :=
  .next (finish s (rowWrite s src (Ad.ACQ_BUF_CTRL (n % 9)) w))

/-- REF_OK_TIMER (R531). -/
def execRefOkTimer (s : State) : Host.Outcome State Fault Refusal :=
  .next (finish s (onIsl 32 (fun s => refTimer s) s))

/-- REFIN_OUT_OF_RANGE (R568). -/
def execRefinOutOfRange (s : State) : Host.Outcome State Fault Refusal :=
  .next (finish s (onIsl 32 (fun s => refinBad s) s))

/-- REFIN_RETURN (R568). -/
def execRefinReturn (s : State) : Host.Outcome State Fault Refusal :=
  .next (finish s (onIsl 32 (fun s => refinGood s) s))

end Sys2Proof.Machine
end

