-- ==== Sys2Proof/Machine/CheckRows.lean ====
section
/-!
DEFINITION. Machine/CheckRows.lean: the meanings of the commands of check units and counters (chapter 17).
-/
namespace Sys2Proof.Machine

/-- CVU_DATA_B (R631). -/
def execCvuDataB (src : Src) (n : Nat) (v : Byte) (s : State) : Host.Outcome State Fault Refusal :=
  .next (finish s (rowWrite s src (Ad.CVU_DATA_B (n % 8)) (w32 v.toNat)))

/-- CVU_DATA_H (R631). -/
def execCvuDataH (src : Src) (n : Nat) (v : BitVec 16) (s : State) : Host.Outcome State Fault Refusal :=
  .next (finish s (rowWrite s src (Ad.CVU_DATA_H (n % 8)) (w32 v.toNat)))

/-- CVU_DATA_W (R631). -/
def execCvuDataW (src : Src) (n : Nat) (v : Word) (s : State) : Host.Outcome State Fault Refusal :=
  .next (finish s (rowWrite s src (Ad.CVU_DATA_W (n % 8)) v))

/-- CVU_CLEAR (R633). -/
def execCvuClear (src : Src) (n : Nat) (en : Bool) (s : State) : Host.Outcome State Fault Refusal :=
  .next (finish s (rowWrite s src (Ad.CVU_CTRL (n % 8)) (w32 (2 + b2n en))))

/-- CVU_EN_WRITE (R633). -/
def execCvuEnWrite (src : Src) (n : Nat) (en : Bool) (s : State) : Host.Outcome State Fault Refusal :=
  .next (finish s (rowWrite s src (Ad.CVU_CTRL (n % 8)) (w32 (b2n en))))

/-- CVU_RESULT_READ (R635). -/
def execCvuResultRead (n : Nat) (s : State) : Host.Outcome State Fault Refusal :=
  .next (finish s (onIsl 3 (fun s => readFx s (Ad.CVU_RESULT (n % 8))) s))

/-- PCU_CNT_LO_READ (R640). -/
def execPcuCntLoRead (n : Nat) (s : State) : Host.Outcome State Fault Refusal :=
  .next (finish s (onIsl 3 (fun s => readFx s (Ad.PCU_CNT_LO (n % 32))) s))

/-- PCU_CNT_WRITE (R640). -/
def execPcuCntWrite (src : Src) (n : Nat) (hi : Bool) (w : Word) (s : State) : Host.Outcome State Fault Refusal :=
  .next (finish s (rowWrite s src (if hi then Ad.PCU_CNT_HI (n % 32) else Ad.PCU_CNT_LO (n % 32)) w))

/-- BW_WINDOW_END (R643). -/
def execBwWindowEnd (m : Nat) (s : State) : Host.Outcome State Fault Refusal :=
  .next (finish s (onIsl 3 (fun s => bwWindow s m) s))

/-- PCU_BW_CLEAR (R643). -/
def execPcuBwClear (src : Src) (m : Nat) (w : Word) (s : State) : Host.Outcome State Fault Refusal :=
  .next (finish s (rowWrite s src (Ad.PCU_BW_CFG (m % 16)) (setBit w 30 true)))

/-- TAGGED_ITEM_COMPLETE (R647). -/
def execTaggedItemComplete (ha : Bool) (flags : Nat) (d : List Nat) (s : State) : Host.Outcome State Fault Refusal :=
  .next (finish s (onIsl 3 (fun s => tagDone s ha flags d) s))

/-- PCU_SBUF_CLEAR (R647). -/
def execPcuSbufClear (src : Src) (s : State) : Host.Outcome State Fault Refusal :=
  .next (finish s (rowWrite s src Ad.PCU_SBUF_CTRL 1))

end Sys2Proof.Machine
end

