-- ==== Sys2Proof/Machine/ChiselRows.lean ====
section
/-!
DEFINITION. Machine/ChiselRows.lean: the meanings of the commands of Chisel (chapter 11).
-/
namespace Sys2Proof.Machine

/-- CX_HINIT (R434). -/
def execCxHinit (rd : Nat) (rs1 : Nat) (rs2 : Nat) (f3 : Nat) (s : State) : Host.Outcome State Fault Refusal :=
  .next (finish s (onIsl 29 (fun s => cxRow s .hinit rd rs1 rs2 f3) s))

/-- CX_HUPD (R434). -/
def execCxHupd (rd : Nat) (rs1 : Nat) (rs2 : Nat) (f3 : Nat) (s : State) : Host.Outcome State Fault Refusal :=
  .next (finish s (onIsl 29 (fun s => cxRow s .hupd rd rs1 rs2 f3) s))

/-- CX_HFIN (R434). -/
def execCxHfin (rd : Nat) (rs1 : Nat) (rs2 : Nat) (f3 : Nat) (s : State) : Host.Outcome State Fault Refusal :=
  .next (finish s (onIsl 29 (fun s => cxRow s .hfin rd rs1 rs2 f3) s))

/-- CX_GINIT (R417). -/
def execCxGinit (rd : Nat) (rs1 : Nat) (rs2 : Nat) (f3 : Nat) (s : State) : Host.Outcome State Fault Refusal :=
  .next (finish s (onIsl 29 (fun s => cxRow s .ginit rd rs1 rs2 f3) s))

/-- CX_GAAD (R417). -/
def execCxGaad (rd : Nat) (rs1 : Nat) (rs2 : Nat) (f3 : Nat) (s : State) : Host.Outcome State Fault Refusal :=
  .next (finish s (onIsl 29 (fun s => cxRow s .gaad rd rs1 rs2 f3) s))

/-- CX_GUPD (R434). -/
def execCxGupd (rd : Nat) (rs1 : Nat) (rs2 : Nat) (f3 : Nat) (s : State) : Host.Outcome State Fault Refusal :=
  .next (finish s (onIsl 29 (fun s => cxRow s .gupd rd rs1 rs2 f3) s))

/-- CX_GOUT (R432). -/
def execCxGout (rd : Nat) (rs1 : Nat) (rs2 : Nat) (f3 : Nat) (s : State) : Host.Outcome State Fault Refusal :=
  .next (finish s (onIsl 29 (fun s => cxRow s .gout rd rs1 rs2 f3) s))

/-- CX_GFIN (R432). -/
def execCxGfin (rd : Nat) (rs1 : Nat) (rs2 : Nat) (f3 : Nat) (s : State) : Host.Outcome State Fault Refusal :=
  .next (finish s (onIsl 29 (fun s => cxRow s .gfin rd rs1 rs2 f3) s))

/-- CX_VERIFY (R434). -/
def execCxVerify (rd : Nat) (rs1 : Nat) (rs2 : Nat) (f3 : Nat) (s : State) : Host.Outcome State Fault Refusal :=
  .next (finish s (onIsl 29 (fun s => cxRow s .verify rd rs1 rs2 f3) s))

/-- CX_KDF (R416). -/
def execCxKdf (rd : Nat) (rs1 : Nat) (rs2 : Nat) (f3 : Nat) (s : State) : Host.Outcome State Fault Refusal :=
  .next (finish s (onIsl 29 (fun s => cxRow s .kdf rd rs1 rs2 f3) s))

/-- CX_WAIT (R440). -/
def execCxWait (rd : Nat) (rs1 : Nat) (rs2 : Nat) (f3 : Nat) (s : State) : Host.Outcome State Fault Refusal :=
  .next (finish s (onIsl 29 (fun s => cxRow s .wait rd rs1 rs2 f3) s))

/-- CX_POLL (R429). -/
def execCxPoll (rd : Nat) (rs1 : Nat) (rs2 : Nat) (f3 : Nat) (s : State) : Host.Outcome State Fault Refusal :=
  .next (finish s (onIsl 29 (fun s => cxRow s .poll rd rs1 rs2 f3) s))

/-- CX_CRD (R422). -/
def execCxCrd (rd : Nat) (rs1 : Nat) (rs2 : Nat) (f3 : Nat) (s : State) : Host.Outcome State Fault Refusal :=
  .next (finish s (onIsl 29 (fun s => cxRow s .crd rd rs1 rs2 f3) s))

/-- CX_SIGN (R419). -/
def execCxSign (rd : Nat) (rs1 : Nat) (rs2 : Nat) (f3 : Nat) (s : State) : Host.Outcome State Fault Refusal :=
  .next (finish s (onIsl 29 (fun s => cxRow s .sign rd rs1 rs2 f3) s))

/-- CX_KSET (R420). -/
def execCxKset (rd : Nat) (rs1 : Nat) (rs2 : Nat) (f3 : Nat) (s : State) : Host.Outcome State Fault Refusal :=
  .next (finish s (onIsl 29 (fun s => cxRow s .kset rd rs1 rs2 f3) s))

/-- CX_KCLR (R446). -/
def execCxKclr (rd : Nat) (rs1 : Nat) (rs2 : Nat) (f3 : Nat) (s : State) : Host.Outcome State Fault Refusal :=
  .next (finish s (onIsl 29 (fun s => cxRow s .kclr rd rs1 rs2 f3) s))

/-- CX_CINC (R422). -/
def execCxCinc (rd : Nat) (rs1 : Nat) (rs2 : Nat) (f3 : Nat) (s : State) : Host.Outcome State Fault Refusal :=
  .next (finish s (onIsl 29 (fun s => cxRow s .cinc rd rs1 rs2 f3) s))

/-- CX_CARVE (R438). -/
def execCxCarve (rd : Nat) (rs1 : Nat) (rs2 : Nat) (f3 : Nat) (s : State) : Host.Outcome State Fault Refusal :=
  .next (finish s (onIsl 29 (fun s => cxRow s .carve rd rs1 rs2 f3) s))

/-- CX_ABORT (R441). -/
def execCxAbort (rd : Nat) (rs1 : Nat) (rs2 : Nat) (f3 : Nat) (s : State) : Host.Outcome State Fault Refusal :=
  .next (finish s (onIsl 29 (fun s => cxRow s .abort rd rs1 rs2 f3) s))

/-- CX_OPERATION_START (R428). -/
def execCxOperationStart (no : Nat) (keyBad : Bool) (ctxUe : Bool) (s : State) : Host.Outcome State Fault Refusal :=
  .next (finish s (onIsl 30 (fun s => cxStart s no keyBad ctxUe) s))

/-- CX_OPERATION_COMPLETE (R429). -/
def execCxOperationComplete (no : Nat) (lockBad : Bool) (s : State) : Host.Outcome State Fault Refusal :=
  .next (finish s (onIsl 30 (fun s => cxComplete s no lockBad) s))

/-- CARVE_SIGN_DONE (R438). -/
def execCarveSignDone (lockBad : Bool) (s : State) : Host.Outcome State Fault Refusal :=
  .next (finish s (onIsl 30 (fun s => carveSigned s lockBad) s))

/-- CARVE_PROGRAM_DONE (R438). -/
def execCarveProgramDone (code : Nat) (s : State) : Host.Outcome State Fault Refusal :=
  .next (finish s (onIsl 31 (fun s => carveDone s code) s))

/-- CARVE_PROGRAM_TIMEOUT (R504). -/
def execCarveProgramTimeout (s : State) : Host.Outcome State Fault Refusal :=
  .next (finish s (onIsl 31 (fun s => carveDone s 0x12) s))

end Sys2Proof.Machine
end

