-- ==== Sys2Proof/Machine/CoreRows.lean ====
section
/-!
DEFINITION. Machine/CoreRows.lean: the meanings of the commands of the record core (chapter 10).
-/
namespace Sys2Proof.Machine

/-- RV_ALU (R377). -/
def execRvAlu (op : RvAlu) (c : Bool) (miss : Option Squash) (s : State) : Host.Outcome State Fault Refusal :=
  .next (finish s (onIsl 29 (fun s => rvAlu s op c miss) s))

/-- RV_MUL_DIV (R378). -/
def execRvMulDiv (f : MulFn) (rd : Nat) (rs1 : Nat) (rs2 : Nat) (s : State) : Host.Outcome State Fault Refusal :=
  .next (finish s (onIsl 29 (fun s => rvMulDiv s f rd rs1 rs2) s))

/-- ILLEGAL_INSTRUCTION (R377). -/
def execIllegalInstruction (bits : Word) (s : State) : Host.Outcome State Fault Refusal :=
  .next (finish s (onIsl 29 (fun s => rvIllegal s bits) s))

/-- INSTRUCTION_ACCESS_FAULT (R380). -/
def execInstructionAccessFault (f : FetchSite) (s : State) : Host.Outcome State Fault Refusal :=
  .next (finish s (onIsl 29 (fun s => rvRun s (.fetch f.wide f.ecc)) s))

/-- RV_LOAD (R380). -/
def execRvLoad (w : Nat) (signed : Bool) (rd : Nat) (rs1 : Nat) (imm : Int) (c : Bool) (ecc : Nat) (s : State) : Host.Outcome State Fault Refusal :=
  .next (finish s (onIsl 29 (fun s => rvRun s (.load w signed rd rs1 imm c ecc)) s))

/-- RV_STORE (R387). -/
def execRvStore (w : Nat) (rs1 : Nat) (rs2 : Nat) (imm : Int) (c : Bool) (s : State) : Host.Outcome State Fault Refusal :=
  .next (finish s (onIsl 29 (fun s => rvRun s (.store w rs1 rs2 imm c)) s))

/-- LR (R394). -/
def execLr (rd : Nat) (rs1 : Nat) (ecc : Nat) (s : State) : Host.Outcome State Fault Refusal :=
  .next (finish s (onIsl 29 (fun s => rvRun s (.lr rd rs1 ecc)) s))

/-- SC (R394). -/
def execSc (rd : Nat) (rs1 : Nat) (rs2 : Nat) (spurious : Bool) (s : State) : Host.Outcome State Fault Refusal :=
  .next (finish s (onIsl 29 (fun s => rvRun s (.sc rd rs1 rs2 spurious)) s))

/-- AMO (R393). -/
def execAmo (f : AmoFn) (rd : Nat) (rs1 : Nat) (rs2 : Nat) (ecc : Nat) (s : State) : Host.Outcome State Fault Refusal :=
  .next (finish s (onIsl 29 (fun s => rvRun s (.amo f rd rs1 rs2 ecc)) s))

/-- FENCE (R388). -/
def execFence (s : State) : Host.Outcome State Fault Refusal :=
  .next (finish s (onIsl 29 (fun s => rvRun s .fence) s))

/-- FENCE_I (R392). -/
def execFenceI (s : State) : Host.Outcome State Fault Refusal :=
  .next (finish s (onIsl 29 (fun s => rvRun s .fenceI) s))

/-- CSR_ACCESS (R379). -/
def execCsrAccess (f : CsrFn) (imm : Bool) (n : Nat) (rd : Nat) (src : Nat) (s : State) : Host.Outcome State Fault Refusal :=
  .next (finish s (onIsl 29 (fun s => rvCsr s f imm n rd src) s))

/-- ECALL (R398). -/
def execEcall (s : State) : Host.Outcome State Fault Refusal :=
  .next (finish s (onIsl 29 (fun s => rvEcall s) s))

/-- EBREAK (R398). -/
def execEbreak (s : State) : Host.Outcome State Fault Refusal :=
  .next (finish s (onIsl 29 (fun s => rvEbreak s) s))

/-- MRET (R388). -/
def execMret (s : State) : Host.Outcome State Fault Refusal :=
  .next (finish s (onIsl 29 (fun s => rvMret s) s))

/-- WFI (R407). -/
def execWfi (s : State) : Host.Outcome State Fault Refusal :=
  .next (finish s (onIsl 29 (fun s => rvWfi s) s))

/-- INTERRUPT_TAKEN (R398). -/
def execInterruptTaken (sq : Squash) (s : State) : Host.Outcome State Fault Refusal :=
  .next (finish s (onIsl 29 (fun s => rvInterrupt s sq) s))

/-- STORE_BUFFER_DRAIN (R388). -/
def execStoreBufferDrain (k : Nat) (s : State) : Host.Outcome State Fault Refusal :=
  .next (finish s (onIsl 29 (fun s => sbDrainCmd s k) s))

/-- LOAD_FILL_RETURN (R412). -/
def execLoadFillReturn (s : State) : Host.Outcome State Fault Refusal :=
  .next (finish s (onIsl 29 (fun s => loadFillReturn s) s))

/-- LR_RESERVATION_EXPIRY (R394). -/
def execLrReservationExpiry (s : State) : Host.Outcome State Fault Refusal :=
  .next (finish s (onIsl 29 (fun s => resvPassed s) s))

/-- LR_SNOOP_HOLD_EXPIRY (R395). -/
def execLrSnoopHoldExpiry (s : State) : Host.Outcome State Fault Refusal :=
  .next (finish s (onIsl 29 (fun s => holdExpiry s) s))

/-- TIMECMP_MATCH (R409). -/
def execTimecmpMatch (s : State) : Host.Outcome State Fault Refusal :=
  .next (finish s (onIsl 29 (fun s => timecmpMatch s) s))

/-- DFLUSH (R411). -/
def execDflush (src : Src) (s : State) : Host.Outcome State Fault Refusal :=
  .next (finish s (rowWrite s src Ad.RCC_CACHE_CMD 1))

/-- DFLUSH_DONE (R411). -/
def execDflushDone (s : State) : Host.Outcome State Fault Refusal :=
  .next (finish s (onIsl 29 (fun s => dflushDone s) s))

/-- IINV (R392). -/
def execIinv (src : Src) (s : State) : Host.Outcome State Fault Refusal :=
  .next (finish s (rowWrite s src Ad.RCC_CACHE_CMD 2))

/-- RGN_LOCK_WRITE (R410). -/
def execRgnLockWrite (src : Src) (order : Bool) (s : State) : Host.Outcome State Fault Refusal :=
  .next (finish s (onIsl 29 (fun s => orderWrite s src (w32 (2 + b2n order))) s))

/-- ORDER_WRITE (R390). -/
def execOrderWrite (src : Src) (order : Bool) (lock : Bool) (s : State) : Host.Outcome State Fault Refusal :=
  .next (finish s (onIsl 29 (fun s => orderWrite s src (w32 (b2n order + 2 * b2n lock))) s))

/-- BOOT_IMAGE_CHECK (R402). -/
def execBootImageCheck (readOk : Bool) (s : State) : Host.Outcome State Fault Refusal :=
  .next (finish s (onIsl 29 (fun s => bootCheck s readOk) s))

/-- RETRY (R404). -/
def execRetry (src : Src) (spi : Bool) (s : State) : Host.Outcome State Fault Refusal :=
  .next (finish s (rowWrite s src Ad.RCC_BOOT_CTRL (w32 (1 + 2 * b2n spi))))

/-- BOOT_OFFER_REENTER (R403). -/
def execBootOfferReenter (s : State) : Host.Outcome State Fault Refusal :=
  .next (finish s (onIsl 31 (fun s => bootReenter s) s))

end Sys2Proof.Machine
end

