-- ==== Sys2Proof/Machine/DacRows.lean ====
section
/-!
DEFINITION. Machine/DacRows.lean: the meanings of the commands of the DAC (chapter 15).
-/
namespace Sys2Proof.Machine

/-- DAC_DATA_WRITE (R573). -/
def execDacDataWrite (src : Src) (n : Nat) (w : Word) (s : State) : Host.Outcome State Fault Refusal :=
  .next (finish s (rowWrite s src (Ad.DAC_DATA (n % 16)) w))

/-- DAC_LD_N_EDGE (R574). -/
def execDacLdNEdge (high : Nat) (low : Nat) (s : State) : Host.Outcome State Fault Refusal :=
  .next (finish s (onIsl 32 (fun s => if high < 20 ∨ low < 20 then s else groupLoad s 1 none) s))

/-- DAC_RELEASE (R580). -/
def execDacRelease (src : Src) (mask : Nat) (s : State) : Host.Outcome State Fault Refusal :=
  .next (finish s (rowWrite s src Ad.DAC_CMD (w32 (mask % 65536))))

/-- PROG (R582). -/
def execProg (src : Src) (ch : Nat) (s : State) : Host.Outcome State Fault Refusal :=
  .next (finish s (rowWrite s src Ad.DAC_MTP_CMD (w32 (1 + 256 * (ch % 16)))))

/-- DAC_MTP_DONE (R582). -/
def execDacMtpDone (ok : Bool) (s : State) : Host.Outcome State Fault Refusal :=
  .next (finish s (onIsl 32 (fun s => dacProgDone s ok) s))

/-- DAC_CURRENT_LIMIT (R592). -/
def execDacCurrentLimit (n : Nat) (on : Bool) (s : State) : Host.Outcome State Fault Refusal :=
  .next (finish s (onIsl 32 (fun s => dacLimit s n on) s))

end Sys2Proof.Machine
end

