-- ==== Sys2Proof/Machine/DramRows.lean ====
section
/-!
DEFINITION. Machine/DramRows.lean: the meanings of the commands of passes and DRAM (chapter 9).
-/
namespace Sys2Proof.Machine

/-- GRANT (R357). -/
def execGrant (src : Src) (pass : Nat) (s : State) : Host.Outcome State Fault Refusal :=
  .next (finish s (rowWrite s src Ad.PAS_CMD (pasWord 1 pass)))

/-- MODIFY (R357). -/
def execModify (src : Src) (pass : Nat) (s : State) : Host.Outcome State Fault Refusal :=
  .next (finish s (rowWrite s src Ad.PAS_CMD (pasWord 2 pass)))

/-- REVOKE (R370). -/
def execRevoke (src : Src) (pass : Nat) (s : State) : Host.Outcome State Fault Refusal :=
  .next (finish s (rowWrite s src Ad.PAS_CMD (pasWord 3 pass)))

/-- PAS_BAD_OP (R357). -/
def execPasBadOp (src : Src) (op : Nat) (pass : Nat) (s : State) : Host.Outcome State Fault Refusal :=
  .next (finish s (rowWrite s src Ad.PAS_CMD (pasWord op pass)))

/-- TRAIN (R341). -/
def execTrain (src : Src) (c : Nat) (s : State) : Host.Outcome State Fault Refusal :=
  .next (finish s (rowWrite s src (Ad.DRC_CTRL (c % 8)) 1))

/-- DRC_TRAIN_DONE (R341). -/
def execDrcTrainDone (c : Nat) (ok : Bool) (mib : Nat) (s : State) : Host.Outcome State Fault Refusal :=
  .next (finish s (onChan c (fun s => drcTrainDone s c ok mib) s))

/-- MR4_POLL (R348). -/
def execMr4Poll (c : Nat) (rate : Nat) (hot : Bool) (s : State) : Host.Outcome State Fault Refusal :=
  .next (finish s (onChan c (fun s => drcPoll s c rate hot) s))

/-- REFRESH_DUE (R348). -/
def execRefreshDue (c : Nat) (s : State) : Host.Outcome State Fault Refusal :=
  .next (finish s (onChan c (fun s => drcRefreshDue s c) s))

/-- DRC_COMMAND_ISSUE (R358). -/
def execDrcCommandIssue (c : Nat) (must : Bool) (s : State) : Host.Outcome State Fault Refusal :=
  .next (finish s (onChan c (fun s => drcIssue s c must) s))

/-- PATROL_SCRUB (R346). -/
def execPatrolScrub (c : Nat) (err : Nat) (s : State) : Host.Outcome State Fault Refusal :=
  .next (finish s (onChan c (fun s => drcPatrol s c err) s))

/-- CORRECTIVE_WRITE (R345). -/
def execCorrectiveWrite (c : Nat) (s : State) : Host.Outcome State Fault Refusal :=
  .next (finish s (onChan c (fun s => drcCorrect s c) s))

/-- CE_WINDOW_EXPIRY (R347). -/
def execCeWindowExpiry (c : Nat) (s : State) : Host.Outcome State Fault Refusal :=
  .next (finish s (onChan c (fun s => drcWindowEnd s c) s))

/-- ACCEL (R347). -/
def execAccel (src : Src) (c : Nat) (w : Word) (s : State) : Host.Outcome State Fault Refusal :=
  .next (finish s (rowWrite s src (Ad.DRC_SCRUB (c % 8)) (setBit w 8 true)))

/-- ACCEL_SCRUB_END (R347). -/
def execAccelScrubEnd (c : Nat) (s : State) : Host.Outcome State Fault Refusal :=
  .next (finish s (onChan c (fun s => drcAccelEnd s c) s))

/-- DRC_RECALIBRATION (R374). -/
def execDrcRecalibration (c : Nat) (ok : Bool) (s : State) : Host.Outcome State Fault Refusal :=
  .next (finish s (onChan c (fun s => drcRecal s c ok) s))

end Sys2Proof.Machine
end

