-- ==== Sys2Proof/Machine/EventRows.lean ====
section
/-!
DEFINITION. Machine/EventRows.lean: the meanings of the commands of events and faults (chapters 18 and 19).
-/
namespace Sys2Proof.Machine

/-- EVC_PEND_WRITE (R662). -/
def execEvcPendWrite (src : Src) (k : Nat) (w : Word) (s : State) : Host.Outcome State Fault Refusal :=
  .next (finish s (rowWrite s src (Ad.EVC_PEND (k % 8)) w))

/-- EVC_PCLR (R668). -/
def execEvcPclr (src : Src) (k : Nat) (w : Word) (s : State) : Host.Outcome State Fault Refusal :=
  .next (finish s (rowWrite s src (Ad.EVC_PCLR (k % 8)) w))

/-- EVC_PSET (R662). -/
def execEvcPset (src : Src) (k : Nat) (w : Word) (s : State) : Host.Outcome State Fault Refusal :=
  .next (finish s (rowWrite s src (Ad.EVC_PSET (k % 8)) w))

/-- EVC_MASK_MK_WRITE (R668). -/
def execEvcMaskMkWrite (src : Src) (k : Nat) (hi : Bool) (w : Word) (s : State) : Host.Outcome State Fault Refusal :=
  .next (finish s (rowWrite s src (0xC00060 + 8 * (k % 8) + 4 * b2n hi) w))

/-- EVENT (R667). -/
def execEvent (p : Nat) (agent : Nat) (s : State) : Host.Outcome State Fault Refusal :=
  .next (finish s (onPort p (fun s => msgIn s p (.other 0x32 5 agent 0)) s))

/-- ESC_CLEAR (R690). -/
def execEscClear (src : Src) (s : State) : Host.Outcome State Fault Refusal :=
  .next (finish s (rowWrite s src Ad.FLT_CTRL 1))

/-- ESC_FORCE (R677). -/
def execEscForce (src : Src) (s : State) : Host.Outcome State Fault Refusal :=
  .next (finish s (rowWrite s src Ad.FLT_CTRL 2))

/-- FLT_RELEASE (R682). -/
def execFltRelease (src : Src) (hi : Bool) (mask : Word) (s : State) : Host.Outcome State Fault Refusal :=
  .next (finish s (rowWrite s src (if hi then Ad.FLT_RELEASE_1 else Ad.FLT_RELEASE_0) mask))

/-- FLT_RAISED_CLEAR (R689). -/
def execFltRaisedClear (src : Src) (hi : Bool) (w : Word) (s : State) : Host.Outcome State Fault Refusal :=
  .next (finish s (rowWrite s src (if hi then Ad.FLT_RAISED_1 else Ad.FLT_RAISED_0) w))

end Sys2Proof.Machine
end

