-- ==== Sys2Proof/Machine/EvidenceRows.lean ====
section
/-!
DEFINITION. Machine/EvidenceRows.lean: the meanings of the commands of the evidence store (chapter 13).
-/
namespace Sys2Proof.Machine

/-- DOORBELL_SUBMIT (R494). -/
def execDoorbellSubmit (p : Nat) (m : DoorMsg) (s : State) : Host.Outcome State Fault Refusal :=
  .next (finish s (onPort p (fun s => msgIn s p (.door { m with kind := 0 })) s))

/-- SUBMIT_PAYLOAD_READ_DONE (R494). -/
def execSubmitPayloadReadDone (idx : Nat) (s : State) : Host.Outcome State Fault Refusal :=
  .next (finish s (onIsl 31 (fun s => submitRead idx s) s))

/-- RECEIPT_WRITE_ACK (R495). -/
def execReceiptWriteAck (rid : Nat) (s : State) : Host.Outcome State Fault Refusal :=
  .next (finish s (onIsl 31 (fun s => receiptWriteAck rid s) s))

/-- DOORBELL_EXPORT (R513). -/
def execDoorbellExport (p : Nat) (m : DoorMsg) (s : State) : Host.Outcome State Fault Refusal :=
  .next (finish s (onPort p (fun s => msgIn s p (.door { m with kind := 1 })) s))

/-- EXPORT_WRITE_ACK (R513). -/
def execExportWriteAck (reg : Nat) (k : Nat) (s : State) : Host.Outcome State Fault Refusal :=
  .next (finish s (onIsl 31 (fun s => exportWriteAck reg k s) s))

/-- DOORBELL_ACK (R514). -/
def execDoorbellAck (p : Nat) (m : DoorMsg) (s : State) : Host.Outcome State Fault Refusal :=
  .next (finish s (onPort p (fun s => msgIn s p (.door { m with kind := 2 })) s))

/-- DOORBELL_UNDEFINED_KIND (R494). -/
def execDoorbellUndefinedKind (p : Nat) (m : DoorMsg) (s : State) : Host.Outcome State Fault Refusal :=
  .next (finish s (onPort p (fun s => msgIn s p (.door m)) s))

/-- DROP (R502). -/
def execDrop (src : Src) (status : Byte) (s : State) : Host.Outcome State Fault Refusal :=
  .next (finish s (rowWrite s src Ad.EVS_CMD (w32 (1 + 256 * status.toNat))))

/-- EVS_GENESIS (R712). -/
def execEvsGenesis (src : Src) (s : State) : Host.Outcome State Fault Refusal :=
  .next (finish s (rowWrite s src Ad.EVS_GENESIS 1))

/-- EVS_REC_CTRL_WRITE (R493). -/
def execEvsRecCtrlWrite (src : Src) (n : Nat) (w : Word) (s : State) : Host.Outcome State Fault Refusal :=
  .next (finish s (rowWrite s src (Ad.EVS_REC_CTRL (n % 4)) w))

/-- SCAN_COMPLETE (R515). -/
def execScanComplete (s : State) : Host.Outcome State Fault Refusal :=
  .next (finish s (onIsl 31 (fun s => scanComplete s) s))

/-- ERASE_EVALUATION (R522). -/
def execEraseEvaluation (s : State) : Host.Outcome State Fault Refusal :=
  .next (finish s (onIsl 31 (fun s => eraseEval s) s))

/-- SECTOR_ERASE_DONE (R525). -/
def execSectorEraseDone (ok : Bool) (s : State) : Host.Outcome State Fault Refusal :=
  .next (finish s (onIsl 31 (fun s => eraseDone ok s) s))

/-- EVS_X_READ (R526). -/
def execEvsXRead (src : Src) (len : Byte) (cs : Bool) (s : State) : Host.Outcome State Fault Refusal :=
  .next (finish s (rowWrite s src Ad.EVS_X_CTRL (evsXWord 1 len cs)))

/-- EVS_X_PROGRAM (R526). -/
def execEvsXProgram (src : Src) (len : Byte) (cs : Bool) (s : State) : Host.Outcome State Fault Refusal :=
  .next (finish s (rowWrite s src Ad.EVS_X_CTRL (evsXWord 2 len cs)))

/-- EVS_X_ERASE (R526). -/
def execEvsXErase (src : Src) (len : Byte) (cs : Bool) (s : State) : Host.Outcome State Fault Refusal :=
  .next (finish s (rowWrite s src Ad.EVS_X_CTRL (evsXWord 3 len cs)))

/-- EVS_X_DONE (R526). -/
def execEvsXDone (ok : Bool) (s : State) : Host.Outcome State Fault Refusal :=
  .next (finish s (onIsl 31 (fun s => evsXDone ok s) s))

/-- FAULT_REOFFER (R501). -/
def execFaultReoffer (s : State) : Host.Outcome State Fault Refusal :=
  .next (finish s (onIsl 1 (fun s => fltReoffer s) s))

end Sys2Proof.Machine
end

