-- ==== Sys2Proof/Machine/FrameRows.lean ====
section
/-!
DEFINITION. Machine/FrameRows.lean: the meanings of the commands of control port frames (chapter 3).
-/
namespace Sys2Proof.Machine

/-- CP_FRAME_RD (R91). -/
def execCpFrameRd (tag : Nat) (len : Nat) (addr : Nat) (ccrc : Byte) (late : Bool) (s : State) : Host.Outcome State Fault Refusal :=
  .next (finish s (cpFrame s 1 tag len addr [] ccrc late))

/-- CP_FRAME_WR (R95). -/
def execCpFrameWr (tag : Nat) (len : Nat) (addr : Nat) (words : List Word) (ccrc : Byte) (late : Bool) (s : State) : Host.Outcome State Fault Refusal :=
  .next (finish s (cpFrame s 2 tag len addr words ccrc late))

/-- CP_FRAME_NOP (R94). -/
def execCpFrameNop (tag : Nat) (len : Nat) (addr : Nat) (ccrc : Byte) (late : Bool) (s : State) : Host.Outcome State Fault Refusal :=
  .next (finish s (cpFrame s 3 tag len addr [] ccrc late))

/-- CP_FRAME_UNDEFINED_OP (R86). -/
def execCpFrameUndefinedOp (opc : Nat) (tag : Nat) (len : Nat) (addr : Nat) (ccrc : Byte) (late : Bool) (s : State) : Host.Outcome State Fault Refusal :=
  .next (finish s (cpFrame s opc tag len addr [] ccrc late))

/-- CP_CS_EARLY_RISE (R92). -/
def execCpCsEarlyRise (s : State) : Host.Outcome State Fault Refusal :=
  .next (finish s (cpEarly s))

/-- CP_CS_LATE_RISE (R92). -/
def execCpCsLateRise (opc : Nat) (tag : Nat) (len : Nat) (addr : Nat) (words : List Word) (ccrc : Byte) (s : State) : Host.Outcome State Fault Refusal :=
  .next (finish s (cpLate s opc tag len addr words ccrc))

/-- CP_STALL_EXPIRY (R97). -/
def execCpStallExpiry (between : Bool) (s : State) : Host.Outcome State Fault Refusal :=
  .next (finish s (onIsl 2 (fun s => cpStall s between) s))

/-- CP_PENDING_ACCESS_DONE (R97). -/
def execCpPendingAccessDone (s : State) : Host.Outcome State Fault Refusal :=
  .next (finish s (onIsl 2 (fun s => cpPendDone s) s))

/-- CP_STALL_FAULT_TIMEOUT (R118). -/
def execCpStallFaultTimeout (s : State) : Host.Outcome State Fault Refusal :=
  .next (finish s (onIsl 2 (fun s => cpStallFault s) s))

end Sys2Proof.Machine
end

