-- ==== Sys2Proof/Machine/HomeRows.lean ====
section
/-!
DEFINITION. Machine/HomeRows.lean: the meanings of the commands of the home agent (chapters 6 and 7).
-/
namespace Sys2Proof.Machine

/-- TRACKER_ALLOCATE (R273). -/
def execTrackerAllocate (s : State) : Host.Outcome State Fault Refusal :=
  .next (finish s (onIsl 3 (fun s => haAllocate s) s))

/-- TRANSLATION_WALK_DONE (R303). -/
def execTranslationWalkDone (key : Nat) (ue : Nat) (s : State) : Host.Outcome State Fault Refusal :=
  .next (finish s (onIsl 4 (fun s => walkDone s key ue) s))

/-- LINE_ACTIVATE (R211). -/
def execLineActivate (tenant : Nat) (line : Nat) (err : Nat) (s : State) : Host.Outcome State Fault Refusal :=
  .next (finish s (onIsl 3 (fun s => lineActivate s tenant line err) s))

/-- COMPACK_TIMEOUT (R214). -/
def execCompackTimeout (htid : Nat) (s : State) : Host.Outcome State Fault Refusal :=
  .next (finish s (onIsl 3 (fun s => compTimeout s htid) s))

/-- DRAM_READ_RETURN (R228). -/
def execDramReadReturn (htid : Nat) (err : Nat) (s : State) : Host.Outcome State Fault Refusal :=
  .next (finish s (onIsl 3 (fun s => dramReturn s htid err) s))

/-- SNOOP_DEADLINE_EXPIRY (R244). (DESIGN CHOICE, log 6.) -/
def execSnoopDeadlineExpiry (sid : Nat) (a : Nat) (s : State) : Host.Outcome State Fault Refusal :=
  .next (finish s (onIsl 3 (fun s => snoopExpiry s sid a) s))

/-- POISON_SWEEP_DONE (R245). -/
def execPoisonSweepDone (a : Nat) (s : State) : Host.Outcome State Fault Refusal :=
  .next (finish s (onIsl 3 (fun s => poisonSweepDone s a) s))

/-- DETACH_SWEEP_DONE (R243). -/
def execDetachSweepDone (p : Nat) (mask : Nat) (s : State) : Host.Outcome State Fault Refusal :=
  .next (finish s (onIsl 3 (fun s => detachSweepDone s p mask) s))

/-- RESERVATION_EXPIRY (R225). -/
def execReservationExpiry (a : Nat) (s : State) : Host.Outcome State Fault Refusal :=
  .next (finish s (onIsl 3 (fun s => resvExpiry s a) s))

/-- BACK_INVALIDATION_DONE (R234). -/
def execBackInvalidationDone (sid : Nat) (s : State) : Host.Outcome State Fault Refusal :=
  .next (finish s (onIsl 3 (fun s => binvDone s sid) s))

/-- EVB_ENTRY_FREE (R233). -/
def execEvbEntryFree (s : State) : Host.Outcome State Fault Refusal :=
  .next (finish s (onIsl 3 (fun s => evbFree s) s))

/-- HA_POISON_LAST_READ (R293). -/
def execHaPoisonLastRead (s : State) : Host.Outcome State Fault Refusal :=
  .next (finish s (onIsl 3 (fun s => readFx s Ad.HA_POISON_LAST_0) s))

end Sys2Proof.Machine
end

