-- ==== Sys2Proof/Machine/LatheRows.lean ====
section
/-!
DEFINITION. Machine/LatheRows.lean: the meanings of the commands of the Lathes (chapter 16).
-/
namespace Sys2Proof.Machine

/-- START (R611). -/
def execStart (src : Src) (n : Nat) (s : State) : Host.Outcome State Fault Refusal :=
  .next (finish s (rowWrite s src (Ad.LTH_CTRL (n % 4)) 1))

/-- STOP (R620). -/
def execStop (src : Src) (n : Nat) (s : State) : Host.Outcome State Fault Refusal :=
  .next (finish s (rowWrite s src (Ad.LTH_CTRL (n % 4)) 2))

/-- ABORT (R617). -/
def execAbort (src : Src) (n : Nat) (s : State) : Host.Outcome State Fault Refusal :=
  .next (finish s (rowWrite s src (Ad.LTH_CTRL (n % 4)) 4))

/-- LTH_CLEAR (R618). -/
def execLthClear (src : Src) (n : Nat) (s : State) : Host.Outcome State Fault Refusal :=
  .next (finish s (rowWrite s src (Ad.LTH_CTRL (n % 4)) 8))

/-- LTH_MEASURE_START (R599). -/
def execLthMeasureStart (n : Nat) (s : State) : Host.Outcome State Fault Refusal :=
  .next (finish s (onIsl 32 (fun s => measureStart s n) s))

/-- LTH_DWELL_END (R599). -/
def execLthDwellEnd (n : Nat) (s : State) : Host.Outcome State Fault Refusal :=
  .next (finish s (onIsl 32 (fun s => dwellEnd s n) s))

/-- RANGE_STEP_END (R608). -/
def execRangeStepEnd (n : Nat) (s : State) : Host.Outcome State Fault Refusal :=
  .next (finish s (onIsl 32 (fun s => stepEnd s n) s))

/-- LIST_FETCH_RETURN (R602). -/
def execListFetchReturn (n : Nat) (s : State) : Host.Outcome State Fault Refusal :=
  .next (finish s (onIsl 32 (fun s => fetchReturn s n) s))

/-- LIST_UNDERRUN_TIMEOUT (R602). -/
def execListUnderrunTimeout (n : Nat) (s : State) : Host.Outcome State Fault Refusal :=
  .next (finish s (onIsl 32 (fun s => underrun s n) s))

/-- LTH_RESULT_WRITE_ACK (R604). -/
def execLthResultWriteAck (n : Nat) (s : State) : Host.Outcome State Fault Refusal :=
  .next (finish s (onIsl 32 (fun s => resAck s n) s))

/-- LTH_ANALOG_TRIP (R614). -/
def execLthAnalogTrip (n : Nat) (held : Nat) (s : State) : Host.Outcome State Fault Refusal :=
  .next (finish s (onIsl 32 (fun s => if held < 40 then s else analogTrip s n) s))

end Sys2Proof.Machine
end

