-- ==== Sys2Proof/Machine/OtpRows.lean ====
section
/-!
DEFINITION. Machine/OtpRows.lean: the meanings of the commands of OTP (chapter 20).
-/
namespace Sys2Proof.Machine

/-- PROGRAM (R706). -/
def execProgram (src : Src) (row : Byte) (s : State) : Host.Outcome State Fault Refusal :=
  .next (finish s (rowWrite s src Ad.OTP_CMD (w32 (1 + 65536 * row.toNat))))

/-- KEYGEN (R710). -/
def execKeygen (src : Src) (row : Byte) (s : State) : Host.Outcome State Fault Refusal :=
  .next (finish s (rowWrite s src Ad.OTP_CMD (w32 (2 + 65536 * row.toNat))))

/-- SEAL (R708). -/
def execSealOtp (src : Src) (row : Byte) (s : State) : Host.Outcome State Fault Refusal :=
  .next (finish s (rowWrite s src Ad.OTP_CMD (w32 (3 + 65536 * row.toNat))))

/-- RAISE_SVN (R709). -/
def execRaiseSvn (src : Src) (row : Byte) (s : State) : Host.Outcome State Fault Refusal :=
  .next (finish s (rowWrite s src Ad.OTP_CMD (w32 (4 + 65536 * row.toNat))))

/-- REVOKE_FWKEY (R705). -/
def execRevokeFwkey (src : Src) (row : Byte) (s : State) : Host.Outcome State Fault Refusal :=
  .next (finish s (rowWrite s src Ad.OTP_CMD (w32 (5 + 65536 * row.toNat))))

/-- OTP_BAD_OP (R705). -/
def execOtpBadOp (src : Src) (op : Byte) (row : Byte) (s : State) : Host.Outcome State Fault Refusal :=
  .next (finish s (rowWrite s src Ad.OTP_CMD (w32 (op.toNat + 65536 * row.toNat))))

/-- OTP_COMMAND_DONE (R705). -/
def execOtpCommandDone (ok : Bool) (s : State) : Host.Outcome State Fault Refusal :=
  .next (finish s (onIsl 1 (fun s => otpDone s ok) s))

end Sys2Proof.Machine
end

