-- ==== Sys2Proof/Machine/PortRows.lean ====
section
/-!
DEFINITION. Machine/PortRows.lean: the meanings of the commands of Seodex ports (chapter 5).
-/
namespace Sys2Proof.Machine

/-- PORT_SIGNAL_DETECT (R183). -/
def execPortSignalDetect (p : Nat) (s : State) : Host.Outcome State Fault Refusal :=
  .next (finish s (onPort p (fun s => signalDetect s p) s))

/-- EQUALIZE_DONE (R183). -/
def execEqualizeDone (p : Nat) (s : State) : Host.Outcome State Fault Refusal :=
  .next (finish s (onPort p (fun s => equalizeDone s p) s))

/-- EQUALIZE_TIMEOUT (R183). -/
def execEqualizeTimeout (p : Nat) (s : State) : Host.Outcome State Fault Refusal :=
  .next (finish s (onPort p (fun s => equalizeTimeout s p) s))

/-- ALIGN_LOCK (R183). -/
def execAlignLock (p : Nat) (s : State) : Host.Outcome State Fault Refusal :=
  .next (finish s (onPort p (fun s => alignLock s p) s))

/-- SYNC_TIMER (R184). -/
def execSyncTimer (p : Nat) (s : State) : Host.Outcome State Fault Refusal :=
  .next (finish s (onPort p (fun s => syncTimer s p) s))

/-- SYNC (R184). -/
def execSync (f : PortFlit) (epoch : Nat) (las : Nat) (seen : Bool) (fresh : Bool) (adv : List Nat) (s : State) : Host.Outcome State Fault Refusal :=
  .next (finish s (onPort f.port (fun s => recvSync s f.port f.hdr epoch las seen fresh adv) s))

/-- FLIT_RECEIVE_SEQUENCED (R173). -/
def execFlitReceiveSequenced (p : Nat) (h : FlitHdr) (seq : Nat) (data : Bool) (msgs : List Msg) (s : State) : Host.Outcome State Fault Refusal :=
  .next (finish s (onPort p (fun s => recvFlit s p h seq data msgs) s))

/-- IDLE (R175). -/
def execIdle (p : Nat) (h : FlitHdr) (s : State) : Host.Outcome State Fault Refusal :=
  .next (finish s (onPort p (fun s => recvIdle s p h) s))

/-- FLIT_CRC_FAIL (R169). -/
def execFlitCrcFail (f : BadFlit) (s : State) : Host.Outcome State Fault Refusal :=
  .next (finish s (onPort f.port (fun s => crcFail (fecCount s f.port f.corr) f.port 1) s))

/-- CODEWORD_UNCORRECTABLE (R168). -/
def execCodewordUncorrectable (p : Nat) (s : State) : Host.Outcome State Fault Refusal :=
  .next (finish s (onPort p (fun s => codewordBad s p) s))

/-- NAK (R177). -/
def execNak (f : PortFlit) (expect : Nat) (s : State) : Host.Outcome State Fault Refusal :=
  .next (finish s (onPort f.port (fun s => rxHdr s f.port f.hdr (fun s => recvNak s f.port expect)) s))

/-- NAK_TMR_EXPIRY (R174). -/
def execNakTmrExpiry (p : Nat) (s : State) : Host.Outcome State Fault Refusal :=
  .next (finish s (onPort p (fun s => nakTimer s p) s))

/-- ACK_TMR_EXPIRY (R175). -/
def execAckTmrExpiry (p : Nat) (s : State) : Host.Outcome State Fault Refusal :=
  .next (finish s (onPort p (fun s => ackTimer s p) s))

/-- REPLAY_TMR_EXPIRY (R177). -/
def execReplayTmrExpiry (p : Nat) (s : State) : Host.Outcome State Fault Refusal :=
  .next (finish s (onPort p (fun s => replayTimer s p) s))

/-- TRANSMIT_FLIT (R180). -/
def execTransmitFlit (p : Nat) (s : State) : Host.Outcome State Fault Refusal :=
  .next (finish s (onPort p (fun s => transmit s p) s))

/-- LINK_CMD_RETRAIN (R183). -/
def execLinkCmdRetrain (src : Src) (p : Nat) (s : State) : Host.Outcome State Fault Refusal :=
  .next (finish s (rowWrite s src (Ad.LNK_CMD (p % 16)) 1))

/-- PARTNER_TRAINING_FRAMES (R183). -/
def execPartnerTrainingFrames (p : Nat) (s : State) : Host.Outcome State Fault Refusal :=
  .next (finish s (onPort p (fun s => partnerFrames s p) s))

/-- CODEWORD_LOCK_LOSS (R183). -/
def execCodewordLockLoss (p : Nat) (s : State) : Host.Outcome State Fault Refusal :=
  .next (finish s (onPort p (fun s => lockLost s p) s))

/-- RETRAIN_LIMIT_EXPIRY (R183). -/
def execRetrainLimitExpiry (p : Nat) (s : State) : Host.Outcome State Fault Refusal :=
  .next (finish s (onPort p (fun s => retrainLimit s p) s))

/-- DOWN_RETRY_TIMER (R182). -/
def execDownRetryTimer (p : Nat) (s : State) : Host.Outcome State Fault Refusal :=
  .next (finish s (onPort p (fun s => downRetry s p) s))

/-- ATTACH_REQ (R186). -/
def execAttachReq (f : PortFlit) (nonce : Nat) (n : Nat) (part : Bool) (caching : Nat) (partner : Nat) (s : State) : Host.Outcome State Fault Refusal :=
  .next (finish s (onPort f.port (fun s => rxHdr s f.port f.hdr (fun s => attachReq s f.port nonce n part caching partner)) s))

/-- ATTACH_ACK (R189). -/
def execAttachAck (f : PortFlit) (s : State) : Host.Outcome State Fault Refusal :=
  .next (finish s (onPort f.port (fun s => rxHdr s f.port f.hdr (fun s => attachComplete s f.port)) s))

/-- CTRL_TMR_EXPIRY (R189). -/
def execCtrlTmrExpiry (p : Nat) (s : State) : Host.Outcome State Fault Refusal :=
  .next (finish s (onPort p (fun s => ctrlTimer s p) s))

/-- DETACH_REQ (R190). -/
def execDetachReq (f : PortFlit) (nonce : Nat) (mask : Nat) (s : State) : Host.Outcome State Fault Refusal :=
  .next (finish s (onPort f.port (fun s => rxHdr s f.port f.hdr (fun s => detachReq s f.port nonce mask)) s))

/-- DETACH (R190). -/
def execDetach (src : Src) (p : Nat) (s : State) : Host.Outcome State Fault Refusal :=
  .next (finish s (rowWrite s src (Ad.LNK_CMD (p % 16)) 2))

/-- FORCE_DETACH (R192). -/
def execForceDetach (src : Src) (p : Nat) (s : State) : Host.Outcome State Fault Refusal :=
  .next (finish s (rowWrite s src (Ad.LNK_CMD (p % 16)) 4))

/-- DETACH_TMR_EXPIRY (R191). -/
def execDetachTmrExpiry (m : PortMask) (s : State) : Host.Outcome State Fault Refusal :=
  .next (finish s (onPort m.port (fun s => detachTimer s m.port m.mask) s))

/-- ID_QUARANTINE_RELEASE (R193). -/
def execIdQuarantineRelease (a : Nat) (s : State) : Host.Outcome State Fault Refusal :=
  .next (finish s (onIsl 3 (fun s => idRelease s a) s))

/-- LPI_ACK (R194). -/
def execLpiAck (f : PortFlit) (s : State) : Host.Outcome State Fault Refusal :=
  .next (finish s (onPort f.port (fun s => rxHdr s f.port f.hdr (fun s => lpiAck s f.port)) s))

/-- PARK_ACK (R195). -/
def execParkAck (p : Nat) (h : FlitHdr) (s : State) : Host.Outcome State Fault Refusal :=
  .next (finish s (onPort p (fun s => parkAck s p h) s))

/-- PARK_TIMEOUT (R195). -/
def execParkTimeout (p : Nat) (s : State) : Host.Outcome State Fault Refusal :=
  .next (finish s (onPort p (fun s => parked s p) s))

/-- RESERVED_FTYPE_FLIT (R202). -/
def execReservedFtypeFlit (f : PortFlit) (s : State) : Host.Outcome State Fault Refusal :=
  .next (finish s (onPort f.port (fun s => reservedFlit s f.port f.hdr) s))

end Sys2Proof.Machine
end

