-- ==== Sys2Proof/Machine/RequestRows.lean ====
section
/-!
DEFINITION. Machine/RequestRows.lean: the meanings of the commands of messages of agents to the home agent (chapters 6 and 7).
-/
namespace Sys2Proof.Machine

/-- READ_SHARED (R221). -/
def execReadShared (p : Nat) (m : ReqMsg) (s : State) : Host.Outcome State Fault Refusal :=
  .next (finish s (onPort p (fun s => msgIn s p (.req { m with kind := .readShared })) s))

/-- READ_UNIQUE (R221). -/
def execReadUnique (p : Nat) (m : ReqMsg) (s : State) : Host.Outcome State Fault Refusal :=
  .next (finish s (onPort p (fun s => msgIn s p (.req { m with kind := .readUnique })) s))

/-- READ_ONCE (R221). -/
def execReadOnce (p : Nat) (m : ReqMsg) (s : State) : Host.Outcome State Fault Refusal :=
  .next (finish s (onPort p (fun s => msgIn s p (.req { m with kind := .readOnce })) s))

/-- READ_RESERVE (R225). -/
def execReadReserve (p : Nat) (m : ReqMsg) (s : State) : Host.Outcome State Fault Refusal :=
  .next (finish s (onPort p (fun s => msgIn s p (.req { m with kind := .readReserve })) s))

/-- UPGRADE (R261). -/
def execUpgrade (p : Nat) (m : ReqMsg) (s : State) : Host.Outcome State Fault Refusal :=
  .next (finish s (onPort p (fun s => msgIn s p (.req { m with kind := .upgrade })) s))

/-- WRITE_FULL (R223). -/
def execWriteFull (p : Nat) (m : ReqMsg) (s : State) : Host.Outcome State Fault Refusal :=
  .next (finish s (onPort p (fun s => msgIn s p (.req { m with kind := .writeFull })) s))

/-- WRITE_PARTIAL (R223). -/
def execWritePartial (p : Nat) (m : ReqMsg) (s : State) : Host.Outcome State Fault Refusal :=
  .next (finish s (onPort p (fun s => msgIn s p (.req { m with kind := .writePartial })) s))

/-- WRITE_CONDITIONAL (R226). -/
def execWriteConditional (p : Nat) (m : ReqMsg) (s : State) : Host.Outcome State Fault Refusal :=
  .next (finish s (onPort p (fun s => msgIn s p (.req { m with kind := .writeConditional })) s))

/-- CLEAN_EVICT (R258). -/
def execCleanEvict (p : Nat) (m : ReqMsg) (s : State) : Host.Outcome State Fault Refusal :=
  .next (finish s (onPort p (fun s => msgIn s p (.req { m with kind := .cleanEvict })) s))

/-- DIRTY_EVICT (R258). -/
def execDirtyEvict (p : Nat) (m : ReqMsg) (s : State) : Host.Outcome State Fault Refusal :=
  .next (finish s (onPort p (fun s => msgIn s p (.req { m with kind := .dirtyEvict })) s))

/-- DATA (R219). -/
def execData (p : Nat) (m : RspMsg) (s : State) : Host.Outcome State Fault Refusal :=
  .next (finish s (onPort p (fun s => msgIn s p (.rsp { m with kind := .data })) s))

/-- DATA_POISON (R288). -/
def execDataPoison (p : Nat) (m : RspMsg) (s : State) : Host.Outcome State Fault Refusal :=
  .next (finish s (onPort p (fun s => msgIn s p (.rsp { m with kind := .dataPoison })) s))

/-- ACK (R219). -/
def execAck (p : Nat) (m : RspMsg) (s : State) : Host.Outcome State Fault Refusal :=
  .next (finish s (onPort p (fun s => msgIn s p (.rsp { m with kind := .ack })) s))

/-- COMPACK (R214). -/
def execCompack (p : Nat) (m : RspMsg) (s : State) : Host.Outcome State Fault Refusal :=
  .next (finish s (onPort p (fun s => msgIn s p (.rsp { m with kind := .compAck })) s))

end Sys2Proof.Machine
end

