-- ==== Sys2Proof/Machine/ResetRows.lean ====
section
/-!
DEFINITION. Machine/ResetRows.lean: the meanings of the commands of resets and supplies (chapter 2).
-/
namespace Sys2Proof.Machine

/-- PORST_N_ASSERT (R62). -/
def execPorstNAssert (low : Nat) (s : State) : Host.Outcome State Fault Refusal :=
  .next (finish s (porstAssert s low))

/-- PORST_N_RELEASE (R65). -/
def execPorstNRelease (tcxo : Bool) (ticks : Nat) (s : State) : Host.Outcome State Fault Refusal :=
  .next (finish s (porstRelease s tcxo ticks 0))

/-- TCXO_DETECT_TIMEOUT (R65). -/
def execTcxoDetectTimeout (s : State) : Host.Outcome State Fault Refusal :=
  .next (finish s (tcxoTimeout s))

/-- WRST_N_ASSERT (R67). -/
def execWrstNAssert (low : Nat) (s : State) : Host.Outcome State Fault Refusal :=
  .next (finish s (wrstAssert s low))

/-- WRST_N_RELEASE (R67). -/
def execWrstNRelease (tcxo : Bool) (ticks : Nat) (s : State) : Host.Outcome State Fault Refusal :=
  .next (finish s (wrstRelease s tcxo ticks))

/-- DROOP_RESET (R63). -/
def execDroopReset (level : Nat) (dur : Nat) (tcxo : Bool) (ticks : Nat) (s : State) : Host.Outcome State Fault Refusal :=
  .next (finish s (droop s level dur tcxo ticks))

/-- SUPPLY_LOSS (R61). -/
def execSupplyLoss (s : State) : Host.Outcome State Fault Refusal :=
  .next (finish s (supplyLoss s))

/-- VBAT_LOSS (R64). -/
def execVbatLoss (s : State) : Host.Outcome State Fault Refusal :=
  .next (finish s (vbatLoss s))

/-- SUPPLY_MONITOR_EVENT (R726). -/
def execSupplyMonitorEvent (code : Nat) (s : State) : Host.Outcome State Fault Refusal :=
  .next (finish s (supplyEvent s code))

/-- SUPPLY_RETURN (R742). -/
def execSupplyReturn (code : Nat) (s : State) : Host.Outcome State Fault Refusal :=
  .next (finish s (supplyReturn s code))

end Sys2Proof.Machine
end

