-- ==== Sys2Proof/Machine/TableRows.lean ====
section
/-!
DEFINITION. Machine/TableRows.lean: the meanings of the commands of registers, strobes, parity and tables (chapter 4).
-/
namespace Sys2Proof.Machine

/-- REGISTER_WRITE (R121). -/
def execRegisterWrite (src : Src) (key : Nat) (w : Word) (s : State) : Host.Outcome State Fault Refusal :=
  .next (finish s (rowWrite s src key w))

/-- UPDATE_STROBE (R128). -/
def execUpdateStrobe (src : Src) (groups : Byte) (s : State) : Host.Outcome State Fault Refusal :=
  .next (finish s (rowWrite s src Ad.CP_UPDATE (w32 groups.toNat)))

/-- UPD_N_EDGE (R128). -/
def execUpdNEdge (high : Nat) (low : Nat) (s : State) : Host.Outcome State Fault Refusal :=
  .next (finish s (onRun (fun s => updEdge s high low) s))

/-- SCHEDULED_STROBE (R132). (DESIGN CHOICE, log 6.) -/
def execScheduledStrobe (s : State) : Host.Outcome State Fault Refusal :=
  .next (finish s (onRun (fun s => updDue s) s))

/-- UPD_ARM (R132). -/
def execUpdArm (src : Src) (s : State) : Host.Outcome State Fault Refusal :=
  .next (finish s (rowWrite s src Ad.CP_UPD_TCTRL 1))

/-- UPD_DISARM (R132). -/
def execUpdDisarm (src : Src) (s : State) : Host.Outcome State Fault Refusal :=
  .next (finish s (rowWrite s src Ad.CP_UPD_TCTRL 2))

/-- CP_LOCK_WRITE (R134). -/
def execCpLockWrite (src : Src) (w : Word) (s : State) : Host.Outcome State Fault Refusal :=
  .next (finish s (rowWrite s src Ad.CP_LOCK w))

/-- CP_LOCK_STRICT_WRITE (R138). -/
def execCpLockStrictWrite (src : Src) (w : Word) (s : State) : Host.Outcome State Fault Refusal :=
  .next (finish s (rowWrite s src Ad.CP_LOCK_STRICT w))

/-- PARITY_CHECK (R141). -/
def execParityCheck (key : Nat) (staged : Bool) (upset : Option Nat) (s : State) : Host.Outcome State Fault Refusal :=
  .next (finish s (onRun (fun s => parityCheck s key staged upset) s))

/-- KEY_CHECK (R145). -/
def execKeyCheck (src : Src) (s : State) : Host.Outcome State Fault Refusal :=
  .next (finish s (rowWrite s src Ad.CP_TBL_CTRL 16))

/-- KEY_CHECK_DONE (R145). -/
def execKeyCheckDone (s : State) : Host.Outcome State Fault Refusal :=
  .next (finish s (onIsl 2 (fun s => keyCheckDone s) s))

/-- CHECK (R146). -/
def execCheck (src : Src) (s : State) : Host.Outcome State Fault Refusal :=
  .next (finish s (rowWrite s src Ad.CP_TBL_CTRL 1))

/-- TABLE_CHECK_DONE (R147). -/
def execTableCheckDone (s : State) : Host.Outcome State Fault Refusal :=
  .next (finish s (onIsl 2 (fun s => tblCheckDone s) s))

/-- ARM (R148). -/
def execArm (src : Src) (s : State) : Host.Outcome State Fault Refusal :=
  .next (finish s (rowWrite s src Ad.CP_TBL_CTRL 2))

/-- TABLE_ARM_COPY_DONE (R148). -/
def execTableArmCopyDone (s : State) : Host.Outcome State Fault Refusal :=
  .next (finish s (onIsl 2 (fun s => tblArmDone s) s))

/-- DISARM (R151). -/
def execDisarm (src : Src) (k : Nat) (s : State) : Host.Outcome State Fault Refusal :=
  .next (finish s (rowWrite s src Ad.CP_TBL_CTRL (w32 (8 + 256 * (k % 16)))))

/-- CLEAR (R153). -/
def execClear (src : Src) (s : State) : Host.Outcome State Fault Refusal :=
  .next (finish s (rowWrite s src Ad.CP_TBL_CTRL 4))

/-- STAGING_BUFFER_WRITE (R153). -/
def execStagingBufferWrite (src : Src) (k : Nat) (w : Word) (s : State) : Host.Outcome State Fault Refusal :=
  .next (finish s (rowWrite s src (0xF10000 + 4 * (k % 0x10000)) w))

end Sys2Proof.Machine
end

