-- ==== Sys2Proof/Machine/TapRows.lean ====
section
/-!
DEFINITION. Machine/TapRows.lean: the meanings of the commands of the TAP and debug (chapter 2).
-/
namespace Sys2Proof.Machine

/-- TRST_N_RESET (R69). -/
def execTrstNReset (s : State) : Host.Outcome State Fault Refusal :=
  .next (finish s (tapTrst s))

/-- EXTEST (R69). -/
def execExtest (s : State) : Host.Outcome State Fault Refusal :=
  .next (finish s (tapExtest s))

/-- IDCODE (R69). -/
def execIdcode (s : State) : Host.Outcome State Fault Refusal :=
  .next (finish s (tapIdcode s))

/-- SAMPLE_PRELOAD (R69). -/
def execSamplePreload (s : State) : Host.Outcome State Fault Refusal :=
  .next (finish s (tapSample s))

/-- BYPASS (R69). -/
def execBypass (s : State) : Host.Outcome State Fault Refusal :=
  .next (finish s (tapBypass s))

/-- UNLOCK_CHAL (R69). -/
def execUnlockChal (s : State) : Host.Outcome State Fault Refusal :=
  .next (finish s (tapChal s))

/-- UNLOCK_RESP (R69). -/
def execUnlockResp (grant : Word) (sig : List Byte) (key : List Byte) (s : State) : Host.Outcome State Fault Refusal :=
  .next (finish s (onRun (fun s => tapResp s grant sig key) s))

/-- UNLOCK_RESP_STATUS (R69). -/
def execUnlockRespStatus (s : State) : Host.Outcome State Fault Refusal :=
  .next (finish s (tapStatus s))

/-- DEBUG_UNLOCK_TIMEOUT (R69). -/
def execDebugUnlockTimeout (s : State) : Host.Outcome State Fault Refusal :=
  .next (finish s (onRun (fun s => tapTimeout s) s))

/-- DBG_IC_READ (R70). -/
def execDbgIcRead (a : Nat) (s : State) : Host.Outcome State Fault Refusal :=
  .next (finish s (onRun (fun s => dbgIcRead s a) s))

/-- DBG_IC_WRITE (R70). -/
def execDbgIcWrite (a : Nat) (d : Word) (s : State) : Host.Outcome State Fault Refusal :=
  .next (finish s (onRun (fun s => dbgIcWrite s a d) s))

/-- DBG_WINDOW_READ (R70). -/
def execDbgWindowRead (a : Nat) (s : State) : Host.Outcome State Fault Refusal :=
  .next (finish s (onRun (fun s => dbgWinRead s a) s))

/-- DBG_WINDOW_WRITE (R70). -/
def execDbgWindowWrite (a : Nat) (d : Word) (s : State) : Host.Outcome State Fault Refusal :=
  .next (finish s (onRun (fun s => dbgWinWrite s a d) s))

/-- DBG_HALT (R70). -/
def execDbgHalt (s : State) : Host.Outcome State Fault Refusal :=
  .next (finish s (onRun (fun s => dbgHalt s) s))

/-- DBG_RESUME (R70). -/
def execDbgResume (s : State) : Host.Outcome State Fault Refusal :=
  .next (finish s (onRun (fun s => dbgResume s) s))

/-- DBG_STEP (R70). -/
def execDbgStep (s : State) : Host.Outcome State Fault Refusal :=
  .next (finish s (onRun (fun s => dbgStep s) s))

/-- DBG_READ_REGISTER (R70). -/
def execDbgReadRegister (n : Nat) (s : State) : Host.Outcome State Fault Refusal :=
  .next (finish s (onRun (fun s => dbgReg s n) s))

/-- DBG_WARM_RESET (R70). -/
def execDbgWarmReset (tcxo : Bool) (ticks : Nat) (s : State) : Host.Outcome State Fault Refusal :=
  .next (finish s (onRun (fun s => dbgWarm s tcxo ticks) s))

end Sys2Proof.Machine
end

