-- ==== Sys2Proof/Machine/TimeRows.lean ====
section
/-!
DEFINITION. Machine/TimeRows.lean: the meanings of the commands of timebase and motion (chapter 12).
-/
namespace Sys2Proof.Machine

/-- PPS_IN_EDGE (R455). -/
def execPpsInEdge (falling : Bool) (held : Nat) (s : State) : Host.Outcome State Fault Refusal :=
  .next (finish s (onIsl 1 (fun s => ppsInEdge falling held s) s))

/-- SLEW_END (R461). -/
def execSlewEnd (s : State) : Host.Outcome State Fault Refusal :=
  .next (finish s (onIsl 1 (fun s => slewEnd s) s))

/-- PPS_LOSS (R456). -/
def execPpsLoss (s : State) : Host.Outcome State Fault Refusal :=
  .next (finish s (onIsl 1 (fun s => ppsLoss s) s))

/-- PPS_CANDIDATE_TIMEOUT (R487). -/
def execPpsCandidateTimeout (s : State) : Host.Outcome State Fault Refusal :=
  .next (finish s (onIsl 1 (fun s => ppsCandTimeout s) s))

/-- TIME_OF_DAY (R458). -/
def execTimeOfDay (p : Nat) (m : TodMsg) (s : State) : Host.Outcome State Fault Refusal :=
  .next (finish s (onPort p (fun s => msgIn s p (.tod m)) s))

/-- BOUND_RECOMPUTE (R464). -/
def execBoundRecompute (s : State) : Host.Outcome State Fault Refusal :=
  .next (finish s (onIsl 1 (fun s => boundRecompute s) s))

/-- TIME_STEP_REOFFER (R463). -/
def execTimeStepReoffer (s : State) : Host.Outcome State Fault Refusal :=
  .next (finish s (onIsl 1 (fun s => stepOfferLoop s.tb.steps.length s) s))

/-- PPS_OUT_RISE (R467). -/
def execPpsOutRise (s : State) : Host.Outcome State Fault Refusal :=
  .next (finish s (onIsl 1 (fun s => ppsOutRise s) s))

/-- PPS_OUT_FALL (R467). -/
def execPpsOutFall (s : State) : Host.Outcome State Fault Refusal :=
  .next (finish s (onIsl 1 (fun s => ppsOutFall s) s))

/-- RTC_SET (R469). -/
def execRtcSet (s : State) : Host.Outcome State Fault Refusal :=
  .next (finish s (onIsl 1 (fun s => rtcSet s) s))

/-- RTC_ALARM (R58). -/
def execRtcAlarm (s : State) : Host.Outcome State Fault Refusal :=
  .next (finish s (onIsl 0 (fun s => rtcAlarm s) s))

/-- TBU_ALARM (R479). (DESIGN CHOICE, log 6.) -/
def execTbuAlarm (s : State) : Host.Outcome State Fault Refusal :=
  .next (finish s (onIsl 1 (fun s => alarmFire s) s))

/-- TBU_ALARM_ARM (R479). -/
def execTbuAlarmArm (src : Src) (s : State) : Host.Outcome State Fault Refusal :=
  .next (finish s (rowWrite s src Ad.TBU_ALARM_CTRL 1))

/-- TBU_ALARM_DISARM (R479). -/
def execTbuAlarmDisarm (src : Src) (s : State) : Host.Outcome State Fault Refusal :=
  .next (finish s (rowWrite s src Ad.TBU_ALARM_CTRL 2))

/-- TCXO_FAIL (R484). -/
def execTcxoFail (s : State) : Host.Outcome State Fault Refusal :=
  .next (finish s (onIsl 1 (fun s => tcxoFail s) s))

/-- TCXO_RETURN (R485). -/
def execTcxoReturn (s : State) : Host.Outcome State Fault Refusal :=
  .next (finish s (onIsl 1 (fun s => tcxoReturn s) s))

/-- TBU_TIME_LO_READ (R454). -/
def execTbuTimeLoRead (s : State) : Host.Outcome State Fault Refusal :=
  .next (finish s (onIsl 1 (fun s => readFx s Ad.TBU_TIME_LO) s))

/-- MOT_EDGE (R58, R474). -/
def execMotEdge (b : Bool) (falling : Bool) (held : Nat) (s : State) : Host.Outcome State Fault Refusal :=
  .next (finish s (if s.running 1 && !stalled s 1 then motEdge b falling held s else motLatch falling held s))

/-- MOT_OVERRATE (R472). -/
def execMotOverrate (b : Bool) (s : State) : Host.Outcome State Fault Refusal :=
  .next (finish s (onIsl 1 (fun s => motOverrate b s) s))

/-- MOT_EDGE_TIMEOUT (R473). -/
def execMotEdgeTimeout (b : Bool) (s : State) : Host.Outcome State Fault Refusal :=
  .next (finish s (onIsl 1 (fun s => motEdgeTimeout b s) s))

/-- NO_GNSS_TIMEOUT (R477). -/
def execNoGnssTimeout (s : State) : Host.Outcome State Fault Refusal :=
  .next (finish s (onIsl 1 (fun s => motEval s) s))

/-- PULSE_LOSS_TIMEOUT (R477). -/
def execPulseLossTimeout (s : State) : Host.Outcome State Fault Refusal :=
  .next (finish s (onIsl 1 (fun s => motEval s) s))

/-- AB_SPEED_CHECK (R477). -/
def execAbSpeedCheck (s : State) : Host.Outcome State Fault Refusal :=
  .next (finish s (onIsl 1 (fun s => abSpeedCheck s) s))

/-- MOT_DIST_LO_READ (R474). -/
def execMotDistLoRead (s : State) : Host.Outcome State Fault Refusal :=
  .next (finish s (onIsl 1 (fun s => readFx s Ad.MOT_DIST_LO) s))

end Sys2Proof.Machine
end

