-- ==== Sys2Proof/Machine/TmmRows.lean ====
section
/-!
DEFINITION. Machine/TmmRows.lean: the meanings of the commands of tenant memory (chapter 8).
-/
namespace Sys2Proof.Machine

/-- CREATE (R301). -/
def execCreate (src : Src) (t : Nat) (s : State) : Host.Outcome State Fault Refusal :=
  .next (finish s (rowWrite s src Ad.TMM_CMD (tmmWord 1 t)))

/-- RELEASE (R328). -/
def execRelease (src : Src) (t : Nat) (s : State) : Host.Outcome State Fault Refusal :=
  .next (finish s (rowWrite s src Ad.TMM_CMD (tmmWord 2 t)))

/-- RELEASE_SWEEP_DONE (R328). -/
def execReleaseSweepDone (s : State) : Host.Outcome State Fault Refusal :=
  .next (finish s (onIsl 4 (fun s => releaseDone s) s))

/-- MAP (R300). -/
def execMap (src : Src) (t : Nat) (s : State) : Host.Outcome State Fault Refusal :=
  .next (finish s (rowWrite s src Ad.TMM_CMD (tmmWord 3 t)))

/-- UNMAP (R300). -/
def execUnmap (src : Src) (t : Nat) (s : State) : Host.Outcome State Fault Refusal :=
  .next (finish s (rowWrite s src Ad.TMM_CMD (tmmWord 4 t)))

/-- PIN (R300). -/
def execPin (src : Src) (t : Nat) (s : State) : Host.Outcome State Fault Refusal :=
  .next (finish s (rowWrite s src Ad.TMM_CMD (tmmWord 5 t)))

/-- UNPIN (R300). -/
def execUnpin (src : Src) (t : Nat) (s : State) : Host.Outcome State Fault Refusal :=
  .next (finish s (rowWrite s src Ad.TMM_CMD (tmmWord 6 t)))

/-- LOAD_SLOT (R318). -/
def execLoadSlot (src : Src) (t : Nat) (s : State) : Host.Outcome State Fault Refusal :=
  .next (finish s (rowWrite s src Ad.TMM_CMD (tmmWord 7 t)))

/-- LOAD_SLOT_FETCH_DONE (R318). -/
def execLoadSlotFetchDone (s : State) : Host.Outcome State Fault Refusal :=
  .next (finish s (onIsl 4 (fun s => loadFetchDone s) s))

/-- PREFETCH (R322). -/
def execPrefetch (src : Src) (t : Nat) (s : State) : Host.Outcome State Fault Refusal :=
  .next (finish s (rowWrite s src Ad.TMM_CMD (tmmWord 8 t)))

/-- UNLOAD_SLOT (R327). -/
def execUnloadSlot (src : Src) (t : Nat) (s : State) : Host.Outcome State Fault Refusal :=
  .next (finish s (rowWrite s src Ad.TMM_CMD (tmmWord 9 t)))

/-- FLIP (R325). -/
def execFlip (src : Src) (t : Nat) (s : State) : Host.Outcome State Fault Refusal :=
  .next (finish s (rowWrite s src Ad.TMM_CMD (tmmWord 10 t)))

/-- FLIP_SWEEP_DONE (R326). -/
def execFlipSweepDone (s : State) : Host.Outcome State Fault Refusal :=
  .next (finish s (onIsl 4 (fun s => flipDone s) s))

/-- REFETCH (R323). -/
def execRefetch (src : Src) (t : Nat) (s : State) : Host.Outcome State Fault Refusal :=
  .next (finish s (rowWrite s src Ad.TMM_CMD (tmmWord 11 t)))

/-- UNBIND (R330). -/
def execUnbind (src : Src) (t : Nat) (s : State) : Host.Outcome State Fault Refusal :=
  .next (finish s (rowWrite s src Ad.TMM_CMD (tmmWord 12 t)))

/-- UNBIND_SCAN_DONE (R330). -/
def execUnbindScanDone (s : State) : Host.Outcome State Fault Refusal :=
  .next (finish s (onIsl 4 (fun s => unbindDone s) s))

/-- TMM_BAD_OP (R299). -/
def execTmmBadOp (src : Src) (op : Nat) (t : Nat) (s : State) : Host.Outcome State Fault Refusal :=
  .next (finish s (rowWrite s src Ad.TMM_CMD (tmmWord op t)))

/-- TMM_ENABLE (R337). -/
def execTmmEnable (src : Src) (foldBg : Bool) (s : State) : Host.Outcome State Fault Refusal :=
  .next (finish s (rowWrite s src Ad.TMM_CTRL (w32 (1 + 2 * b2n foldBg))))

/-- DSC_BIND_WRITE (R330). -/
def execDscBindWrite (src : Src) (t : Nat) (k : Nat) (w : Word) (s : State) : Host.Outcome State Fault Refusal :=
  .next (finish s (rowWrite s src (Ad.DSC_BIND (t % 1024) (k % 8)) w))

/-- BLANK_FILL_DONE (R305). -/
def execBlankFillDone (key : Nat) (s : State) : Host.Outcome State Fault Refusal :=
  .next (finish s (onIsl 4 (fun s => fillDone s key) s))

/-- FOLD_SCAN (R313). -/
def execFoldScan (s : State) : Host.Outcome State Fault Refusal :=
  .next (finish s (onIsl 4 (fun s => foldScan s) s))

/-- FOLD_JOB_DONE (R314). -/
def execFoldJobDone (key : Nat) (chunks : Nat) (s : State) : Host.Outcome State Fault Refusal :=
  .next (finish s (onIsl 4 (fun s => foldDone s key chunks) s))

/-- UNFOLD_DONE (R316). -/
def execUnfoldDone (key : Nat) (crcOk : Bool) (s : State) : Host.Outcome State Fault Refusal :=
  .next (finish s (onIsl 4 (fun s => unfoldDone s key crcOk) s))

/-- PAGE_HASH_DONE (R321). -/
def execPageHashDone (key : Nat) (s : State) : Host.Outcome State Fault Refusal :=
  .next (finish s (onIsl 4 (fun s => hashDone s key) s))

/-- SRC_FETCH_TIMEOUT (R320). -/
def execSrcFetchTimeout (rid : Nat) (s : State) : Host.Outcome State Fault Refusal :=
  .next (finish s (onIsl 4 (fun s => srcTimeout s rid) s))

/-- RUN_AHEAD_FETCH_START (R322). -/
def execRunAheadFetchStart (s : State) : Host.Outcome State Fault Refusal :=
  .next (finish s (onIsl 4 (fun s => aheadStart s) s))

end Sys2Proof.Machine
end

