-- ==== Sys2Proof/Machine/ValleyRows.lean ====
section
/-!
DEFINITION. Machine/ValleyRows.lean: the meanings of the commands of valleys, wakes, PLLs and islands (chapter 2).
-/
namespace Sys2Proof.Machine

/-- VALLEY_TARGET_WRITE (R44). -/
def execValleyTargetWrite (src : Src) (w : Word) (s : State) : Host.Outcome State Fault Refusal :=
  .next (finish s (rowWrite s src Ad.CP_VALLEY w))

/-- RC_READY_WRITE (R406). -/
def execRcReadyWrite (req : Bool) (s : State) : Host.Outcome State Fault Refusal :=
  .next (finish s (onIsl 29 (fun s => rvRun s (.icStore Ad.ISL_RC_CTRL (w32 (1 + 2 * b2n req)))) s))

/-- VALLEY_DRAIN_DONE (R53). -/
def execValleyDrainDone (s : State) : Host.Outcome State Fault Refusal :=
  .next (finish s (onRun (fun s => drainDone s) s))

/-- VALLEY_RC_LIMIT_EXPIRY (R49). -/
def execValleyRcLimitExpiry (s : State) : Host.Outcome State Fault Refusal :=
  .next (finish s (onRun (fun s => rcLimit s) s))

/-- VALLEY_DRAIN_LIMIT_EXPIRY (R49). -/
def execValleyDrainLimitExpiry (s : State) : Host.Outcome State Fault Refusal :=
  .next (finish s (onRun (fun s => drainLimit s) s))

/-- WAKE_EDGE (R58). -/
def execWakeEdge (src : Nat) (rising : Bool) (width : Nat) (s : State) : Host.Outcome State Fault Refusal :=
  .next (finish s (onIsl 0 (fun s => wakeEdge s src rising width) s))

/-- WAKE_REQ_WRITE (R45). -/
def execWakeReqWrite (ready : Bool) (s : State) : Host.Outcome State Fault Refusal :=
  .next (finish s (onIsl 29 (fun s => rvRun s (.icStore Ad.ISL_RC_CTRL (w32 (2 + b2n ready)))) s))

/-- PLL_LOCK (R37). -/
def execPllLock (k : Nat) (s : State) : Host.Outcome State Fault Refusal :=
  .next (finish s (onRun (fun s => pllLock s k) s))

/-- VALLEY_EXIT_COMPLETE (R54). -/
def execValleyExitComplete (s : State) : Host.Outcome State Fault Refusal :=
  .next (finish s (onRun (fun s => exitComplete s) s))

/-- ISLAND_IDLE_STOP (R39). -/
def execIslandIdleStop (isl : Nat) (s : State) : Host.Outcome State Fault Refusal :=
  .next (finish s (onRun (fun s => idleStop s isl) s))

/-- AUTO_RETURN_REENTRY (R56). -/
def execAutoReturnReentry (s : State) : Host.Outcome State Fault Refusal :=
  .next (finish s (onRun (fun s => autoReentry s) s))

/-- PLL_LOCK_LOSS (R78). -/
def execPllLockLoss (k : Nat) (s : State) : Host.Outcome State Fault Refusal :=
  .next (finish s (onRun (fun s => pllLoss s k) s))

/-- VALLEY_ENTRY_COMPLETE (R53). -/
def execValleyEntryComplete (s : State) : Host.Outcome State Fault Refusal :=
  .next (finish s (onRun (fun s => entryComplete s) s))

/-- REF_HOLD_EXPIRY (R78). -/
def execRefHoldExpiry (s : State) : Host.Outcome State Fault Refusal :=
  .next (finish s (onIsl 1 (fun s => refHold s) s))

end Sys2Proof.Machine
end

