-- ==== Sys2Proof/Machine/Dispatch.lean ====
section
/-!
DEFINITION. Machine/Dispatch.lean: each command's meaning, one arm per constructor.
-/
namespace Sys2Proof.Machine

def exec (i : Instr) (s : State) : Host.Outcome State Fault Refusal :=
  match i with
  | .porstNAssert low => Sys2Proof.Machine.execPorstNAssert low s
  | .porstNRelease tcxo ticks => Sys2Proof.Machine.execPorstNRelease tcxo ticks s
  | .tcxoDetectTimeout => Sys2Proof.Machine.execTcxoDetectTimeout s
  | .wrstNAssert low => Sys2Proof.Machine.execWrstNAssert low s
  | .wrstNRelease tcxo ticks => Sys2Proof.Machine.execWrstNRelease tcxo ticks s
  | .droopReset level dur tcxo ticks => Sys2Proof.Machine.execDroopReset level dur tcxo ticks s
  | .supplyLoss => Sys2Proof.Machine.execSupplyLoss s
  | .vbatLoss => Sys2Proof.Machine.execVbatLoss s
  | .supplyMonitorEvent code => Sys2Proof.Machine.execSupplyMonitorEvent code s
  | .supplyReturn code => Sys2Proof.Machine.execSupplyReturn code s
  | .valleyTargetWrite src w => Sys2Proof.Machine.execValleyTargetWrite src w s
  | .rcReadyWrite req => Sys2Proof.Machine.execRcReadyWrite req s
  | .valleyDrainDone => Sys2Proof.Machine.execValleyDrainDone s
  | .valleyRcLimitExpiry => Sys2Proof.Machine.execValleyRcLimitExpiry s
  | .valleyDrainLimitExpiry => Sys2Proof.Machine.execValleyDrainLimitExpiry s
  | .wakeEdge src rising width => Sys2Proof.Machine.execWakeEdge src rising width s
  | .wakeReqWrite ready => Sys2Proof.Machine.execWakeReqWrite ready s
  | .pllLock k => Sys2Proof.Machine.execPllLock k s
  | .valleyExitComplete => Sys2Proof.Machine.execValleyExitComplete s
  | .islandIdleStop isl => Sys2Proof.Machine.execIslandIdleStop isl s
  | .autoReturnReentry => Sys2Proof.Machine.execAutoReturnReentry s
  | .pllLockLoss k => Sys2Proof.Machine.execPllLockLoss k s
  | .refHoldExpiry => Sys2Proof.Machine.execRefHoldExpiry s
  | .trstNReset => Sys2Proof.Machine.execTrstNReset s
  | .extest => Sys2Proof.Machine.execExtest s
  | .idcode => Sys2Proof.Machine.execIdcode s
  | .samplePreload => Sys2Proof.Machine.execSamplePreload s
  | .bypass => Sys2Proof.Machine.execBypass s
  | .unlockChal => Sys2Proof.Machine.execUnlockChal s
  | .unlockResp grant sig key => Sys2Proof.Machine.execUnlockResp grant sig key s
  | .unlockRespStatus => Sys2Proof.Machine.execUnlockRespStatus s
  | .debugUnlockTimeout => Sys2Proof.Machine.execDebugUnlockTimeout s
  | .dbgIcRead a => Sys2Proof.Machine.execDbgIcRead a s
  | .dbgIcWrite a d => Sys2Proof.Machine.execDbgIcWrite a d s
  | .dbgWindowRead a => Sys2Proof.Machine.execDbgWindowRead a s
  | .dbgWindowWrite a d => Sys2Proof.Machine.execDbgWindowWrite a d s
  | .dbgHalt => Sys2Proof.Machine.execDbgHalt s
  | .dbgResume => Sys2Proof.Machine.execDbgResume s
  | .dbgStep => Sys2Proof.Machine.execDbgStep s
  | .dbgReadRegister n => Sys2Proof.Machine.execDbgReadRegister n s
  | .dbgWarmReset tcxo ticks => Sys2Proof.Machine.execDbgWarmReset tcxo ticks s
  | .cpFrameRd tag len addr ccrc late => Sys2Proof.Machine.execCpFrameRd tag len addr ccrc late s
  | .cpFrameWr tag len addr words ccrc late => Sys2Proof.Machine.execCpFrameWr tag len addr words ccrc late s
  | .cpFrameNop tag len addr ccrc late => Sys2Proof.Machine.execCpFrameNop tag len addr ccrc late s
  | .cpFrameUndefinedOp opc tag len addr ccrc late => Sys2Proof.Machine.execCpFrameUndefinedOp opc tag len addr ccrc late s
  | .cpCsEarlyRise => Sys2Proof.Machine.execCpCsEarlyRise s
  | .cpCsLateRise opc tag len addr words ccrc => Sys2Proof.Machine.execCpCsLateRise opc tag len addr words ccrc s
  | .cpStallExpiry between => Sys2Proof.Machine.execCpStallExpiry between s
  | .cpPendingAccessDone => Sys2Proof.Machine.execCpPendingAccessDone s
  | .cpStallFaultTimeout => Sys2Proof.Machine.execCpStallFaultTimeout s
  | .registerWrite src key w => Sys2Proof.Machine.execRegisterWrite src key w s
  | .updateStrobe src groups => Sys2Proof.Machine.execUpdateStrobe src groups s
  | .updNEdge high low => Sys2Proof.Machine.execUpdNEdge high low s
  | .scheduledStrobe => Sys2Proof.Machine.execScheduledStrobe s
  | .updArm src => Sys2Proof.Machine.execUpdArm src s
  | .updDisarm src => Sys2Proof.Machine.execUpdDisarm src s
  | .cpLockWrite src w => Sys2Proof.Machine.execCpLockWrite src w s
  | .cpLockStrictWrite src w => Sys2Proof.Machine.execCpLockStrictWrite src w s
  | .parityCheck key staged upset => Sys2Proof.Machine.execParityCheck key staged upset s
  | .keyCheck src => Sys2Proof.Machine.execKeyCheck src s
  | .keyCheckDone => Sys2Proof.Machine.execKeyCheckDone s
  | .check src => Sys2Proof.Machine.execCheck src s
  | .tableCheckDone => Sys2Proof.Machine.execTableCheckDone s
  | .arm src => Sys2Proof.Machine.execArm src s
  | .tableArmCopyDone => Sys2Proof.Machine.execTableArmCopyDone s
  | .disarm src k => Sys2Proof.Machine.execDisarm src k s
  | .clear src => Sys2Proof.Machine.execClear src s
  | .stagingBufferWrite src k w => Sys2Proof.Machine.execStagingBufferWrite src k w s
  | .portSignalDetect p => Sys2Proof.Machine.execPortSignalDetect p s
  | .equalizeDone p => Sys2Proof.Machine.execEqualizeDone p s
  | .equalizeTimeout p => Sys2Proof.Machine.execEqualizeTimeout p s
  | .alignLock p => Sys2Proof.Machine.execAlignLock p s
  | .syncTimer p => Sys2Proof.Machine.execSyncTimer p s
  | .sync f epoch las seen fresh adv => Sys2Proof.Machine.execSync f epoch las seen fresh adv s
  | .flitReceiveSequenced p h seq data msgs => Sys2Proof.Machine.execFlitReceiveSequenced p h seq data msgs s
  | .idle p h => Sys2Proof.Machine.execIdle p h s
  | .flitCrcFail f => Sys2Proof.Machine.execFlitCrcFail f s
  | .codewordUncorrectable p => Sys2Proof.Machine.execCodewordUncorrectable p s
  | .nak f expect => Sys2Proof.Machine.execNak f expect s
  | .nakTmrExpiry p => Sys2Proof.Machine.execNakTmrExpiry p s
  | .ackTmrExpiry p => Sys2Proof.Machine.execAckTmrExpiry p s
  | .replayTmrExpiry p => Sys2Proof.Machine.execReplayTmrExpiry p s
  | .transmitFlit p => Sys2Proof.Machine.execTransmitFlit p s
  | .linkCmdRetrain src p => Sys2Proof.Machine.execLinkCmdRetrain src p s
  | .partnerTrainingFrames p => Sys2Proof.Machine.execPartnerTrainingFrames p s
  | .codewordLockLoss p => Sys2Proof.Machine.execCodewordLockLoss p s
  | .retrainLimitExpiry p => Sys2Proof.Machine.execRetrainLimitExpiry p s
  | .downRetryTimer p => Sys2Proof.Machine.execDownRetryTimer p s
  | .attachReq f nonce n part caching partner => Sys2Proof.Machine.execAttachReq f nonce n part caching partner s
  | .attachAck f => Sys2Proof.Machine.execAttachAck f s
  | .ctrlTmrExpiry p => Sys2Proof.Machine.execCtrlTmrExpiry p s
  | .detachReq f nonce mask => Sys2Proof.Machine.execDetachReq f nonce mask s
  | .detach src p => Sys2Proof.Machine.execDetach src p s
  | .forceDetach src p => Sys2Proof.Machine.execForceDetach src p s
  | .detachTmrExpiry m => Sys2Proof.Machine.execDetachTmrExpiry m s
  | .idQuarantineRelease a => Sys2Proof.Machine.execIdQuarantineRelease a s
  | .lpiAck f => Sys2Proof.Machine.execLpiAck f s
  | .parkAck p h => Sys2Proof.Machine.execParkAck p h s
  | .parkTimeout p => Sys2Proof.Machine.execParkTimeout p s
  | .readShared p m => Sys2Proof.Machine.execReadShared p m s
  | .readUnique p m => Sys2Proof.Machine.execReadUnique p m s
  | .readOnce p m => Sys2Proof.Machine.execReadOnce p m s
  | .readReserve p m => Sys2Proof.Machine.execReadReserve p m s
  | .upgrade p m => Sys2Proof.Machine.execUpgrade p m s
  | .writeFull p m => Sys2Proof.Machine.execWriteFull p m s
  | .writePartial p m => Sys2Proof.Machine.execWritePartial p m s
  | .writeConditional p m => Sys2Proof.Machine.execWriteConditional p m s
  | .cleanEvict p m => Sys2Proof.Machine.execCleanEvict p m s
  | .dirtyEvict p m => Sys2Proof.Machine.execDirtyEvict p m s
  | .trackerAllocate => Sys2Proof.Machine.execTrackerAllocate s
  | .translationWalkDone key ue => Sys2Proof.Machine.execTranslationWalkDone key ue s
  | .lineActivate tenant line err => Sys2Proof.Machine.execLineActivate tenant line err s
  | .data p m => Sys2Proof.Machine.execData p m s
  | .dataPoison p m => Sys2Proof.Machine.execDataPoison p m s
  | .ack p m => Sys2Proof.Machine.execAck p m s
  | .compack p m => Sys2Proof.Machine.execCompack p m s
  | .compackTimeout htid => Sys2Proof.Machine.execCompackTimeout htid s
  | .dramReadReturn htid err => Sys2Proof.Machine.execDramReadReturn htid err s
  | .snoopDeadlineExpiry sid a => Sys2Proof.Machine.execSnoopDeadlineExpiry sid a s
  | .poisonSweepDone a => Sys2Proof.Machine.execPoisonSweepDone a s
  | .detachSweepDone p mask => Sys2Proof.Machine.execDetachSweepDone p mask s
  | .reservationExpiry a => Sys2Proof.Machine.execReservationExpiry a s
  | .backInvalidationDone sid => Sys2Proof.Machine.execBackInvalidationDone sid s
  | .evbEntryFree => Sys2Proof.Machine.execEvbEntryFree s
  | .create src t => Sys2Proof.Machine.execCreate src t s
  | .release src t => Sys2Proof.Machine.execRelease src t s
  | .releaseSweepDone => Sys2Proof.Machine.execReleaseSweepDone s
  | .map src t => Sys2Proof.Machine.execMap src t s
  | .unmap src t => Sys2Proof.Machine.execUnmap src t s
  | .pin src t => Sys2Proof.Machine.execPin src t s
  | .unpin src t => Sys2Proof.Machine.execUnpin src t s
  | .loadSlot src t => Sys2Proof.Machine.execLoadSlot src t s
  | .loadSlotFetchDone => Sys2Proof.Machine.execLoadSlotFetchDone s
  | .prefetch src t => Sys2Proof.Machine.execPrefetch src t s
  | .unloadSlot src t => Sys2Proof.Machine.execUnloadSlot src t s
  | .flip src t => Sys2Proof.Machine.execFlip src t s
  | .flipSweepDone => Sys2Proof.Machine.execFlipSweepDone s
  | .refetch src t => Sys2Proof.Machine.execRefetch src t s
  | .unbind src t => Sys2Proof.Machine.execUnbind src t s
  | .unbindScanDone => Sys2Proof.Machine.execUnbindScanDone s
  | .tmmBadOp src op t => Sys2Proof.Machine.execTmmBadOp src op t s
  | .tmmEnable src foldBg => Sys2Proof.Machine.execTmmEnable src foldBg s
  | .dscBindWrite src t k w => Sys2Proof.Machine.execDscBindWrite src t k w s
  | .blankFillDone key => Sys2Proof.Machine.execBlankFillDone key s
  | .foldScan => Sys2Proof.Machine.execFoldScan s
  | .foldJobDone key chunks => Sys2Proof.Machine.execFoldJobDone key chunks s
  | .unfoldDone key crcOk => Sys2Proof.Machine.execUnfoldDone key crcOk s
  | .pageHashDone key => Sys2Proof.Machine.execPageHashDone key s
  | .srcFetchTimeout rid => Sys2Proof.Machine.execSrcFetchTimeout rid s
  | .runAheadFetchStart => Sys2Proof.Machine.execRunAheadFetchStart s
  | .grant src pass => Sys2Proof.Machine.execGrant src pass s
  | .modify src pass => Sys2Proof.Machine.execModify src pass s
  | .revoke src pass => Sys2Proof.Machine.execRevoke src pass s
  | .pasBadOp src op pass => Sys2Proof.Machine.execPasBadOp src op pass s
  | .train src c => Sys2Proof.Machine.execTrain src c s
  | .drcTrainDone c ok mib => Sys2Proof.Machine.execDrcTrainDone c ok mib s
  | .mr4Poll c rate hot => Sys2Proof.Machine.execMr4Poll c rate hot s
  | .refreshDue c => Sys2Proof.Machine.execRefreshDue c s
  | .drcCommandIssue c must => Sys2Proof.Machine.execDrcCommandIssue c must s
  | .patrolScrub c err => Sys2Proof.Machine.execPatrolScrub c err s
  | .correctiveWrite c => Sys2Proof.Machine.execCorrectiveWrite c s
  | .ceWindowExpiry c => Sys2Proof.Machine.execCeWindowExpiry c s
  | .accel src c w => Sys2Proof.Machine.execAccel src c w s
  | .accelScrubEnd c => Sys2Proof.Machine.execAccelScrubEnd c s
  | .drcRecalibration c ok => Sys2Proof.Machine.execDrcRecalibration c ok s
  | .rvAlu op c miss => Sys2Proof.Machine.execRvAlu op c miss s
  | .rvMulDiv f rd rs1 rs2 => Sys2Proof.Machine.execRvMulDiv f rd rs1 rs2 s
  | .illegalInstruction bits => Sys2Proof.Machine.execIllegalInstruction bits s
  | .rvLoad w signed rd rs1 imm c ecc => Sys2Proof.Machine.execRvLoad w signed rd rs1 imm c ecc s
  | .rvStore w rs1 rs2 imm c => Sys2Proof.Machine.execRvStore w rs1 rs2 imm c s
  | .lr rd rs1 ecc => Sys2Proof.Machine.execLr rd rs1 ecc s
  | .sc rd rs1 rs2 spurious => Sys2Proof.Machine.execSc rd rs1 rs2 spurious s
  | .amo f rd rs1 rs2 ecc => Sys2Proof.Machine.execAmo f rd rs1 rs2 ecc s
  | .fence => Sys2Proof.Machine.execFence s
  | .fenceI => Sys2Proof.Machine.execFenceI s
  | .csrAccess f imm n rd src => Sys2Proof.Machine.execCsrAccess f imm n rd src s
  | .ecall => Sys2Proof.Machine.execEcall s
  | .ebreak => Sys2Proof.Machine.execEbreak s
  | .mret => Sys2Proof.Machine.execMret s
  | .wfi => Sys2Proof.Machine.execWfi s
  | .interruptTaken sq => Sys2Proof.Machine.execInterruptTaken sq s
  | .storeBufferDrain k => Sys2Proof.Machine.execStoreBufferDrain k s
  | .loadFillReturn => Sys2Proof.Machine.execLoadFillReturn s
  | .lrReservationExpiry => Sys2Proof.Machine.execLrReservationExpiry s
  | .lrSnoopHoldExpiry => Sys2Proof.Machine.execLrSnoopHoldExpiry s
  | .timecmpMatch => Sys2Proof.Machine.execTimecmpMatch s
  | .dflush src => Sys2Proof.Machine.execDflush src s
  | .dflushDone => Sys2Proof.Machine.execDflushDone s
  | .iinv src => Sys2Proof.Machine.execIinv src s
  | .rgnLockWrite src order => Sys2Proof.Machine.execRgnLockWrite src order s
  | .orderWrite src order lock => Sys2Proof.Machine.execOrderWrite src order lock s
  | .bootImageCheck readOk => Sys2Proof.Machine.execBootImageCheck readOk s
  | .retry src spi => Sys2Proof.Machine.execRetry src spi s
  | .bootOfferReenter => Sys2Proof.Machine.execBootOfferReenter s
  | .cxHinit rd rs1 rs2 f3 => Sys2Proof.Machine.execCxHinit rd rs1 rs2 f3 s
  | .cxHupd rd rs1 rs2 f3 => Sys2Proof.Machine.execCxHupd rd rs1 rs2 f3 s
  | .cxHfin rd rs1 rs2 f3 => Sys2Proof.Machine.execCxHfin rd rs1 rs2 f3 s
  | .cxGinit rd rs1 rs2 f3 => Sys2Proof.Machine.execCxGinit rd rs1 rs2 f3 s
  | .cxGaad rd rs1 rs2 f3 => Sys2Proof.Machine.execCxGaad rd rs1 rs2 f3 s
  | .cxGupd rd rs1 rs2 f3 => Sys2Proof.Machine.execCxGupd rd rs1 rs2 f3 s
  | .cxGout rd rs1 rs2 f3 => Sys2Proof.Machine.execCxGout rd rs1 rs2 f3 s
  | .cxGfin rd rs1 rs2 f3 => Sys2Proof.Machine.execCxGfin rd rs1 rs2 f3 s
  | .cxVerify rd rs1 rs2 f3 => Sys2Proof.Machine.execCxVerify rd rs1 rs2 f3 s
  | .cxKdf rd rs1 rs2 f3 => Sys2Proof.Machine.execCxKdf rd rs1 rs2 f3 s
  | .cxWait rd rs1 rs2 f3 => Sys2Proof.Machine.execCxWait rd rs1 rs2 f3 s
  | .cxPoll rd rs1 rs2 f3 => Sys2Proof.Machine.execCxPoll rd rs1 rs2 f3 s
  | .cxCrd rd rs1 rs2 f3 => Sys2Proof.Machine.execCxCrd rd rs1 rs2 f3 s
  | .cxSign rd rs1 rs2 f3 => Sys2Proof.Machine.execCxSign rd rs1 rs2 f3 s
  | .cxKset rd rs1 rs2 f3 => Sys2Proof.Machine.execCxKset rd rs1 rs2 f3 s
  | .cxKclr rd rs1 rs2 f3 => Sys2Proof.Machine.execCxKclr rd rs1 rs2 f3 s
  | .cxCinc rd rs1 rs2 f3 => Sys2Proof.Machine.execCxCinc rd rs1 rs2 f3 s
  | .cxCarve rd rs1 rs2 f3 => Sys2Proof.Machine.execCxCarve rd rs1 rs2 f3 s
  | .cxAbort rd rs1 rs2 f3 => Sys2Proof.Machine.execCxAbort rd rs1 rs2 f3 s
  | .cxOperationStart no keyBad ctxUe => Sys2Proof.Machine.execCxOperationStart no keyBad ctxUe s
  | .cxOperationComplete no lockBad => Sys2Proof.Machine.execCxOperationComplete no lockBad s
  | .carveSignDone lockBad => Sys2Proof.Machine.execCarveSignDone lockBad s
  | .carveProgramDone code => Sys2Proof.Machine.execCarveProgramDone code s
  | .carveProgramTimeout => Sys2Proof.Machine.execCarveProgramTimeout s
  | .ppsInEdge falling held => Sys2Proof.Machine.execPpsInEdge falling held s
  | .slewEnd => Sys2Proof.Machine.execSlewEnd s
  | .ppsLoss => Sys2Proof.Machine.execPpsLoss s
  | .ppsCandidateTimeout => Sys2Proof.Machine.execPpsCandidateTimeout s
  | .timeOfDay p m => Sys2Proof.Machine.execTimeOfDay p m s
  | .boundRecompute => Sys2Proof.Machine.execBoundRecompute s
  | .timeStepReoffer => Sys2Proof.Machine.execTimeStepReoffer s
  | .ppsOutRise => Sys2Proof.Machine.execPpsOutRise s
  | .ppsOutFall => Sys2Proof.Machine.execPpsOutFall s
  | .rtcSet => Sys2Proof.Machine.execRtcSet s
  | .rtcAlarm => Sys2Proof.Machine.execRtcAlarm s
  | .tbuAlarm => Sys2Proof.Machine.execTbuAlarm s
  | .tbuAlarmArm src => Sys2Proof.Machine.execTbuAlarmArm src s
  | .tbuAlarmDisarm src => Sys2Proof.Machine.execTbuAlarmDisarm src s
  | .tcxoFail => Sys2Proof.Machine.execTcxoFail s
  | .tcxoReturn => Sys2Proof.Machine.execTcxoReturn s
  | .tbuTimeLoRead => Sys2Proof.Machine.execTbuTimeLoRead s
  | .motEdge b falling held => Sys2Proof.Machine.execMotEdge b falling held s
  | .motOverrate b => Sys2Proof.Machine.execMotOverrate b s
  | .motEdgeTimeout b => Sys2Proof.Machine.execMotEdgeTimeout b s
  | .noGnssTimeout => Sys2Proof.Machine.execNoGnssTimeout s
  | .pulseLossTimeout => Sys2Proof.Machine.execPulseLossTimeout s
  | .abSpeedCheck => Sys2Proof.Machine.execAbSpeedCheck s
  | .motDistLoRead => Sys2Proof.Machine.execMotDistLoRead s
  | .doorbellSubmit p m => Sys2Proof.Machine.execDoorbellSubmit p m s
  | .submitPayloadReadDone idx => Sys2Proof.Machine.execSubmitPayloadReadDone idx s
  | .receiptWriteAck rid => Sys2Proof.Machine.execReceiptWriteAck rid s
  | .doorbellExport p m => Sys2Proof.Machine.execDoorbellExport p m s
  | .exportWriteAck reg k => Sys2Proof.Machine.execExportWriteAck reg k s
  | .doorbellAck p m => Sys2Proof.Machine.execDoorbellAck p m s
  | .drop src status => Sys2Proof.Machine.execDrop src status s
  | .evsGenesis src => Sys2Proof.Machine.execEvsGenesis src s
  | .evsRecCtrlWrite src n w => Sys2Proof.Machine.execEvsRecCtrlWrite src n w s
  | .scanComplete => Sys2Proof.Machine.execScanComplete s
  | .eraseEvaluation => Sys2Proof.Machine.execEraseEvaluation s
  | .sectorEraseDone ok => Sys2Proof.Machine.execSectorEraseDone ok s
  | .evsXRead src len cs => Sys2Proof.Machine.execEvsXRead src len cs s
  | .evsXProgram src len cs => Sys2Proof.Machine.execEvsXProgram src len cs s
  | .evsXErase src len cs => Sys2Proof.Machine.execEvsXErase src len cs s
  | .evsXDone ok => Sys2Proof.Machine.execEvsXDone ok s
  | .faultReoffer => Sys2Proof.Machine.execFaultReoffer s
  | .regStart src en => Sys2Proof.Machine.execRegStart src en s
  | .regStop src en => Sys2Proof.Machine.execRegStop src en s
  | .injStart src en => Sys2Proof.Machine.execInjStart src en s
  | .iadcStart src en => Sys2Proof.Machine.execIadcStart src en s
  | .iadcStop src en => Sys2Proof.Machine.execIadcStop src en s
  | .atrigEdge n rising held => Sys2Proof.Machine.execAtrigEdge n rising held s
  | .acqTimerTick => Sys2Proof.Machine.execAcqTimerTick s
  | .acqEntryStart => Sys2Proof.Machine.execAcqEntryStart s
  | .sarConversionDone sl uv vref => Sys2Proof.Machine.execSarConversionDone sl uv vref s
  | .iadcIntegrationDone nv vref left => Sys2Proof.Machine.execIadcIntegrationDone nv vref left s
  | .lineSyncEdge nv vref left => Sys2Proof.Machine.execLineSyncEdge nv vref left s
  | .lineSyncLoss nv vref left => Sys2Proof.Machine.execLineSyncLoss nv vref left s
  | .calSwap => Sys2Proof.Machine.execCalSwap s
  | .calDone p found => Sys2Proof.Machine.execCalDone p found s
  | .ringFlushTimer n => Sys2Proof.Machine.execRingFlushTimer n s
  | .ringWriteAck n => Sys2Proof.Machine.execRingWriteAck n s
  | .ringRdReadReturn n => Sys2Proof.Machine.execRingRdReadReturn n s
  | .acqRingEnableWrite src n w => Sys2Proof.Machine.execAcqRingEnableWrite src n w s
  | .refOkTimer => Sys2Proof.Machine.execRefOkTimer s
  | .refinOutOfRange => Sys2Proof.Machine.execRefinOutOfRange s
  | .dacDataWrite src n w => Sys2Proof.Machine.execDacDataWrite src n w s
  | .dacLdNEdge high low => Sys2Proof.Machine.execDacLdNEdge high low s
  | .dacRelease src mask => Sys2Proof.Machine.execDacRelease src mask s
  | .prog src ch => Sys2Proof.Machine.execProg src ch s
  | .dacMtpDone ok => Sys2Proof.Machine.execDacMtpDone ok s
  | .dacCurrentLimit n on => Sys2Proof.Machine.execDacCurrentLimit n on s
  | .start src n => Sys2Proof.Machine.execStart src n s
  | .stop src n => Sys2Proof.Machine.execStop src n s
  | .abort src n => Sys2Proof.Machine.execAbort src n s
  | .lthClear src n => Sys2Proof.Machine.execLthClear src n s
  | .lthMeasureStart n => Sys2Proof.Machine.execLthMeasureStart n s
  | .lthDwellEnd n => Sys2Proof.Machine.execLthDwellEnd n s
  | .rangeStepEnd n => Sys2Proof.Machine.execRangeStepEnd n s
  | .listFetchReturn n => Sys2Proof.Machine.execListFetchReturn n s
  | .listUnderrunTimeout n => Sys2Proof.Machine.execListUnderrunTimeout n s
  | .lthResultWriteAck n => Sys2Proof.Machine.execLthResultWriteAck n s
  | .lthAnalogTrip n held => Sys2Proof.Machine.execLthAnalogTrip n held s
  | .cvuDataB src n v => Sys2Proof.Machine.execCvuDataB src n v s
  | .cvuDataH src n v => Sys2Proof.Machine.execCvuDataH src n v s
  | .cvuDataW src n v => Sys2Proof.Machine.execCvuDataW src n v s
  | .cvuClear src n en => Sys2Proof.Machine.execCvuClear src n en s
  | .cvuEnWrite src n en => Sys2Proof.Machine.execCvuEnWrite src n en s
  | .cvuResultRead n => Sys2Proof.Machine.execCvuResultRead n s
  | .pcuCntLoRead n => Sys2Proof.Machine.execPcuCntLoRead n s
  | .pcuCntWrite src n hi w => Sys2Proof.Machine.execPcuCntWrite src n hi w s
  | .bwWindowEnd m => Sys2Proof.Machine.execBwWindowEnd m s
  | .pcuBwClear src m w => Sys2Proof.Machine.execPcuBwClear src m w s
  | .taggedItemComplete ha flags d => Sys2Proof.Machine.execTaggedItemComplete ha flags d s
  | .pcuSbufClear src => Sys2Proof.Machine.execPcuSbufClear src s
  | .haPoisonLastRead => Sys2Proof.Machine.execHaPoisonLastRead s
  | .evcPendWrite src k w => Sys2Proof.Machine.execEvcPendWrite src k w s
  | .evcPclr src k w => Sys2Proof.Machine.execEvcPclr src k w s
  | .evcPset src k w => Sys2Proof.Machine.execEvcPset src k w s
  | .evcMaskMkWrite src k hi w => Sys2Proof.Machine.execEvcMaskMkWrite src k hi w s
  | .event p agent => Sys2Proof.Machine.execEvent p agent s
  | .escClear src => Sys2Proof.Machine.execEscClear src s
  | .escForce src => Sys2Proof.Machine.execEscForce src s
  | .fltRelease src hi mask => Sys2Proof.Machine.execFltRelease src hi mask s
  | .fltRaisedClear src hi w => Sys2Proof.Machine.execFltRaisedClear src hi w s
  | .program src row => Sys2Proof.Machine.execProgram src row s
  | .keygen src row => Sys2Proof.Machine.execKeygen src row s
  | .sealOtp src row => Sys2Proof.Machine.execSealOtp src row s
  | .raiseSvn src row => Sys2Proof.Machine.execRaiseSvn src row s
  | .revokeFwkey src row => Sys2Proof.Machine.execRevokeFwkey src row s
  | .otpBadOp src op row => Sys2Proof.Machine.execOtpBadOp src op row s
  | .otpCommandDone ok => Sys2Proof.Machine.execOtpCommandDone ok s
  | .reservedFtypeFlit f => Sys2Proof.Machine.execReservedFtypeFlit f s
  | .doorbellUndefinedKind p m => Sys2Proof.Machine.execDoorbellUndefinedKind p m s
  | .instructionAccessFault f => Sys2Proof.Machine.execInstructionAccessFault f s
  | .valleyEntryComplete => Sys2Proof.Machine.execValleyEntryComplete s
  | .refinReturn => Sys2Proof.Machine.execRefinReturn s

end Sys2Proof.Machine
end

