-- ==== Sys2Proof/Machine/Balls.lean ====
section
/-!
DEFINITION. Machine/Balls.lean: what each ball of the 47 × 47 matrix is (R16, R19, R737 to R741): a signal of Tables 21-15 to
21-17 or a power ball of Table 21-18. Nothing in it changes; statements read it.
-/
namespace Sys2Proof.Machine

/-- The signals of a DRAM channel (R739). -/
inductive DdSig | dq (i : Nat) | dmi (i : Nat) | rdqsT (i : Nat) | rdqsC (i : Nat) | wckT (i : Nat) | wckC (i : Nat)
  | ckT (i : Nat) | ckC (i : Nat) | ca (i : Nat) | cs (i : Nat) | resetN
deriving DecidableEq, Repr

/-- The power groups of Table 21-18. -/
inductive Power | core | sram | lnk | hlnk | vdd2h | vddq | io | vdda | vbat | vss
deriving DecidableEq, Repr

/-- What a ball is. A low-speed or analog signal of Table 21-17 has its name and, in a group, its number: LTH_RNG_n[b] is 3n + b. -/
inductive Ball
  | lnkTx (n : Bool) (lane : Nat)
  | lnkRx (n : Bool) (lane : Nat)
  | refclk (n : Bool) (r : Nat)
  | dd (channel : Nat) (sig : DdSig)
  | pin (name : String) (i : Nat)
  | power (g : Power)
deriving DecidableEq, Repr

/-- Row letters by index, from 1 (Table 21-14). -/
def ballRows : List String :=
  ["A", "B", "C", "D", "E", "F", "G", "H", "J", "K", "L", "M", "N", "P", "T", "U", "V", "W", "Y"]
  ++ ["AA", "AB", "AC", "AD", "AE", "AF", "AG", "AH", "AJ", "AK", "AL", "AM", "AN", "AP", "AT", "AU", "AV", "AW", "AY"]
  ++ ["BA", "BB", "BC", "BD", "BE", "BF", "BG", "BH", "BJ"]

/-- The index of a row by its letters. -/
def ballRow (name : String) : Nat := ballRows.idxOf name + 1

/-- Half A of a DRAM channel block, relative row 0 to 3 and column 1 to 12 (Table 21-16). -/
def ddHalfA : List (List (DdSig ⊕ Power)) :=
  [[.inl (.dq 0), .inl (.dq 1), .inl (.dq 2), .inl (.dq 3), .inr .vss, .inl (.dq 8), .inl (.dq 9), .inl (.dq 10),
    .inl (.dq 11), .inr .vss, .inl (.ca 0), .inl (.ca 1)],
   [.inl (.dq 4), .inl (.dq 5), .inl (.dq 6), .inl (.dq 7), .inr .vddq, .inl (.dq 12), .inl (.dq 13), .inl (.dq 14),
    .inl (.dq 15), .inr .vddq, .inl (.ca 2), .inl (.ca 3)],
   [.inl (.dmi 0), .inl (.rdqsT 0), .inl (.rdqsC 0), .inr .vss, .inl .resetN, .inl (.dmi 1), .inl (.rdqsT 1), .inl (.rdqsC 1),
    .inr .vss, .inl (.ckT 0), .inl (.ca 4), .inl (.ca 5)],
   [.inl (.wckT 0), .inl (.wckC 0), .inr .vss, .inr .vddq, .inr .vss, .inl (.wckT 1), .inl (.wckC 1), .inr .vss,
    .inl (.cs 0), .inl (.ckC 0), .inl (.ca 6), .inl (.cs 1)]]

/-- A cell of half A as half B has it (R739). -/
def ddHalfB : DdSig ⊕ Power → DdSig ⊕ Power
  | .inl (.dq i) => .inl (.dq (i + 16))
  | .inl (.dmi i) => .inl (.dmi (i + 2))
  | .inl (.rdqsT i) => .inl (.rdqsT (i + 2))
  | .inl (.rdqsC i) => .inl (.rdqsC (i + 2))
  | .inl (.wckT i) => .inl (.wckT (i + 2))
  | .inl (.wckC i) => .inl (.wckC (i + 2))
  | .inl (.ckT i) => .inl (.ckT (i + 1))
  | .inl (.ckC i) => .inl (.ckC (i + 1))
  | .inl (.ca i) => .inl (.ca (i + 7))
  | .inl (.cs i) => .inl (.cs (i + 2))
  | .inl .resetN => .inr .vdd2h
  | .inr p => .inr p

/-- The ball at relative row `r` of 8 and relative column `k` from 1 of a channel's block. -/
def ddBall (c r k : Nat) : Ball :=
  let cell := ((ddHalfA.getD (r % 4) []).getD (k - 1) (.inr .vss))
  match if r < 4 then cell else ddHalfB cell with
  | .inl x => .dd c x
  | .inr p => .power p

/-- Lane and reference-clock balls (Table 21-15). -/
def lnkBall (row c : Nat) : Option Ball :=
  let lane (top : Bool) : Option Nat :=
    if c % 2 = 0 ∧ 8 ≤ c ∧ c ≤ 38 then some (if top then (c - 8) / 2 else (c + 24) / 2) else none
  let clk (n top : Bool) : Option Ball :=
    if c = 5 then some (.refclk n (if top then 0 else 2)) else if c = 41 then some (.refclk n (if top then 1 else 3)) else none
  let tx (n top : Bool) : Option Ball :=
    match lane top with
    | some l => some (.lnkTx n l)
    | none => clk n top
  if row = 2 then tx false true else if row = 3 then tx true true
  else if row = 5 then (lane true).map (.lnkRx false) else if row = 6 then (lane true).map (.lnkRx true)
  else if row = 46 then tx false false else if row = 45 then tx true false
  else if row = 43 then (lane false).map (.lnkRx false) else if row = 42 then (lane false).map (.lnkRx true)
  else none

/-- A run of numbered pins from a column. -/
def pinRun (c first n : Nat) (name : String) (base : Nat) : Option Ball :=
  if first ≤ c ∧ c < first + n then some (.pin name (base + (c - first))) else none

/-- Single pins from column 14 on. -/
def pinList (c first : Nat) (l : List String) : Option Ball := if first ≤ c then (l[c - first]?).map (fun x => .pin x 0) else none

/-- Low-speed and analog balls (Table 21-17). -/
def lowBall (row c : Nat) : Option Ball :=
  if row = 33 then
    (pinList c 14 ["XS_CLK", "XS_DQS"] <|> pinRun c 16 8 "XS_D" 0 <|> pinRun c 24 2 "XS_CS_N" 0 <|> pinRun c 26 1 "XS_RST_N" 0)
  else if row = 34 then
    (pinRun c 14 16 "WAKE" 0 <|> pinRun c 31 1 "TCXO_IN" 0 <|> pinRun c 33 1 "XTAL32_IN" 0 <|> pinRun c 34 1 "XTAL32_OUT" 0)
  else if row = 35 then
    pinList c 14 ["CP_SCK", "CP_CS_N", "CP_SDI", "CP_SDO", "IRQ_N", "FAULT_N", "PORST_N", "WRST_N", "UPD_N", "PPS_IN", "PPS_OUT",
      "MOT_A", "MOT_B", "TCK", "TMS", "TDI", "TDO", "TRST_N"]
  else if row = 36 then
    (pinRun c 14 12 "LTH_RNG" 0 <|> pinList c 26 ["DAC_LD_N", "LINE_SYNC"] <|> pinRun c 28 4 "ATRIG" 0)
  else if row = 37 then pinRun c 14 16 "DAC_OUT" 0 <|> pinRun c 30 4 "LTH_CMP" 0
  else if row = 38 then pinRun c 14 16 "AIN" 16
  else if row = 39 then pinRun c 14 16 "AIN" 0 <|> pinList c 30 ["AINCOM", "REFIN", "REFOUT"]
  else none

/-- Power balls outside the DRAM blocks (Table 21-18). -/
def powerBall (row c : Nat) : Power :=
  let side := decide (c ≤ 7 ∨ 39 ≤ c)
  if 10 ≤ row ∧ row ≤ 28 ∧ 15 ≤ c ∧ c ≤ 33 ∧ (row + c) % 2 = 0 then .core
  else if (row = 29 ∨ row = 31) ∧ 15 ≤ c ∧ c ≤ 33 then .sram
  else if (row = 8 ∧ 13 ≤ c ∧ c ≤ 35) ∨ (row = 40 ∧ 8 ≤ c ∧ c ≤ 38) ∨ ([5, 6, 42, 43].contains row && side) then .lnk
  else if (row = 9 ∧ 13 ≤ c ∧ c ≤ 35) ∨ ([2, 3, 45, 46].contains row && side) then .hlnk
  else if (c = 14 ∨ c = 34) ∧ 10 ≤ row ∧ row ≤ 32 then .vdd2h
  else if (c = 13 ∨ c = 35) ∧ 10 ≤ row ∧ row ≤ 32 then .vddq
  else if [(33, 13), (33, 27), (33, 29), (33, 31), (33, 33), (33, 35), (34, 13), (35, 13), (35, 33), (35, 35)].contains (row, c) then .io
  else if [(36, 13), (36, 33), (36, 35), (37, 34), (38, 31), (38, 33), (38, 35), (39, 34)].contains (row, c) then .vdda
  else if row = 34 ∧ c = 35 then .vbat
  else .vss

/-- The ball at row index 1 to 47 and column 1 to 47 (R738). -/
def ballAt (row c : Nat) : Ball :=
  if 8 ≤ row ∧ row ≤ 39 ∧ (c ≤ 12 ∨ 36 ≤ c) then
    ddBall ((row - 8) / 8 + (if 36 ≤ c then 4 else 0)) ((row - 8) % 8) (if 36 ≤ c then 48 - c else c)
  else ((lnkBall row c <|> lowBall row c)).getD (.power (powerBall row c))

/-- A signal ball terminated inside the package on the DV1024-G2B (R19); the positions and the power balls are those of the
DV1024-G2A (R741). -/
def ballTied : Ball → Bool
  | .lnkTx _ l | .lnkRx _ l => decide (16 ≤ l)
  | .refclk _ r => decide (2 ≤ r)
  | .dd c _ => decide (4 ≤ c)
  | _ => false

/-- The balls of one row that satisfy a test. -/
def ballsInRow (row : Nat) (f : Ball → Bool) : Nat := ((List.range 47).filter (fun i => f (ballAt row (i + 1)))).length

/-- The balls of the package that satisfy a test. -/
def ballCount (f : Ball → Bool) : Nat := ((List.range 47).map (fun i => ballsInRow (i + 1) f)).foldl (· + ·) 0

/-- The ball carries a signal. -/
def isSignal : Ball → Bool
  | .power _ => false
  | _ => true

end Sys2Proof.Machine
end

