-- ==== Sys2Proof/Machine/Pins.lean ====
section
/-!
DEFINITION. Machine/Pins.lean: what the output balls of Table 21-7 show, as functions of the state (R66, R83, R467, R533, R578,
R609, R659, R684, R711, R728, R729, R742). No command reads them; statements do.
-/
namespace Sys2Proof.Machine

/-- What a digital output ball shows; `undef` is a level that the spec leaves undefined (R742). -/
inductive Level | low | high | highZ | undef
deriving DecidableEq, Repr

/-- What REFOUT shows: high impedance, or the internal reference through its buffer. -/
inductive RefOut | highZ | internalRef
deriving DecidableEq, Repr

/-- What DAC_OUT_n shows: high impedance, or a code in its span. -/
inductive DacPin | highZ | code (span : Bool) (c : Nat)
deriving DecidableEq, Repr

/-- An output that its block pulls low, and otherwise drives high or, where it is open-drain, releases. -/
def pullDown (low pushPull : Bool) : Level := if low then .low else if pushPull then .high else .highZ

/-- A 1.8 V output while VDD_IO is on and in range, and otherwise (R742). -/
def ioPin (s : State) (l : Level) : Level := if pinsOk s then l else .undef

/-- IRQ_N (R659); released until step 7 of Table 2-6 (R66). -/
def pinIrq (s : State) : Level :=
  ioPin s <| pullDown (irqOut s && s.isl.phase == .run) (s.isl.phase == .run && bit (s.reg Ad.EVC_IRQ_CFG) 0)

/-- FAULT_N (R65, R66, R684). -/
def pinFault (s : State) : Level := ioPin s (pullDown (faultOut s) (!bit (s.reg Ad.FLT_CFG) 0))

/-- PPS_OUT (R467), at every valley depth. -/
def pinPps (s : State) : Level := ioPin s (if s.tb.ppsOut.high then .high else .low)

/-- Byte `i` on CP_SDO since CP_CS_N fell; none while the port does not answer, at high impedance (R83, R85). -/
def pinSdo (s : State) (i : Nat) : Option Byte := (s.cp.sdo).map (fun l => l.getD i 0xFF)

/-- LTH_RNG_n[2:0] (R66, R609): 0b000 while ANA does not run. -/
def pinRng (s : State) (n : Nat) : Nat := if s.running 32 then ((s.lth[n]?).map LthSt.pattern).getD 0 else 0

/-- REFOUT (R533). -/
def pinRefOut (s : State) : RefOut := if s.running 32 ∧ bit (s.reg Ad.ACQ_REF) 4 then .internalRef else .highZ

/-- DAC_OUT_n (R66, R572, R578, R579). While ANA is stopped its active copy holds the power-up code. -/
def pinDac (s : State) (n : Nat) : DacPin :=
  let w := s.reg (Ad.DAC_OUT n)
  if bit w 30 then .highZ else .code (bit w 16) (bf w 13 0)

/-- XS_RST_N (R711, R729): low after a reset until the flash is first used. -/
def pinXsRst (s : State) : Level := ioPin s (if s.evs.flashUp then .high else .low)

/-- LNK_TX of a port (Table 21-7): powered down while the port's island does not run. -/
def pinLnkUp (s : State) (p : Nat) : Bool := s.running (13 + p) && (portOf s p).mode != .disabled

/-- DD_n_RESET_N (Table 21-7): low until the channel's training. -/
def pinDdReset (s : State) (c : Nat) : Level := if (drcCh s c).mode = .untrained then .low else .high

end Sys2Proof.Machine
end

