-- ==== Sys2Proof/Safety.lean ====
section
/-!
DEFINITION. Safety.lean: the terms that claims use: memories in canonical form, level sources that are pending, a device in which
nothing is under way, and what two states agree on.
-/
namespace Sys2Proof.Machine

/-- Memories in canonical form: flash, the record core's TCM, DRAM, and the register files. -/
def Memory.wf (s : State) : Bool :=
  stWf flashDef s.flash && stWf tcmDef s.tcm && stWf (dramDef s) s.dram && stWf regReset s.regs && stWf regReset s.staged

/-- Every level source whose condition holds is pending (R657), in a device whose TB island runs. -/
def LevelsPending (s : State) : Prop :=
  (s.isl.phase = .run ∨ s.isl.phase = .warm) →
    ∀ src, src < 32 → levelOn s src = true → bit (s.reg (Ad.EVC_PEND 0)) src = true

/-- Nothing is under way that goes on by itself: no consequence is left, no block works, no latch and no fault is set, no counter
runs, and the islands of the ports are as the ports are. -/
def Quiet (s : State) : Bool :=
  s.effects.isEmpty && s.isl.phase == .run && !haBusy s && !tmmBusy s && s.chz.q.isEmpty && !rcBusy s && !acqBusy s && !lthBusy s
    && !valleyBusy s && s.cp.frame.isNone && s.tap.acc.isNone && s.pcu.on.isEmpty
    && (decide (2 ≤ s.depth) || (List.range (nPorts s)).all (fun p => ((portOf s p).mode != .disabled) == s.running (13 + p)))
    && (levelsOn s).isEmpty

/-- Every register but those listed reads the same. -/
def RegsBut (l : List Nat) (s t : State) : Prop := ∀ k, ¬ k ∈ l → t.reg k = s.reg k

/-- An island is clocked and does not stall for its PLL: events occur in it (R658, R78). -/
abbrev Clocked (s : State) (i : Nat) : Prop := s.running i = true ∧ stalled s i = false

/-- A port that the variant has, in a clocked island. -/
abbrev PortUp (s : State) (p : Nat) : Prop := p < nPorts s ∧ Clocked s (13 + p)

/-- The header of a flit holds on a port: its reserved bits are 0, its class exists, and its ACK lies within the flits sent (R177, R202). -/
abbrev HdrOk (s : State) (p : Nat) (h : FlitHdr) : Prop :=
  h.resv = 0 ∧ h.cclass ≤ 5 ∧ seqFrom (portOf s p).acked h.ack ≤ seqFrom (portOf s p).acked ((portOf s p).next + 4095)

/-- An ACTIVE port that has taken a flit's header: its corrected symbols counted, its ACK and CFREED taken. -/
abbrev headed (s : State) (p : Nat) (h : FlitHdr) : State := hdrTake (fecCount s p h.corr) p h

/-- A channel that the variant has, in a clocked island. -/
abbrev ChanUp (s : State) (c : Nat) : Prop := c < nChans s ∧ Clocked s (5 + c)

/-- Nothing beyond the links and what reports of them touch (registers, events, faults, counters) has changed. -/
def LinkOnly (s u : State) : Prop :=
  u = { s with
    regs := u.regs, lnk := u.lnk, evc := u.evc, flt := u.flt, evs := u.evs, pcu := u.pcu, isl := u.isl,
    effects := u.effects, free := u.free }

/-- A message row heads a DATA flit (R171). -/
abbrev heads (m : Msg) : Bool := dataHead (msgHead m).1

/-- The credits a message row occupies (R171). -/
abbrev needs (m : Msg) : List Nat := credits (msgHead m).2.1 (heads m)

/-- An ACTIVE port takes a message (R172, R189, R244): it lies within the credits advertised, its class fits its opcode, its
destination is the hub, and its source is an agent of the port whose GRANT has been sent and that is not declared unresponsive. -/
abbrev Accepts (s : State) (p : Nat) (m : Msg) : Prop :=
  PortUp s p ∧ (portOf s p).mode = .active ∧ classOk (msgHead m).1 (msgHead m).2.1 = true ∧ (msgHead m).2.2.2 = 0 ∧
    granted s p (msgHead m).2.2.1 = true ∧ unresp s (msgHead m).2.2.1 = false ∧
    ∀ c, c ∈ needs m → (portOf s p).got.getD c 0 - (portOf s p).freed.getD c 0 < hubAdv.getD c 0

/-- The state in which an accepted message is handed to its block: the attach complete, the message counted, its line seen by the
check units. -/
def arrived (s : State) (p : Nat) (m : Msg) : State :=
  ingress (setPort (attachComplete s p) p (fun (q : PortSt) =>
    { q with got := (needs m).foldl (fun l c => upd l c (· + 1)) q.got })) p m

/-- A write of a register by a source reaches it: the control port, while it answers, reaches every listed register, the record core and debug those of
the access map (Table 10-4), and the register's island is clocked. -/
def Takes (s : State) (src : Src) (k : Nat) : Prop :=
  (if src = .cp then cpAnswers s = true else icStoreOk k = true) ∧ ∃ r ix, regHere s k = some (r, ix) ∧ Clocked s (rowIsland r ix)

/-- `b` is `s` but that register `k` reads `v`; parity errors may have ended with the write (R140). -/
def Written (k : Nat) (v : Word) (s b : State) : Prop :=
  b.reg k = v ∧ (∀ j, j ≠ k → b.reg j = s.reg j) ∧ (∀ j, b.stg j = s.stg j) ∧ (∀ e, e ∈ b.parErr → e ∈ s.parErr)
    ∧ b = { s with regs := b.regs, staged := b.staged, parErr := b.parErr }

/-- The SQ registers of the register index (Table 4-1). -/
def sqKeys : List Nat :=
  [Ad.CP_STATUS, Ad.ISL_RESET_CAUSE, Ad.ISL_LATCH, Ad.ISL_LATCH_OVF] ++ (List.range 16).map Ad.LNK_EVT ++
    [Ad.HA_EVT, Ad.SF_EVT, Ad.TMM_EVT, Ad.PAS_EVT] ++ (List.range 8).map Ad.DRC_EVT ++
    [Ad.RCC_BUSERR, Ad.CHZ_EVT, Ad.TBU_EVT, Ad.MOT_EVT, Ad.EVS_EVT, Ad.ACQ_EVT, Ad.DAC_EVT] ++ (List.range 4).map Ad.LTH_EVT ++
    [Ad.CVU_EVT, Ad.PCU_OVF 0, Ad.PCU_OVF 1, Ad.PCU_EVT, Ad.EVC_EVT, Ad.FLT_LOCKVIOL, Ad.FLT_RAISED_0, Ad.FLT_RAISED_1,
      Ad.FLT_EVT, Ad.CP_TBL_EVT]

end Sys2Proof.Machine
end

