-- ==== Sys2Proof/Certificates/Slice0/Obligations.lean ====
section
/-!
DEFINITION. Certificates/Slice0/Obligations.lean: the statements for the provers.
-/
open Sys2Proof Sys2Proof.Machine

/-- A step with a command at the front of the queue is exec of that command on the state whose queue is the rest (log entry 5: the queue is the model's way of taking commands one at a time). -/
def Obligations.FrontCommandRuns : Prop :=
  ∀ (s : State) (c : Instr) (rest : List Instr), s.pending = c :: rest → step s = exec c (s.withPending rest)

/-- No command stops the device: each answers a next state, in which the queue of waiting commands and the device's variant are as before (R3: the variant is fixed). -/
def Obligations.CommandsCompleteAndKeepTheQueue : Prop :=
  ∀ (c : Instr) (s : State), ∃ t, exec c s = .next t ∧ t.pending = s.pending ∧ t.variant = s.variant

/-- On an empty queue a step is one cycle of the TB clock (DESIGN CHOICE, log entry 5). While PORST_N is low or step 1 of Table 2-6 waits for the TCXO, TB does not run and the state stays as it is. -/
def Obligations.IdleStepIsATick : Prop :=
  ∀ s : State, s.pending = [] →
    step s = .next (tick s) ∧ (s.isl.phase = .porst ∨ s.isl.phase = .hold → step s = .next s)

/-- Invariant: in every state in which TB runs, each of the level sources (the 24 LATCH sources, LATCH_OVF and FLT_ANY of Table 18-1) whose condition holds has its pending bit set. Every step, whatever the command and also an idle one, keeps it: a level source that software clears while its condition holds is pending again. Formalises the sentence of R657 on level sources. -/
def Obligations.LevelSourcesStayPending : Prop :=
  ∀ s t : State, LevelsPending s → step s = .next t → LevelsPending t

/-- At State.reset the invariant on level sources holds, the register file and every memory are in canonical form, no event is pending and no command waits. -/
def Obligations.ResetIsCanonicalAndPending : Prop :=
  LevelsPending State.reset ∧ Memory.wf State.reset = true ∧ State.reset.pending = [] ∧
    ∀ k, k < 8 → State.reset.reg (Ad.EVC_PEND k) = 0

/-- The values the register index gives: CP_ID, no lock domain locked, strict mode off, Open with no transition in progress, ORDER selecting mode S, every TIMECMP bit set, no fault raised or contained, and the EVC_MASK words with all but reserved sources masked. The DV1024-G2B differs in OTP_VARIANT, by which software tells it, in its islands and in the masks of the sources it does not have. The package has 859 signal balls, of which 368 are terminated on a DV1024-G2B, each at the place of Tables 21-15 to 21-17. (Registers for which the spec gives no reset value are not named here.) -/
def Obligations.RegistersAtReset : Prop :=
  State.reset.reg Ad.CP_ID = 0xD1A01024 ∧ State.reset.reg Ad.CP_LOCK = 0 ∧ State.reset.reg Ad.CP_LOCK_STRICT = 0 ∧
    State.reset.reg Ad.CP_VALLEY = 0x0000FF00 ∧ bit (State.reset.reg Ad.RCC_CTRL) 0 = true ∧
    State.reset.reg Ad.RCC_TIMECMP_LO = 0xFFFFFFFF ∧ State.reset.reg Ad.RCC_TIMECMP_HI = 0xFFFFFFFF ∧
    fltSummary State.reset = 0 ∧ State.reset.reg (Ad.EVC_MASK 0) = 0xDFFFFFFF ∧ State.reset.reg (Ad.EVC_MASK 1) = 0xFFFFFFFF ∧
    State.reset.reg (Ad.EVC_MASK 2) = 0x001FFFFF ∧ State.reset.reg (Ad.EVC_MASK 3) = 0 ∧ State.reset.reg (Ad.EVC_MASK 7) = 0 ∧
    isG2B State.reset = false ∧ State.reset.reg Ad.OTP_VARIANT = 0x000F070A ∧ nPorts State.reset = 16 ∧
    isG2B State.resetG2B = true ∧ State.resetG2B.reg Ad.OTP_VARIANT = 0x0007030B ∧ nPorts State.resetG2B = 8 ∧
    State.resetG2B.reg Ad.CP_ID = 0xD1A01024 ∧ State.resetG2B.reg (Ad.EVC_MASK 1) = 0xF0FF0FFF ∧
    ballCount isSignal = 859 ∧ ballCount (fun b => ballTied b) = 368 ∧
    ballAt (ballRow "AA") 44 = .dd 5 (.dq 19) ∧ ballAt (ballRow "BD") 18 = .lnkRx true 21 ∧ ballAt (ballRow "B") 5 = .refclk false 0 ∧
    ballAt (ballRow "AU") 18 = .pin "IRQ_N" 0 ∧ ballAt (ballRow "K") 16 = .power .core ∧ ballAt (ballRow "A") 1 = .power .vss

/-- Chapter 2: a PORST_N pulse of 200 ns or more, a loss of the main supplies and VDD_CORE below the droop threshold for more than 5 us put the device in power-on reset; the release runs Table 2-6 where the TCXO is found and stays at step 1 where it is not; TCXO_ABSENT sets at the 10 ms limit; WRST_N resets a running device, and its release repeats steps 5 to 7; a loss of VBAT loses what AON keeps; a supply that leaves its band sets latch 22 and raises SUPPLY (class 5) once, and returns into its band. (The operands and the droop threshold are those of log entries 19 and 20.) -/
def Obligations.ResetAndSupplyCommandsAct : Prop :=
  ∀ (s : State) (low level dur ticks code : Nat) (tcxo : Bool),
    (200 ≤ low → exec (.porstNAssert low) s = .next (finish s (porst s))) ∧
    (∀ v : State, v = { s with isl := { s.isl with vbat := true, vio := true } } → s.isl.phase = .porst →
      exec (.porstNRelease true ticks) s =
        .next (finish s (porSteps (tbStep2 (rtcRun (sqBits v Ad.ISL_RESET_CAUSE (1 + 4 * b2n s.isl.rtcGone)) ticks)))) ∧
      exec (.porstNRelease false ticks) s =
        .next (finish s (islHold (rtcRun (sqBits v Ad.ISL_RESET_CAUSE (1 + 4 * b2n s.isl.rtcGone)) ticks) .hold false 0x200000005 false))) ∧
    (s.isl.phase = .hold → exec .tcxoDetectTimeout s = .next (finish s (sqBits s Ad.ISL_RESET_CAUSE 32))) ∧
    (200 ≤ low → s.isl.phase = .run → exec (.wrstNAssert low) s = .next (finish s (wrst s 2)) ∧ (wrst s 2).isl.phase = .warm) ∧
    (s.isl.phase = .warm → s.isl.warmInPor = false →
      ∃ u, u.isl.phase = .run ∧
        exec (.wrstNRelease tcxo ticks) s = .next (finish s (dacReport (bootReset (acqAnaStart u))))) ∧
    (5000 < dur → level < droopAt → s.isl.phase ≠ .porst →
      exec (.droopReset level dur tcxo ticks) s = .next (finish s (porstRelease (porst s) tcxo ticks 8))) ∧
    (∃ u, exec .supplyLoss s = .next (finish s u) ∧
      u = { porst s with regs := u.regs, isl := { (porst s).isl with vio := false }, lth := u.lth } ∧
      (∀ k, lthRamKey k = false → u.reg k = (porst s).reg k) ∧
      u.lth.map LthSt.ramLoss = (porst s).lth.map (fun l => l.ramLoss + 1)) ∧
    (∃ u, exec .vbatLoss s = .next (finish s u) ∧ u.evs.hwm = none ∧ u.isl.rtcGone = true ∧ u.isl.vbat = false ∧
      (∀ k, keptCold k = true → u.reg k = regReset k) ∧ (∀ k, keptCold k = false → u.reg k = s.reg k)) ∧
    (35 ≤ code → code ≤ 38 → s.isl.phase ≠ .porst → s.isl.supplyOut.getLsbD (code - 35) = false →
      ∃ u, exec (.supplyMonitorEvent code) s = .next (finish s (raise (setLatch u 22) 5 code)) ∧
        u.isl.supplyOut.getLsbD (code - 35) = true ∧ (∀ k, u.reg k = s.reg k)) ∧
    (35 ≤ code → code ≤ 38 →
      ∃ u, exec (.supplyReturn code) s = .next (finish s u) ∧ u.isl.supplyOut.getLsbD (code - 35) = false ∧ (∀ k, u.reg k = s.reg k))

/-- PORST_N low for 200 ns or more, and a loss of the main supplies: the device is held in reset with only AON clocked; CP_LOCK and CP_LOCK_STRICT read 0; no containment, escalation or pending effect is left; every DAC output is at high impedance, REFOUT and CP_SDO are too, every LTH_RNG_n is 0b000, XS_RST_N and FAULT_N are low and IRQ_N is released (while VDD_IO stands); DRAM is left as it is, and OTP rows too where no OTP command is cut short. -/
def Obligations.PowerOnResetLeaves : Prop :=
  ∀ (s : State) (c : Instr) (low : Nat), (c = .porstNAssert low ∧ 200 ≤ low) ∨ c = .supplyLoss →
    ∃ t, exec c s = .next t ∧ t.isl.phase = .porst ∧ (∀ i, t.running i = decide (i = 0)) ∧
      t.reg Ad.CP_LOCK = 0 ∧ t.reg Ad.CP_LOCK_STRICT = 0 ∧ t.flt = fltFresh ∧ t.effects = [] ∧
      t.dram = s.dram ∧ (s.otp.cmd = none → t.otp.rows = s.otp.rows) ∧ t.pending = s.pending ∧
      (∀ n, n < 16 → bit (t.reg (Ad.DAC_OUT n)) 30 = true ∧ pinDac t n = .highZ) ∧ (∀ n, n < 4 → pinRng t n = 0) ∧
      pinRefOut t = .highZ ∧ (∀ i, pinSdo t i = none) ∧ pinXsRst t = ioPin t .low ∧ pinFault t = ioPin t .low ∧
      pinIrq t = ioPin t .highZ

/-- WRST_N low for 200 ns or more on a running device: CP_LOCK and CP_LOCK_STRICT are kept; the escalation and every containment end; FLT_SUMMARY, FLT_RAISED_0, FLT_RAISED_1, FLT_LOCKVIOL and every FLT_CNT are cleared and pending FAULT offers are discarded; only AON and TB are clocked. -/
def Obligations.WarmResetKeepsLocks : Prop :=
  ∀ (s : State) (low : Nat), 200 ≤ low → s.isl.phase = .run →
    ∃ t, exec (.wrstNAssert low) s = .next t ∧ t.isl.phase = .warm ∧ (∀ i, t.running i = decide (i ≤ 1)) ∧
      t.reg Ad.CP_LOCK = s.reg Ad.CP_LOCK ∧ t.reg Ad.CP_LOCK_STRICT = s.reg Ad.CP_LOCK_STRICT ∧
      t.flt.esc = none ∧ t.flt.con0 = 0 ∧ t.flt.con1 = 0 ∧ t.flt.offers = [] ∧ fltSummary t = 0 ∧
      t.reg Ad.FLT_RAISED_0 = 0 ∧ t.reg Ad.FLT_RAISED_1 = 0 ∧ t.reg Ad.FLT_LOCKVIOL = 0 ∧ (∀ c, c ≤ 40 → fltCnt t c = 0)

/-- The glitch filter: a pulse shorter than 200 ns has no effect of its own, so in a quiet device the state stays as it is. -/
def Obligations.ShortResetPulsesAreIgnored : Prop :=
  ∀ (s : State) (low : Nat), low < 200 →
    exec (.porstNAssert low) s = .next (finish s s) ∧ exec (.wrstNAssert low) s = .next (finish s s) ∧
    (Quiet s = true → exec (.porstNAssert low) s = .next s ∧ exec (.wrstNAssert low) s = .next s)

/-- Chapter 2: a TARGET write, the record core's RC_READY and WAKE_REQ writes, the end and the limits of the steps of Table 2-3, wake edges of 20 ns or more, PLL locks and losses, the end of an exit, an on-demand island's idle stop, and the AUTO_RETURN re-entry, each under the conditions in which it acts. -/
def Obligations.ValleyCommandsAct : Prop :=
  ∀ (s : State) (w : Word) (ready rising : Bool) (src width k isl : Nat),
    (Takes s .cp Ad.CP_VALLEY → ∃ b, Written Ad.CP_VALLEY (setBf (setBf (s.reg Ad.CP_VALLEY) 2 2 (bf w 2 2)) 1 0 (bf w 1 0)) s b ∧
      exec (.valleyTargetWrite .cp w) s = .next (finish s (targetWrite b (bf w 1 0)))) ∧
    (Clocked s 29 → rcFree s = true → s.rc.sb = [] →
      (∃ u, exec (.rcReadyWrite false) s = .next (finish s u) ∧ bit (u.reg Ad.ISL_RC_CTRL) 0 = true ∧ u.isl = s.isl ∧ u.rc.cur = none) ∧
      (s.isl.stage = .idle → s.depth ≠ 0 →
        ∃ u, exec (.wakeReqWrite ready) s = .next (finish s u) ∧ u.isl.stage = .exit ∧ u.isl.goal = 0 ∧ u.fld Ad.CP_VALLEY 15 8 = 0xFD)) ∧
    (s.isl.phase = .run →
      (s.isl.stage = .drain → drainOk s = true →
        exec .valleyDrainDone s = .next (finish s (eachPort parkEnter
          (((s.tmm.jobs.filter (fun j => j.kind == .fold || j.kind == .drop)).map PJob.key).foldl foldAbort (vStage s .park s.isl.goal))))) ∧
      (s.isl.stage = .gbDrain → gbOk s = true → exec .valleyDrainDone s = .next (finish s (vStage (anaStop s) .waitWfi 3))) ∧
      (s.isl.stage = .waitRc → exec .valleyRcLimitExpiry s = .next (finish s (abandonEntry s))) ∧
      (s.isl.stage = .drain ∨ s.isl.stage = .park ∨ s.isl.stage = .gbDrain →
        exec .valleyDrainLimitExpiry s = .next (finish s (abandonEntry s))) ∧
      (k < 2 + nPorts s → s.isl.pll.getLsbD k = false → s.depth ≠ 3 →
        ∃ u, exec (.pllLock k) s = .next (finish s u) ∧ u = { s with isl := { s.isl with pll := s.isl.pll ||| (1#18 <<< k) } }) ∧
      (k < 2 + nPorts s → s.isl.pll.getLsbD k = true →
        exec (.pllLockLoss k) s = .next (finish s (raise { s with isl := { s.isl with pll := s.isl.pll &&& ~~~(1#18 <<< k) } } 3
          (if k = 0 then 0x100 else if k = 1 then 0x200 else 0x300 + (k - 2))))) ∧
      (s.isl.stage = .park → parkOk s = true → exec .valleyEntryComplete s = .next (finish s (glenArrive s))) ∧
      (basinOk s = true → exec .valleyEntryComplete s = .next (finish s (basinArrive s))) ∧
      (s.isl.stage = .exit → exitReady s = true → exec .valleyExitComplete s = .next (finish s (exitComplete s)) ∧
        (s.isl.goal = 2 → s.isl.keptTarget = none →
          (exitComplete s).isl.stage = .idle ∧ (exitComplete s).depth = 2 ∧ vBusy (exitComplete s) = false)) ∧
      (vBusy s = false → s.depth = 2 ∨ s.depth = 3 → demandIdle s isl = true →
        exec (.islandIdleStop isl) s = .next (finish s (stopIsls s [isl]))) ∧
      (s.isl.autoRet = true → s.isl.otherWake = false → bit (s.reg Ad.ISL_VALLEY_CFG) 31 = true → s.depth = 2 → vBusy s = false →
        evsIdle s = true → exec .autoReturnReentry s = .next (finish s (entryStart (vTarget s 3) 3)))) ∧
    (Clocked s 0 → 20 ≤ width → pinsOk s = true →
      (src < 16 → bit (s.reg Ad.ISL_WAKE_EDGE) (2 * src + b2n (!rising)) = true →
        exec (.wakeEdge src rising width) s = .next (finish s (setLatch s src))) ∧
      exec (.wakeEdge 16 false width) s = .next (finish s (setLatch (if s.isl.phase = .run then startIsl s 2 else s) 16)) ∧
      (rising = !bit (s.reg Ad.TBU_SRV_CFG) 0 → exec (.wakeEdge 17 rising width) s = .next (finish s (setLatch s 17)))) ∧
    (Clocked s 1 → s.tb.intOsc = true → exec .refHoldExpiry s = .next (finish s (raise s 4 0)))

/-- A CP_VALLEY.TARGET write while BUSY is 1 is kept: the transition in progress goes on as it was, whatever TARGET an earlier write left waiting is replaced by this one, and the kept TARGET is acted on at the end of the transition. A write of the depth that the device stands at, while BUSY is 0, clears ABANDONED and changes nothing else, a re-entry that is due included (R53). -/
def Obligations.TargetWriteWhileBusyIsKept : Prop :=
  ∀ (s : State) (v : Nat), v < 4 →
    (vBusy s = false → v = s.depth → let u := targetWrite s v;
      u = { s with regs := u.regs } ∧ RegsBut [Ad.CP_VALLEY] s u ∧
        u.reg Ad.CP_VALLEY = setBf (setBf (s.reg Ad.CP_VALLEY) 7 7 0) 1 0 v) ∧
    (vBusy s = true →
    (targetWrite s v).isl.keptTarget = some v ∧ (targetWrite s v).isl.stage = s.isl.stage ∧ (targetWrite s v).isl.goal = s.isl.goal ∧
    (targetWrite s v).depth = s.depth ∧ (targetWrite s v).fld Ad.CP_VALLEY 1 0 = v ∧ vBusy (targetWrite s v) = true ∧
    (∀ u, u.isl.keptTarget = some v → vBusy u = false →
      keptAct u = targetAct (vTarget { u with isl := { u.isl with keptTarget := none } } v) v))

/-- Table 2-8 and the authenticated unlock: the instructions select their data register; a challenge is 32 bytes, any bytes, spent by the next response; a response that passes every check offers a DEBUG_UNLOCK record and waits for its carve, one that fails leaves its STATUS; and each operation of DBG_ACCESS whose GRANT bit is open does its access (IC space, window), its change of the core's run state, its register read, or its warm reset. -/
def Obligations.TapCommandsAct : Prop :=
  ∀ (s : State) (grant d : Word) (sig key : List Byte) (a n ticks : Nat) (tcxo : Bool),
    exec .trstNReset s = .next (finish s { s with tap := { s.tap with ir := 1, dr := 0 } }) ∧
    exec .idcode s = .next (finish s { s with tap := { s.tap with ir := 1, dr := 0x1D1024A3 } }) ∧
    exec .bypass s = .next (finish s { s with tap := { s.tap with ir := 0x3F, dr := 0 } }) ∧
    (∃ x, exec .extest s = .next (finish s { s with tap := { s.tap with ir := 0, dr := x }, free := s.free + 1 })) ∧
    (∃ x, exec .samplePreload s = .next (finish s { s with tap := { s.tap with ir := 2, dr := x }, free := s.free + 1 })) ∧
    (∃ l : List Byte, l.length = 32 ∧ exec .unlockChal s =
      .next (finish s { s with tap := { s.tap with ir := 0x20, dr := ofBytesLE l, chal := if s.isl.phase = .run then some l else none }, free := s.free + 32 })) ∧
    exec .unlockRespStatus s = .next (finish s { s with tap := { s.tap with ir := 0x21, dr := s.tap.status } }) ∧
    (s.isl.phase = .run →
      (∀ c, s.tap.chal = some c → unlockJudge s grant sig key = 0 →
        let p := pad128 (toBytesLE 4 grant.toNat ++ List.replicate 12 0 ++ sha256 c);
        let s1 : State := { s with tap := { s.tap with ir := 0x21, chal := none, status := 0 } };
        ((evsOffer s1 7 p none).2 ≠ .busy → exec (.unlockResp grant sig key) s =
          .next (finish s { (evsOffer s1 7 p none).1 with tap := { (evsOffer s1 7 p none).1.tap with waiting := some p } }))) ∧
      (unlockJudge s grant sig key ≠ 0 → exec (.unlockResp grant sig key) s =
        .next (finish s { s with tap := { s.tap with ir := 0x21, chal := none, status := unlockJudge s grant sig key } })) ∧
      (s.tap.waiting.isSome = true → exec .debugUnlockTimeout s =
        .next (finish s { s with tap := { s.tap with waiting := none, status := 5 } })) ∧
      (s.tap.grant ≠ 0 → s.tap.acc = none →
        let s1 : State := { s with tap := { s.tap with ir := 0x22, dr := s.tap.accStatus * 2 ^ 32 + s.tap.accData.toNat } };
        (s.tap.grant.testBit 1 = true → exec (.dbgIcRead a) s = .next (finish s (accIc s1 1 a 0))) ∧
        (s.tap.grant.testBit 2 = true → exec (.dbgIcWrite a d) s = .next (finish s (accIc s1 2 a d))) ∧
        (s.tap.grant.testBit 3 = true → exec (.dbgWindowRead a) s = .next (finish s (accWin s1 3 a 0))) ∧
        (s.tap.grant.testBit 4 = true → exec (.dbgWindowWrite a d) s = .next (finish s (accWin s1 4 a d))) ∧
        (s.tap.grant.testBit 0 = true →
          exec .dbgHalt s = .next (finish s (accEnd { s1 with rc := { s1.rc with halted := true } } 0 0)) ∧
          exec .dbgResume s = .next (finish s (accEnd { s1 with rc := { s1.rc with halted := false, step1 := false } } 0 0)) ∧
          (s.rc.halted = true → exec .dbgStep s = .next (finish s (accEnd { s1 with rc := { s1.rc with step1 := true } } 0 0))) ∧
          (s.rc.halted = true → exec (.dbgReadRegister 0) s = .next (finish s (accEnd s1 0 s.rc.pc))) ∧
          (s.rc.halted = true → 1 ≤ n → n ≤ 31 → exec (.dbgReadRegister n) s = .next (finish s (accEnd s1 0 (rx s n))))) ∧
        (s.tap.grant.testBit 5 = true →
          exec (.dbgWarmReset tcxo ticks) s = .next (finish s (wrstRelease (wrst s1 16) tcxo ticks)))))

/-- TRST_N resets the TAP only: in a quiet device, TRST_N, EXTEST, IDCODE, SAMPLE/PRELOAD, BYPASS, UNLOCK_CHAL and a status scan of UNLOCK_RESP leave every other piece of state as it is (the model's own counter of free values apart), and TRST_N keeps the open grant, the challenge and the unlock status. -/
def Obligations.TapLeavesTheRest : Prop :=
  ∀ (s : State) (c : Instr), Quiet s = true →
    c ∈ [Instr.trstNReset, .extest, .idcode, .samplePreload, .bypass, .unlockChal, .unlockRespStatus] →
    ∃ t, exec c s = .next t ∧ t = { s with tap := t.tap, free := t.free } ∧
      (c = .trstNReset → t.free = s.free ∧ t.tap = { s.tap with ir := 1, dr := 0 })

/-- Every debug feature but boundary scan requires an authenticated unlock: while no grant is open each DBG_ACCESS operation leaves the device as it is and selects BYPASS. While a grant is open and no operation is in progress, an operation whose GRANT bit is not set ends with STATUS 2 and reaches nothing. -/
def Obligations.LockedDebugSelectsBypass : Prop :=
  ∀ (s : State) (c : Instr) (g : Nat), s.isl.phase = .run →
    ((∃ a, c = .dbgIcRead a ∧ g = 1) ∨ (∃ a d, c = .dbgIcWrite a d ∧ g = 2) ∨ (∃ a, c = .dbgWindowRead a ∧ g = 3) ∨
      (∃ a d, c = .dbgWindowWrite a d ∧ g = 4) ∨ (c = .dbgHalt ∧ g = 0) ∨ (c = .dbgResume ∧ g = 0) ∨ (c = .dbgStep ∧ g = 0) ∨
      (∃ n, c = .dbgReadRegister n ∧ g = 0) ∨ ∃ x k, c = .dbgWarmReset x k ∧ g = 5) →
    (s.tap.grant = 0 → exec c s = .next (finish s { s with tap := { s.tap with ir := 0x3F, dr := 0 } }) ∧
      (Quiet s = true → exec c s = .next { s with tap := { s.tap with ir := 0x3F, dr := 0 } })) ∧
    (s.tap.grant ≠ 0 → s.tap.acc = none → s.tap.grant.testBit g = false → exec c s = .next (finish s { s with tap := { s.tap with
      ir := 0x22, dr := s.tap.accStatus * 2 ^ 32 + s.tap.accData.toNat, acc := none, accStatus := 2, accData := 0 } }))

/-- Chapter 3: a NOP frame with a right CCRC is answered OK with no access; an RD or WR frame whose CCRC is right, whose words lie in one region and which no pending access holds back goes on word by word from its first; a frame of an undefined OPC is answered BAD_OP; an early rise sets the status bit and counts; a late rise lets the frame in its stall phase go on with nothing driven, and without one it is the given frame's; STALL_MAX ends the frame with STALL_EXPIRED while its access goes on, or between two words without one; the pending access ends and clears PEND; and 10 ms of PEND raise CP_STALL (class 1) with CP_LAST as INFO. -/
def Obligations.FrameCommandsAct : Prop :=
  ∀ (s : State) (opc tag len addr : Nat) (words : List Word) (ccrc : Byte) (late : Bool),
    (cpAnswers s = true → s.cp.frame = none →
      (let f : CpFrame := ⟨3, tag % 16, len % 16, addr % 4096, [], ccrc, 0, [], 0, 0, 0, false, late, false, 0⟩;
        crc8 (frameHdr f) = ccrc → exec (.cpFrameNop tag len addr ccrc late) s =
          .next (finish s (frameEnd (csFall s) { f with dup := bit ((csFall s).reg Ad.CP_CFG) 0 } true))) ∧
      (let f : CpFrame := ⟨1, tag % 16, len % 16, addr % 4096, [], ccrc, 0, [], 0, 0, 0, false, late, false, 0⟩;
        let g : CpFrame := { f with dup := bit ((csFall s).reg Ad.CP_CFG) 0 };
        crc8 (frameHdr f) = ccrc → cpLenOk (addr % 4096) (len % 16) = true → s.cp.pendAcc = none →
          exec (.cpFrameRd tag len addr ccrc late) s =
            .next (finish s (frameGo (timeCopy (csFall s) g) { g with base := frameBase (timeCopy (csFall s) g) g }))) ∧
      (let f : CpFrame := ⟨2, tag % 16, len % 16, addr % 4096, (words ++ List.replicate 16 0).take (len % 16 + 1), ccrc, 0, [], 0, 0, 0, false, late, false, 0⟩;
        crc8 (frameHdr f ++ f.words.flatMap (fun (w : Word) => toBytesLE 4 w.toNat)) = ccrc →
        cpLenOk (addr % 4096) (len % 16) = true → s.cp.pendAcc = none → bit ((csFall s).reg Ad.CP_CFG) 0 = false →
          exec (.cpFrameWr tag len addr words ccrc late) s =
            .next (finish s (frameGo { csFall s with cp := { (csFall s).cp with kept := none, pendWr := false } }
              { f with base := frameBase { csFall s with cp := { (csFall s).cp with kept := none, pendWr := false } } f }))) ∧
      (opc = 0 ∨ (4 ≤ opc ∧ opc < 16) →
        let f : CpFrame := ⟨opc, tag % 16, len % 16, addr % 4096, [], ccrc, 0, [], 0, 0, 0, false, late, false, 0⟩;
        crc8 (frameHdr f) = ccrc → exec (.cpFrameUndefinedOp opc tag len addr ccrc late) s =
          .next (finish s (frameRefuse (csFall s) { f with dup := bit ((csFall s).reg Ad.CP_CFG) 0 } 9))) ∧
      exec .cpCsEarlyRise s = .next (finish s (setCp (errCount (cpStatusSet (csFall s) 1) 16) (fun c => { c with sdo := some [] }))) ∧
      exec (.cpCsLateRise opc tag len addr words ccrc) s = .next (finish s (cpFrame s opc tag len addr words ccrc true))) ∧
    (∀ f, s.cp.frame = some f →
      exec (.cpCsLateRise opc tag len addr words ccrc) s =
        .next (finish s (frameGo { s with cp := { s.cp with frame := none } } { f with late := true })) ∧
      (Clocked s 2 →
        let f1 := cutOff f;
        let s1 := frameEnd (winAfter s (f.addr + f.idx) f.base 6) f1 true;
        exec (.cpStallExpiry true) s = .next (finish s s1) ∧
        exec (.cpStallExpiry false) s =
          .next (finish s (setCp (cpLast s1 f1 true) (fun c => { c with pendAcc := some f1, pendWr := f1.opc == 2 }))))) ∧
    (∀ f s1 c v, Clocked s 2 → s.cp.pendAcc = some f → f.expired = true → frameWord s f = .done s1 c v →
      exec .cpPendingAccessDone s =
        .next (finish s ((setCp s1 (fun c => { c with pendAcc := none })).setFld Ad.CP_LAST 15 15 0))) ∧
    (Clocked s 2 → s.cp.pendAcc ≠ none → exec .cpStallFaultTimeout s = .next (finish s (raise s 1 (s.reg Ad.CP_LAST).toNat)))

/-- A frame of any operation whose CCRC is wrong is answered with status code 8 (BAD_CCRC) and accesses nothing: apart from what the fall of CP_CS_N does, only the response, CP_STATUS and CP_ERRCNT change. -/
def Obligations.BadCcrcAccessesNothing : Prop :=
  ∀ (s : State) (opc tag len addr : Nat) (words : List Word) (ccrc : Byte) (late : Bool), cpAnswers s = true → s.cp.frame = none →
    let f : CpFrame := ⟨opc % 16, tag % 16, len % 16, addr % 4096, if opc = 2 then (words ++ List.replicate 16 0).take (len % 16 + 1) else [], ccrc, 0, [], 0, 0, 0, false, late, false, 0⟩;
    crc8 (frameHdr f ++ f.words.flatMap (fun (w : Word) => toBytesLE 4 w.toNat)) ≠ ccrc →
    ∃ t, cpFrame s opc tag len addr words ccrc late = t ∧ (∀ k, k ≠ Ad.CP_STATUS → k ≠ Ad.CP_ERRCNT → t.reg k = (csFall s).reg k) ∧
      t = { csFall s with regs := t.regs, cp := { (csFall s).cp with resp := t.cp.resp, sdo := t.cp.sdo }, free := t.free } ∧
      (late = false → opc % 16 ≠ 1 → t.cp.resp.head? = some (BitVec.ofNat 8 (tag % 16 * 16 + 8)))

/-- A one-word frame to a listed control port word whose island is clocked: RD drives the register's four bytes, least significant first, then the status byte (TAG and code OK) and the RCRC, all after at least one and at most STALL_MAX wait bytes 0xFF and one ready byte 0xA5 (how many wait bytes: a free value, log entry 60); WR writes the register through the control port and answers OK or LOCKED (code 1). -/
def Obligations.FrameReadsAndWritesAWord : Prop :=
  ∀ (s : State) (tag w k : Nat) (v : Word) (r : RegRow) (ix : List Nat), tag < 16 → w < 0x100 → s.cp.pendAcc = none →
    directKey w = some k → regHere s k = some (r, ix) → Clocked s (rowIsland r ix) → readBad s k r = none → w ≠ 0x40 → w ≠ 0x41 →
    (let f : CpFrame := ⟨1, tag, 0, w, [], 0, 0, [], 0, 0, 0, false, false, false, 0⟩;
      (frameGo s f).cp.resp = toBytesLE 4 (regTake s k r).2.toNat ++ [BitVec.ofNat 8 (16 * tag)] ++
        [crc8 (frameHdr f ++ toBytesLE 4 (regTake s k r).2.toNat ++ [BitVec.ofNat 8 (16 * tag)])] ∧
      ∃ n, 1 ≤ n ∧ n ≤ stallMax s ∧ (frameGo s f).cp.sdo = some (List.replicate (4 + n) 0xFF ++ [0xA5] ++ (frameGo s f).cp.resp)) ∧
    (let f : CpFrame := ⟨2, tag, 0, w, [v], 0, 0, [], 0, 0, 0, false, false, false, 0⟩;
      let x := regWrite s .cp k none v;
      ∃ t, frameGo s f = t ∧ (∀ j, j ≠ Ad.CP_STATUS → j ≠ Ad.CP_LAST → t.reg j = x.1.reg j) ∧
        t.cp.resp.head? = some (BitVec.ofNat 8 (16 * tag + (if x.2.1 then 1 else 0))))

/-- Chapter 4: a register write is judged field by field; a strobe command strobes the groups of its mask; an UPD_N pulse of at least 20 ns high and 20 ns low, and the scheduled time, strobe the groups that select them; ARM and DISARM of the scheduled strobe; the lock words; a parity check of a word in error, made while the word's island runs, reports it; and KEY_CHECK, CHECK, ARM, DISARM, CLEAR and the ends of their runs move the table engine in the states in which it takes them. -/
def Obligations.TableCommandsAct : Prop :=
  ∀ (s : State) (src : Src) (key k high low : Nat) (w : Word) (g : Byte) (st : Bool),
    (Takes s src key → exec (.registerWrite src key w) s = .next (finish s (regWrite s src key none w).1)) ∧
    (Takes s src Ad.CP_UPDATE → g ≠ 0 → ∃ b, Written Ad.CP_UPDATE (s.reg Ad.CP_UPDATE) s b ∧
      exec (.updateStrobe src g) s = .next (finish s (cpUpdate b g.toNat))) ∧
    (s.isl.phase = .run →
      (20 ≤ high → 20 ≤ low → exec (.updNEdge high low) s = .next (finish s (updStrobes (updGroups s 1 0) s))) ∧
      (∀ a, s.tbl.updAt = some a → a ≤ s.now → exec .scheduledStrobe s = .next (finish s (updFire s))) ∧
      (∀ e, e ∈ s.parErr → e.reported = false → key = e.key → st = e.staged → s.running (keyIsland key) = true → key < 0x60000000 →
        exec (.parityCheck key st none) s = .next (finish s (raise
          (({ s with parErr := s.parErr.map (fun (x : ParErr) => if x.key == key && x.staged == st then { x with reported := true } else x) } :
            State).setReg Ad.FLT_PARITY_ADDR (parCode key)) 0 (parCode key).toNat)))) ∧
    (Takes s src Ad.CP_UPD_TCTRL →
      (∃ b, Written Ad.CP_UPD_TCTRL (s.reg Ad.CP_UPD_TCTRL) s b ∧ exec (.updArm src) s = .next (finish s (updArm b))) ∧
      (∃ b, Written Ad.CP_UPD_TCTRL (s.reg Ad.CP_UPD_TCTRL) s b ∧ exec (.updDisarm src) s = .next (finish s (updDisarm b)))) ∧
    (Takes s src Ad.CP_LOCK → s.reg Ad.CP_LOCK &&& ~~~w &&& 0x7FF = 0 →
      ∃ b, Written Ad.CP_LOCK (s.reg Ad.CP_LOCK ||| (w &&& 0x7FF)) s b ∧ exec (.cpLockWrite src w) s = .next (finish s b)) ∧
    (Takes s src Ad.CP_LOCK_STRICT → bit (s.reg Ad.CP_LOCK_STRICT) 0 = false ∨ bit w 0 = true →
      ∃ b, Written Ad.CP_LOCK_STRICT (s.reg Ad.CP_LOCK_STRICT ||| (w &&& 1)) s b ∧
        exec (.cpLockStrictWrite src w) s = .next (finish s b)) ∧
    (Takes s src Ad.CP_TBL_CTRL →
      let B (b : State) : Prop := Written Ad.CP_TBL_CTRL (setBf (s.reg Ad.CP_TBL_CTRL) 11 8 0) s b;
      (s.tbl.keyBusy = false → bit (s.reg Ad.CP_TBL_STATUS) 16 = false → ∃ b, B b ∧
        exec (.keyCheck src) s = .next (finish s { b with tbl := { b.tbl with keyBusy := true } })) ∧
      (tblState s = 0 ∨ tblState s = 3 → ∃ b, B b ∧ exec (.check src) s = .next (finish s (b.setFld Ad.CP_TBL_STATUS 2 0 1))) ∧
      (∀ t, tblState s = 2 → imgIndex s = some t → tblRejudge s t = 0 → ∃ b, B b ∧
        ((evsOffer b 3 (tblChange b) none).2 ≠ .busy → exec (.arm src) s = .next (finish s (tblSet (evsOffer b 3 (tblChange b) none).1 4 0)))) ∧
      (tblState s ≠ 1 → tblState s ≠ 4 → ∃ b, B b ∧ exec (.clear src) s = .next (finish s (b.setFld Ad.CP_TBL_STATUS 2 0 0)))) ∧
    (Takes s src Ad.CP_TBL_CTRL → k < 16 → tblArmed s k = true →
      ∃ b, Written Ad.CP_TBL_CTRL (setBf (s.reg Ad.CP_TBL_CTRL) 11 8 k) s b ∧
        exec (.disarm src k) s = .next (finish s (tblDropArmed b k))) ∧
    (Clocked s 2 →
      (s.tbl.keyBusy = true →
        let s1 : State := { s with tbl := { s.tbl with keyBusy := false } };
        let ok := otpGood s 0x0A = true ∧ sha256 (tblKey s) = (List.range 8).flatMap (fun i => toBytesLE 4 (otpWord s 0x0A i).toNat);
        (ok → exec .keyCheckDone s = .next (finish s (s1.setFld Ad.CP_TBL_STATUS 16 16 1))) ∧
        (¬ok → exec .keyCheckDone s = .next (finish s (tblEvt s1 6)))) ∧
      (tblState s = 1 → tblReason s = 0 → exec .tableCheckDone s = .next (finish s (tblEvt (tblSet s 2 0) 0))) ∧
      (tblState s = 1 → tblReason s ≠ 0 →
        exec .tableCheckDone s = .next (finish s (sqEvt (tblSet s 3 (tblReason s)) Ad.CP_TBL_EVT 3))) ∧
      (∀ t, tblState s = 4 → imgIndex s = some t → ∃ u, exec .tableArmCopyDone s = .next (finish s u) ∧
        tblArmed u t = true ∧ tblState u = 0)) ∧
    (Takes s src (0xF10000 + 4 * k) → k < 0x10000 →
      (tblOpen s = true → ∃ b, Written (0xF10000 + 4 * k) w s b ∧ exec (.stagingBufferWrite src k w) s = .next (finish s b)) ∧
      (tblOpen s = false → exec (.stagingBufferWrite src k w) s = .next (finish s (tblEvt s 4))))

/-- A word write of a register whose fields do not overlap, judged field by field: RW takes the written bits; RO, LV, MK and SEQ bits stay; SQ bits written 1 clear where the word's [31:24] is the current SEQ, and stay otherwise; SH bits go to the staged copy and leave the active one; a WO field takes a value while it holds its reset value and keeps any other; an LK or SH+LK field whose domain or condition does not lock it, and that the source may change, acts as RW or SH, and keeps its value otherwise. -/
def Obligations.FieldsActByType : Prop :=
  ∀ (s : State) (src : Src) (k : Nat) (r : RegRow) (w : Word) (f : Fld),
    r.fields.Pairwise (fun a b => a.hi < b.lo ∨ b.hi < a.lo) → (∀ a, a ∈ r.fields → a.lo ≤ a.hi ∧ a.hi < 32) → f ∈ r.fields →
    let a := (fieldsWrite s src k r [] false 0 (-1) w).2;
    let old := bf (s.reg k) f.hi f.lo;
    let new := bf w f.hi f.lo;
    let open' := lockCauses s f = 0 ∧ guarded src f = false;
    (f.ty = .rw → bf a.reg f.hi f.lo = new) ∧
    (f.ty = .ro ∨ f.ty = .lv ∨ f.ty = .mk ∨ f.ty = .seq ∨ f.ty = .cmd ∨ f.ty = .cmdlk → bf a.reg f.hi f.lo = old) ∧
    (f.ty = .sq → (∀ b, f.lo ≤ b → b ≤ f.hi → f.hi < 24 → (∀ g, g ∈ r.fields → g.hi < 24 ∨ g.ty = .seq) →
      bit a.reg b = (bit (s.reg k) b && !(bit w b && decide (bf w 31 24 = bf (s.reg k) 31 24))))) ∧
    (f.ty = .sh → bf a.stg f.hi f.lo = new ∧ bf a.reg f.hi f.lo = old) ∧
    (f.ty = .wo → bf a.reg f.hi f.lo = if old = f.reset then new else old) ∧
    (f.ty = .lk → (open' → bf a.reg f.hi f.lo = new) ∧ (¬open' → bf a.reg f.hi f.lo = old)) ∧
    (f.ty = .shlk → bf a.reg f.hi f.lo = old ∧ (open' → bf a.stg f.hi f.lo = new) ∧
      (¬open' → bf a.stg f.hi f.lo = bf (s.stg k) f.hi f.lo))

/-- R134, whole: a WO field accepts a written value while it holds its reset value; once it holds any other value, a write of that same value changes nothing and is answered OK, and a write of a different value is a lock violation (its cause is the WO bit 11 of FLT_LOCKVIOL) that leaves the field as it is. -/
def Obligations.WriteOnceFields : Prop :=
  ∀ (s : State) (src : Src) (w : Word) (a : WAcc) (f : Fld), f.ty = .wo → f.lo ≤ f.hi → f.hi < 32 →
    let b := fldWrite s src false (-1) w a f;
    (bf a.reg f.hi f.lo = f.reset → bf b.reg f.hi f.lo = bf w f.hi f.lo ∧ b = { a with reg := b.reg }) ∧
    (bf a.reg f.hi f.lo ≠ f.reset → bf w f.hi f.lo = bf a.reg f.hi f.lo → b = a) ∧
    (bf a.reg f.hi f.lo ≠ f.reset → bf w f.hi f.lo ≠ bf a.reg f.hi f.lo → b = { a with causes := a.causes ||| 2048 })

/-- A write of CP_LOCK, whole or one bit through its alias, and of CP_LOCK_STRICT, clears no bit that is set: the fields are WO, and the attempt is a lock violation, answered LOCKED to the control port. -/
def Obligations.LockDomainsHold : Prop :=
  ∀ (s : State) (src : Src) (one : Option Nat) (w : Word) (d : Nat), d < 11 → locked s d = true →
    locked (regWrite s src Ad.CP_LOCK one w).1 d = true ∧
    (src = .cp → one = none → bit w d = false → (regWrite s src Ad.CP_LOCK one w).2.1 = true) ∧
    (bit (s.reg Ad.CP_LOCK_STRICT) 0 = true → bit ((regWrite s src Ad.CP_LOCK_STRICT one w).1.reg Ad.CP_LOCK_STRICT) 0 = true)

/-- R138, whole: while CP_LOCK_STRICT.STRICT is 0 a lock violation raises LOCK_VIOL (class 2) with the action report, whatever the fault action table holds: no containment and no escalation follow; while STRICT is 1 it escalates. -/
def Obligations.StrictModeEscalatesLockViolations : Prop :=
  ∀ (s : State) (causes src key cnt : Nat),
    (bit (s.reg Ad.CP_LOCK_STRICT) 0 = false → fltAction s 2 cnt = 0 ∧ bit ((lockViol s causes src key).reg Ad.FLT_RAISED_0) 2 = true ∧
      (lockViol s causes src key).flt.esc = s.flt.esc ∧ (lockViol s causes src key).flt.con0 = s.flt.con0 ∧
      (lockViol s causes src key).flt.con1 = s.flt.con1) ∧
    (bit (s.reg Ad.CP_LOCK_STRICT) 0 = true → fltAction s 2 cnt = 2 ∧ bit ((lockViol s causes src key).reg Ad.FLT_RAISED_0) 2 = true ∧
      (lockViol s causes src key).flt.esc = some (s.flt.esc.getD 2))

/-- R125 and R126, whole: events of one cycle that set bits of an SQ register advance its SEQ by one modulo 256, whether or not the bits were already 1; a software clear never changes SEQ; and a word write whose [31:24] differs from the current SEQ clears nothing in any SQ register and is answered OK. -/
def Obligations.SequenceClearedBits : Prop :=
  ∀ (s : State),
    (∀ k bits, bits < 2 ^ 24 → bf ((sqBits s k bits).reg k) 31 24 = (bf (s.reg k) 31 24 + 1) % 256 ∧
      (∀ b, b < 24 → bit ((sqBits s k bits).reg k) b = (bit (s.reg k) b || bits.testBit b)) ∧
      ∀ j, j ≠ k → (sqBits s k bits).reg j = s.reg j) ∧
    (∀ k w, k ∈ sqKeys → bf ((fieldsWrite s .cp k (((regAt k).map Prod.fst).getD ⟨"", 0, [], 0, 0, 0, false, []⟩) [] false 0 (-1) w).2.reg) 31 24 =
      bf (s.reg k) 31 24) ∧
    (∀ k w, k ∈ sqKeys → bf w 31 24 ≠ bf (s.reg k) 31 24 →
      (∀ j, (regWrite s .cp k none w).1.reg j = s.reg j) ∧ (regWrite s .cp k none w).2.1 = false)

/-- ARM of the scheduled strobe holds the time and sets ARMED; LATE reads 1 exactly where that time is already past; nothing else changes, and the strobe comes with a TB cycle: a cycle that finds legal time at or past the held time strobes the groups whose source is the timebase and returns ARMED to 0, any other leaves all as it is. DISARM takes the armed time away. -/
def Obligations.ScheduledStrobeTiming : Prop :=
  ∀ s : State,
    let a := (s.reg Ad.CP_UPD_AT_LO).toNat + 2 ^ 32 * (s.reg Ad.CP_UPD_AT_HI).toNat;
    ((updArm s).tbl.updAt = some a ∧ bit ((updArm s).reg Ad.CP_UPD_TCTRL) 8 = true ∧
      bit ((updArm s).reg Ad.CP_UPD_TCTRL) 9 = decide (a < s.now) ∧ ∀ j, j ≠ Ad.CP_UPD_TCTRL → (updArm s).reg j = s.reg j) ∧
    (∀ t, s.tbl.updAt = some t → (t ≤ s.now → updDue s = updFire s) ∧ (s.now < t → updDue s = s)) ∧
    (∃ u, updFire s = updStrobes (updGroups s 2 0) u ∧ u.tbl.updAt = none ∧ bit (u.reg Ad.CP_UPD_TCTRL) 8 = false) ∧
    (updDisarm s).tbl.updAt = none ∧ bit ((updDisarm s).reg Ad.CP_UPD_TCTRL) 8 = false

/-- Tables 5-13 and R182 to R184: DETECT, EQUALIZE, ALIGN and SYNC follow each other; EQUALIZE that lasts 100 ms goes back to DETECT with its event; a SYNC timer sends a SYNC flit with the credits of Table 5-7; the first SYNC with SEEN starts a fresh session, one EPOCH higher; in RETRAIN the same EPOCH with a LAS among the held flits and the same credits resumes the session; LNK_CMD.RETRAIN, the partner's training frames and a lost codeword lock take an ACTIVE port to RETRAIN, training frames take LPI back to ACTIVE; RETRAIN_LIMIT takes the port DOWN; after 1 ms a port in DOWN that is not contained starts from DETECT; and a flit of a reserved type is a protocol error. -/
def Obligations.PortTrainingActs : Prop :=
  ∀ (s : State) (p epoch las : Nat) (fresh : Bool) (adv : List Nat) (h : FlitHdr), PortUp s p →
    let q := portOf s p;
    let S (f : PortSt → PortSt) : State := setPort s p f;
    let F := fecCount s p h.corr;
    (q.mode = .detect → exec (.portSignalDetect p) s = .next (finish s (S (fun (q : PortSt) => { q with mode := .equalize })))) ∧
    (q.mode = .equalize →
      exec (.equalizeDone p) s = .next (finish s (S (fun (q : PortSt) => { q with mode := .align }))) ∧
      exec (.equalizeTimeout p) s = .next (finish s (sqEvt (S (fun (q : PortSt) => { q with mode := .detect })) (Ad.LNK_EVT p) 32))) ∧
    (q.mode = .align → exec (.alignLock p) s = .next (finish s (S (fun (q : PortSt) => { q with mode := .sync, seen := false })))) ∧
    (q.mode = .retrain →
      exec (.alignLock p) s = .next (finish s (S (fun (q : PortSt) => { q with rtSync := true, seen := false }))) ∧
      exec (.retrainLimitExpiry p) s = .next (finish s (raise (portDown s p) 9 p))) ∧
    (q.mode = .sync ∨ (q.mode = .retrain ∧ q.rtSync = true) →
      exec (.syncTimer p) s = .next (finish s (emitCtl s p (.sync (if q.session then q.epoch else 0) q.las q.next q.seen (!q.session) [256, 8, 0, 512, 256, 32]))) ∧
      exec (.reservedFtypeFlit ⟨p, h⟩) s = .next (finish s (protoErr F p)) ∧
      (h.resv = 0 → advLow (capAdv adv) = false →
        exec (.sync ⟨p, h⟩ epoch las false fresh adv) s = .next (finish s (setPort F p (fun (q : PortSt) => { q with seen := true }))) ∧
        (q.session = false → ∃ u, exec (.sync ⟨p, h⟩ epoch las true fresh adv) s = .next (finish s (sqEvt u (Ad.LNK_EVT p) 1)) ∧
          u = { F with lnk := u.lnk } ∧ (portOf u p).mode = .active ∧ (portOf u p).session = true ∧
          (portOf u p).epoch = (if (q.epoch + 1) % 65536 = 0 then 1 else (q.epoch + 1) % 65536) ∧
          (portOf u p).adv = capAdv adv ∧ (portOf u p).held = [] ∧ (portOf u p).las = 0xFFF ∧ (portOf u p).next = 0) ∧
        (q.session = true → epoch = q.epoch → capAdv adv = q.adv → seqFrom q.acked las ≤ seqFrom q.acked (q.next + 4095) →
          ∃ u, exec (.sync ⟨p, h⟩ epoch las true false adv) s = .next (finish s u) ∧ u = { F with lnk := u.lnk } ∧
            (portOf u p).mode = .active ∧ (portOf u p).epoch = q.epoch ∧ (portOf u p).las = q.las ∧ (portOf u p).acked = las ∧
            (portOf u p).held = q.held.filter (fun f => decide (seqFrom q.acked las < seqFrom q.acked f.seq))))) ∧
    (q.mode = .active →
      exec (.partnerTrainingFrames p) s = .next (finish s (retrain s p false)) ∧
      exec (.codewordLockLoss p) s = .next (finish s (retrain s p false)) ∧
      exec (.reservedFtypeFlit ⟨p, h⟩) s = .next (finish s (protoErr F p))) ∧
    (q.mode = .lpi → exec (.partnerTrainingFrames p) s = .next (finish s (S (fun (q : PortSt) => { q with mode := .active })))) ∧
    (q.mode = .down → contained s p = false →
      exec (.downRetryTimer p) s = .next (finish s (S (fun (q : PortSt) => { q with mode := .detect })))) ∧
    (∀ src, p < 16 → Takes s src (Ad.LNK_CMD p) → q.mode = .active →
      ∃ b, Written (Ad.LNK_CMD p) (s.reg (Ad.LNK_CMD p)) s b ∧
        exec (.linkCmdRetrain src p) s = .next (finish s (retrain b p false)))

/-- R168 to R177, R180, R196: on an ACTIVE port, a sequenced flit with a good header is taken as new, duplicate or gap; an IDLE flit gives its ACK and credits only; a failed CRC and a gap send a NAK; an uncorrectable codeword is five failed flits; a NAK, after its own ACK, of a held flit starts the replay there; NAK_TMR, ACK_TMR and REPLAY_TMR; and the next flit is a control flit, then that of the replay, then a new one, after which a waiting reconfiguration is tried. -/
def Obligations.PortFlitsAct : Prop :=
  ∀ (s : State) (p corr expect seq : Nat) (h : FlitHdr) (data : Bool) (msgs : List Msg), PortUp s p → (portOf s p).mode = .active →
    let q := portOf s p;
    (HdrOk s p h →
      let s1 := headed (bwAdd s p false 0 2) p h;
      let d := seqFrom q.las seq;
      let t := headed s p h;
      let o := seqFrom ((portOf t p).acked + 1) expect;
      exec (.idle p h) s = .next (finish s t) ∧
      (o ≤ seqFrom ((portOf t p).acked + 1) q.next → expect % 4096 ≠ q.next → (portOf t p).replay = none →
        exec (.nak ⟨p, h⟩ expect) s = .next (finish s (replayFrom (t.inc (Ad.LNK_COUNT p 3)) p (expect % 4096)))) ∧
      (d = 1 → exec (.flitReceiveSequenced p h seq data msgs) s = .next (finish s
        (let s2 := pcu 0x01 p 1 (setPort s1 p (fun (q : PortSt) => { q with las := seq % 4096, ackDue := true, nak := none, nakHeld := false }));
        ((flitSlots data msgs).take (min h.nslot (if data then 2 else 7))).foldl (fun s x => deliverMsg p s x.1 x.2)
          (if data then bwAdd s2 p false 1 1 else s2)))) ∧
      (d = 0 ∨ 2048 < d → exec (.flitReceiveSequenced p h seq data msgs) s = .next (finish s
        (pcu 0x04 p 1 ((setPort s1 p (fun (q : PortSt) => { q with ackDue := true })).inc (Ad.LNK_COUNT p 0))))) ∧
      (1 < d → d ≤ 2048 → exec (.flitReceiveSequenced p h seq data msgs) s = .next (finish s (nakSend s1 p)))) ∧
    exec (.flitCrcFail ⟨p, corr⟩) s = .next (finish s (nakSend (pcu 0x06 p 1 ((fecCount s p corr).incBy (Ad.LNK_COUNT p 1) 1)) p)) ∧
    (∃ u, exec (.codewordUncorrectable p) s = .next (finish s u) ∧
      ((portOf u p).mode = .retrain ∨ u = setPort (crcFail (s.inc (Ad.LNK_COUNT p 7)) p 5) p (fun (q : PortSt) => { q with uncorr := (portOf u p).uncorr }))) ∧
    (let s1 := setPort s p (fun (q : PortSt) => { q with nak := none, nakHeld := false });
      exec (.nakTmrExpiry p) s = .next (finish s (if q.nakHeld then nakSend s1 p else s1))) ∧
    (q.ackDue = true → exec (.ackTmrExpiry p) s = .next (finish s (emitCtl s p .idle))) ∧
    (∀ f l, q.held = f :: l → exec (.replayTmrExpiry p) s = .next (finish s
      ((setPort s p (fun (q : PortSt) => { q with replay := some f.seq })).inc (Ad.LNK_COUNT p 4)))) ∧
    (let R (u : State) : State := if (portOf u p).reconf then reconfCheck u p else u;
      (∀ c t, q.ctl = c :: t → exec (.transmitFlit p) s =
        .next (finish s (R (emitCtl (setPort s p (fun (q : PortSt) => { q with ctl := t })) p c)))) ∧
      (∀ r, q.ctl = [] → q.replay = some r → exec (.transmitFlit p) s = .next (finish s (R (sendReplay s p r)))) ∧
      (q.ctl = [] → q.replay = none → exec (.transmitFlit p) s = .next (finish s (R (sendNew s p)))))

/-- R185 to R195: on an ACTIVE port whose flit header holds, an attach that nothing refuses is granted IDs, and a refused one is answered with its REASON; ACK completes it; CTRL_TMR repeats GRANT and HUB_REQ; DETACH REQ starts the sweep for the agents of its mask, and is answered DONE where none is left; LNK_CMD.DETACH sends HUB_REQ; FORCE_DETACH detaches all agents by surprise, DETACH_TMR those of its mask; an ID in quarantine that the home agent no longer names is released; LPI_ACK, PARK_ACK and the park timeout end the wait for them. -/
def Obligations.PortAgentsAct : Prop :=
  ∀ (s : State) (p nonce n caching partner mask a : Nat) (part : Bool) (h : FlitHdr), PortUp s p →
    let q := portOf s p;
    let t := headed s p h;
    (q.mode = .active → HdrOk s p h → q.attach = none → q.answer = none →
      (∀ r, refusal t p n part = r → r ≠ 0 → exec (.attachReq ⟨p, h⟩ nonce n part caching partner) s = .next (finish s (sqEvt (setPort t p
        (fun (q : PortSt) => { q with answer := some (nonce, .refuse nonce r), ctl := q.ctl ++ [.refuse nonce r] })) (Ad.LNK_EVT p) 4))) ∧
      (refusal t p n part = 0 → let ids := (grantOrder t).take n;
        ∃ u, exec (.attachReq ⟨p, h⟩ nonce n part caching partner) s = .next (finish s u) ∧ u = { t with lnk := u.lnk } ∧
          u.lnk.agents = s.lnk.agents ++ grantRecs p caching 0 ids (freeSlots s) ∧ u.lnk.quar = s.lnk.quar)) ∧
    (∀ x, q.mode = .active → HdrOk s p h → q.attach = some x → x.complete = false → exec (.attachAck ⟨p, h⟩) s = .next (finish s (sqEvt
      (((setPort t p (fun (q : PortSt) => { q with attach := some { x with complete := true } })).setReg (Ad.LNK_PARTNER_LO p) (w32 x.partner)).setReg
        (Ad.LNK_PARTNER_HI p) (w32 (x.partner / 2 ^ 32))) (Ad.LNK_EVT p) 2))) ∧
    (∀ x, q.mode = .active → q.attach = some x → x.complete = false → q.hubReqs = [] →
      exec (.ctrlTmrExpiry p) s = .next (finish s (ctlPush s p (.grant x.nonce x.ids x.precise)))) ∧
    (q.mode = .active → HdrOk s p h → q.detach = [] → q.hubReqs = [] →
      (maskIds s p mask = [] → exec (.detachReq ⟨p, h⟩ nonce mask) s = .next (finish s (ctlPush t p (.done nonce mask)))) ∧
      (let ids := maskIds s p mask;
        let live := ids.filter (fun a => !unresp s a);
        let x := setPort { t with lnk := { t.lnk with
          agents := t.lnk.agents.map (fun (r : AgentRec) => if ids.contains r.id then { r with detaching := true } else r) } } p
          (fun (q : PortSt) => { q with detach := [⟨nonce, mask, ids, sweepNext s⟩] });
        (live ≠ [] → exec (.detachReq ⟨p, h⟩ nonce mask) s = .next (finish s (sweepStart x (.detach live)))) ∧
        (live = [] → ids ≠ [] → exec (.detachReq ⟨p, h⟩ nonce mask) s = .next (finish s (detachEnd x p ⟨nonce, mask, ids, sweepNext s⟩))))) ∧
    (q.detach.any (fun d => d.mask == mask) = true ∨ q.hubReqs.any (fun r => r.2 == mask) = true →
      ∃ u, exec (.detachTmrExpiry ⟨p, mask⟩) s = .next (finish s (reconfCheck u p)) ∧
        (∀ r, r ∈ u.lnk.agents → r.port = p → ∀ d, d ∈ q.detach → d.mask = mask → ¬ r.id ∈ d.agents) ∧
        (∀ r, r ∈ s.lnk.agents → (r.port ≠ p ∨ (¬ r.id ∈ maskIds s p mask ∧ ∀ d, d ∈ q.detach → d.mask = mask → ¬ r.id ∈ d.agents)) →
          r ∈ u.lnk.agents)) ∧
    (Clocked s 3 → s.lnk.quar.any (fun x => x.1 == a) = true → idClear s a = true → a < 255 →
      ∃ u, exec (.idQuarantineRelease a) s = .next (finish s u) ∧ u.lnk.quar = s.lnk.quar.filter (fun x => x.1 != a) ∧
        u.lnk.agents = s.lnk.agents ∧ ∀ t, t < 1024 → bindBit u t a = false) ∧
    (q.mode = .active → HdrOk s p h → q.lpiWait = true → exec (.lpiAck ⟨p, h⟩) s = .next (finish s (setPort t p (fun (q : PortSt) => { q with mode := .lpi, lpiWait := false })))) ∧
    (q.parkWait = true →
      let P (s : State) : State := setPort s p (fun (q : PortSt) => { q with mode := .parked, parkWait := false, ctl := q.ctl.filter (· != .park) });
      exec (.parkTimeout p) s = .next (finish s (P s)) ∧
      (q.mode ≠ .active → exec (.parkAck p h) s = .next (finish s (P s))) ∧
      (q.mode = .active → HdrOk s p h → exec (.parkAck p h) s = .next (finish s (P t)))) ∧
    (∀ src, p < 16 → Takes s src (Ad.LNK_CMD p) →
      let B (b : State) : Prop := Written (Ad.LNK_CMD p) (s.reg (Ad.LNK_CMD p)) s b;
      (∃ b, B b ∧ exec (.forceDetach src p) s = .next (finish s (reconfCheck (surpriseAll b p) p))) ∧
      (∀ m, (s.reg (Ad.LNK_DETACH_MASK p)).toNat = m → maskIds s p m ≠ [] →
        ∃ b, B b ∧ exec (.detach src p) s = .next (finish s (hubReq b p m))))

/-- Of a flit discarded under R169 or R173, of an IDLE flit and of a NAK nothing is acted on but the link's own state and its reports: the last accepted sequence number stays, no agent is attached or detached, no credit is freed, and every other block and memory is as it was. -/
def Obligations.DiscardedFlitsActOnNothing : Prop :=
  ∀ (s : State) (p corr expect seq : Nat) (h : FlitHdr) (data : Bool) (msgs : List Msg) (c : Instr), PortUp s p →
    (portOf s p).mode = .active →
    ((c = .flitReceiveSequenced p h seq data msgs ∧ seqFrom (portOf s p).las seq ≠ 1) ∨ c = .flitCrcFail ⟨p, corr⟩ ∨
      c = .codewordUncorrectable p ∨ c = .idle p h ∨ c = .nak ⟨p, h⟩ expect) →
    ∃ u, exec c s = .next (finish s u) ∧ LinkOnly s u ∧ (portOf u p).las = (portOf s p).las ∧
      (portOf u p).got = (portOf s p).got ∧ (portOf u p).freed = (portOf s p).freed ∧
      u.lnk.agents = s.lnk.agents ∧ u.lnk.quar = s.lnk.quar ∧ ∀ r, r ≠ p → portOf u r = portOf s r

/-- R187 and R188: the IDs of a granted attach lie from 1 to 254, are distinct, and none is held by an agent or in quarantine; as many are granted as are asked for and free; under policy 0 each is the lowest free ID, in ascending order; the agents get the indices 0, 1, 2 and so on at this port, and a precise slot goes only to a caching agent, to no two agents. -/
def Obligations.AttachGrantsFreeIds : Prop :=
  ∀ (s : State) (p nonce n caching partner : Nat) (part : Bool) (h : FlitHdr), PortUp s p → (portOf s p).mode = .active → HdrOk s p h →
    (portOf s p).attach = none → (portOf s p).answer = none → refusal (headed s p h) p n part = 0 →
    ∃ u recs, exec (.attachReq ⟨p, h⟩ nonce n part caching partner) s = .next (finish s u) ∧ u.lnk.agents = s.lnk.agents ++ recs ∧
      recs.length = min n (freeIds s).length ∧ (recs.map AgentRec.id).Nodup ∧
      (∀ r, r ∈ recs → 1 ≤ r.id ∧ r.id ≤ 254 ∧ (∀ x, x ∈ s.lnk.agents → x.id ≠ r.id) ∧ (∀ x, x ∈ s.lnk.quar → x.1 ≠ r.id)) ∧
      (bit (s.reg Ad.LNK_ID_CFG) 0 = false → ∀ r, r ∈ recs → ∀ i, 1 ≤ i → i < r.id →
        (∃ x, x ∈ s.lnk.agents ∧ x.id = i) ∨ (∃ x, x ∈ s.lnk.quar ∧ x.1 = i) ∨ ∃ x, x ∈ recs ∧ x.id = i) ∧
      (∀ i r, recs[i]? = some r → r.port = p ∧ r.index = i ∧ r.caching = caching.testBit i ∧ (r.slot.isSome = true → r.caching = true)) ∧
      (recs.filterMap AgentRec.slot).Nodup ∧ ∀ k r, r ∈ recs → r.slot = some k → ∀ x, x ∈ s.lnk.agents → x.slot ≠ some k

/-- R172, R209, R214, R219: a request of an attached, responsive agent with a fresh TXID joins the requests that wait for a tracker, last in arrival order, whatever its opcode (a WriteConditional, unless its RTAG repeats the last); Ack, Data and DataPoison that answer an outstanding snoop as Table 6-7 allows are recorded as its answer; CompAck frees the tracker that waits for it; and a response's credit is freed. -/
def Obligations.MessageCommandsAct : Prop :=
  ∀ (s : State) (p : Nat) (m : ReqMsg) (r : RspMsg), unresp s m.src = false → unresp s r.src = false →
    (∀ c k, (c, k) ∈ ([(.readShared p m, .readShared), (.readUnique p m, .readUnique), (.readOnce p m, .readOnce),
        (.readReserve p m, .readReserve), (.upgrade p m, .upgrade), (.writeFull p m, .writeFull), (.writePartial p m, .writePartial),
        (.writeConditional p m, .writeConditional), (.cleanEvict p m, .cleanEvict), (.dirtyEvict p m, .dirtyEvict)] :
          List (Instr × ReqKind)) →
      let x : ReqMsg := { m with kind := k };
      let b := if s.depth = 1 then (arrived s p (.req x)).later .daleWake else arrived s p (.req x);
      Accepts s p (.req x) → txidOpen s m.src m.txid = false → (∀ a, findAgent s m.src = some a → a.detaching = false) →
      (k = .writeConditional → ∀ w, w ∈ s.ha.wcs → ¬(w.1 = m.src ∧ w.2.1 = m.rtag)) →
      exec c s = .next (finish s (tagReq x { b with ha := { b.ha with
        wait := s.ha.wait ++ [⟨s.ha.arrivals, p, x, none, false, false, heads (.req x) && x.mclass != 4, false⟩], arrivals := s.ha.arrivals + 1 } }))) ∧
    (∀ c k a, (c, k, a) ∈ ([(.data p r, .data, .data r.state r.line), (.dataPoison p r, .dataPoison, .poison r.state r.code),
        (.ack p r, .ack, .ack r.state)] : List (Instr × RspKind × SnpAns)) →
      let x : RspMsg := { r with kind := k };
      let b := arrived s p (.rsp x);
      Accepts s p (.rsp x) → r.state ≤ 4 → (if k = .dataPoison then 1 ≤ r.code ∧ r.code ≤ 5 else r.code = 0) → r.tag < 0xC00 →
      ∀ t, t ∈ s.ha.trks → s.ha.trks.find? (fun t => t.id == r.tag && t.snps.any (fun x => x.1 == r.src && x.2.2.isNone)) = some t →
      ∀ sk, t.snps.find? (fun x => x.1 == r.src) = some (r.src, sk, none) →
      ansOk sk ((dirAt s t.pa).any (fun e => e.st == .ow && e.owner == r.src)) a = true →
      exec c s = .next (finish s (creditFree (takeAnswer (if k = .ack then b else pcu 0x14 r.src 1 b) r.src r.tag a) p r.mclass))) ∧
    (let x : RspMsg := { r with kind := .compAck };
      Accepts s p (.rsp x) → r.state ≤ 4 → r.code = 0 → ∀ t, trkAt s r.htid = some t → t.ph = .comp → t.r.m.src = r.src → t.r.who = none →
      exec (.compack p r) s = .next (finish s (creditFree (trkDrop (arrived s p (.rsp x)) r.htid) p r.mclass)))

/-- Chapters 6 and 7: one cycle of tracker allocation; a walk ends, and the requests that wait for its page go on, an unreadable entry reported once for the walk; the head of a line's queue becomes active when no transaction on the line is; a CompAck that is missing after 1 ms frees its tracker and is HA_PROTO; a DRAM read's data is delivered; a snoop whose deadline passes declares its agent unresponsive; a poison sweep and a detach sweep end; a reservation expires; a back-invalidation completes; a request takes a free entry of the eviction buffer; and a read of HA_POISON_LAST_0 clears VALID. -/
def Obligations.HomeAgentCommandsAct : Prop :=
  ∀ (s : State) (key tenant line err htid sid a p mask ue : Nat),
    (Clocked s 3 →
      exec .trackerAllocate s = .next (finish s (haAllocate s)) ∧
      (∀ t, queueHead s tenant line = some t → lineActive s t.pa = false → (∀ b, b ∈ s.ha.binv → b.e.pa ≠ t.pa) →
        exec (.lineActivate tenant line err) s = .next (finish s (activate (sfError s t.pa err) t))) ∧
      (∀ t, trkAt s htid = some t → t.ph = .comp →
        exec (.compackTimeout htid) s = .next (finish s (haProto (trkDrop s htid) t.r.port t.r.m.src 0x24 5))) ∧
      (∀ c x, findRead s htid = some (c, x) → exec (.dramReadReturn htid err) s = .next (finish s (dramDeliver (setDrc s c
        (fun (d : DrcCh) => { d with issued := d.issued.filter (fun y => y.n != x.n), q := d.q.filter (fun y => y.n != x.n) })) c x err))) ∧
      (∀ t k, t ∈ s.ha.trks → t.id = sid → (a, k, none) ∈ t.snps →
        exec (.snoopDeadlineExpiry sid a) s = .next (finish s (declare s a false))) ∧
      (∀ l, (a, l) ∈ s.ha.poison → (∀ e, e ∈ ownedBy s a → lineActive s e.pa = false) →
        ∃ u, exec (.poisonSweepDone a) s = .next (finish s (sqEvt u Ad.HA_EVT 16)) ∧ ∀ x, x ∈ u.ha.poison → x.1 ≠ a) ∧
      (∀ d w, (portOf s p).detach.find? (fun d => d.mask == mask) = some d → s.ha.sweeps.find? (fun w => w.no == d.sweep) = some w →
        sweepDone s w = true → exec (.detachSweepDone p mask) s = .next (finish s (detachEnd (sweepEnd s w.no) p d))) ∧
      exec (.reservationExpiry a) s = .next (finish s { s with ha := { s.ha with resv := s.ha.resv.filter (fun r => r.agent != a) } }) ∧
      (∀ b, s.ha.binv.find? (fun b => b.sid == sid && b.evb && b.ready) = some b →
        exec (.backInvalidationDone sid) s = .next (finish s (binvFinish s b))) ∧
      (∀ t, s.ha.trks.filter (fun t => t.ph == .evb) = [t] → exec .evbEntryFree s = .next (finish s (trySettle s t.id))) ∧
      exec .haPoisonLastRead s = .next (finish s (s.setReg Ad.HA_POISON_LAST_0 (setBf (s.reg Ad.HA_POISON_LAST_0) 31 31 0)))) ∧
    (Clocked s 4 → key ∈ s.tmm.walks →
      let s1 : State := joinTick { s with tmm := { s.tmm with walks := s.tmm.walks.filter (· != key) } };
      let W (u : State) : State := startWalks ((u.ha.trks.filter (fun t => t.ph == .walk && t.key == key)).foldl pageAccess u);
      ((pg s key).st = .resident → unread s key = false →
        exec (.translationWalkDone key 0) s =
          .next (finish s (W (tcPut (setPg s1 key (fun (e : PageE) => { e with acc := true })) key false)))) ∧
      (unread s key = true →
        exec (.translationWalkDone key ue) s = .next (finish s (W (raise (tmmEvt s1 4096) 13 (keyTenant key))))))

/-- R226 and R227: when a WriteConditional becomes active and its agent's reservation is not for its line and its RTAG, its Ack carries CODE 0, DRAM and the directory stay as they are, the agent's reservation is gone, the outcome kept for the agent is this RTAG's failure, HA_RACE_COUNT of WC_FAIL counts, and no other agent's reservation is touched. One that repeats the RTAG of the kept outcome is answered with that outcome, and nothing is written. -/
def Obligations.FailedWriteConditionalWritesNothing : Prop :=
  ∀ (s : State) (tenant line : Nat) (t : Trk) (r : AgentRec), Clocked s 3 → queueHead s tenant line = some t →
    lineActive s t.pa = false → (∀ b, b ∈ s.ha.binv → b.e.pa ≠ t.pa) → t.r.m.kind = .writeConditional → t.r.who = none →
    findAgent s t.r.m.src = some r → unresp s t.r.m.src = false →
    let m := t.r.m;
    ((∀ w, w ∈ s.ha.wcs → ¬(w.1 = m.src ∧ w.2.1 = m.rtag)) →
      (∀ x, x ∈ s.ha.resv → ¬(x.agent = m.src ∧ x.pa = t.pa ∧ x.rtag = m.rtag)) →
      ∃ u, exec (.lineActivate tenant line 0) s = .next (finish s u) ∧ u.dram = s.dram ∧ u.ha.sf = s.ha.sf ∧ u.tmm = s.tmm ∧
        u.ha.resv = s.ha.resv.filter (fun x => x.agent != m.src) ∧
        u.ha.wcs = s.ha.wcs.filter (fun x => x.1 != m.src) ++ [(m.src, m.rtag, false)] ∧
        u.lnk.tx = s.lnk.tx ++ [⟨r.port, m.src, .rsp .ack m.txid t.id 0 0 0⟩] ∧ RegsBut [Ad.HA_RACE_COUNT 2] s u) ∧
    (∀ ok, s.ha.wcs.find? (fun w => w.1 == m.src && w.2.1 == m.rtag) = some (m.src, m.rtag, ok) →
      ∃ u, exec (.lineActivate tenant line 0) s = .next (finish s u) ∧ u.dram = s.dram ∧ u.ha.sf = s.ha.sf ∧ u.tmm = s.tmm ∧
        u.ha.resv = s.ha.resv ∧ u.ha.wcs = s.ha.wcs ∧
        u.lnk.tx = s.lnk.tx ++ [⟨r.port, m.src, .rsp .ack m.txid t.id 0 (b2n ok) 0⟩] ∧ RegsBut [Ad.HA_RACE_COUNT 4] s u)

/-- Table 6-8, directory state I: when the DRAM data of a ReadShared or ReadUnique of a line without a directory entry comes back without error or poison, the requester gets Data with that line and STATE 2 (E), the line's new entry is EX with the requester as its owner and no sharers, and DRAM is as it was. -/
def Obligations.ReadOfUncachedLineGrantsE : Prop :=
  ∀ (s : State) (htid c : Nat) (x : DrcCmd) (t : Trk) (r : AgentRec), Clocked s 3 → findRead s htid = some (c, x) →
    x.trk = some htid → trkAt s htid = some t → t.rd = .pend x.n → t.ph = .active → t.snps = [] → t.r.who = none →
    t.r.m.kind = .readShared ∨ t.r.m.kind = .readUnique → findAgent s t.r.m.src = some r → unresp s t.r.m.src = false →
    drcUp s c = true → x.line = t.pa → dirAt s t.pa = none → sfFull s t.pa = false → (dramGet s t.pa).mark = 0 →
    ∃ u, exec (.dramReadReturn htid 0) s = .next (finish s u) ∧
      ⟨r.port, t.r.m.src, .rsp .data t.r.m.txid t.id 2 0 (dramGet s t.pa).data⟩ ∈ u.lnk.tx ∧
      (∃ w, w < 16 ∧ dirAt u t.pa = some ⟨t.pa, .ex, t.r.m.src, 0, false, 0, t.r.m.tenant, t.r.m.line, w⟩) ∧ u.dram = s.dram ∧
      ∃ v, trkAt u htid = some v ∧ v.ph = .resp

/-- Table 8-1: a write of TMM_CMD while no command is in progress and the TMM is enabled takes the command with its arguments; CREATE, MAP, UNPIN, UNLOAD_SLOT and REFETCH end at once, RELEASE, FLIP and UNBIND start their sweeps, LOAD_SLOT reads the manifest, PREFETCH queues pages, UNMAP and PIN go page by page; an undefined OP ends BAD_OP; TMM_CTRL.EN written 1 enables the TMM; and a write of a DSC_BIND word of a LIVE tenant sets bits and clears none. -/
def Obligations.TmmCommandsAct : Prop :=
  ∀ (s : State) (src : Src) (t op : Nat), t < 1024 → Takes s src Ad.TMM_CMD → s.tmm.cmd = none →
    let a0 := s.fld Ad.TMM_CMD_ARG_0 21 0;
    let a1 := s.fld Ad.TMM_CMD_ARG_1 22 0;
    let slot := a0 % 2;
    let B (op : Nat) (b : State) : Prop := Written Ad.TMM_CMD (setBf (setBf (s.reg Ad.TMM_CMD) 25 16 t) 7 0 op) s b;
    let C (op : Nat) (b : State) : State := setCmd (b.setFld Ad.TMM_CMD_STATUS 15 8 op) (some ⟨op, t, a0, a1, a0, false⟩);
    (12 < op → op < 256 → ∃ b, B op b ∧ exec (.tmmBadOp src op t) s = .next (finish s (tmmEnd (C op b) 1))) ∧
    (s.tmm.nch ≠ 0 →
      (tenantState s t = 0 →
        let plain := s.fld (Ad.DSC_PLAIN t) 17 0;
        let lo := s.fld (Ad.DSC_LARGE_LO t) 16 0;
        let hi := s.fld (Ad.DSC_LARGE_HI t) 16 0;
        let ib := s.fld (Ad.DSC_IMG_BASE t) 16 0;
        let ip := s.fld (Ad.DSC_IMG_PAGES t) 16 0;
        1 ≤ plain → plain ≤ 131072 → lo ≤ hi → (lo < hi → hi ≤ plain) → ip ≤ 65536 → (0 < ip → ib * 32 + ip ≤ plain * 32) →
        overlaps (lo * 32) ((hi - lo) * 32) (ib * 32) ip = false → ptFits s 2048 = true →
        ∃ b, B 1 b ∧ exec (.create src t) s = .next (finish s (tmmEnd
          (((C 1 b).setFld (Ad.DSC_CTRL t) 2 0 1).setReg (Ad.DSC_PT_ROOT t) (w32 (newRoot s))).fresh 0))) ∧
      (tenantState s t = 1 →
        (t ≠ 0 → ∃ b, B 2 b ∧ let s1 := (C 2 b).setFld (Ad.DSC_CTRL t) 2 0 2;
          exec (.release src t) s = .next (finish s (sweepStart ((s.ha.trks.filter (fun q => (q.ph == .walk || q.ph == .page) &&
            q.r.m.tenant == t)).foldl (fun s q => tmmRetry s q 4) s1) (.release t)))) ∧
        (rangeOk s t a0 a1 = true →
          (rangeImage s t a0 a1 = false →
            (∃ b, B 3 b ∧ let s1 := ((rangeKeys s t a0 a1).filter (fun k => (pg s k).st == .unbacked && !unread s k)).foldl (fun s k => changePg s k
                (fun e => { e with st := .blank, large := inLarge s t (keyPage k) })) (C 3 b);
              exec (.map src t) s = .next (finish s (if ptFits s1 0 then tmmEnd s1 0 else tmmEnd (C 3 b) 4))) ∧
            (∃ b, B 4 b ∧ exec (.unmap src t) s = .next (finish s (unmapLoop (2 * a1 + 2) (C 4 b)))) ∧
            (∃ b, B 6 b ∧ exec (.unpin src t) s = .next (finish s (tmmEnd
              (((rangeKeys s t a0 a1).filter (fun k => (pg s k).st == .pinned)).foldl
                (fun s k => changePg s k (fun (e : PageE) => { e with st := .resident })) (C 6 b)) 0)))) ∧
          (∃ b, B 5 b ∧ exec (.pin src t) s = .next (finish s (pinLoop (2 * a1 + 2) (C 5 b))))) ∧
        (contained s 24 = false → slotState s t slot = 0 ∨ slotState s t slot = 3 → ∃ b, B 7 b ∧ exec (.loadSlot src t) s = .next (finish s (fetchNew
          (((C 7 b).setFld (Ad.SLOT_CTRL t slot) 1 0 1).setFld (Ad.SLOT_CTRL t slot) 23 16 0) t slot (.manifest t slot) true 0 1))) ∧
        (contained s 24 = false → s.flt.esc = none → slotState s t (1 - activeSlot s t) = 2 →
          let G (s' : State) : State :=
            sweepStart (abandonSlot { s' with tmm := { s'.tmm with stall := some t } } t (activeSlot s t)) (.flip t (activeSlot s t));
          (bit (s.reg (Ad.DSC_CTRL t)) 8 = false → ∃ b, B 10 b ∧ exec (.flip src t) s = .next (finish s (G (C 10 b)))) ∧
          (bit (s.reg (Ad.DSC_CTRL t)) 8 = true → ∃ b p, B 10 b ∧ p.length = 128 ∧
            ((evsOffer (C 10 b) 2 p none).2 ≠ .busy → exec (.flip src t) s = .next (finish s (G (evsOffer (C 10 b) 2 p none).1))))) ∧
        (locked s 0 = false → ∃ b, B 12 b ∧ exec (.unbind src t) s = .next (finish s (sweepStart
          { C 12 b with tmm := { (C 12 b).tmm with unbinding := some (t, a0 % 256) } } (.unbind t (a0 % 256)))))) ∧
      (contained s 24 = false → slotState s t slot = 2 →
        (∃ b, B 8 b ∧ exec (.prefetch src t) s = .next (finish s (prefetchStep (tmmPrefetch (C 8 b) t slot)))) ∧
        (∃ b, B 11 b ∧ exec (.refetch src t) s = .next (finish s (tmmRefetch (C 11 b) t slot)))) ∧
      (slot ≠ activeSlot s t → ∃ (b u : State), B 9 b ∧
        exec (.unloadSlot src t) s = .next (finish s (tmmEnd (u.setFld (Ad.SLOT_CTRL t slot) 1 0 0) 0)) ∧
        (∀ x, x ∈ u.tmm.slots → ¬(x.t = t ∧ x.slot = slot)) ∧
        ∀ e, e ∈ u.tmm.pages → ¬(keyTenant e.1 = t ∧ e.1 % 2 = slot ∧ inImage s t (keyPage e.1 * 1024) = true)))

/-- Chapter 8: TMM_CTRL.EN written 1 enables the TMM; a write of a DSC_BIND word of a LIVE tenant sets bits and clears none; the sweeps of RELEASE, FLIP and UNBIND end their commands; a manifest or tree level that has arrived is verified; a fill, an unfold and a verified fetch leave the page RESIDENT in its frame, an unfold whose CRC fails with every line poisoned by DRAM_UE and FOLD_BAD raised, a fetch that fails its check leaves POISON_PEND, a fold leaves it FOLDED in its chunks; a fold scan; a read without Ack after TMO counts as failed; and the next run-ahead page starts. -/
def Obligations.TmmEventsAct : Prop :=
  ∀ (s : State) (src : Src) (foldBg : Bool) (t k key chunks rid : Nat) (w : Word),
    (Takes s src Ad.TMM_CTRL → bit (s.reg Ad.TMM_CTRL) 0 = false → ∃ b, exec (.tmmEnable src foldBg) s = .next (finish s (tmmEnable b)) ∧
      b.reg Ad.TMM_CTRL = setBf (s.reg Ad.TMM_CTRL) 0 0 1 ∧ bf (b.stg Ad.TMM_CTRL) 1 1 = b2n foldBg ∧ b.tmm = s.tmm ∧ b.drc = s.drc ∧
      b.dram = s.dram) ∧
    (Takes s .cp (Ad.DSC_BIND t k) → t < 1024 → k < 8 → tenantState s t = 1 → locked s 0 = false →
      ∃ b, Written (Ad.DSC_BIND t k) (s.reg (Ad.DSC_BIND t k) |||
          (w &&& ~~~(if k = 0 then 1 else if k = 7 then 0x80000000 else 0))) s b ∧
        exec (.dscBindWrite .cp t k w) s = .next (finish s b)) ∧
    (Clocked s 4 →
      (∀ no todo, s.ha.sweeps.find? (fun w => isRelease w.kind && sweepDone s w) = some ⟨no, .release t, todo⟩ →
        ∃ u, exec .releaseSweepDone s = .next (finish s (tmmEnd u 0)) ∧ (∀ e, e ∈ u.tmm.pages → keyTenant e.1 ≠ t) ∧
          ∀ i, i < 44 → u.reg (Ad.DSC_CTRL t + 4 * i) = regReset (Ad.DSC_CTRL t + 4 * i)) ∧
      (∀ no old todo, s.ha.sweeps.find? (fun w => (match w.kind with | .flip _ _ => true | _ => false) && sweepDone s w) =
          some ⟨no, .flip t old, todo⟩ → t < 1024 →
        ∃ u, exec .flipSweepDone s = .next (finish s (tmmEnd u 0)) ∧ activeSlot u t = 1 - activeSlot s t ∧ u.tmm.stall = none) ∧
      (∀ no a todo, s.ha.sweeps.find? (fun w => (match w.kind with | .unbind _ _ => true | _ => false) && sweepDone s w) =
          some ⟨no, .unbind t a, todo⟩ → a ≠ 0 →
        let s1 := sweepEnd { s with tmm := { s.tmm with unbinding := none } } no;
        exec .unbindScanDone s = .next (finish s
          (tmmEnd (s1.setReg (Ad.DSC_BIND t (a / 32)) (setBit (s1.reg (Ad.DSC_BIND t (a / 32))) (a % 32) false)) 0))) ∧
      (∀ f slot n, s.tmm.fetches.find? (fun f => f.whole && (match f.what with | .manifest _ _ => true | .level _ _ _ => true | _ => false)) =
          some f →
        (f.what = .manifest t slot → exec .loadSlotFetchDone s = .next (finish s (loadManifest s t slot (fetchBytes f)))) ∧
        (f.what = .level t slot n → exec .loadSlotFetchDone s = .next (finish s (loadLevel s t slot n (fetchBytes f))))) ∧
      (∀ f d x lb, (jobOf s key = some ⟨x, .fill, some f, d, lb⟩ → ∃ u, exec (.blankFillDone key) s = .next (finish s (wakePage u key)) ∧
          (pg u key).st = .resident ∧ (pg u key).frame = f ∧ (pg u key).wr = false) ∧
        (jobOf s key = some ⟨x, .unfold, some f, d, lb⟩ → (∃ u, exec (.unfoldDone key true) s = .next (finish s (wakePage u key)) ∧
            (pg u key).st = .resident ∧ (pg u key).frame = f ∧ (pg u key).saved = []) ∧
          (∃ u, exec (.unfoldDone key false) s = .next (finish s (wakePage (raise u 14 (keyTenant key)) key)) ∧
            (pg u key).st = .resident ∧ (pg u key).frame = f ∧
            ∀ i, i < 1024 → drcUp s (chanOf s (f * 1024 + i)) = true → (dramGet u (f * 1024 + i)).mark = 2)) ∧
        (∀ g, jobOf s key = some ⟨x, .fetch, some f, d, lb⟩ → s.tmm.fetches.find? (fun f => f.what == .page key) = some g → g.whole = true →
          let leaf := (slotX s (keyTenant key) (key % 2)).bind (fun x => leafHash x (imgIdx s key));
          (lb = false → leaf = some (sha256 (fetchBytes g)) →
            ∃ u, exec (.pageHashDone key) s = .next (finish s (wakePage u key)) ∧ (pg u key).st = .resident ∧ (pg u key).frame = f) ∧
          (lb = true ∨ (leaf ≠ none ∧ leaf ≠ some (sha256 (fetchBytes g))) →
            ∃ u, exec (.pageHashDone key) s = .next (finish s (wakePage u key)) ∧ (pg u key).ppend = true ∧ (pg u key).st = (pg s key).st))) ∧
      exec .foldScan s = .next (finish s (foldScan s)) ∧
      (∀ x f d lb v c, jobOf s key = some ⟨x, .fold, f, d, lb⟩ → pageSweepDone s key = some v → chunks ≤ 12 →
        findChunks s (pg s key).pool (max 1 chunks) = some c →
        tenantChunks s (keyTenant key) + max 1 chunks ≤ s.fld (Ad.DSC_FOLDQ (keyTenant key)) 25 0 →
        ∃ u, exec (.foldJobDone key chunks) s = .next (finish s (wakePage u key)) ∧ (pg u key).st = .folded ∧ (pg u key).chunk = c ∧
          (pg u key).folds = max 1 chunks) ∧
      exec (.srcFetchTimeout rid) s = .next (finish s { s with tmm := { s.tmm with fetches := s.tmm.fetches.map (fun (f : Fetch) =>
        if f.rid == some rid && f.ack.isNone then { f with ack := some 255 } else f) } }) ∧
      (∀ rest, s.tmm.ahead = key :: rest → contained s 24 = false → (ridsUsed s).length < 32 → (pg s key).st = .imagePending →
        (pg s key).ppend = false → jobOf s key = none →
        let s2 := jobStep (jobAdd { s with tmm := { s.tmm with ahead := rest } } key .fetch false) ⟨key, .fetch, none, false, false⟩;
        exec .runAheadFetchStart s = .next (finish s (s2.tmm.fetches.foldl (fun s f =>
          if f.rid.isNone && (f.what == .page key || f.what == .group (keyTenant key) (key % 2) (imgIdx s key / 64)) &&
            (ridsUsed s).length < 32 then fetchSend s f else s) s2))))

/-- R36, whole: while an escalation is in force, a FLIP written to TMM_CMD is refused, whatever the tenant; the active slot of every tenant, the pages and the slots stay as they were, no image range is stalled and no sweep starts, and nothing is offered to the evidence store. Where no command was in progress RESULT is not OK. -/
def Obligations.FlipRefusedUnderEscalation : Prop :=
  ∀ (s : State) (src : Src) (t : Nat), Takes s src Ad.TMM_CMD → s.flt.esc ≠ none →
    ∃ u, exec (.flip src t) s = .next (finish s u) ∧ (∀ n, n < 1024 → activeSlot u n = activeSlot s n ∧ ∀ k, k < 2 → slotState u n k = slotState s n k) ∧
      u.tmm = s.tmm ∧ u.ha = s.ha ∧ u.evs = s.evs ∧ u.chz = s.chz ∧ u.flash = s.flash ∧
      (s.tmm.cmd = none → u.fld Ad.TMM_CMD_STATUS 23 16 ≠ 0)

/-- R299: a write of TMM_CMD while BUSY is 1 changes nothing but the event bits (CMD_IGN). A command of an undefined OP ends BAD_OP; any command before the TMM is enabled ends with RESULT 2; a fetching command or FLIP while the TMM is contained ends with RESULT 7; and a command whose tenant or slot is not in the state that it needs ends with RESULT 2, LOAD_SLOT and the like by their slot: page tables, transactions, memory and every descriptor stay as they were. -/
def Obligations.RefusedTmmCommandsChangeNothing : Prop :=
  ∀ (s : State) (src : Src) (t op : Nat) (c : Instr), t < 1024 → Takes s src Ad.TMM_CMD →
    (c, op) ∈ ([(.create src t, 1), (.release src t, 2), (.map src t, 3), (.unmap src t, 4), (.pin src t, 5), (.unpin src t, 6),
      (.loadSlot src t, 7), (.prefetch src t, 8), (.unloadSlot src t, 9), (.flip src t, 10), (.refetch src t, 11),
      (.unbind src t, 12)] : List (Instr × Nat)) →
    let slot := s.fld Ad.TMM_CMD_ARG_0 21 0 % 2;
    (s.tmm.cmd.isSome = true → ∃ u, exec c s = .next (finish s u) ∧ u.tmm = s.tmm ∧ u.ha = s.ha ∧ u.dram = s.dram ∧
      RegsBut ([Ad.TMM_EVT] ++ (List.range 8).map Ad.EVC_PEND ++ (List.range 8).map Ad.EVC_MASK ++ [Ad.EVC_EVT, Ad.EVC_MSG_DROP_COUNT]) s u) ∧
    (s.tmm.cmd = none → ∀ r,
      (s.tmm.nch = 0 ∧ r = 2 ∨
        s.tmm.nch ≠ 0 ∧ contained s 24 = true ∧ (op = 7 ∨ op = 8 ∨ op = 10 ∨ op = 11) ∧ r = 7 ∨
        s.tmm.nch ≠ 0 ∧ contained s 24 = false ∧ r = 2 ∧ s.flt.esc = none ∧
          ((op = 1 ∧ tenantState s t ≠ 0) ∨ ((op = 2 ∨ op = 3 ∨ op = 4 ∨ op = 5 ∨ op = 6 ∨ op = 7 ∨ op = 10 ∨ op = 12) ∧ tenantState s t ≠ 1) ∨
            (op = 7 ∧ (slotState s t slot = 1 ∨ slotState s t slot = 2)) ∨ ((op = 8 ∨ op = 11) ∧ slotState s t slot ≠ 2) ∨
            (op = 9 ∧ slot = activeSlot s t))) →
      ∃ u, exec c s = .next (finish s u) ∧ u.fld Ad.TMM_CMD_STATUS 23 16 = r ∧ u.tmm = s.tmm ∧ u.ha = s.ha ∧ u.dram = s.dram ∧
        RegsBut ([Ad.TMM_CMD, Ad.TMM_CMD_STATUS, Ad.TMM_EVT] ++ (List.range 8).map Ad.EVC_PEND ++ (List.range 8).map Ad.EVC_MASK ++
          [Ad.EVC_EVT, Ad.EVC_MSG_DROP_COUNT]) s u)

/-- R305, for a blank fill: when it ends, every line of the frame, which lies in a channel that serves, reads zero and not poisoned before the page is mapped to it, the page is RESIDENT in that frame, and its translation cache entry is gone (R304). -/
def Obligations.FilledFrameIsZero : Prop :=
  ∀ (s : State) (key x f : Nat) (d lb : Bool), Clocked s 4 → jobOf s key = some ⟨x, .fill, some f, d, lb⟩ →
    (∀ i, i < (pg s key).nf * 1024 → drcUp s (chanOf s (f * 1024 + i)) = true) →
    ∃ u, exec (.blankFillDone key) s = .next (finish s (wakePage u key)) ∧
      (∀ i, i < (pg s key).nf * 1024 → dramGet u (f * 1024 + i) = ⟨0, 0⟩) ∧
      (pg u key).st = .resident ∧ (pg u key).frame = f ∧ ¬ (∃ p, (key, p) ∈ u.tmm.tc) ∧
      ∀ a, (∀ i, i < (pg s key).nf * 1024 → a ≠ f * 1024 + i) → dramGet u a = dramGet s a

/-- Chapter 9: a GRANT that passes every check writes a free pass and answers its number, a MODIFY of a pass that does not raise it, or that passes every check, writes its units and rank and recomputes, a REVOKE ends the pass and recomputes, an undefined OP ends BAD_OP; TRAIN starts a training, whose end leaves the channel READY with its usable capacity or FAILED; a poll of MR4, refreshes, the commands a channel takes, scrubbing, corrective writes, the accelerated hour and recalibration. -/
def Obligations.PassAndDramCommandsAct : Prop :=
  ∀ (s : State) (src : Src) (pass op c mib rate : Nat) (hot : Bool) (w : Word),
    (Takes s src Ad.PAS_CMD → pass < 256 →
      let B (op : Nat) (b : State) : Prop := Written Ad.PAS_CMD (setBf (setBf (s.reg Ad.PAS_CMD) 15 8 pass) 7 0 op) s b;
      let a := s.reg Ad.PAS_CMD_ARG;
      (let p : Pass := ⟨0, bf a 11 10, bf a 14 12, bf a 19 16, bf a 9 0, bf a 31 20⟩;
        ∀ n, passArgOk s p = true → locked s 2 = false → tenantLive s p.tenant = true →
        (∀ q, q ∈ passes s → q.tenant = p.tenant → if p.cls = 2 then ¬(q.cls = 2 ∧ q.port = p.port) else q.cls = 2) →
        (List.range 256).find? (fun n => (passAt s n).isNone) = some n →
        (p.cls = 0 → ((passes s).filter (fun q => q.cls == 0)).length < 32) → passCeiling s p = true → s.pas.oc = false →
        passFits s p p.units = true →
        ∃ b, B 1 b ∧ exec (.grant src pass) s = .next (finish s (pasEnd ((b.setReg (Ad.PAS_PASS n)
          (passWord { p with port := if p.cls = 2 then p.port else 0 })).setFld Ad.PAS_CMD_STATUS 7 0 n) 0))) ∧
      (∀ p, passAt s pass = some p → tenantLive s p.tenant = true →
        (let q : Pass := { p with units := bf a 31 20, rank := bf a 14 12 };
          passArgOk s q = true → (p.units < q.units ∨ p.rank < q.rank → locked s 2 = false ∧ passCeiling s q = true) →
          (p.units < q.units → s.pas.oc = false ∧ passFits s q (q.units - p.units) = true) →
          ∃ b, B 2 b ∧ exec (.modify src pass) s =
            .next (finish s (pasEnd (pasRecompute (b.setReg (Ad.PAS_PASS pass) (passWord q))) 0))) ∧
        (∃ b, B 3 b ∧ exec (.revoke src pass) s = .next (finish s (pasEnd (pasRecompute (b.setReg (Ad.PAS_PASS pass) 0)) 0)))) ∧
      (3 < op → op < 256 → ∃ b, B op b ∧ exec (.pasBadOp src op pass) s = .next (finish s (pasEnd b 1)))) ∧
    (c < nChans s → Takes s src (Ad.DRC_CTRL c) → (drcCh s c).mode ≠ .training →
      ∃ b, Written (Ad.DRC_CTRL c) (s.reg (Ad.DRC_CTRL c)) s b ∧ exec (.train src c) s = .next (finish s (pasRecompute (setDrc
        { b with dram := s.dram.filter (fun e => chanOf s e.1 != c) } c (fun (d : DrcCh) => { d with 
          mode := .training, bin := if s.fld (Ad.DRC_CFG c) 1 0 = 3 then 0 else s.fld (Ad.DRC_CFG c) 1 0,
          refAll := bit (s.reg (Ad.DRC_CFG c)) 2, epoch := d.epoch + 1, q := d.q.filter (fun x => !x.write), corr := [],
          scrubq := [], refDue := 0, drain := false }))))) ∧
    (c < nChans s → Takes s src (Ad.DRC_SCRUB c) → ∃ b, exec (.accel src c w) s =
        .next (finish s (pasRecompute (drcEvt (setDrc b c (fun (d : DrcCh) => { d with accel := true })) c 2))) ∧ b.drc = s.drc ∧ b.dram = s.dram ∧
      bf (b.stg (Ad.DRC_SCRUB c)) 31 16 = bf w 31 16 ∧ bf (b.stg (Ad.DRC_SCRUB c)) 7 0 = bf w 7 0) ∧
    (ChanUp s c →
      ((drcCh s c).mode = .training →
        exec (.drcTrainDone c true mib) s = .next (finish s (pasRecompute ((setDrc s c
          (fun (d : DrcCh) => { d with mode := .ready, patrol := 0 })).setFld (Ad.DRC_CAP c) 15 0 (min mib 16384 * 31 / 32)))) ∧
        exec (.drcTrainDone c false mib) s = .next (finish s (drcFail s c))) ∧
      ((drcCh s c).mode = .ready →
        (let s1 := setDrc s c (fun (d : DrcCh) => { d with ref := min rate 2, hot := hot });
          exec (.mr4Poll c rate hot) s = .next (finish s (pasRecompute
            (if hot && !(drcCh s c).hot then raise (drcEvt s1 c 4) 18 c else s1)))) ∧
        exec (.refreshDue c) s = .next (finish s (setDrc s c (fun (d : DrcCh) => { d with refDue := d.refDue + 1 }))) ∧
        (0 < (drcCh s c).refDue → exec (.drcCommandIssue c true) s =
          .next (finish s (pcu 0x3A c 1 (setDrc s c (fun (d : DrcCh) => { d with refDue := d.refDue - 1 }))))) ∧
        (∀ x, drcNext (drcDrain s c) c = some x → ∃ u, exec (.drcCommandIssue c false) s = .next (finish s u) ∧
          ∀ y, y ∈ (drcCh u c).q → y.n ≠ x.n) ∧
        (∀ l t, (drcCh s c).scrubq = l :: t → exec (.patrolScrub c 0) s =
          .next (finish s (pcu 0x38 c 1 (overhead (setDrc s c (fun (d : DrcCh) => { d with scrubq := t })) 1)))) ∧
        ((drcCh s c).scrubq = [] → exec (.patrolScrub c 0) s = .next (finish s (pcu 0x38 c 1 (overhead (setDrc s c
          (fun (d : DrcCh) => { d with patrol := (d.patrol + 1) % max 1 (s.fld (Ad.DRC_CAP c) 15 0 * 16384) })) 1))))) ∧
      (∀ l t, (drcCh s c).corr = l :: t → drcUp s c = true → exec (.correctiveWrite c) s =
        .next (finish s (pcu 0x39 c 1 (overhead (setDrc s c (fun (d : DrcCh) => { d with corr := t })) 1)))) ∧
      exec (.ceWindowExpiry c) s = .next (finish s (setDrc s c (fun (d : DrcCh) => { d with ce := 0 }))) ∧
      ((drcCh s c).accel = true → exec (.accelScrubEnd c) s =
        .next (finish s (pasRecompute (setDrc s c (fun (d : DrcCh) => { d with accel := false }))))) ∧
      exec (.drcRecalibration c true) s = .next (finish s s) ∧
      (drcUp s c = true → exec (.drcRecalibration c false) s = .next (finish s (drcFail s c))))

/-- R357: whatever its arguments, a GRANT either leaves every pass as it was, or makes one pass that was free: with at least one unit, for a LIVE tenant, while domain PASS is not locked and PAS is not in OVERCOMMIT, for a tenant with no other U or G pass (or no other L pass at the port), and such that the U and G passes together stay within COMMIT of the derated capacity, or the L passes of the port within their share of its line rate. RESULT is OK exactly in that case. -/
def Obligations.GrantsStayWithinTheCommitLimit : Prop :=
  ∀ (s : State) (src : Src) (pass : Nat), Takes s src Ad.PAS_CMD →
    ∃ u, exec (.grant src pass) s = .next (finish s u) ∧
      ((∀ n, passAt u n = passAt s n) ∧ u.fld Ad.PAS_CMD_STATUS 23 16 ≠ 0 ∨
        u.fld Ad.PAS_CMD_STATUS 23 16 = 0 ∧ ∃ n p, n < 256 ∧ u.fld Ad.PAS_CMD_STATUS 7 0 = n ∧ passAt s n = none ∧ passAt u n = some p ∧
          (∀ m, m ≠ n → passAt u m = passAt s m) ∧ 1 ≤ p.units ∧ tenantLive s p.tenant = true ∧ locked s 2 = false ∧
          s.pas.oc = false ∧
          (p.cls ≠ 2 → (∀ q, q ∈ passes s → q.cls ≠ 2 → q.tenant ≠ p.tenant) ∧
            (uTotal u + gTotal u) * 1000 ≤ pol16 s 0 720 * cDer s) ∧
          (p.cls = 2 → (∀ q, q ∈ passes s → q.cls = 2 → q.port = p.port → q.tenant ≠ p.tenant) ∧
            lTotal u p.port * 1000 ≤ pol16 s 4 720 * portCap s p.port))

/-- R374: the channel enters FAILED, DRC_EVT.FAIL of the channel is set, the class DRC_CHAN is raised with the channel as INFO, the channel's capacity counts as 0, a read's data from it is DRAM_UE, a write mapped to it is discarded, and no other channel changes. -/
def Obligations.FailedChannelServesNothing : Prop :=
  ∀ (s : State) (c mib : Nat) (i : Instr), ChanUp s c →
    (i = .drcTrainDone c false mib ∧ (drcCh s c).mode = .training) ∨ (i = .drcRecalibration c false ∧ drcUp s c = true) →
    ∃ u, exec i s = .next (finish s u) ∧ (drcCh u c).mode = .failed ∧ (∀ d, d ≠ c → drcCh u d = drcCh s d) ∧
      bit (u.reg (Ad.DRC_EVT c)) 3 = true ∧ bit (u.reg Ad.FLT_RAISED_0) 19 = true ∧ chanCap u c = 0 ∧
      u.dram = s.dram ∧ (∀ l d, chanOf u l = c → dramPut u l d = u) ∧
      (∀ t b, chanOf u t.pa = c → (haRead u t b).2.rd = .have_ 0 2)

/-- R377 to R379, R388, R392, R396 to R398, R407: integer arithmetic, branches and jumps; multiplication and division; CSR reads and writes of a CSR open to the mode; FENCE, FENCE.I, MRET in machine mode and WFI with an empty store buffer; ECALL, EBREAK, an encoding that R377 does not implement and a refused fetch, of either half-word, begin their trap; and an interrupt that is pending and enabled is taken between instructions. -/
def Obligations.CoreInstructionsAct : Prop :=
  ∀ (s : State) (rd rs1 rs2 n ecc : Nat) (u : Nat) (off v : Int) (c imm wide : Bool) (miss : Option Squash) (sq : Squash) (bits : Word),
    Clocked s 29 →
    (rcFree s = true →
      let T := tagItem false 1 0 s.rc.pc.toNat s;
      let k := if c then 2 else 4;
      let next := s.rc.pc + w32 k;
      let J (t : State) : State := match miss with | none => t | some q => cxSquash (pcu 0x4A 0 1 t) q;
      exec (.rvAlu (.lui rd u) c miss) s = .next (finish s (retire (setX T rd (w32 (u * 4096))) k)) ∧
      exec (.rvAlu (.auipc rd u) c miss) s = .next (finish s (retire (setX T rd (s.rc.pc + w32 (u * 4096))) k)) ∧
      exec (.rvAlu (.jal rd off) c miss) s = .next (finish s (retireTo (J (setX T rd next)) (s.rc.pc + immW off))) ∧
      exec (.rvAlu (.jalr rd rs1 off) c miss) s = .next (finish s (retireTo (J (setX T rd next)) ((rx s rs1 + immW off) &&& ~~~(1 : Word)))) ∧
      (∀ f, exec (.rvAlu (.branch f rs1 rs2 off) c miss) s =
        .next (finish s (retireTo (J T) (if brOp f (rx s rs1) (rx s rs2) then s.rc.pc + immW off else next)))) ∧
      (∀ f, exec (.rvAlu (.imm f rd rs1 v) c miss) s = .next (finish s (retire (setX T rd (aluOp f (rx s rs1) (immW v))) k)) ∧
        exec (.rvAlu (.reg f rd rs1 rs2) c miss) s = .next (finish s (retire (setX T rd (aluOp f (rx s rs1) (rx s rs2))) k))) ∧
      (∀ f, exec (.rvMulDiv f rd rs1 rs2) s = .next (finish s (retire (setX T rd (mulOp f (rx s rs1) (rx s rs2))) 4))) ∧
      (∀ f, csrReadable s n = true → (n < 3072 ∨ (f ≠ .rw ∧ rs1 % 32 = 0)) →
        let s1 := csrCapture T n;
        let old := csrValue s1 n;
        let w := if imm then w32 (rs1 % 32) else rx s rs1;
        let new := match f with | .rw => w | .rs => old ||| w | .rc => old &&& ~~~w;
        exec (.csrAccess f imm n rd rs1) s = .next (finish s
          (setX (if f = .rw ∨ rs1 % 32 ≠ 0 then csrWrite (retire s1 4) n new else retire s1 4) rd old))) ∧
      (let B (o : RvOp) : State := rvBegin s o;
        (s.rc.sb = [] →
          exec .fence s = .next (finish s (retire (B .fence) 4)) ∧
          exec .fenceI s = .next (finish s (retire (setRc (B .fenceI) (fun (c : RcSt) => { c with ic := [] })) 4)) ∧
          (s.rc.mach = true → exec .mret s = .next (finish s (mretDo (B .mret)))) ∧
          (s.rc.mach = true ∨ bit s.rc.mstatus 21 = false → exec .wfi s = .next (finish s (wfiDo (B .wfi))))) ∧
        exec .ecall s = .next (finish s (B (.trap (if s.rc.mach then 11 else 8) 0 s.rc.pc))) ∧
        exec .ebreak s = .next (finish s (B (.trap 3 s.rc.pc s.rc.pc))) ∧
        (rvKnown bits = false → exec (.illegalInstruction bits) s =
          .next (finish s (B (.trap 2 (if bf bits 1 0 = 3 then bits else bits &&& 0xFFFF) s.rc.pc)))) ∧
        (let no (a : Nat) : Prop := pmpOk s s.rc.mach a 2 2 = false ∨ (memKind s a ≠ .tcm ∧ memKind s a ≠ .cached);
          let a := s.rc.pc.toNat;
          let a2 := (a + 2) % 2 ^ 32;
          (no a → exec (.instructionAccessFault ⟨wide, ecc⟩) s = .next (finish s (trapHere (B (.fetch wide ecc)) 1 s.rc.pc))) ∧
          (¬no a → memKind s a = .tcm → tcmBad s a 2 = none → no a2 →
            exec (.instructionAccessFault ⟨true, 0⟩) s = .next (finish s (trapHere (B (.fetch true 0)) 1 (w32 a2))))))) ∧
    (∀ b, irqFirst s = some b → fwRuns s = true → contained s 25 = false → s.rc.halted = false → irqOn s = true → curYields s = true →
      exec (.interruptTaken sq) s = .next (finish s (trapDue (setRc (cxSquash s sq) (fun (c : RcSt) => { c with wfi := false }))
        (2 ^ 31 + b) 0 s.rc.pc)))

/-- R380 to R395, R408 to R412: a load of TCM or of a held line takes its bytes, a load of an IC register its word; a store to TCM or a cacheable region enters the store buffer, an IC store writes its register once the buffer is empty; LR reserves its granule, SC with the reservation stores and writes 0, an AMO stores its result and returns the old word; a buffer entry drains; a fill returns; a reservation and a hold of snoops end; MTIP ends a WFI; DFLUSH, its end, IINV; and RCC_CTRL writes of ORDER and RGN_LOCK, before which the record core drains its buffer. -/
def Obligations.CoreMemoryActs : Prop :=
  ∀ (s : State) (src : Src) (w rd rs1 rs2 k : Nat) (signed c order lock : Bool) (imm : Int), Clocked s 29 →
    (rcFree s = true → w = 1 ∨ w = 2 ∨ w = 4 →
      let n := if c then 2 else 4;
      (let a := (rx s rs1 + immW imm).toNat;
        let B := rvBegin s (.load w signed rd rs1 imm c 0);
        let L (v : Nat) : State := retire (setX B rd (loadExt w signed v)) n;
        (pmpOk s (dataMach s) a w 0 = true → a % w = 0 →
          (memKind s a = .tcm → sbFwd s a w = .clear → tcmBad s a w = none →
            exec (.rvLoad w signed rd rs1 imm c 0) s = .next (finish s (L (ofBytesLE (tcmRead s a w))))) ∧
          (memKind s a = .cached → winOff s = false → s.rc.flushing = false → ¬ winLine a ∈ s.rc.fills →
            (∀ l, rcLine s (winLine a) = some l → l.poison = none → l.wb = false → sbFwd s a w = .clear →
              exec (.rvLoad w signed rd rs1 imm c 0) s = .next (finish s (L (lineNum l.data (a % 64) w)))) ∧
            (∀ v, sbFwd s a w = .hit v → exec (.rvLoad w signed rd rs1 imm c 0) s = .next (finish s (L v)))) ∧
          (memKind s a = .ic → w = 4 → s.rc.sb = [] → ∀ t v, icLoad B (a - 0xC0000000) = .done t v →
            exec (.rvLoad w signed rd rs1 imm c 0) s = .next (finish s (retire (setX t rd (loadExt w signed v.toNat)) n))))) ∧
      (let a := (rx s rs1 + immW imm).toNat;
        let v := (rx s rs2).toNat;
        let B := rvBegin s (.store w rs1 rs2 imm c);
        pmpOk s (dataMach s) a w 1 = true → a % w = 0 →
          (s.rc.sb.length < 8 →
            (memKind s a = .tcm → ∃ t, sbPut B a w v 0 false = some t ∧ exec (.rvStore w rs1 rs2 imm c) s = .next (finish s (retire t n))) ∧
            (memKind s a = .cached → winOff s = false → s.rc.flushing = false →
              ∃ t, sbPut B a w v 1 false = some t ∧ exec (.rvStore w rs1 rs2 imm c) s = .next (finish s (retire t n)))) ∧
          (memKind s a = .ic → w = 4 → s.rc.sb = [] → ∀ t x, icStore B .rc (a - 0xC0000000) (w32 v) = .done t x →
            exec (.rvStore w rs1 rs2 imm c) s = .next (finish s (retire t n)))) ∧
      (let a := (rx s rs1).toNat;
        let H (s : State) (v : Word) : Prop := (inTcm a = true ∧ tcmBad s a 4 = none ∧ v = w32 (ofBytesLE (tcmRead s a 4))) ∨
          (inTcm a = false ∧ s.rc.flushing = false ∧ ¬ winLine a ∈ s.rc.fills ∧ ∃ l, rcLine s (winLine a) = some l ∧ l.poison = none ∧
            l.wb = false ∧ (l.st = 2 ∨ l.st = 3) ∧ v = w32 (lineNum l.data (a % 64) 4));
        ∀ v, s.rc.sb = [] →
          (atomCheck s a true false = 0 → let B := releaseHold (rvBegin s (.lr rd rs1 0)); H B v →
            exec (.lr rd rs1 0) s = .next (finish s (retire (setX (setRc B (fun (c : RcSt) =>
              { c with resv := some (granule B a), lrHold := some (granule B a) })) rd v) 4))) ∧
          (atomCheck s a false false = 0 → s.rc.resv = some (granule s a) → H s v →
            exec (.sc rd rs1 rs2 false) s = .next (finish s (retire (setX (releaseHold (loseRsv
              (atomPut (rvBegin s (.sc rd rs1 rs2 false)) a (rx s rs2)))) rd 0) 4))) ∧
          (∀ f, atomCheck s a false true = 0 → H s v → exec (.amo f rd rs1 rs2 0) s = .next (finish s
            (retire (setX (atomPut (rvBegin s (.amo f rd rs1 rs2 0)) a (amoOp f v (rx s rs2))) rd v) 4))))) ∧
    (∀ e, s.rc.sb[k]? = some e → sbMay s e = true → exec (.storeBufferDrain k) s = .next (finish s (sbDrain s e))) ∧
    (∀ x, s.rc.cur = some x → (∃ w g rd rs1 i c e, x = .load w g rd rs1 i c e) →
      exec .loadFillReturn s = .next (finish s (rcTry true s))) ∧
    exec .lrReservationExpiry s = .next (finish s (setRc s (fun (c : RcSt) => { c with resv := none }))) ∧
    exec .lrSnoopHoldExpiry s = .next (finish s (releaseHold s)) ∧
    (bit (rcMip s) 7 = true → fwRuns s = true → s.rc.wfi = true → rcIrqDue s = true →
      exec .timecmpMatch s = .next (finish s (setRc s (fun (c : RcSt) => { c with wfi := false })))) ∧
    (s.rc.flushing = true → s.rc.dc = [] →
      exec .dflushDone s = .next (finish s (setRc s (fun (c : RcSt) => { c with flushing := false })))) ∧
    (Takes s src Ad.RCC_CACHE_CMD → let W (b : State) : Prop := Written Ad.RCC_CACHE_CMD (s.reg Ad.RCC_CACHE_CMD) s b;
      (s.rc.flushing = false → ∃ b, W b ∧ exec (.dflush src) s = .next (finish s (dflush b))) ∧
      (∃ b, W b ∧ exec (.iinv src) s = .next (finish s (setRc b (fun (c : RcSt) => { c with ic := [] }))))) ∧
    (let V (s : State) : Word := setBf (if lock then setBf (s.reg Ad.RCC_CTRL) 1 1 1 else s.reg Ad.RCC_CTRL) 0 0 (b2n order);
      let G := exec (.rgnLockWrite src order) s;
      let O := exec (.orderWrite src order lock) s;
      (src ≠ .rc → Takes s src Ad.RCC_CTRL → lock = true ∨ bit (s.reg Ad.RCC_CTRL) 1 = false →
        ∃ b, Written Ad.RCC_CTRL (V s) s b ∧ (lock = true → G = .next (finish s b)) ∧ O = .next (finish s b)) ∧
      (src = .rc → rcFree s = true → s.rc.sb = [] → lock = true ∨ bit (s.reg Ad.RCC_CTRL) 1 = false →
        let B := rvBegin s (.icStore Ad.RCC_CTRL (w32 (b2n order + 2 * b2n lock)));
        ∃ b, Written Ad.RCC_CTRL (V s) B b ∧ let u := setRc b (fun (c : RcSt) => { c with cur := none });
          (lock = true → G = .next (finish s u)) ∧ O = .next (finish s u)))

/-- R402 to R404, R414: the image being read is loaded and started where every check of Table 10-9 passes; where one fails, copy B is tried after copy A (while BOOT_B is blank it is not tried and REASON_B is 0x01 at once), and the failure of the last image is recorded with its REASON and raised as class 22 (an image that fails check 7 or 8 is in TCM already); RETRY begins the boot again from WAIT_PROVISION or FAILED with the source it names; and a BOOT offer that was kept enters the evidence store once an entry is free and a genesis exists. -/
def Obligations.BootCommandsAct : Prop :=
  ∀ (s : State) (src : Src) (ok spi : Bool),
    (Clocked s 29 →
      (s.rc.boot ≠ 0 → bootJudge s s.rc.boot ok = 0 → exec (.bootImageCheck ok) s = .next (finish s (bootPass s s.rc.boot))) ∧
      (∀ r, s.rc.boot = 1 → bootJudge s 1 ok = r → r ≠ 0 →
        let s1 := (if 7 ≤ r then bootLoad s 1 else s).setFld Ad.RCC_BOOT_STATUS 23 16 r;
        (bootHasB s = true → exec (.bootImageCheck ok) s = .next (finish s (setRc s1 (fun (c : RcSt) => { c with boot := 2 })))) ∧
        (bootHasB s = false → exec (.bootImageCheck ok) s = .next (finish s (bootFail s1 1)))) ∧
      (∀ r, s.rc.boot = 2 ∨ s.rc.boot = 3 → bootJudge s s.rc.boot ok = r → r ≠ 0 →
        let s1 := setRc (setStage ((if 7 ≤ r then bootLoad s s.rc.boot else s).setFld Ad.RCC_BOOT_STATUS 31 24 r) 3) (fun (c : RcSt) => { c with boot := 0 });
        exec (.bootImageCheck ok) s = .next (finish s (raise s1 22 (s1.reg Ad.RCC_BOOT_STATUS).toNat)))) ∧
    (Takes s src Ad.RCC_BOOT_CTRL → bootStage s = 2 ∨ bootStage s = 3 →
      ∃ b, Written Ad.RCC_BOOT_CTRL (setBf (s.reg Ad.RCC_BOOT_CTRL) 1 1 (b2n spi)) s b ∧
        exec (.retry src spi) s = .next (finish s (bootBegin b))) ∧
    (Clocked s 31 → ∀ p, s.evs.keptBoot = some p → evsCount s < 64 → s.evs.mode ≠ .noGenesis →
      exec .bootOfferReenter s = .next (finish s (evsPush { s with evs := { s.evs with keptBoot := none } } false 1 p none)))

/-- In a quiet device with random tagging off, in which the core may begin an instruction: the state after a register or immediate operation, a multiplication or division, a jump or a branch is the state before with rd (x0 discards its write), pc and minstret as the instruction leaves them, and after a mispredicted jump or branch the issue numbers of the CX instructions that it squashed consumed; every other register, memory, block and flag is as it was. -/
def Obligations.IntegerInstructionsTouchRdAndPc : Prop :=
  ∀ (s : State) (rd rs1 rs2 : Nat) (off v : Int) (c : Bool) (miss : Option Squash), Quiet s = true → Clocked s 29 → rcFree s = true →
    bit (s.reg Ad.PCU_TAG_CFG) 30 = false → (∀ q, miss = some q → q.lines = []) →
    let k := if c then 2 else 4;
    let Z := match miss with | none => s.chz | some q => { s.chz with nextNo := (s.chz.nextNo + min q.n 4) % 65536 };
    let R (d : Nat) (x pc : Word) : State := { s with rc := { s.rc with
      x := if d = 0 then s.rc.x else upd s.rc.x d (fun _ => x), pc := pc, dev := none, sbWait := false, step1 := false,
      instret := if bit s.rc.mcountinhibit 2 then s.rc.instret else (s.rc.instret + 1) % 2 ^ 64 } };
    (∀ f, exec (.rvAlu (.reg f rd rs1 rs2) c miss) s = .next (R rd (aluOp f (rx s rs1) (rx s rs2)) (s.rc.pc + w32 k))) ∧
    (∀ f, exec (.rvAlu (.imm f rd rs1 v) c miss) s = .next (R rd (aluOp f (rx s rs1) (immW v)) (s.rc.pc + w32 k))) ∧
    (∀ f, exec (.rvMulDiv f rd rs1 rs2) s = .next (R rd (mulOp f (rx s rs1) (rx s rs2)) (s.rc.pc + 4))) ∧
    exec (.rvAlu (.jal rd off) c miss) s = .next { R rd (s.rc.pc + w32 k) (s.rc.pc + immW off) with chz := Z } ∧
    exec (.rvAlu (.jalr rd rs1 off) c miss) s = .next { R rd (s.rc.pc + w32 k) ((rx s rs1 + immW off) &&& ~~~(1 : Word)) with chz := Z } ∧
    (∀ f, exec (.rvAlu (.branch f rs1 rs2 off) c miss) s =
      .next { R 0 0 (if brOp f (rx s rs1) (rx s rs2) then s.rc.pc + immW off else s.rc.pc + w32 k) with chz := Z })

/-- R394, R397, R398 and the RISC-V privileged architecture that R377 names: in a quiet device with an empty store buffer, ECALL, EBREAK, an unimplemented encoding, MRET in user mode and WFI in user mode under TW leave mepc at the instruction, mcause and mtval at their values, MPIE the old MIE, MIE 0, MPP the old mode, machine mode, the pc at BASE (a trap of an exception, in either mode of mtvec), no reservation; MRET in machine mode sets the pc to mepc, MIE to MPIE, MPIE to 1, the mode to MPP, MPP to user, MPRV to 0 on a return to user mode, and loses the reservation. The rest of the device is as it was. -/
def Obligations.TrapEntryAndReturn : Prop :=
  ∀ s : State, Quiet s = true → Clocked s 29 → rcFree s = true → s.rc.sb = [] → s.rc.heldSnp = [] →
    bit (s.reg Ad.PCU_TAG_CFG) 30 = false →
    let m := s.rc.mstatus;
    let T (cause : Nat) (tval : Word) : State := { s with rc := { s.rc with
      mepc := s.rc.pc &&& ~~~(1 : Word), mcause := w32 cause, mtval := tval,
      mstatus := setBf (setBf (setBf m 7 7 (bf m 3 3)) 3 3 0) 12 11 (if s.rc.mach then 3 else 0), mach := true,
      pc := s.rc.mtvec &&& ~~~(127 : Word), resv := none, dev := none, sbWait := false, step1 := false } };
    exec .ecall s = .next (T (if s.rc.mach then 11 else 8) 0) ∧
    exec .ebreak s = .next (T 3 s.rc.pc) ∧
    (∀ bits, rvKnown bits = false → exec (.illegalInstruction bits) s = .next (T 2 (if bf bits 1 0 = 3 then bits else bits &&& 0xFFFF))) ∧
    (s.rc.mach = false → exec .mret s = .next (T 2 0x30200073) ∧
      (bit m 21 = true → exec .wfi s = .next (T 2 0x10500073))) ∧
    (s.rc.mach = true → exec .mret s = .next { s with rc := { s.rc with
      mstatus := (let m1 := setBf (setBf (setBf m 3 3 (bf m 7 7)) 7 7 1) 12 11 0; if bf m 12 11 = 3 then m1 else setBf m1 17 17 0),
      mach := bf m 12 11 == 3, pc := s.rc.mepc, resv := none, dev := none, sbWait := false, step1 := false,
      instret := if bit s.rc.mcountinhibit 2 then s.rc.instret else (s.rc.instret + 1) % 2 ^ 64 } })

/-- R393 and R394: an SC whose granule is not the one reserved leaves the TCM, the D-cache and the store buffer as they were, writes 1 to rd and ends the reservation. LR, SC and AMO at an address that is neither TCM nor in a cacheable region of a usable window begin a trap, load access fault for LR and store/AMO access fault for the others, and a misaligned one begins the misaligned exception of its kind; none of them touches memory. -/
def Obligations.AtomicsAreGuarded : Prop :=
  ∀ (s : State) (rd rs1 rs2 : Nat) (f : AmoFn), Clocked s 29 → rcFree s = true → s.rc.sb = [] →
    let a := (rx s rs1).toNat;
    (atomCheck s a false false = 0 → s.rc.resv ≠ some (granule s a) → s.rc.heldSnp = [] →
      ∃ u, exec (.sc rd rs1 rs2 false) s = .next (finish s u) ∧ u.tcm = s.tcm ∧ u.rc.dc = s.rc.dc ∧ u.rc.sb = [] ∧ u.ha = s.ha ∧
        u.rc.resv = none ∧ u.rc.pc = s.rc.pc + 4 ∧ (rd ≠ 0 → rd < s.rc.x.length → rx u rd = 1) ∧
        (∀ r, r ≠ rd → rx u r = rx s r)) ∧
    (a % 4 ≠ 0 ∨ (memKind s a ≠ .tcm ∧ (memKind s a ≠ .cached ∨ winOff s = true)) →
      ∀ c x, (c, x) ∈ ([(.lr rd rs1 0, if a % 4 ≠ 0 then 4 else 5), (.sc rd rs1 rs2 false, if a % 4 ≠ 0 then 6 else 7),
        (.amo f rd rs1 rs2 0, if a % 4 ≠ 0 then 6 else 7)] : List (Instr × Nat)) →
      ∃ u, exec c s = .next (finish s u) ∧ u.rc.cur = some (.trap x (w32 a) s.rc.pc) ∧ u.rc.x = s.rc.x ∧ u.rc.pc = s.rc.pc ∧
        u.tcm = s.tcm ∧ u.rc.dc = s.rc.dc ∧ u.rc.resv = s.rc.resv)

/-- R424 to R446: a legal queued instruction whose operands pass their checks takes one of the four queue entries and writes its ticket to rd; WAIT writes a status that is no longer PENDING, POLL any status, CRD the counter, ABORT its answer; an operation that may start does its checks and reads; one whose unit has finished ends with its status, or writes its result; the end of a CARVE's signing starts its program, and the end of the program confirms or reports it. -/
def Obligations.ChiselCommandsAct : Prop :=
  ∀ (s : State) (rd rs1 rs2 f3 no : Nat) (lockBad : Bool),
    (Clocked s 29 → rcFree s = true →
      let a := rx s rs1;
      let b := rx s rs2;
      let I (n : CxName) : CxIn := ⟨n, rd, rs1, rs2, f3⟩;
      let B (n : CxName) : State := startIsl (rvBegin s (.cx (I n))) 30;
      (∀ c n op, (c, n) ∈ ([(.cxHinit rd rs1 rs2 f3, .hinit), (.cxHupd rd rs1 rs2 f3, .hupd), (.cxHfin rd rs1 rs2 f3, .hfin),
          (.cxGinit rd rs1 rs2 f3, .ginit), (.cxGaad rd rs1 rs2 f3, .gaad), (.cxGupd rd rs1 rs2 f3, .gupd), (.cxGout rd rs1 rs2 f3, .gout),
          (.cxGfin rd rs1 rs2 f3, .gfin), (.cxVerify rd rs1 rs2 f3, .verify), (.cxKdf rd rs1 rs2 f3, .kdf), (.cxSign rd rs1 rs2 f3, .sign),
          (.cxKset rd rs1 rs2 f3, .kset), (.cxKclr rd rs1 rs2 f3, .kclr), (.cxCinc rd rs1 rs2 f3, .cinc),
          (.cxCarve rd rs1 rs2 f3, .carve)] : List (Instr × CxName)) →
        cxLegal s (I n) a b = true → cxOpOf (I n) a b = some op →
        (∀ m, m ∈ cxMems s (I n) a.toNat b.toNat → cxMemCheck s m = 0) → s.rc.sb = [] → s.chz.q.length < 4 →
        exec c s = .next (finish s (retire (setX (pcu 0x58 0 1 { B n with chz := { s.chz with
          q := s.chz.q ++ [⟨s.chz.nextNo, op, 0, [], [], 0⟩], nextNo := (s.chz.nextNo + 1) % 65536 } }) rd
            (w32 (2 ^ 31 + s.chz.nextNo))) 4))) ∧
      (cxLegal s (I .wait) a b = true → cxStatus s a ≠ 1 →
        exec (.cxWait rd rs1 rs2 f3) s = .next (finish s (retire (setX (B .wait) rd (w32 (cxStatus s a))) 4))) ∧
      (cxLegal s (I .poll) a b = true →
        exec (.cxPoll rd rs1 rs2 f3) s = .next (finish s (retire (setX (B .poll) rd (w32 (cxStatus s a))) 4))) ∧
      (cxLegal s (I .crd) a b = true →
        exec (.cxCrd rd rs1 rs2 f3) s = .next (finish s (retire (setX (B .crd) rd (w32 s.otp.ctr)) 4))) ∧
      (cxLegal s (I .abort) a b = true →
        exec (.cxAbort rd rs1 rs2 f3) s = .next (finish s (retire (setX (cxAbort (B .abort) a).1 rd (w32 (cxAbort (B .abort) a).2)) 4)))) ∧
    (Clocked s 30 →
      (∀ e, s.chz.q.find? (fun e => e.no == no) = some e → cxReady s e = true →
        (∀ fw typ idx ad, e.op = .carve fw typ idx ad →
          exec (.cxOperationStart no false false) s = .next (finish s (carveStart (startIsl s 31) e fw typ idx ad))) ∧
        ((∀ fw typ idx ad, e.op ≠ .carve fw typ idx ad) →
          let lines := if cxPre s e.op = 0 then ((cxReads s e.op).flatMap opLines).eraseDups else [];
          exec (.cxOperationStart no false false) s = .next (finish s (setChz (lines.foldl (fun s l => ag0Req s (.chz e.no l) .readOnce 0 l
              ((rgnOf s (l * 64 + 0x20000000)).1 != .device) 0 0) s) (fun (z : ChzSt) => { z with
            q := z.q.map (fun (x : CxEnt) => if x.no = e.no then { x with phase := 1, want := lines, code := cxPre s e.op } else x) }))))) ∧
      (∀ e, s.chz.q.find? (fun e => e.no == no && e.phase == 1 && e.want.isEmpty) = some e → (∀ fw typ idx ad, e.op ≠ .carve fw typ idx ad) →
        (e.code ≠ 0 → exec (.cxOperationComplete no lockBad) s = .next (finish s (cxFinish s no e.code))) ∧
        (e.code = 0 → (∀ x, x ∈ cxReads s e.op → inTcm x.1 = true → tcmBad s x.1 x.2 = none) →
          ((cxResult s e).1 ≠ 0 → exec (.cxOperationComplete no false) s = .next (finish s (cxFinish s no (cxResult s e).1))) ∧
          ((cxResult s e).1 = 0 → exec (.cxOperationComplete no false) s = .next (finish s (cxWrite s e (cxResult s e).2))))) ∧
      (∀ c, s.chz.carve = some c → c.step = 5 → lockBad = false →
        let s1 := setChz s (fun (z : ChzSt) => { z with carve := some { c with
          step := 6, bytes := c.bytes ++ p256Sign (ofBytesBE (keySlot s 1).key) (sha256 c.bytes) } });
        exec (.carveSignDone lockBad) s = .next (finish s (pcu 0x5B 0 1 (pcu 0x63 0 1 (carveProgram
          ((s1.setReg Ad.CHZ_CARVE_SEQ_LO (w32 c.seq)).setReg Ad.CHZ_CARVE_SEQ_HI (w32 (c.seq / 2 ^ 32))) c.seq)))))) ∧
    (Clocked s 31 → ∀ c, s.chz.carve = some c → c.step = 6 →
      exec (.carveProgramDone 0) s = .next (finish s (carveEnd (carveConfirm (setChz (cvuItem 3 0 0 c.bytes (slotProgram s c.seq c.bytes))
        (fun (z : ChzSt) => { z with carve := none })) c) c.no 0 0)) ∧
      ∃ u, exec .carveProgramTimeout s = .next (finish s (carveFlash (carveEnd u c.no 0x0C 0x12) c.seq 0x12)) ∧
        ∀ i, stGet flashDef u.flash i &&& stGet flashDef s.flash i = stGet flashDef u.flash i)

/-- R441: for the ticket of a CARVE in step 5, ABORT answers 0, the CARVE's status becomes ABORTED (9), no CARVE is in progress, its entry is free, its sequence number is not consumed and no flash byte changes. From step 6 on it answers 1 and leaves Chisel, the evidence store and the flash as they were; and for a ticket of another operation, or of none, it answers 2 and changes nothing of them either. -/
def Obligations.AbortOnlyBeforeTheProgram : Prop :=
  ∀ (s : State) (rd rs1 rs2 f3 : Nat), Clocked s 29 → rcFree s = true → cxLegal s ⟨.abort, rd, rs1, rs2, f3⟩ (rx s rs1) (rx s rs2) = true →
    (∀ e, e ∈ s.chz.q → e.no < 65536) → rd ≠ 0 → rd < s.rc.x.length →
    (∀ e c fw typ idx ad, s.chz.q.find? (fun e => rx s rs1 == w32 (2 ^ 31 + e.no)) = some e → e.op = .carve fw typ idx ad →
      s.chz.carve = some c → c.no = e.no →
      (c.step < 6 → ∃ u, exec (.cxAbort rd rs1 rs2 f3) s = .next (finish s u) ∧ rx u rd = 0 ∧ cxStatus u (rx s rs1) = 9 ∧
        u.chz.carve = none ∧ (∀ x, x ∈ u.chz.q → x.no ≠ e.no) ∧ u.evs.pending = none ∧ u.flash = s.flash) ∧
      (6 ≤ c.step → ∃ u, exec (.cxAbort rd rs1 rs2 f3) s = .next (finish s u) ∧ rx u rd = 1 ∧ u.chz = s.chz ∧ u.evs = s.evs ∧
        u.flash = s.flash)) ∧
    ((∀ e, e ∈ s.chz.q → rx s rs1 = w32 (2 ^ 31 + e.no) → ∀ fw typ idx ad, e.op ≠ .carve fw typ idx ad) →
      ∃ u, exec (.cxAbort rd rs1 rs2 f3) s = .next (finish s u) ∧ rx u rd = 2 ∧ u.chz = s.chz ∧ u.evs = s.evs ∧ u.flash = s.flash)

/-- Chapter 12: a PPS_IN edge of the selected polarity, at least 1 us long and at most at 2 Hz, is timestamped and judged, after what it leaves of the edge before it; the end of a slew and of the servo's removal, PPS loss, a candidate not followed; a TimeOfDay message for a LIVE, bound tenant that may bring time sets the UTC offset, any other message leaves time and motion as they are; the bound, a record offered again, PPS_OUT, the RTC, the alarms, the TCXO's failure and return; pulses counted and turned into distance, or, while the timebase does not run, only latched; OVERRATE, the 2 s without an edge, the re-evaluated plausibility, the comparison of the inputs; and the captures of the two read rows. The timestamp's error is a free value of at most 4 ns (log 39). -/
def Obligations.TimeAndMotionCommandsAct : Prop :=
  ∀ (s : State) (p held : Nat) (m : TodMsg) (src : Src) (b : Bool),
    (Clocked s 1 →
      (1000 ≤ held → (∀ e, s.tb.edge = some e → s.tb.restart = true ∨ cycSec ≤ (s.tb.cyc - e.cyc) * 2) → let t := edgeShift s;
        ∃ (err : Int) (e : PpsEdge),
        -4 ≤ err ∧ err ≤ 4 ∧ e.cyc = s.tb.cyc ∧ e.raw = (s.tb.time : Int) + err ∧ e.comp = sext 16 (s.fld Ad.TBU_PPS_COMP 15 0) ∧
        e.byTod = false ∧ e.accepted = false ∧ e.moved = s.tb.moved ∧ e.cand = s.tb.restart ∧ e.bad = false ∧
        e.label = (if t.tb.todUse.isNone && boundBelow t 450000000 then some (nearestSec e) else none) ∧
        exec (.ppsInEdge (bit (s.reg Ad.TBU_SRV_CFG) 0) held) s = .next (finish s (edgeTake t.fresh e))) ∧
      (s.tb.slew = true → s.tb.slewLeft = 0 → exec .slewEnd s = .next (finish s (tbReclass (s.setTb { s.tb with slew := false })))) ∧
      (s.tb.slew = false → s.tb.servo ≠ 0 → s.tb.servoLeft = 0 → exec .slewEnd s = .next (finish s (s.setTb { s.tb with servo := 0 }))) ∧
      (s.tb.ppsLost = false → 3 * cycSec ≤ (s.tb.cyc - s.tb.lastAcc.getD 0) * 2 →
        exec .ppsLoss s = .next (finish s (boundRecompute (s.setTb { s.tb with ppsLost := true, lock := 0 })))) ∧
      (∀ e, s.tb.edge = some e → e.accepted = false → e.bad = false →
        5 * cycSec + 768 * max 1 (s.fld Ad.TBU_SRV_CFG 23 16) < (s.tb.cyc - e.cyc) * 5 →
        exec .ppsCandidateTimeout s = .next (finish s ((s.inc Ad.TBU_PPS_BAD_COUNT).setEdge { e with bad := true }))) ∧
      exec .boundRecompute s = .next (finish s (tbReclass (s.setTb { s.tb with bound := tbBoundNow s }))) ∧
      (∀ x s1 r, s.tb.steps = [x] → evsOffer s 4 x none = (s1, r) → r ≠ .busy →
        exec .timeStepReoffer s = .next (finish s (s1.setTb { s1.tb with steps := [] }))) ∧
      (s.tb.ppsOut.sec < s.tb.time / 1000000000 →
        (∀ r, s.tb.ppsOut.rise = some r → cycSec ≤ (s.tb.cyc - r) * 2 ∧ r + s.tb.ppsOut.width + 16 ≤ s.tb.cyc) →
        exec .ppsOutRise s = .next (finish s (s.setTb { s.tb with
          ppsOut := ⟨true, some s.tb.cyc, (s.tb.q + 1) * 15360000, s.tb.time / 1000000000⟩ }))) ∧
      (∀ r, s.tb.ppsOut.rise = some r → s.tb.ppsOut.high = true → r + s.tb.ppsOut.width ≤ s.tb.cyc →
        exec .ppsOutFall s = .next (finish s (s.setTb { s.tb with ppsOut := { s.tb.ppsOut with high := false } }))) ∧
      (s.tb.intOsc = false → s.tb.rtcSec < s.tb.time / 1000000000 →
        exec .rtcSet s = .next (finish s ((((s.setTb { s.tb with rtcSec := s.tb.time / 1000000000, rtcAcc := 0 }).setReg
          Ad.TBU_RTC_SEC_LO (w32 (s.tb.time / 1000000000))).setReg Ad.TBU_RTC_SEC_HI
          (w32 ((s.tb.time / 1000000000 / 2 ^ 32) % 65536))).setReg Ad.TBU_RTC_SUB 0))) ∧
      (∀ a, s.tb.alarm = some a → a ≤ s.tb.time →
        exec .tbuAlarm s = .next (finish s (setLatch (sqEvt (s.setTb { s.tb with alarm := none }) Ad.TBU_EVT 0x100) 20))) ∧
      (s.tb.intOsc = false → exec .tcxoFail s = .next (finish s (tbReclass (raise (sqEvt (s.setTb { s.tb with
        intOsc := true, b0 := tbBoundNow s, bound := (tbBoundNow s).map (· + 20), t0 := s.tb.cyc, qAt := none,
        servo := 0, servoLeft := 0, slew := false, slewLeft := 0 }) Ad.TBU_EVT 0x10) 26 0)))) ∧
      (s.tb.intOsc = true → exec .tcxoReturn s = .next (finish s (tbReclass (s.setTb { s.tb with
        intOsc := false, b0 := tbBoundNow s, bound := tbBoundNow s, t0 := s.tb.cyc, back := true, qAt := none })))) ∧
      exec .tbuTimeLoRead s = .next (finish s ((s.setReg Ad.TBU_TIME_LO (w32 s.tb.time)).setReg Ad.TBU_TIME_HI (w32 (s.tb.time / 2 ^ 32)))) ∧
      exec .motDistLoRead s = .next (finish s ((s.setReg Ad.MOT_DIST_LO (w32 (s.mot.nm / 10 ^ 6))).setReg Ad.MOT_DIST_HI
        (w32 ((s.mot.nm / 10 ^ 6 / 2 ^ 32) % 65536)))) ∧
      (motEn s b = true →
        ((s.fld Ad.MOT_CFG 7 4 + 1) * 1000 ≤ held → ∃ u,
          exec (.motEdge b (bit (s.reg Ad.MOT_CFG) (if b then 3 else 2)) held) s = .next (finish s u) ∧
          u.reg (if b then Ad.MOT_CNT_B else Ad.MOT_CNT_A) = s.reg (if b then Ad.MOT_CNT_B else Ad.MOT_CNT_A) + 1 ∧
          u.mot.nm = (if b then s.mot.nm else (s.mot.nm + motNm (setMotIn s false { s.mot.a with
            edges := motKeep s.tb.cyc ((s.tb.cyc, 0) :: s.mot.a.edges), stale := false }) false) % 2 ^ 64)) ∧
        ((motIn s b).overrate = false → exec (.motOverrate b) s =
          .next (finish s (motEval (sqEvt (setMotIn s b { (motIn s b) with overrate := true }) Ad.MOT_EVT 2))))) ∧
      (∀ c x l, (motIn s b).edges = (c, x) :: l → 2 * cycSec ≤ s.tb.cyc - c → exec (.motEdgeTimeout b) s =
        .next (finish s (motEval (setMotIn s b { (motIn s b) with stale := true, overrate := false })))) ∧
      (∀ c, c ∈ [Instr.noGnssTimeout, .pulseLossTimeout] → motPlaus s ≠ s.mot.plaus →
        let s1 := sqEvt (s.setMot { s.mot with plaus := motPlaus s }) Ad.MOT_EVT 1;
        exec c s = .next (finish s (if motPlaus s = 5 then raise s1 29 (motState s1)
          else if motPlaus s = 2 ∨ motPlaus s = 3 ∨ motPlaus s = 4 then raise s1 28 (motPlaus s) else s1))) ∧
      (motEn s true = true → let d := ((motSpeed s true : Int) - motSpeed s false).natAbs;
        exec .abSpeedCheck s = .next (finish s (motEval (s.setMot { s.mot with
          ab := if s.fld Ad.MOT_PLAUS_CFG2 15 8 * motSpeed s false < d * 1000 ∧ 100 < d then min 255 (s.mot.ab + 1) else 0 }))))) ∧
    (¬Clocked s 1 → exec (.motEdge b false held) s = .next (finish s
      (if pinsOk s = true ∧ 20 ≤ held ∧ bit (s.reg Ad.ISL_LATCH) 18 = false then setLatch s 18 else s))) ∧
    (Clocked s 0 → s.reg Ad.TBU_RTC_SEC_LO = s.reg Ad.TBU_RTC_ALARM → exec .rtcAlarm s = .next (finish s (setLatch s 19))) ∧
    (Takes s src Ad.TBU_ALARM_CTRL →
      (∃ a, Written Ad.TBU_ALARM_CTRL (s.reg Ad.TBU_ALARM_CTRL) s a ∧ exec (.tbuAlarmArm src) s = .next (finish s
        (a.setTb { s.tb with alarm := some ((s.reg Ad.TBU_ALARM_LO).toNat + 2 ^ 32 * (s.reg Ad.TBU_ALARM_HI).toNat) }))) ∧
      (∃ a, Written Ad.TBU_ALARM_CTRL (s.reg Ad.TBU_ALARM_CTRL) s a ∧
        exec (.tbuAlarmDisarm src) s = .next (finish s (a.setTb { s.tb with alarm := none })))) ∧
    (Accepts s p (.tod m) →
      let live : Prop := m.tenant < 1024 ∧ (s.fld (Ad.DSC_CTRL m.tenant) 2 0 = 1) ∧ bindBit s m.tenant m.src = true ∧
        bit (s.reg (Ad.DSC_CTRL m.tenant)) 10 = true;
      ∃ u, exec (.timeOfDay p m) s = .next (finish s u) ∧ (¬live → u.tb = s.tb ∧ u.mot = s.mot) ∧
        (live → u.reg Ad.TBU_UTC_OFS = w32 (unsx 8 m.utcOfs) ∧ (m.speedValid = true → u.mot.gnss = m.speed % 65536)))

/-- R452: whatever offset an edge or a label shows, legal time is afterwards at least what it was: a step goes forward, and a negative offset is slewed. The premises keep legal time within its 64 bits: beyond them the model wraps (log 52). -/
def Obligations.LegalTimeStepsOnlyForward : Prop :=
  (∀ (s : State) (falling : Bool) (held : Nat), s.tb.time + 10 ^ 9 < 2 ^ 64 →
    ∃ u, exec (.ppsInEdge falling held) s = .next (finish s u) ∧ s.tb.time ≤ u.tb.time) ∧
  (∀ (s : State) (p : Nat) (m : TodMsg),
    (∀ e sec, s.tb.edge = some e → sec = m.seconds % 2 ^ 40 ∨ sec = nearestSec e → (s.tb.time : Int) + edgeLeft s e (e.offset sec) < 2 ^ 64) →
    ∃ u, exec (.timeOfDay p m) s = .next (finish s u) ∧ s.tb.time ≤ u.tb.time) ∧
  (∀ (s : State) (t : Nat), t + 1000 < 2 ^ 64 → s.tb.time ≤ (tbFloor s t).tb.time ∧ t < (tbFloor s t).tb.time)

/-- Chapter 13: a SUBMIT of a recorder with a registration, a new nonce, a type that tenants may submit and fewer than 56 entries taken is taken; an EXPORT and an ACK are taken unless the store scans or holds no genesis; an undefined KIND is answered BAD_TYPE; while the store scans, a doorbell of every KIND is answered BUSY; a payload that has arrived, receipt lines and export lines answered, DROP, GENESIS, a registration written, the scan of an erased partition, an erase started, ended, repeated and given up, the direct accesses and a FAULT record offered again. -/
def Obligations.EvidenceStoreCommandsAct : Prop :=
  ∀ (s : State) (p n idx rid i : Nat) (m : DoorMsg) (src : Src) (w : Word) (st len : Byte) (cs : Bool),
    (let M (k : Nat) : DoorMsg := { m with kind := k };
      let A (k : Nat) : State := arrived s p (.door (M k));
      let E (u : State) : State := finish s (creditFree u p m.mclass);
      let up (k : Nat) : Prop := Accepts s p (.door (M k)) ∧ isRecorder (A k) m.tenant m.src = true ∧ evsReg (A k) m.tenant = some n;
      (up 0 → (∀ r, r ∈ (A 0).evs.nonces → ¬(r.tenant = m.tenant ∧ r.nonce = m.low)) → typeFlags (A 0) m.typ % 4 = 3 →
        (A 0).evs.mode = .opened ∨ ((A 0).evs.mode = .reserve ∧ typeCritical (A 0) m.typ = true) → evsCount (A 0) < 56 →
        exec (.doorbellSubmit p m) s = .next (E (submitTake (A 0) (M 0) n))) ∧
      (up 1 → (A 1).evs.mode ≠ .scanning → (A 1).evs.mode ≠ .noGenesis → (∀ e, e ∈ (A 1).evs.exports → e.reg ≠ n) →
        contained (A 1) 27 = false →
        let lo := max (m.low % 2 ^ 48) ((A 1).evs.next - evsSlots (A 1));
        let hi := m.low % 2 ^ 48 + (m.low / 2 ^ 48) % 65536;
        exec (.doorbellExport p m) s = .next (E (exportNext (A 1) ⟨n, m.tenant, m.src, ((A 1).reg (Ad.EVS_REC_EXP n)).toNat,
          max 1 ((A 1).fld (Ad.EVS_REC_EXPSIZE n) 16 0), lo, max lo hi, 0, 0, 0⟩))) ∧
      (up 2 → (A 2).evs.mode ≠ .scanning → (A 2).evs.mode ≠ .noGenesis → ∀ l, (A 2).evs.lastSeq = some l →
        let a := min (m.low % 2 ^ 48) l;
        let new := if (A 2).evs.ack = 2 ^ 48 then a else max (A 2).evs.ack a;
        exec (.doorbellAck p m) s = .next (E (eraseEval (answer ((A 2).setEvs { (A 2).evs with ack := new }) m.tenant m.src 2 0x0C
          (new % 2 ^ 48) 0)))) ∧
      (∀ c k, (c, k) ∈ [(Instr.doorbellSubmit p m, 0), (.doorbellExport p m, 1), (.doorbellAck p m, 2)] →
        Accepts s p (.door (M k)) → (A k).evs.mode = .scanning → exec c s = .next (E (refuse (A k) (M k) 1))) ∧
      (2 < m.kind → Accepts s p (.door m) → (A m.kind).evs.mode = .scanning →
        exec (.doorbellUndefinedKind p m) s = .next (E (refuse (A m.kind) m 1))) ∧
      (2 < m.kind → up m.kind → (A m.kind).evs.mode ≠ .scanning →
        exec (.doorbellUndefinedKind p m) s = .next (E (answer (A m.kind) m.tenant m.src m.kind 4 0 0)))) ∧
    (Takes s src Ad.EVS_CMD → s.chz.carve = none → ∀ e t, s.evs.q = e :: t → e.device = false →
      ∃ b, Written Ad.EVS_CMD (setBf (s.reg Ad.EVS_CMD) 15 8 st.toNat) s b ∧ exec (.drop src st) s = .next (finish s (evsFreed
        (finalRcpt (b.setEvs { s.evs with q := t }) e (if st.toNat = 5 then 5 else 9) 0 [] 0)))) ∧
    (Takes s .cp Ad.EVS_GENESIS → locked s 6 = false → s.evs.mode = .noGenesis → s.fld Ad.OTP_LIFECYCLE 1 0 = 1 →
      (evsPart s).isSome = true → bit (s.reg (Ad.CHZ_KEY_POL 1)) 16 = false → s.evs.scanBad = false ∨ partErased s = true →
      (∀ e, e ∈ s.evs.q → ¬(e.device = true ∧ e.typ = 0)) → (∀ h, h ∈ s.evs.headWait → h.typ ≠ 0) →
      ∃ b, Written Ad.EVS_GENESIS (s.reg Ad.EVS_GENESIS) s b ∧ exec (.evsGenesis .cp) s = .next (finish s (headOffer
        (b.setEvs { s.evs with next := 0, scanBad := false }) 0 (genesisPayload b)))) ∧
    (n < 4 → Takes s .cp (Ad.EVS_REC_CTRL n) → locked s 6 = false →
      let taken : Prop := ∃ k, k < 4 ∧ k ≠ n ∧ bit (s.reg (Ad.EVS_REC_CTRL k)) 31 = true ∧ s.fld (Ad.EVS_REC_CTRL k) 9 0 = bf w 9 0;
      ∃ b, Written (Ad.EVS_REC_CTRL n) (setBf (setBf (s.reg (Ad.EVS_REC_CTRL n)) 31 31 (bf w 31 31)) 9 0 (bf w 9 0)) s b ∧
        (¬(bit w 31 = true ∧ taken) → exec (.evsRecCtrlWrite .cp n w) s = .next (finish s b)) ∧
        (bit w 31 = true → taken → exec (.evsRecCtrlWrite .cp n w) s =
          .next (finish s (sqEvt (b.setFld (Ad.EVS_REC_CTRL n) 31 31 0) Ad.EVS_EVT 8)))) ∧
    (Takes s src Ad.EVS_X_CTRL → s.evs.xop = none → contained s 27 = false →
      ∀ c op, (c, op) ∈ [(Instr.evsXRead src len cs, 1), (.evsXProgram src len cs, 2), (.evsXErase src len cs, 3)] →
        let a0 := (s.reg Ad.EVS_X_ADDR).toNat;
        let a := if op = 3 then a0 / 4096 * 4096 else a0;
        let k := if op = 3 then 4096 else len.toNat + 1;
        op = 1 ∨ inPart s (b2n cs) a k = false ∨ (op = 3 ∧ s.evs.scanBad = true) →
        ∃ b, Written Ad.EVS_X_CTRL (setBf (setBf (setBf (s.reg Ad.EVS_X_CTRL) 15 8 len.toNat) 4 4 (b2n cs)) 2 0 op) s b ∧
          exec c s = .next (finish s ((flashUp b).setEvs { (flashUp b).evs with xop := some ⟨op, b2n cs, a, k⟩ }))) ∧
    (Clocked s 31 →
      (∀ e a b, s.evs.reading.find? (fun e => e.idx == idx) = some e → ag0Peek s (.evsSub idx 0) = some a →
        ag0Peek s (.evsSub idx 1) = some b → a.kind = .data → b.kind = .data →
        let s0 := ag0Drop (ag0Drop s (.evsSub idx 0)) (.evsSub idx 1);
        exec (.submitPayloadReadDone idx) s = .next (finish s (pcu 0x60 0 1 (sqEvt (s0.setEvs { s0.evs with
          reading := s0.evs.reading.filter (fun x => x.idx != idx),
          q := s0.evs.q ++ [{ e with payload := toBytesLE 64 a.line.toNat ++ toBytesLE 64 b.line.toNat }],
          nonces := trimNonces s0.evs.nonces e.tenant }) Ad.EVS_EVT 1)))) ∧
      (∀ r s1 x, ag0Take s (.evsRcpt rid) = some (r, s1) → s1.evs.rcpts.find? (fun r => r.1 == rid) = some x →
        exec (.receiptWriteAck rid) s = .next (finish s (receiptSend (s1.setEvs { s1.evs with
          rcpts := s1.evs.rcpts.filter (fun x => x.1 != rid) }) x.2))) ∧
      (∀ e r s1, s.evs.exports.find? (fun e => e.reg == n) = some e → ag0Take s (.evsExp n i) = some (r, s1) →
        exec (.exportWriteAck n i) s = .next (finish s (
          if r.kind ≠ .ack then exportEnd s1 { e with written := e.written - 1 } true
          else if e.outst ≤ 1 then exportNext s1 { e with outst := 0 }
          else setExport s1 n (some { e with outst := e.outst - 1 })))) ∧
      (∀ b c k, s.evs.mode = .scanning → evsPart s = some (b, c, k) → 0 < k → b + 4096 * k ≤ 2 ^ 32 →
        flashErased s (flashKey c b) (4096 * k) = true →
        exec .scanComplete s = .next (finish s (bootReenter (evsFreed (sqEvt ((flashUp s).setEvs { (flashUp s).evs with
          mode := .noGenesis, head := List.replicate 32 0, next := 0 }) Ad.EVS_EVT 0x100))))) ∧
      (s.evs.mode ≠ .scanning → s.evs.mode ≠ .noGenesis → s.evs.erasing = none → s.evs.eraseOff = false → contained s 27 = false →
        flashHold s = false → s.fld Ad.EVS_FLASH_INFO 0 0 = 1 → ∀ c, eraseCand s = some c →
        exec .eraseEvaluation s = .next (finish s (s.setEvs { s.evs with erasing := some (c, 0) }))) ∧
      (∀ c k b pcs tot, s.evs.erasing = some (c, k) → evsPart s = some (b, pcs, tot) →
        (flashHold s = true → s.fld Ad.EVS_FLASH_INFO 0 0 = 0) →
        (let s1 := flashErase s (flashKey pcs (b + 4096 * (c % (max 1 tot)))) 4096;
          exec (.sectorEraseDone true) s = .next (finish s (evsUpdate (pcu 0x64 0 1
            ((s1.setEvs { s1.evs with erasing := none }).inc Ad.EVS_ERASE_COUNT))))) ∧
        (k = 0 → exec (.sectorEraseDone false) s = .next (finish s (s.setEvs { s.evs with erasing := some (c, 1) }))) ∧
        (k ≠ 0 → exec (.sectorEraseDone false) s = .next (finish s (raise
          (sqEvt (s.setEvs { s.evs with erasing := none, eraseOff := true }) Ad.EVS_EVT 0x40) 31 0xFF)))) ∧
      (∀ x, s.evs.xop = some x → flashHold s = false →
        let D (v : Nat) : State := (s.setEvs { s.evs with xop := none }).setFld Ad.EVS_X_CTRL 23 16 v;
        exec (.evsXDone false) s = .next (finish s (D 2)) ∧
        (x.op = 1 → exec (.evsXDone true) s = .next (finish s (bufWrite (D 0) (Ad.EVS_X_BUF 0) (flashRead s x.cs x.addr x.len)))) ∧
        (x.op = 2 → exec (.evsXDone true) s = .next (finish s (pcu 0x63 0 1 (flashProgram (D 0) x.cs x.addr
          (bufRead s (Ad.EVS_X_BUF 0) x.len))))) ∧
        (x.op = 3 → exec (.evsXDone true) s = .next (finish s (pcu 0x64 0 1 (flashErase (D 0) (flashKey x.cs x.addr) 4096)))))) ∧
    (Clocked s 1 → ∀ o s1, s.flt.offers = [o] → evsOffer s 6 o.payload (some o.num) = (s1, .accepted) →
      exec .faultReoffer s = .next (finish s (fltRecorded { s1 with flt := { s1.flt with offers := [] } } o.num)))

/-- R510, R522: whatever the store holds, an evaluation leaves the erase in progress as it was, or starts one, when none runs, on a sector of the partition all of whose sequences below the next one are at most the acknowledged sequence, and that does not hold the slot of the next sequence; not while the store scans or holds no genesis, is contained, or a CARVE holds the flash. It erases no byte itself. -/
def Obligations.OnlyAcknowledgedRecordsAreErased : Prop :=
  ∀ (s : State), 0 < evsSlots s → ∃ u, exec .eraseEvaluation s = .next (finish s u) ∧ u.flash = s.flash ∧
    (u.evs.erasing ≠ s.evs.erasing → s.evs.erasing = none ∧ s.evs.mode ≠ .scanning ∧ s.evs.mode ≠ .noGenesis ∧
      s.evs.eraseOff = false ∧ contained s 27 = false ∧ flashHold s = false ∧
      ∃ c, u.evs.erasing = some (c, 0) ∧ 16 * c + 15 < evsSlots s ∧ c ≠ s.evs.next % evsSlots s / 16 ∧
        ∀ q, q < s.evs.next → q % evsSlots s / 16 = c → q ≤ s.evs.ack ∧ s.evs.ack ≠ 2 ^ 48)

/-- Chapters 14 and 15: the five commands of ACQ_CTRL start and stop the sequences and the integrating converter while EN is 1, and set CMD_IGN while it is 0; triggers, entry starts, the ends of conversions and integrations, LINE_SYNC, calibration, the rings and the reference; a DAC_DATA write, the LD_N pulse of at least 20 ns high and 20 ns low, RELEASE, the multi-time rows and the current limit. A channel 32 converts the test DAC within its 2 LSB once 5 µs have passed since its last change; a conversion's hold instant errs by a free value of at most 7 ns (log 39). -/
def Obligations.AcquisitionAndDacCommandsAct : Prop :=
  ∀ (s : State) (src : Src) (rising left : Bool) (n held high low sl vref p : Nat) (uv nv : Int) (w : Word),
    (Takes s src Ad.ACQ_CTRL →
      let B (e : Bool) (b : State) : Prop := Written Ad.ACQ_CTRL (setBf (s.reg Ad.ACQ_CTRL) 0 0 (b2n e)) s b;
      (∀ c, c ∈ [Instr.regStart src false, .regStop src false, .injStart src false, .iadcStart src false, .iadcStop src false] →
        ∃ b, B false b ∧ exec c s = .next (finish s (acqEvt b 14))) ∧
      (contained s 28 = false → acqStopping s = false → s.acq.boot = false →
        (0 < acqNreg s.acq.regTbl → s.acq.regRun = false → ∃ b, B true b ∧ exec (.regStart src true) s =
          .next (finish s (setAcq b (fun (a : AcqSt) => { a with regRun := true, regNext := 0, regGo := false, regStop := false })))) ∧
        (0 < acqNinj s.acq.injTbl → s.acq.injRun = false →
          ∃ b, B true b ∧ exec (.injStart src true) s = .next (finish s (injStart b))) ∧
        (s.acq.owner = 0 → s.acq.iadc = none → ∃ b i, B true b ∧ i.t0 = s.now ∧ i.ch = min 39 (s.fld Ad.ACQ_IADC_CFG 5 0) ∧
          i.lathe = none ∧ i.bad = !refOk s ∧ exec (.iadcStart src true) s = .next (finish s (setAcq b (fun (a : AcqSt) => { a with iadc := some i }))))) ∧
      (0 < acqNreg s.acq.regTbl → s.acq.regRun = true →
        ∃ b, B true b ∧ exec (.regStop src true) s = .next (finish s (setAcq b (fun (a : AcqSt) => { a with regStop := true })))) ∧
      (s.acq.owner = 0 → s.acq.iadc.isSome = true → ∃ b, B true b ∧ exec (.iadcStop src true) s =
        .next (finish s (setAcq b (fun (a : AcqSt) => { a with iadc := none, owner := ownerReg s }))))) ∧
    (Clocked s 32 →
      (acqOpen s = true → s.acq.boot = false →
        (n < 4 → 20 ≤ held → exec (.atrigEdge n rising held) s = .next (finish s (acqTrigNow s (1 + n) rising))) ∧
        exec .acqTimerTick s = .next (finish s (acqTrigNow s 9 true))) ∧
      (acqStopping s = false → s.acq.boot = false →
        (∀ s1, s.acq.injRun = true → s.acq.injNext < acqNinj s.acq.injTbl →
          (∀ r l, r ∈ s.acq.runs → r.inj = true → l ∈ r.lanes → l.live = false → 2 ^ r.avg ≤ l.cnt) →
          entStart s (acqEnt s.acq.injTbl (acqNreg s.acq.injTbl + s.acq.injNext)) true = some s1 →
          exec .acqEntryStart s = .next (finish s (setAcq s1 (fun (a : AcqSt) => { a with injNext := a.injNext + 1 })))) ∧
        (∀ s1, s.acq.injRun = false → (∀ r l, r ∈ s.acq.runs → r.inj = false → l ∈ r.lanes → l.live = false → 2 ^ r.avg ≤ l.cnt) →
          s.acq.regRun = true → s.acq.regStop = false → s.acq.regNew = false → atWait s = false → s.acq.regNext < acqNreg s.acq.regTbl →
          entStart s (acqEnt s.acq.regTbl s.acq.regNext) false = some s1 →
          exec .acqEntryStart s = .next (finish s (setAcq s1 (fun (a : AcqSt) => { a with regNext := a.regNext + 1, regGo := false }))))) ∧
      (∀ r l, s.acq.runs.find? (fun r => r.lanes.any (fun l => l.sl == sl && l.live)) = some r →
        r.lanes.find? (fun l => l.sl == sl && l.live) = some l → ∃ err, err ≤ 14 ∧
          let v := if refSel s = 0 then 2500000 else max 1 vref;
          let c : Int := s.fld Ad.ACQ_TDAC 9 0 * v / 1024;
          let d : Int := 2 * v / 1024;
          let i : Int := if l.ch = 32 ∧ (s.acq.tdac.all (fun x => decide (x.1 + 5000 ≤ l.t0))) then max (c - d) (min (c + d) uv) else uv;
          let raw := rdiv (i * 4096) v;
          let out := decide (i < -50000 ∨ (v : Int) + 50000 < i);
          let s1 := if out then acqEvt s 9 else s;
          exec (.sarConversionDone sl uv vref) s = .next (finish s (latheConvs (laneNext (convCount (calTry (setAcq s1.fresh
            (fun (a : AcqSt) => { a with runs := a.runs.map (runLane sl (min 4095 raw.toNat) out err) })))) r.inj sl) l.ch (min 4095 raw.toNat)
            (decide (raw < 0 ∨ 4095 < raw)) (l.cur || out) (l.t0 + smpNs r.smp)))) ∧
      (∀ i, s.acq.iadc = some i → i.mode ≠ 3 →
        exec (.iadcIntegrationDone nv vref left) s = .next (finish s (iadcEnd s nv vref left false i))) ∧
      (∀ e, s.acq.lastEdge = some e → 14290000 ≤ s.now - e → s.now - e ≤ 25000000 →
        let s1 := setAcq s (fun (a : AcqSt) => { a with lastEdge := some s.now, good := s.acq.good + 1, lineLost := a.lineLost && decide (s.acq.good + 1 < 3) });
        (s.acq.iadc = none → exec (.lineSyncEdge nv vref left) s = .next (finish s s1)) ∧
        (∀ i, s.acq.iadc = some i → i.mode = 3 → i.edges = some 1 →
          exec (.lineSyncEdge nv vref left) s = .next (finish s (iadcEnd s1 nv vref left true i)))) ∧
      (lineUsed s = false ∨ s.acq.lineLost = true → exec (.lineSyncLoss nv vref left) s =
        .next (finish s (setAcq s (fun (a : AcqSt) => { a with lastEdge := none, good := 0 })))) ∧
      (lineUsed s = true → s.acq.lineLost = false → exec (.lineSyncLoss nv vref left) s =
        .next (finish s (lineLost (setAcq s (fun (a : AcqSt) => { a with lastEdge := none })) nv vref left))) ∧
      (∀ q, bit (s.reg Ad.ACQ_CAL_CFG) 8 = true → s.acq.spare = some q → sliceLive s s.acq.swapAt = false → s.acq.boot = false →
        exec .calSwap s = .next (finish s (setAcq s (fun (a : AcqSt) => { a with 
          map := upd a.map a.swapAt (fun _ => q), spare := none, cal := a.cal ++ [a.map.getD a.swapAt 0],
          swapAt := (a.swapAt + 1) % 4, swapDue := false, convs := 0 })))) ∧
      (p ∈ s.acq.cal → s.acq.boot = false → s.acq.failed = [] → ¬ p ∈ s.acq.map → ∀ o g, -1024 ≤ o → o ≤ 1024 → -1000 ≤ g → g ≤ 1000 →
        exec (.calDone p (some (o, g))) s = .next (finish s (calTry (setAcq
          ((setAcq s (fun (a : AcqSt) => { a with cal := a.cal.filter (· != p) })).setReg (Ad.ACQ_TRIM p) (w32 (unsx 16 g * 65536 + unsx 16 o)))
          (fun (a : AcqSt) => { a with spare := some p }))))) ∧
      (p ∈ s.acq.cal → s.acq.boot = false → ∀ f, (∀ o g, f = some (o, g) → ¬(-1024 ≤ o ∧ o ≤ 1024 ∧ -1000 ≤ g ∧ g ≤ 1000)) →
        let s1 := calFail (setAcq s (fun (a : AcqSt) => { a with cal := a.cal.filter (· != p) })) p;
        s1.acq.boot = false → exec (.calDone p f) s = .next (finish s (calTry s1))) ∧
      (∀ f, ¬ p ∈ s.acq.cal → exec (.calDone p f) s = .next (finish s s)) ∧
      (let r := ringOf s n;
        r.flushed < r.line.length → r.line.length < 64 → exec (.ringFlushTimer n) s = .next (finish s (acqWrite
          (setRing s n (fun (r : AcqRing) => { r with flushed := r.line.length, acks := r.acks ++ [(s.acq.nextId, r.wr, false)] }))
          ⟨n, false, s.acq.nextId, r.ten, recLine n r (r.wr - 1), false, BitVec.ofNat 512 (ofBytesLE r.line),
            BitVec.ofNat 64 (2 ^ r.line.length - 2 ^ r.flushed)⟩))) ∧
      (∀ a id, s.ha.ag0.find? (fun r => match r.who with | .acqData k _ => k == n | .acqWr k _ => k == n | _ => false) = some a →
        a.who = .acqWr n id →
        let s1 := acqIssue 16 (acqReturned (ag0Drop s a.who) n id);
        exec (.ringWriteAck n) s = .next (finish s (if a.kind = .retry then ringFail s1 n else s1))) ∧
      (∀ a s0, ag0Take s (.acqRd n) = some (a, s0) → a.kind = .data → exec (.ringRdReadReturn n) s =
        .next (finish s ((ringOf s0 n).wait.foldl (ringRetry n) (setRing s0 n (fun (r : AcqRing) => { r with
          rd := a.line.toNat / 2 ^ 64 % 2 ^ 64, wait := [] }))))) ∧
      exec .refOkTimer s = .next (finish s (setAcq s (fun (a : AcqSt) => { a with settled := true }))) ∧
      (s.acq.refinOk = true →
        let s1 := refTaint (setAcq s (fun (a : AcqSt) => { a with refinOk := false }));
        exec .refinOutOfRange s = .next (finish s (if refSel s = 1 then raise (acqEvt s1 8) 34 (s.fld Ad.ACQ_REF 1 0) else s1))) ∧
      exec .refinReturn s = .next (finish s (setAcq s (fun (a : AcqSt) => { a with refinOk := true }))) ∧
      (20 ≤ high → 20 ≤ low → exec (.dacLdNEdge high low) s = .next (finish s (groupLoad s 1 none))) ∧
      (∀ c x, s.dac.prog = some (c, x) →
        let s0 : State := { s with dac := { s.dac with prog := none } };
        exec (.dacMtpDone true) s = .next (finish s (dacEvt ((wearShow (setDac
          ((setRow s0 c (fun (r : DacRow) => { r with word := x, bad := false })).setReg (Ad.DAC_MTP_ROW c) x) c
          (fun (d : DacCh) => { d with bad := false })) c false).setFld Ad.DAC_MTP_CMD 23 16 0) 4)) ∧
        exec (.dacMtpDone false) s = .next (finish s (raise (sqEvt ((wearShow (setRow s0 c (fun (r : DacRow) => { r with bad := true }))
          c true).setFld Ad.DAC_MTP_CMD 23 16 1) Ad.DAC_EVT 0x30) 36 c))) ∧
      (¬ n ∈ s.dac.ilim → exec (.dacCurrentLimit n true) s =
        .next (finish s (raise (dacEvt { s with dac := { s.dac with ilim := s.dac.ilim ++ [n] } } 7) 37 n))) ∧
      exec (.dacCurrentLimit n false) s = .next (finish s { s with dac := { s.dac with ilim := s.dac.ilim.filter (· != n) } })) ∧
    (n < 9 → Takes s src (Ad.ACQ_BUF_CTRL n) →
      (src = .cp → locked s 0 = false → ringEn s n = false → bit w 0 = true →
        ∃ b, Written (Ad.ACQ_BUF_CTRL n) (setBf (setBf (s.reg (Ad.ACQ_BUF_CTRL n)) 25 16 (bf w 25 16)) 1 1 (bf w 1 1)) s b ∧
          exec (.acqRingEnableWrite src n w) s = .next (finish s (ringEnable b n true))) ∧
      (ringEn s n = true → bit w 0 = false → ∃ b, Written (Ad.ACQ_BUF_CTRL n) (s.reg (Ad.ACQ_BUF_CTRL n)) s b ∧
        exec (.acqRingEnableWrite src n w) s = .next (finish s (ringOut (b.setFld (Ad.ACQ_BUF_CTRL n) 0 0 0) n)))) ∧
    (n < 16 → Takes s src (Ad.DAC_DATA n) → ∃ l,
      ((dacCh s n).owner = 0 → exec (.dacDataWrite src n w) s =
        .next (finish s { s.setReg (Ad.DAC_DATA n) (w32 (w.toNat % 16384)) with parErr := l })) ∧
      ((dacCh s n).owner ≠ 0 → exec (.dacDataWrite src n w) s = .next (finish s { dacEvt s 2 with parErr := l }))) ∧
    (Takes s src Ad.DAC_CMD → ∀ mask, mask < 65536 → ∃ u, exec (.dacRelease src mask) s = .next (finish s u) ∧
      ∀ c, c < 16 → mask.testBit c = true → s.flt.esc = none → contained s (32 + c) = false → ownerIdle s c = true → faulted u c = false) ∧
    (Takes s src Ad.DAC_MTP_CMD → n < 16 → locked s 9 = false → s.dac.prog = none →
      ∃ u, exec (.prog src n) s = .next (finish s u) ∧ u.dac.prog = some (n, s.reg Ad.DAC_MTP_STAGE) ∧
        ∀ r q, s.dac.rows[n]? = some r → u.dac.rows[n]? = some q → q = { r with count := min 2047 (r.count + 1) })

/-- Chapter 16: START of an IDLE Lathe with both tables, three owned channels and no escalation begins its list, and is refused with the reason of the first check that fails; STOP lets the dwell end; ABORT trips the Lathe, fault-loads the channels it owns and says so; CLEAR makes a TRIPPED Lathe at rest IDLE unless it is contained; the measure strobe, the dwell end, the steps of a transition, list reads, a point that does not come for 1 ms, result writes, and the comparator of the analog path, active for at least 40 ns. -/
def Obligations.LatheCommandsAct : Prop :=
  ∀ (s : State) (src : Src) (n held : Nat), n < 4 →
    let l := lthOf s n;
    (Takes s src (Ad.LTH_CTRL n) →
      let B (b : State) : Prop := Written (Ad.LTH_CTRL n) (s.reg (Ad.LTH_CTRL n)) s b;
      let no (r : Nat) : Prop := ∃ b, B b ∧ exec (.start src n) s = .next (finish s (lthEvt (b.setFld (Ad.LTH_STATUS n) 27 24 r) n 4));
      (l.mode ≠ .idle → no 1) ∧
      (l.mode = .idle → s.flt.esc.isSome = true → no 2) ∧
      (l.mode = .idle → s.flt.esc = none → l.tblR = none ∨ l.tblC = none → no 3) ∧
      (∀ r c, l.mode = .idle → s.flt.esc = none → l.tblR = some r → l.tblC = some c →
        (nRange r ≠ nRange c → no 4) ∧
        (nRange r = nRange c → lthOwns s n = false → no 5) ∧
        (nRange r = nRange c → lthOwns s n = true → fetched s n = true → 2 ≤ s.depth → no 6) ∧
        (nRange r = nRange c → lthOwns s n = true → fetched s n = false ∨ s.depth < 2 → ∃ b, B b ∧ exec (.start src n) s =
          .next (finish s (nextPoint (fetchAhead 8 n (fetchReset (setLth b n (fun (l : LthSt) => { l with
            mode := .run, idx := 0, pass := 0, point := none,
            begun := false, meas := false, ended := false, out := [] })) n 0)) n 0)))) ∧
      (l.mode = .run → l.ended = false →
        ∃ b, B b ∧ exec (.stop src n) s = .next (finish s (setLth b n (fun (l : LthSt) => { l with mode := .stopping })))) ∧
      (l.mode ≠ .tripped → n < s.lth.length → ∃ u, exec (.abort src n) s = .next (finish s u) ∧ (lthOf u n).mode = .tripped ∧
        (lthOf u n).meas = false ∧ bf (u.reg (Ad.LTH_TRIP_INFO n)) 7 0 = 4 ∧
        ∀ c, c ∈ [4 * n, 4 * n + 1, 4 * n + 2] → (dacCh s c).owner = n + 1 → faulted u c = true) ∧
      (l.mode = .tripped → contained s (48 + n) = false → l.trans = none → l.toSafe = false → ∃ b, B b ∧ exec (.lthClear src n) s =
        .next (finish s (setLth b n (fun (l : LthSt) => { l with mode := .idle, clr := false, point := none, begun := false }))))) ∧
    (Clocked s 32 →
      (∀ p, l.point = some p → l.begun = true → l.meas = false → l.trans = none → l.mode = .run → p.iadc = false → p.acq = false →
        l.iadcDue = false → exec (.lthMeasureStart n) s = .next (finish s (setLth s n (fun (l : LthSt) => { l with meas := true, m0 := s.now })))) ∧
      (l.begun = true → l.ended = false → l.trans = none → l.mode = .run ∨ l.mode = .stopping → l.iadcDue = false →
        missing s n = false → exec (.lthDwellEnd n) s = .next (finish s (finishPoint (setLth s n (fun (l : LthSt) => { l with ended := true })) n))) ∧
      (∀ t x, l.trans = some t → l.toSafe = false →
        (∀ w r, t.steps = x :: w :: r → exec (.rangeStepEnd n) s = .next (finish s (setLth s n
          (fun (l : LthSt) => { l with pattern := w % 8, trans := some { t with steps := w :: r } })))) ∧
        (t.steps = [x] → exec (.rangeStepEnd n) s = .next (finish s (transEnd s n t)))) ∧
      (∀ s1, fetchTake s n = some (s1, true) → exec (.listFetchReturn n) s = .next (finish s (lthGoOn (fetchAhead 8 n s1) n))) ∧
      (∀ s1, fetchTake s n = some (s1, false) → (lthOf s1 n).mode ≠ .idle →
        exec (.listFetchReturn n) s = .next (finish s (lthAbort s1 n 32))) ∧
      (l.ended = true → l.begun = true → l.iadcDue = false → missing s n = true →
        exec (.listUnderrunTimeout n) s = .next (finish s (lthAbort s n 32))) ∧
      (∀ a, s.ha.ag0.find? (fun r => match r.who with | .lthRes k _ => k == n | _ => false) = some a →
        let s1 := setLth (ag0Drop s a.who) n (fun (l : LthSt) => { l with resOut := l.resOut - 1 });
        exec (.lthResultWriteAck n) s = .next (finish s (if a.kind = .retry then lthAbort s1 n 32 else passCheck s1 n))) ∧
      (40 ≤ held → (dacCh s (4 * n)).owner = n + 1 → l.mode ≠ .tripped → faulted s (4 * n) = false →
        exec (.lthAnalogTrip n held) s = .next (finish s (lthAbort s n 1))))

/-- Chapter 17: a feed of one, two or four bytes goes into the CRC of an enabled, written channel, and sets IGN otherwise; CLEAR before EN; the captures of a result read and of a counter read; a counter written; the end of a bandwidth window and CLEAR of a monitor; a tagged item's entry, lost at a full buffer that does not overwrite; and CLEAR of the sample buffer. -/
def Obligations.CheckUnitAndCounterCommandsAct : Prop :=
  ∀ (s : State) (src : Src) (n m : Nat) (en ha hi : Bool) (v1 : Byte) (v2 : BitVec 16) (w : Word) (flags : Nat) (d : List Nat),
    (n < 8 →
      (∀ c k x, (c, k, x) ∈ [(Instr.cvuDataB src n v1, Ad.CVU_DATA_B n, toBytesLE 1 v1.toNat),
          (.cvuDataH src n v2, Ad.CVU_DATA_H n, toBytesLE 2 v2.toNat), (.cvuDataW src n w, Ad.CVU_DATA_W n, toBytesLE 4 w.toNat)] →
        Takes s src k →
        let fed : Prop := bit (s.reg (Ad.CVU_CFG n)) 16 = false ∧ cvuEn s n = true;
        (fed → s.reg (Ad.CVU_LIMIT n) = 0 → ∃ l, exec c s = .next (finish s { (pcu 0x79 n x.length (setCvu s n (fun (q : CvuCh) => { q with
          crc := some (x.foldl (crcByte (cvuPar s n)) (q.crc.getD (cvuPar s n).init)), count := q.count + x.length }))) with parErr := l })) ∧
        (¬fed → ∃ l, exec c s = .next (finish s { s.setRegBit (Ad.CVU_STATUS n) 0 with parErr := l }))) ∧
      (Takes s src (Ad.CVU_CTRL n) →
        (∃ l, exec (.cvuClear src n en) s = .next (finish s { (((setCvu s n (fun (q : CvuCh) => { q with
          crc := some (cvuPar s n).init, count := 0 })).setFld (Ad.CVU_STATUS n) 3 0 0).setFld (Ad.CVU_CTRL n) 0 0 (b2n en)) with parErr := l })) ∧
        (∃ l, exec (.cvuEnWrite src n en) s = .next (finish s { s.setFld (Ad.CVU_CTRL n) 0 0 (b2n en) with parErr := l }))) ∧
      (Clocked s 3 → exec (.cvuResultRead n) s = .next (finish s ((s.setReg (Ad.CVU_BYTES_LO n) (w32 (cvuCh s n).count)).setReg
        (Ad.CVU_BYTES_HI n) (w32 (((cvuCh s n).count / 2 ^ 32) % 2 ^ 16)))))) ∧
    (m < 32 →
      let c := stGet (fun _ => 0) s.pcu.cnt m;
      (Clocked s 3 → exec (.pcuCntLoRead m) s = .next (finish s (s.setReg (Ad.PCU_CNT_HI m) (w32 (c / 2 ^ 32 % 65536))))) ∧
      (Takes s src (if hi then Ad.PCU_CNT_HI m else Ad.PCU_CNT_LO m) → ∃ u, exec (.pcuCntWrite src m hi w) s = .next (finish s u) ∧
        stGet (fun _ => 0) u.pcu.cnt m = (if hi then (w.toNat % 65536) * 2 ^ 32 + c % 2 ^ 32 else c / 2 ^ 32 * 2 ^ 32 + w.toNat) ∧
        ∀ j, j ≠ m → stGet (fun _ => 0) u.pcu.cnt j = stGet (fun _ => 0) s.pcu.cnt j)) ∧
    (m < 16 →
      (Clocked s 3 → bit (s.reg (Ad.PCU_BW_CFG m)) 31 = true →
        let k := min 0xFFFFFFFF (bwCount s m);
        let s1 := ((({ s with pcu := { s.pcu with bw := stDrop s.pcu.bw m } } : State).setReg (Ad.PCU_BW_LAST m) (w32 k)).setReg
          (Ad.PCU_BW_MAX m) (w32 (max k (s.reg (Ad.PCU_BW_MAX m)).toNat))).setReg
          (Ad.PCU_BW_MIN m) (w32 (min k (s.reg (Ad.PCU_BW_MIN m)).toNat));
        let t := (s.reg (Ad.PCU_BW_THR m)).toNat;
        exec (.bwWindowEnd m) s = .next (finish s (if t ≠ 0 ∧ t < k then sqEvt (s1.inc (Ad.PCU_BW_WINDOWS m)) Ad.PCU_EVT (2 ^ m)
          else s1.inc (Ad.PCU_BW_WINDOWS m)))) ∧
      (Takes s src (Ad.PCU_BW_CFG m) → ∃ u, exec (.pcuBwClear src m w) s = .next (finish s u) ∧ u.reg (Ad.PCU_BW_MAX m) = 0 ∧
        u.reg (Ad.PCU_BW_MIN m) = 0xFFFFFFFF ∧ u.reg (Ad.PCU_BW_WINDOWS m) = 0)) ∧
    (Clocked s 3 → ∀ k f id time, (tagOf s ha).fly = some (k, f, id, time) →
      let s1 := setTag s ha { tagOf s ha with fly := none };
      let full : Prop := 64 ≤ s.pcu.sbCount ∧ bit (s.reg Ad.PCU_TAG_CFG) 28 = false;
      (full → exec (.taggedItemComplete ha flags d) s = .next (finish s (sqEvt s1 Ad.PCU_EVT 65536))) ∧
      (¬full → ∃ u, exec (.taggedItemComplete ha flags d) s = .next (finish s u) ∧ (tagOf u ha).fly = none ∧
        u.pcu.sbWr = (s.pcu.sbWr + 1) % 64 ∧ u.pcu.sbCount = min 64 (s.pcu.sbCount + 1) ∧
        ∀ i, i < 8 → u.reg (Ad.PCU_SBUF (8 * s.pcu.sbWr + i)) =
          w32 ((tagWords k (f ||| flags % 256) s.pcu.eseq id time d).getD i 0))) ∧
    (Takes s src Ad.PCU_SBUF_CTRL → ∃ b, Written Ad.PCU_SBUF_CTRL (s.reg Ad.PCU_SBUF_CTRL) s b ∧
      exec (.pcuSbufClear src) s = .next (finish s { b with pcu := { s.pcu with sbWr := 0, sbCount := 0 } }))

/-- Chapters 18 to 20: the four ways of writing pending and mask bits act bit by bit, on the sources that the writer may change, and change nothing else; an Event from a partner is discarded, its credit freed, with BAD_MSG; ESC_CLEAR ends the escalation only while nothing is raised, ESC_FORCE raises class 6, RELEASE releases the units of its mask, and an SQ write clears raised bits under the current SEQ; each OTP command runs where Table 20-4 gives it no refusal, and ends with the refusal's RESULT otherwise; what each does at its end; and what FAULT_N, IRQ_N, LTH_RNG_n and REFOUT show while the device runs, VERIFY standing also where a row it fuses was bad before (log 71). -/
def Obligations.EventFaultAndOtpCommandsAct : Prop :=
  ∀ (s : State) (src : Src) (p k agent : Nat) (hi ok : Bool) (w : Word) (row : Byte),
    (k < 8 →
      let may (b : Nat) (set : Bool) : Bool := evcMay s src (32 * k + b) set;
      let X (key : Nat) (c : Instr) (r : Nat) (f : Nat → Bool) : Prop := Takes s src key → ∃ u, exec c s = .next (finish s u) ∧
        (∀ b, b < 32 → bit (u.reg r) b = f b) ∧ RegsBut [r] s u ∧ u = { s with regs := u.regs, parErr := u.parErr };
      let pend (b : Nat) : Bool := bit (s.reg (Ad.EVC_PEND k)) b;
      let mask (b : Nat) : Bool := bit (s.reg (Ad.EVC_MASK k)) b;
      X (Ad.EVC_PEND k) (.evcPendWrite src k w) (Ad.EVC_PEND k)
        (fun b => if bit w b then pend b || may b true else pend b && !may b false) ∧
      X (Ad.EVC_PCLR k) (.evcPclr src k w) (Ad.EVC_PEND k) (fun b => pend b && !(bit w b && may b false)) ∧
      X (Ad.EVC_PSET k) (.evcPset src k w) (Ad.EVC_PEND k) (fun b => pend b || (bit w b && may b true)) ∧
      X (0xC00060 + 8 * k + 4 * b2n hi) (.evcMaskMkWrite src k hi w) (Ad.EVC_MASK k) (fun b =>
        let o := b % 16;
        if decide (16 ≤ b) = hi ∧ bit w (16 + o) = true ∧ evcReserved s (32 * k + b) = false ∧ (src = .cp ∨ may b false = true)
        then bit w o else mask b)) ∧
    (Accepts s p (.other 0x32 5 agent 0) →
      exec (.event p agent) s = .next (finish s (creditFree (sqEvt (arrived s p (.other 0x32 5 agent 0)) Ad.EVC_EVT 2) p 5))) ∧
    (Takes s .cp Ad.FLT_CTRL →
      let raised : Prop := bf (s.reg Ad.FLT_RAISED_0) 23 0 ≠ 0 ∨ bf (s.reg Ad.FLT_RAISED_1) 16 0 ≠ 0;
      ∃ b, Written Ad.FLT_CTRL (s.reg Ad.FLT_CTRL) s b ∧
        (¬raised → exec (.escClear .cp) s = .next (finish s { b with flt := { s.flt with esc := none } })) ∧
        (raised → exec (.escClear .cp) s = .next (finish s (sqEvt b Ad.FLT_EVT 1))) ∧
        ∃ e, Written Ad.FLT_CTRL (s.reg Ad.FLT_CTRL) s e ∧ exec (.escForce .cp) s = .next (finish s (raise e 6 0))) ∧
    (let r := if hi then Ad.FLT_RELEASE_1 else Ad.FLT_RELEASE_0;
      Takes s .cp r → ∃ b, Written r (s.reg r) s b ∧ exec (.fltRelease .cp hi w) s =
        .next (finish s (fltRelease b (if hi then 32 else 0) (bf w (if hi then 19 else 28) 0)))) ∧
    (let r := if hi then Ad.FLT_RAISED_1 else Ad.FLT_RAISED_0;
      Takes s src r → ∃ u, exec (.fltRaisedClear src hi w) s = .next (finish s u) ∧
        ∀ c, c < (if hi then 17 else 24) → bit (u.reg r) c = (bit (s.reg r) c && !(bit w c && decide (bf w 31 24 = bf (s.reg r) 31 24)))) ∧
    (Takes s src Ad.OTP_CMD → locked s 7 = false → s.otp.cmd = none →
      (let B (op : Nat) (b : State) : Prop := Written Ad.OTP_CMD (setBf (setBf (s.reg Ad.OTP_CMD) 23 16 row.toNat) 7 0 op) s b;
        let E (b : State) : State := b.setFld Ad.OTP_CMD_STATUS 24 24 0;
        (∀ c op, (c, op) ∈ [(Instr.program src row, 1), (.keygen src row, 2), (.sealOtp src row, 3), (.raiseSvn src row, 4),
            (.revokeFwkey src row, 5)] →
          let j := otpJudge s op row.toNat;
          ∃ b, B op b ∧
            (j = 0 → exec c s = .next (finish s { otpEnd (E b) op 0 with otp := { s.otp with cmd := some ⟨op, row.toNat⟩ } })) ∧
            (j = 1 → exec c s = .next (finish s (otpEnd (lockViol (E b) 2048 12 Ad.OTP_CMD) op 1))) ∧
            (2 ≤ j → exec c s = .next (finish s (otpEnd (E b) op j)))) ∧
        (∀ op : Byte, 5 < op.toNat → ∃ b, B op.toNat b ∧
          exec (.otpBadOp src op row) s = .next (finish s (otpEnd (E b) op.toNat 6))))) ∧
    (s.isl.phase = .run → pinsOk s = true →
      (pinFault s = .low ↔ s.flt.esc.isSome = true) ∧ (pinIrq s = .low ↔ irqOut s = true) ∧
      (∀ n, s.running 32 = false → pinRng s n = 0) ∧
      (pinRefOut s = .internalRef ↔ s.running 32 = true ∧ bit (s.reg Ad.ACQ_REF) 4 = true)) ∧
    (Clocked s 1 → ∀ c, s.otp.cmd = some c →
      let good : Bool := ok && (otpFuses c).all (fun r => !(otpRow s r).any OtpRow.bad);
      let s1 := otpEnd { s with otp := { s.otp with cmd := none } } c.op (if good then 0 else 5);
      exec (.otpCommandDone ok) s = .next (finish s (
        if c.op = 1 then otpShow (setOtpRow s1 ⟨c.row, otpStaged s1 (otpWords c.row), !good, s1.fld Ad.OTP_KEYPOL 3 0,
          s1.fld Ad.OTP_KEYPOL 12 8⟩) c.row
        else if c.op = 2 then keygen s1 good
        else if c.op = 3 then otpSetLife s1 good 1
        else if c.op = 4 then otpShow (setOtpRow s1 ⟨3, [w32 (bf (otpStage s1 0) 6 0)], !good, 0, 0⟩) 3
        else otpSetLife s1 good (2 ^ (8 + bf (otpStage s1 0) 0 0)))))

/-- R689, whole: for every class, a write of its FLT_RAISED register, as a word or of one bit through an alias, that turns its raised bit from 1 to 0 leaves its byte of FLT_CNT at 0; the count of a class whose bit it does not clear stays. -/
def Obligations.RaisedClearZeroesItsCount : Prop :=
  ∀ (s : State) (src : Src) (one : Option Nat) (w : Word) (hi : Bool) (c : Nat), c < (if hi then 17 else 24) →
    let r := if hi then Ad.FLT_RAISED_1 else Ad.FLT_RAISED_0;
    let n := (if hi then 24 else 0) + c;
    let u := (regWrite s src r one w).1;
    let cnt (x : State) : Nat := bf (x.reg (Ad.FLT_CNT (n / 4))) (8 * (n % 4) + 7) (8 * (n % 4));
    (bit (s.reg r) c = true → bit (u.reg r) c = false → cnt u = 0) ∧ (bit (u.reg r) c = bit (s.reg r) c → cnt u = cnt s)

/-- R716, whole: while a command runs, a write of OTP_CMD, by word or alias, changes no register but OTP_CMD_STATUS.IGN, which it sets, no staged copy, and nothing of OTP or any other block; a write of OTP_STAGE or OTP_KEYPOL changes no register and is not answered LOCKED; and a command written while none runs clears IGN. -/
def Obligations.OtpWritesWhileBusyChangeNothing : Prop :=
  ∀ (s : State) (src : Src) (one : Option Nat) (w : Word) (i : Nat),
    let same (u : State) : Prop := u = { s with regs := u.regs, staged := u.staged, parErr := u.parErr } ∧ ∀ k, u.stg k = s.stg k;
    (s.otp.cmd.isSome = true →
      (let u := (regWrite s src Ad.OTP_CMD one w).1;
        same u ∧ RegsBut [Ad.OTP_CMD_STATUS] s u ∧
          u.reg Ad.OTP_CMD_STATUS = setBf (s.reg Ad.OTP_CMD_STATUS) 24 24 1) ∧
      (∀ k, (i < 16 ∧ k = Ad.OTP_STAGE i) ∨ k = Ad.OTP_KEYPOL →
        let x := regWrite s src k one w;
        same x.1 ∧ RegsBut [] s x.1 ∧ x.2.1 = false)) ∧
    (s.otp.cmd = none → locked s 7 = false → bf w 7 0 ≠ 0 →
      bit ((regWrite s src Ad.OTP_CMD none w).1.reg Ad.OTP_CMD_STATUS) 24 = false)
end

