-- ==== Sys2Proof/Laws/Bits.lean ====
section
/-!
SUPPORT. Laws/Bits.lean: the laws of bit fields: what a mask, a replaced field and a merged word hold, bit by bit and field by field.
-/
namespace Sys2Proof.Machine

theorem getLsbD_fmask (hi lo i : Nat) : (fmask hi lo).getLsbD i = (decide (i < 32) && decide (lo ≤ i ∧ i < hi + 1)) := by
  unfold fmask
  rw [BitVec.getLsbD_ofNat, Nat.testBit_shiftLeft, Nat.testBit_two_pow_sub_one]
  by_cases h1 : i < 32 <;> by_cases h2 : lo ≤ i <;> simp [h1, h2]
  omega

theorem testBit_toNat_w32 (n i : Nat) : (w32 n).getLsbD i = (decide (i < 32) && n.testBit i) := by
  rw [w32, BitVec.getLsbD_ofNat]

/-- A field, bit by bit. -/
theorem testBit_bf (w : Word) (hi lo i : Nat) : (bf w hi lo).testBit i = (decide (i < hi + 1 - lo) && w.getLsbD (lo + i)) := by
  unfold bf
  rw [Nat.testBit_mod_two_pow, Nat.testBit_shiftRight]
  rfl

theorem bit_eq (w : Word) (b : Nat) : bit w b = w.getLsbD b := rfl

/-- A field of a masked word, where the mask is that of the field. -/
theorem bf_and_fmask (w : Word) {hi lo : Nat} (h : hi < 32) : bf (w &&& fmask hi lo) hi lo = bf w hi lo := by
  apply Nat.eq_of_testBit_eq
  intro i
  rw [testBit_bf, testBit_bf, BitVec.getLsbD_and, getLsbD_fmask]
  by_cases h1 : i < hi + 1 - lo <;> simp [h1]
  intro _
  omega

/-- A masked word is zero just where its field is. -/
theorem and_fmask_eq_zero (w : Word) {hi lo : Nat} (h : hi < 32) : w &&& fmask hi lo = 0 ↔ bf w hi lo = 0 := by
  constructor
  · intro e
    rw [← bf_and_fmask w h, e]
    simp [bf]
  · intro e
    apply BitVec.eq_of_getLsbD_eq
    intro i hi'
    rw [BitVec.getLsbD_and, getLsbD_fmask]
    by_cases h1 : lo ≤ i ∧ i < hi + 1
    · have := congrArg (fun n => n.testBit (i - lo)) e
      simp only [testBit_bf, Nat.zero_testBit] at this
      have e2 : lo + (i - lo) = i := by omega
      rw [e2] at this
      simp [show i - lo < hi + 1 - lo by omega] at this
      simp [this]
    · have hf : decide (lo ≤ i ∧ i < hi + 1) = false := decide_eq_false h1
      simp only [hf]
      simp

/-- A field of a numeral word. -/
theorem bf_w32 (n : Nat) {hi lo : Nat} (h : hi < 32) : bf (w32 n) hi lo = n / 2 ^ lo % 2 ^ (hi + 1 - lo) := by
  apply Nat.eq_of_testBit_eq
  intro i
  rw [testBit_bf, testBit_toNat_w32, Nat.testBit_mod_two_pow, ← Nat.shiftRight_eq_div_pow, Nat.testBit_shiftRight]
  by_cases h1 : i < hi + 1 - lo <;> simp [h1]
  intro _
  omega

/-- A merged word has the new word's field where the mask is that of the field. -/
theorem bf_merge_self (old w : Word) {hi lo : Nat} (h : hi < 32) : bf (merge old (fmask hi lo) w) hi lo = bf w hi lo := by
  apply Nat.eq_of_testBit_eq
  intro i
  rw [testBit_bf, testBit_bf]
  by_cases h1 : i < hi + 1 - lo
  · simp only [merge, BitVec.getLsbD_or, BitVec.getLsbD_and, BitVec.getLsbD_not, getLsbD_fmask, h1]
    have : lo + i < 32 := by omega
    have : lo + i < hi + 1 := by omega
    simp [*]
  · simp [h1]

/-- A merged word keeps a field that lies outside the mask. -/
theorem bf_merge_other (old w : Word) {hi lo h2 l2 : Nat} (hd : hi < l2 ∨ h2 < lo) :
    bf (merge old (fmask h2 l2) w) hi lo = bf old hi lo := by
  apply Nat.eq_of_testBit_eq
  intro i
  rw [testBit_bf, testBit_bf]
  by_cases h1 : i < hi + 1 - lo
  · simp only [merge, BitVec.getLsbD_or, BitVec.getLsbD_and, BitVec.getLsbD_not, getLsbD_fmask, h1]
    have hf : decide (l2 ≤ lo + i ∧ lo + i < h2 + 1) = false := decide_eq_false (by omega)
    simp only [hf]
    by_cases h3 : lo + i < 32
    · simp [h3]
    · simp [BitVec.getLsbD_of_ge _ _ (by omega : 32 ≤ lo + i)]
  · simp [h1]

/-- A replaced field reads as what was put there. -/
theorem bf_setBf_self (w : Word) {hi lo : Nat} (v : Nat) (h : hi < 32) : bf (setBf w hi lo v) hi lo = v % 2 ^ (hi + 1 - lo) := by
  apply Nat.eq_of_testBit_eq
  intro i
  rw [testBit_bf, Nat.testBit_mod_two_pow]
  by_cases h1 : i < hi + 1 - lo
  · simp only [setBf, BitVec.getLsbD_or, BitVec.getLsbD_and, BitVec.getLsbD_not, getLsbD_fmask, h1, BitVec.getLsbD_ofNat,
      Nat.testBit_shiftLeft]
    have : lo + i < 32 := by omega
    have : lo + i < hi + 1 := by omega
    simp [*]
  · simp [h1]

/-- Another field stays as it was. -/
theorem bf_setBf_other (w : Word) {hi lo h2 l2 : Nat} (v : Nat) (hd : hi < l2 ∨ h2 < lo) : bf (setBf w h2 l2 v) hi lo = bf w hi lo := by
  apply Nat.eq_of_testBit_eq
  intro i
  rw [testBit_bf, testBit_bf]
  by_cases h1 : i < hi + 1 - lo
  · simp only [setBf, BitVec.getLsbD_or, BitVec.getLsbD_and, BitVec.getLsbD_not, getLsbD_fmask, h1]
    have hf : decide (l2 ≤ lo + i ∧ lo + i < h2 + 1) = false := decide_eq_false (by omega)
    simp only [hf]
    by_cases h3 : lo + i < 32
    · simp [h3]
    · simp [BitVec.getLsbD_of_ge _ _ (by omega : 32 ≤ lo + i)]
  · simp [h1]

/-- Bits outside a replaced field stay. -/
theorem bit_setBf_other (w : Word) {b h2 l2 : Nat} (v : Nat) (hd : b < l2 ∨ h2 < b) : bit (setBf w h2 l2 v) b = bit w b := by
  simp only [bit_eq, setBf, BitVec.getLsbD_or, BitVec.getLsbD_and, BitVec.getLsbD_not, getLsbD_fmask]
  have hf : decide (l2 ≤ b ∧ b < h2 + 1) = false := decide_eq_false (by omega)
  simp only [hf]
  by_cases h3 : b < 32
  · simp [h3]
  · simp [BitVec.getLsbD_of_ge _ _ (by omega : 32 ≤ b)]

/-- A merged field is a replaced field. -/
theorem merge_eq_setBf (old w : Word) {hi lo : Nat} : merge old (fmask hi lo) w = setBf old hi lo (bf w hi lo) := by
  apply BitVec.eq_of_getLsbD_eq
  intro i hi'
  simp only [merge, setBf, BitVec.getLsbD_or, BitVec.getLsbD_and, BitVec.getLsbD_not, getLsbD_fmask, BitVec.getLsbD_ofNat,
    Nat.testBit_shiftLeft, testBit_bf]
  by_cases h1 : lo ≤ i ∧ i < hi + 1
  · have e : lo + (i - lo) = i := by omega
    have e2 : decide (i - lo < hi + 1 - lo) = true := decide_eq_true (by omega)
    simp [h1, hi', e, e2]
  · have hf : decide (lo ≤ i ∧ i < hi + 1) = false := decide_eq_false h1
    simp only [hf]
    simp

theorem fmask_ne_zero {hi lo : Nat} (h : hi < 32) (h2 : lo ≤ hi) : fmask hi lo ≠ 0 := by
  intro e
  have := congrArg (fun x : Word => x.getLsbD lo) e
  simp [getLsbD_fmask] at this
  omega

@[simp] theorem fmask_and_all (hi lo : Nat) : fmask hi lo &&& 4294967295#32 = fmask hi lo := BitVec.and_allOnes

theorem bit_or (a b : Word) (i : Nat) : bit (a ||| b) i = (bit a i || bit b i) := by simp [bit_eq]

theorem bit_and (a b : Word) (i : Nat) : bit (a &&& b) i = (bit a i && bit b i) := by simp [bit_eq]

theorem bit_w32 (n i : Nat) : bit (w32 n) i = (decide (i < 32) && n.testBit i) := testBit_toNat_w32 n i

/-- Bit b of 2^b as a word. -/
theorem bit_w32_two_pow (b i : Nat) : bit (w32 (2 ^ b)) i = (decide (i < 32) && decide (b = i)) := by
  rw [bit_w32, Nat.testBit_two_pow]

end Sys2Proof.Machine
end

