-- ==== Sys2Proof/Laws/Store.lean ====
section
/-!
SUPPORT. Laws/Store.lean: the laws of sparse stores: reads after writes, and the canonical form.
-/
namespace Sys2Proof.Machine

variable {α : Type} (d : Nat → α)

theorem stGet_drop_self (m : Store α) (k : Nat) : stGet d (stDrop m k) k = d k := by
  induction m with
  | nil => rfl
  | cons e t ih =>
    obtain ⟨a, v⟩ := e
    by_cases h : a = k <;> simp [stDrop, h, stGet, ih]

theorem stGet_drop_ne (m : Store α) {k j : Nat} (h : j ≠ k) : stGet d (stDrop m k) j = stGet d m j := by
  induction m with
  | nil => rfl
  | cons e t ih =>
    obtain ⟨a, v⟩ := e
    by_cases ha : a = k
    · subst ha; simp [stDrop, stGet, ih, Ne.symm h]
    · simp [stDrop, ha, stGet, ih]

theorem stGet_ins_ne (m : Store α) (v : α) {k j : Nat} (h : j ≠ k) : stGet d (stIns m k v) j = stGet d m j := by
  induction m with
  | nil => simp [stIns, stGet, Ne.symm h]
  | cons e t ih =>
    obtain ⟨a, w⟩ := e
    simp only [stIns]
    split
    · simp [stGet, Ne.symm h]
    · simp [stGet, ih]

/-- An inserted key reads as its value, where it was not listed before. -/
theorem stGet_ins_self (m : Store α) (k : Nat) (v : α) (h : ∀ e ∈ m, e.1 ≠ k) : stGet d (stIns m k v) k = v := by
  induction m with
  | nil => simp [stIns, stGet]
  | cons e t ih =>
    obtain ⟨a, w⟩ := e
    have ha : a ≠ k := h (a, w) (by simp)
    simp only [stIns]
    split
    · simp [stGet]
    · simp [stGet, ha, ih (fun e he => h e (by simp [he]))]

theorem stDrop_ne (m : Store α) (k : Nat) : ∀ e ∈ stDrop m k, e.1 ≠ k := by
  induction m with
  | nil => simp [stDrop]
  | cons e t ih =>
    obtain ⟨a, v⟩ := e
    by_cases h : a = k
    · simpa [stDrop, h] using ih
    · intro e he
      simp only [stDrop, h, if_false] at he
      rcases List.mem_cons.mp he with rfl | he
      · exact h
      · exact ih e he

variable [DecidableEq α]

/-- A store reads back what is written. -/
@[simp] theorem stGet_set_self (m : Store α) (k : Nat) (v : α) : stGet d (stSet d m k v) k = v := by
  unfold stSet
  split
  · rename_i h; rw [stGet_drop_self, h]
  · exact stGet_ins_self d _ k v (stDrop_ne m k)

/-- A write leaves every other key as it reads. -/
theorem stGet_set_ne (m : Store α) (v : α) {k j : Nat} (h : j ≠ k) : stGet d (stSet d m k v) j = stGet d m j := by
  unfold stSet
  split
  · exact stGet_drop_ne d m h
  · rw [stGet_ins_ne d _ v h, stGet_drop_ne d m h]

theorem stWfFrom_le {m : Store α} {lo lo' : Nat} (h : lo' ≤ lo) (w : stWfFrom d lo m = true) : stWfFrom d lo' m = true := by
  cases m with
  | nil => rfl
  | cons e t =>
    obtain ⟨a, v⟩ := e
    simp only [stWfFrom, Bool.and_eq_true, decide_eq_true_eq] at w ⊢
    exact ⟨⟨Nat.le_trans h w.1.1, w.1.2⟩, w.2⟩

theorem stWfFrom_drop {m : Store α} {lo : Nat} (k : Nat) (w : stWfFrom d lo m = true) : stWfFrom d lo (stDrop m k) = true := by
  induction m generalizing lo with
  | nil => rfl
  | cons e t ih =>
    obtain ⟨a, v⟩ := e
    simp only [stWfFrom, Bool.and_eq_true, decide_eq_true_eq] at w
    simp only [stDrop]
    split
    · exact stWfFrom_le d (by omega) (ih w.2)
    · simp [stWfFrom, w.1.1, w.1.2, ih w.2]

theorem stWfFrom_ins {m : Store α} {lo k : Nat} {v : α} (hk : lo ≤ k) (hv : v ≠ d k) (hn : ∀ e ∈ m, e.1 ≠ k)
    (w : stWfFrom d lo m = true) : stWfFrom d lo (stIns m k v) = true := by
  induction m generalizing lo with
  | nil => simp [stIns, stWfFrom, hk, hv]
  | cons e t ih =>
    obtain ⟨a, x⟩ := e
    have ha : a ≠ k := hn (a, x) (by simp)
    have w' := w
    simp only [stWfFrom, Bool.and_eq_true, decide_eq_true_eq] at w'
    simp only [stIns]
    split
    · rename_i h
      simp [stWfFrom, hk, hv, w'.1.2, w'.2]
      omega
    · simp only [stWfFrom, Bool.and_eq_true, decide_eq_true_eq]
      exact ⟨w'.1, ih (by omega) (fun e he => hn e (by simp [he])) w'.2⟩

/-- A write keeps the canonical form. -/
theorem stWf_set {m : Store α} (k : Nat) (v : α) (w : stWf d m = true) : stWf d (stSet d m k v) = true := by
  unfold stSet
  split
  · exact stWfFrom_drop d k w
  · rename_i h
    exact stWfFrom_ins d (Nat.zero_le k) h (stDrop_ne m k) (stWfFrom_drop d k w)

theorem stWfFrom_filter {m : Store α} {lo : Nat} (p : Nat × α → Bool) (w : stWfFrom d lo m = true) :
    stWfFrom d lo (m.filter p) = true := by
  induction m generalizing lo with
  | nil => rfl
  | cons e t ih =>
    obtain ⟨a, v⟩ := e
    simp only [stWfFrom, Bool.and_eq_true, decide_eq_true_eq] at w
    simp only [List.filter_cons]
    split
    · simp [stWfFrom, w.1.1, w.1.2, ih w.2]
    · exact stWfFrom_le d (by omega) (ih w.2)

/-- Entries dropped from a store keep the canonical form. -/
theorem stWf_filter {m : Store α} (p : Nat × α → Bool) (w : stWf d m = true) : stWf d (m.filter p) = true :=
  stWfFrom_filter d p w

/-- Bytes written at ascending addresses keep the canonical form. -/
theorem memWrite_wf (d : Nat → Byte) (m : List (Nat × Byte)) (a : Nat) (l : List Byte) (w : stWf d m = true) :
    stWf d (memWrite d m a l) = true := by
  induction l generalizing m a with
  | nil => exact w
  | cons b t ih => exact ih _ _ (stWf_set d a b w)

/-- A write of bytes leaves every address outside them as it reads. -/
theorem memWrite_other (d : Nat → Byte) (m : List (Nat × Byte)) (a : Nat) (l : List Byte) (j : Nat)
    (h : j < a ∨ a + l.length ≤ j) : stGet d (memWrite d m a l) j = stGet d m j := by
  induction l generalizing m a with
  | nil => rfl
  | cons b t ih =>
    simp only [List.length_cons] at h
    rw [memWrite, ih _ _ (by omega), stGet_set_ne d m b (by omega)]

/-- A write of bytes reads back, byte by byte. -/
theorem memWrite_at (d : Nat → Byte) (m : List (Nat × Byte)) (a : Nat) (l : List Byte) (i : Nat) (h : i < l.length) :
    stGet d (memWrite d m a l) (a + i) = l[i] := by
  induction l generalizing m a i with
  | nil => simp at h
  | cons b t ih =>
    cases i with
    | zero =>
      rw [memWrite, memWrite_other d _ _ _ _ (by omega)]
      simp
    | succ i =>
      have := ih (stSet d m a b) (a + 1) i (by simpa using h)
      simp only [memWrite, List.getElem_cons_succ]
      rw [← this]
      congr 1
      omega

end Sys2Proof.Machine
end

