-- ==== Sys2Proof/Laws/State.lean ====
section
/-!
SUPPORT. Laws/State.lean: what each update of the state leaves and what it gives, one lemma for each field and update.
-/
namespace Sys2Proof.Machine

@[simp] theorem setReg_staged (s : State) (k : Nat) (v : Word) : (s.setReg k v).staged = s.staged := rfl
@[simp] theorem setReg_parErr (s : State) (k : Nat) (v : Word) : (s.setReg k v).parErr = s.parErr := rfl
@[simp] theorem setReg_isl (s : State) (k : Nat) (v : Word) : (s.setReg k v).isl = s.isl := rfl
@[simp] theorem setReg_tap (s : State) (k : Nat) (v : Word) : (s.setReg k v).tap = s.tap := rfl
@[simp] theorem setReg_cp (s : State) (k : Nat) (v : Word) : (s.setReg k v).cp = s.cp := rfl
@[simp] theorem setReg_tbl (s : State) (k : Nat) (v : Word) : (s.setReg k v).tbl = s.tbl := rfl
@[simp] theorem setReg_flt (s : State) (k : Nat) (v : Word) : (s.setReg k v).flt = s.flt := rfl
@[simp] theorem setReg_evc (s : State) (k : Nat) (v : Word) : (s.setReg k v).evc = s.evc := rfl
@[simp] theorem setReg_evs (s : State) (k : Nat) (v : Word) : (s.setReg k v).evs = s.evs := rfl
@[simp] theorem setReg_chz (s : State) (k : Nat) (v : Word) : (s.setReg k v).chz = s.chz := rfl
@[simp] theorem setReg_otp (s : State) (k : Nat) (v : Word) : (s.setReg k v).otp = s.otp := rfl
@[simp] theorem setReg_tb (s : State) (k : Nat) (v : Word) : (s.setReg k v).tb = s.tb := rfl
@[simp] theorem setReg_mot (s : State) (k : Nat) (v : Word) : (s.setReg k v).mot = s.mot := rfl
@[simp] theorem setReg_lnk (s : State) (k : Nat) (v : Word) : (s.setReg k v).lnk = s.lnk := rfl
@[simp] theorem setReg_ha (s : State) (k : Nat) (v : Word) : (s.setReg k v).ha = s.ha := rfl
@[simp] theorem setReg_tmm (s : State) (k : Nat) (v : Word) : (s.setReg k v).tmm = s.tmm := rfl
@[simp] theorem setReg_drc (s : State) (k : Nat) (v : Word) : (s.setReg k v).drc = s.drc := rfl
@[simp] theorem setReg_pas (s : State) (k : Nat) (v : Word) : (s.setReg k v).pas = s.pas := rfl
@[simp] theorem setReg_rc (s : State) (k : Nat) (v : Word) : (s.setReg k v).rc = s.rc := rfl
@[simp] theorem setReg_pcu (s : State) (k : Nat) (v : Word) : (s.setReg k v).pcu = s.pcu := rfl
@[simp] theorem setReg_cvu (s : State) (k : Nat) (v : Word) : (s.setReg k v).cvu = s.cvu := rfl
@[simp] theorem setReg_acq (s : State) (k : Nat) (v : Word) : (s.setReg k v).acq = s.acq := rfl
@[simp] theorem setReg_dac (s : State) (k : Nat) (v : Word) : (s.setReg k v).dac = s.dac := rfl
@[simp] theorem setReg_lth (s : State) (k : Nat) (v : Word) : (s.setReg k v).lth = s.lth := rfl
@[simp] theorem setReg_flash (s : State) (k : Nat) (v : Word) : (s.setReg k v).flash = s.flash := rfl
@[simp] theorem setReg_dram (s : State) (k : Nat) (v : Word) : (s.setReg k v).dram = s.dram := rfl
@[simp] theorem setReg_tcm (s : State) (k : Nat) (v : Word) : (s.setReg k v).tcm = s.tcm := rfl
@[simp] theorem setReg_effects (s : State) (k : Nat) (v : Word) : (s.setReg k v).effects = s.effects := rfl
@[simp] theorem setReg_free (s : State) (k : Nat) (v : Word) : (s.setReg k v).free = s.free := rfl
@[simp] theorem setReg_variant (s : State) (k : Nat) (v : Word) : (s.setReg k v).variant = s.variant := rfl
@[simp] theorem setReg_pending (s : State) (k : Nat) (v : Word) : (s.setReg k v).pending = s.pending := rfl

@[simp] theorem setStg_regs (s : State) (k : Nat) (v : Word) : (s.setStg k v).regs = s.regs := rfl
@[simp] theorem setStg_parErr (s : State) (k : Nat) (v : Word) : (s.setStg k v).parErr = s.parErr := rfl
@[simp] theorem setStg_isl (s : State) (k : Nat) (v : Word) : (s.setStg k v).isl = s.isl := rfl
@[simp] theorem setStg_tap (s : State) (k : Nat) (v : Word) : (s.setStg k v).tap = s.tap := rfl
@[simp] theorem setStg_cp (s : State) (k : Nat) (v : Word) : (s.setStg k v).cp = s.cp := rfl
@[simp] theorem setStg_tbl (s : State) (k : Nat) (v : Word) : (s.setStg k v).tbl = s.tbl := rfl
@[simp] theorem setStg_flt (s : State) (k : Nat) (v : Word) : (s.setStg k v).flt = s.flt := rfl
@[simp] theorem setStg_evc (s : State) (k : Nat) (v : Word) : (s.setStg k v).evc = s.evc := rfl
@[simp] theorem setStg_evs (s : State) (k : Nat) (v : Word) : (s.setStg k v).evs = s.evs := rfl
@[simp] theorem setStg_chz (s : State) (k : Nat) (v : Word) : (s.setStg k v).chz = s.chz := rfl
@[simp] theorem setStg_otp (s : State) (k : Nat) (v : Word) : (s.setStg k v).otp = s.otp := rfl
@[simp] theorem setStg_tb (s : State) (k : Nat) (v : Word) : (s.setStg k v).tb = s.tb := rfl
@[simp] theorem setStg_mot (s : State) (k : Nat) (v : Word) : (s.setStg k v).mot = s.mot := rfl
@[simp] theorem setStg_lnk (s : State) (k : Nat) (v : Word) : (s.setStg k v).lnk = s.lnk := rfl
@[simp] theorem setStg_ha (s : State) (k : Nat) (v : Word) : (s.setStg k v).ha = s.ha := rfl
@[simp] theorem setStg_tmm (s : State) (k : Nat) (v : Word) : (s.setStg k v).tmm = s.tmm := rfl
@[simp] theorem setStg_drc (s : State) (k : Nat) (v : Word) : (s.setStg k v).drc = s.drc := rfl
@[simp] theorem setStg_pas (s : State) (k : Nat) (v : Word) : (s.setStg k v).pas = s.pas := rfl
@[simp] theorem setStg_rc (s : State) (k : Nat) (v : Word) : (s.setStg k v).rc = s.rc := rfl
@[simp] theorem setStg_pcu (s : State) (k : Nat) (v : Word) : (s.setStg k v).pcu = s.pcu := rfl
@[simp] theorem setStg_cvu (s : State) (k : Nat) (v : Word) : (s.setStg k v).cvu = s.cvu := rfl
@[simp] theorem setStg_acq (s : State) (k : Nat) (v : Word) : (s.setStg k v).acq = s.acq := rfl
@[simp] theorem setStg_dac (s : State) (k : Nat) (v : Word) : (s.setStg k v).dac = s.dac := rfl
@[simp] theorem setStg_lth (s : State) (k : Nat) (v : Word) : (s.setStg k v).lth = s.lth := rfl
@[simp] theorem setStg_flash (s : State) (k : Nat) (v : Word) : (s.setStg k v).flash = s.flash := rfl
@[simp] theorem setStg_dram (s : State) (k : Nat) (v : Word) : (s.setStg k v).dram = s.dram := rfl
@[simp] theorem setStg_tcm (s : State) (k : Nat) (v : Word) : (s.setStg k v).tcm = s.tcm := rfl
@[simp] theorem setStg_effects (s : State) (k : Nat) (v : Word) : (s.setStg k v).effects = s.effects := rfl
@[simp] theorem setStg_free (s : State) (k : Nat) (v : Word) : (s.setStg k v).free = s.free := rfl
@[simp] theorem setStg_variant (s : State) (k : Nat) (v : Word) : (s.setStg k v).variant = s.variant := rfl
@[simp] theorem setStg_pending (s : State) (k : Nat) (v : Word) : (s.setStg k v).pending = s.pending := rfl
@[simp] theorem setStg_reg (s : State) (k : Nat) (v : Word) (r : Nat) : (s.setStg k v).reg r = s.reg r := rfl

@[simp] theorem setFld_staged (s : State) (k hi lo v : Nat) : (s.setFld k hi lo v).staged = s.staged := rfl
@[simp] theorem setFld_parErr (s : State) (k hi lo v : Nat) : (s.setFld k hi lo v).parErr = s.parErr := rfl
@[simp] theorem setFld_isl (s : State) (k hi lo v : Nat) : (s.setFld k hi lo v).isl = s.isl := rfl
@[simp] theorem setFld_tap (s : State) (k hi lo v : Nat) : (s.setFld k hi lo v).tap = s.tap := rfl
@[simp] theorem setFld_cp (s : State) (k hi lo v : Nat) : (s.setFld k hi lo v).cp = s.cp := rfl
@[simp] theorem setFld_tbl (s : State) (k hi lo v : Nat) : (s.setFld k hi lo v).tbl = s.tbl := rfl
@[simp] theorem setFld_flt (s : State) (k hi lo v : Nat) : (s.setFld k hi lo v).flt = s.flt := rfl
@[simp] theorem setFld_evc (s : State) (k hi lo v : Nat) : (s.setFld k hi lo v).evc = s.evc := rfl
@[simp] theorem setFld_evs (s : State) (k hi lo v : Nat) : (s.setFld k hi lo v).evs = s.evs := rfl
@[simp] theorem setFld_chz (s : State) (k hi lo v : Nat) : (s.setFld k hi lo v).chz = s.chz := rfl
@[simp] theorem setFld_otp (s : State) (k hi lo v : Nat) : (s.setFld k hi lo v).otp = s.otp := rfl
@[simp] theorem setFld_tb (s : State) (k hi lo v : Nat) : (s.setFld k hi lo v).tb = s.tb := rfl
@[simp] theorem setFld_mot (s : State) (k hi lo v : Nat) : (s.setFld k hi lo v).mot = s.mot := rfl
@[simp] theorem setFld_lnk (s : State) (k hi lo v : Nat) : (s.setFld k hi lo v).lnk = s.lnk := rfl
@[simp] theorem setFld_ha (s : State) (k hi lo v : Nat) : (s.setFld k hi lo v).ha = s.ha := rfl
@[simp] theorem setFld_tmm (s : State) (k hi lo v : Nat) : (s.setFld k hi lo v).tmm = s.tmm := rfl
@[simp] theorem setFld_drc (s : State) (k hi lo v : Nat) : (s.setFld k hi lo v).drc = s.drc := rfl
@[simp] theorem setFld_pas (s : State) (k hi lo v : Nat) : (s.setFld k hi lo v).pas = s.pas := rfl
@[simp] theorem setFld_rc (s : State) (k hi lo v : Nat) : (s.setFld k hi lo v).rc = s.rc := rfl
@[simp] theorem setFld_pcu (s : State) (k hi lo v : Nat) : (s.setFld k hi lo v).pcu = s.pcu := rfl
@[simp] theorem setFld_cvu (s : State) (k hi lo v : Nat) : (s.setFld k hi lo v).cvu = s.cvu := rfl
@[simp] theorem setFld_acq (s : State) (k hi lo v : Nat) : (s.setFld k hi lo v).acq = s.acq := rfl
@[simp] theorem setFld_dac (s : State) (k hi lo v : Nat) : (s.setFld k hi lo v).dac = s.dac := rfl
@[simp] theorem setFld_lth (s : State) (k hi lo v : Nat) : (s.setFld k hi lo v).lth = s.lth := rfl
@[simp] theorem setFld_flash (s : State) (k hi lo v : Nat) : (s.setFld k hi lo v).flash = s.flash := rfl
@[simp] theorem setFld_dram (s : State) (k hi lo v : Nat) : (s.setFld k hi lo v).dram = s.dram := rfl
@[simp] theorem setFld_tcm (s : State) (k hi lo v : Nat) : (s.setFld k hi lo v).tcm = s.tcm := rfl
@[simp] theorem setFld_effects (s : State) (k hi lo v : Nat) : (s.setFld k hi lo v).effects = s.effects := rfl
@[simp] theorem setFld_free (s : State) (k hi lo v : Nat) : (s.setFld k hi lo v).free = s.free := rfl
@[simp] theorem setFld_variant (s : State) (k hi lo v : Nat) : (s.setFld k hi lo v).variant = s.variant := rfl
@[simp] theorem setFld_pending (s : State) (k hi lo v : Nat) : (s.setFld k hi lo v).pending = s.pending := rfl

@[simp] theorem setRegBit_staged (s : State) (k b : Nat) : (s.setRegBit k b).staged = s.staged := rfl
@[simp] theorem setRegBit_parErr (s : State) (k b : Nat) : (s.setRegBit k b).parErr = s.parErr := rfl
@[simp] theorem setRegBit_isl (s : State) (k b : Nat) : (s.setRegBit k b).isl = s.isl := rfl
@[simp] theorem setRegBit_tap (s : State) (k b : Nat) : (s.setRegBit k b).tap = s.tap := rfl
@[simp] theorem setRegBit_cp (s : State) (k b : Nat) : (s.setRegBit k b).cp = s.cp := rfl
@[simp] theorem setRegBit_tbl (s : State) (k b : Nat) : (s.setRegBit k b).tbl = s.tbl := rfl
@[simp] theorem setRegBit_flt (s : State) (k b : Nat) : (s.setRegBit k b).flt = s.flt := rfl
@[simp] theorem setRegBit_evc (s : State) (k b : Nat) : (s.setRegBit k b).evc = s.evc := rfl
@[simp] theorem setRegBit_evs (s : State) (k b : Nat) : (s.setRegBit k b).evs = s.evs := rfl
@[simp] theorem setRegBit_chz (s : State) (k b : Nat) : (s.setRegBit k b).chz = s.chz := rfl
@[simp] theorem setRegBit_otp (s : State) (k b : Nat) : (s.setRegBit k b).otp = s.otp := rfl
@[simp] theorem setRegBit_tb (s : State) (k b : Nat) : (s.setRegBit k b).tb = s.tb := rfl
@[simp] theorem setRegBit_mot (s : State) (k b : Nat) : (s.setRegBit k b).mot = s.mot := rfl
@[simp] theorem setRegBit_lnk (s : State) (k b : Nat) : (s.setRegBit k b).lnk = s.lnk := rfl
@[simp] theorem setRegBit_ha (s : State) (k b : Nat) : (s.setRegBit k b).ha = s.ha := rfl
@[simp] theorem setRegBit_tmm (s : State) (k b : Nat) : (s.setRegBit k b).tmm = s.tmm := rfl
@[simp] theorem setRegBit_drc (s : State) (k b : Nat) : (s.setRegBit k b).drc = s.drc := rfl
@[simp] theorem setRegBit_pas (s : State) (k b : Nat) : (s.setRegBit k b).pas = s.pas := rfl
@[simp] theorem setRegBit_rc (s : State) (k b : Nat) : (s.setRegBit k b).rc = s.rc := rfl
@[simp] theorem setRegBit_pcu (s : State) (k b : Nat) : (s.setRegBit k b).pcu = s.pcu := rfl
@[simp] theorem setRegBit_cvu (s : State) (k b : Nat) : (s.setRegBit k b).cvu = s.cvu := rfl
@[simp] theorem setRegBit_acq (s : State) (k b : Nat) : (s.setRegBit k b).acq = s.acq := rfl
@[simp] theorem setRegBit_dac (s : State) (k b : Nat) : (s.setRegBit k b).dac = s.dac := rfl
@[simp] theorem setRegBit_lth (s : State) (k b : Nat) : (s.setRegBit k b).lth = s.lth := rfl
@[simp] theorem setRegBit_flash (s : State) (k b : Nat) : (s.setRegBit k b).flash = s.flash := rfl
@[simp] theorem setRegBit_dram (s : State) (k b : Nat) : (s.setRegBit k b).dram = s.dram := rfl
@[simp] theorem setRegBit_tcm (s : State) (k b : Nat) : (s.setRegBit k b).tcm = s.tcm := rfl
@[simp] theorem setRegBit_effects (s : State) (k b : Nat) : (s.setRegBit k b).effects = s.effects := rfl
@[simp] theorem setRegBit_free (s : State) (k b : Nat) : (s.setRegBit k b).free = s.free := rfl
@[simp] theorem setRegBit_variant (s : State) (k b : Nat) : (s.setRegBit k b).variant = s.variant := rfl
@[simp] theorem setRegBit_pending (s : State) (k b : Nat) : (s.setRegBit k b).pending = s.pending := rfl

@[simp] theorem sqBits_staged (s : State) (k b : Nat) : (sqBits s k b).staged = s.staged := rfl
@[simp] theorem sqBits_parErr (s : State) (k b : Nat) : (sqBits s k b).parErr = s.parErr := rfl
@[simp] theorem sqBits_isl (s : State) (k b : Nat) : (sqBits s k b).isl = s.isl := rfl
@[simp] theorem sqBits_tap (s : State) (k b : Nat) : (sqBits s k b).tap = s.tap := rfl
@[simp] theorem sqBits_cp (s : State) (k b : Nat) : (sqBits s k b).cp = s.cp := rfl
@[simp] theorem sqBits_tbl (s : State) (k b : Nat) : (sqBits s k b).tbl = s.tbl := rfl
@[simp] theorem sqBits_flt (s : State) (k b : Nat) : (sqBits s k b).flt = s.flt := rfl
@[simp] theorem sqBits_evc (s : State) (k b : Nat) : (sqBits s k b).evc = s.evc := rfl
@[simp] theorem sqBits_evs (s : State) (k b : Nat) : (sqBits s k b).evs = s.evs := rfl
@[simp] theorem sqBits_chz (s : State) (k b : Nat) : (sqBits s k b).chz = s.chz := rfl
@[simp] theorem sqBits_otp (s : State) (k b : Nat) : (sqBits s k b).otp = s.otp := rfl
@[simp] theorem sqBits_tb (s : State) (k b : Nat) : (sqBits s k b).tb = s.tb := rfl
@[simp] theorem sqBits_mot (s : State) (k b : Nat) : (sqBits s k b).mot = s.mot := rfl
@[simp] theorem sqBits_lnk (s : State) (k b : Nat) : (sqBits s k b).lnk = s.lnk := rfl
@[simp] theorem sqBits_ha (s : State) (k b : Nat) : (sqBits s k b).ha = s.ha := rfl
@[simp] theorem sqBits_tmm (s : State) (k b : Nat) : (sqBits s k b).tmm = s.tmm := rfl
@[simp] theorem sqBits_drc (s : State) (k b : Nat) : (sqBits s k b).drc = s.drc := rfl
@[simp] theorem sqBits_pas (s : State) (k b : Nat) : (sqBits s k b).pas = s.pas := rfl
@[simp] theorem sqBits_rc (s : State) (k b : Nat) : (sqBits s k b).rc = s.rc := rfl
@[simp] theorem sqBits_pcu (s : State) (k b : Nat) : (sqBits s k b).pcu = s.pcu := rfl
@[simp] theorem sqBits_cvu (s : State) (k b : Nat) : (sqBits s k b).cvu = s.cvu := rfl
@[simp] theorem sqBits_acq (s : State) (k b : Nat) : (sqBits s k b).acq = s.acq := rfl
@[simp] theorem sqBits_dac (s : State) (k b : Nat) : (sqBits s k b).dac = s.dac := rfl
@[simp] theorem sqBits_lth (s : State) (k b : Nat) : (sqBits s k b).lth = s.lth := rfl
@[simp] theorem sqBits_flash (s : State) (k b : Nat) : (sqBits s k b).flash = s.flash := rfl
@[simp] theorem sqBits_dram (s : State) (k b : Nat) : (sqBits s k b).dram = s.dram := rfl
@[simp] theorem sqBits_tcm (s : State) (k b : Nat) : (sqBits s k b).tcm = s.tcm := rfl
@[simp] theorem sqBits_effects (s : State) (k b : Nat) : (sqBits s k b).effects = s.effects := rfl
@[simp] theorem sqBits_free (s : State) (k b : Nat) : (sqBits s k b).free = s.free := rfl
@[simp] theorem sqBits_variant (s : State) (k b : Nat) : (sqBits s k b).variant = s.variant := rfl
@[simp] theorem sqBits_pending (s : State) (k b : Nat) : (sqBits s k b).pending = s.pending := rfl

@[simp] theorem fresh_regs (s : State)  : (s.fresh).regs = s.regs := rfl
@[simp] theorem fresh_staged (s : State)  : (s.fresh).staged = s.staged := rfl
@[simp] theorem fresh_parErr (s : State)  : (s.fresh).parErr = s.parErr := rfl
@[simp] theorem fresh_isl (s : State)  : (s.fresh).isl = s.isl := rfl
@[simp] theorem fresh_tap (s : State)  : (s.fresh).tap = s.tap := rfl
@[simp] theorem fresh_cp (s : State)  : (s.fresh).cp = s.cp := rfl
@[simp] theorem fresh_tbl (s : State)  : (s.fresh).tbl = s.tbl := rfl
@[simp] theorem fresh_flt (s : State)  : (s.fresh).flt = s.flt := rfl
@[simp] theorem fresh_evc (s : State)  : (s.fresh).evc = s.evc := rfl
@[simp] theorem fresh_evs (s : State)  : (s.fresh).evs = s.evs := rfl
@[simp] theorem fresh_chz (s : State)  : (s.fresh).chz = s.chz := rfl
@[simp] theorem fresh_otp (s : State)  : (s.fresh).otp = s.otp := rfl
@[simp] theorem fresh_tb (s : State)  : (s.fresh).tb = s.tb := rfl
@[simp] theorem fresh_mot (s : State)  : (s.fresh).mot = s.mot := rfl
@[simp] theorem fresh_lnk (s : State)  : (s.fresh).lnk = s.lnk := rfl
@[simp] theorem fresh_ha (s : State)  : (s.fresh).ha = s.ha := rfl
@[simp] theorem fresh_tmm (s : State)  : (s.fresh).tmm = s.tmm := rfl
@[simp] theorem fresh_drc (s : State)  : (s.fresh).drc = s.drc := rfl
@[simp] theorem fresh_pas (s : State)  : (s.fresh).pas = s.pas := rfl
@[simp] theorem fresh_rc (s : State)  : (s.fresh).rc = s.rc := rfl
@[simp] theorem fresh_pcu (s : State)  : (s.fresh).pcu = s.pcu := rfl
@[simp] theorem fresh_cvu (s : State)  : (s.fresh).cvu = s.cvu := rfl
@[simp] theorem fresh_acq (s : State)  : (s.fresh).acq = s.acq := rfl
@[simp] theorem fresh_dac (s : State)  : (s.fresh).dac = s.dac := rfl
@[simp] theorem fresh_lth (s : State)  : (s.fresh).lth = s.lth := rfl
@[simp] theorem fresh_flash (s : State)  : (s.fresh).flash = s.flash := rfl
@[simp] theorem fresh_dram (s : State)  : (s.fresh).dram = s.dram := rfl
@[simp] theorem fresh_tcm (s : State)  : (s.fresh).tcm = s.tcm := rfl
@[simp] theorem fresh_effects (s : State)  : (s.fresh).effects = s.effects := rfl
@[simp] theorem fresh_free (s : State)  : (s.fresh).free = s.free + 1 := rfl
@[simp] theorem fresh_variant (s : State)  : (s.fresh).variant = s.variant := rfl
@[simp] theorem fresh_pending (s : State)  : (s.fresh).pending = s.pending := rfl
@[simp] theorem fresh_reg (s : State)  (r : Nat) : (s.fresh).reg r = s.reg r := rfl

@[simp] theorem later_regs (s : State) (e : Effect) : (s.later e).regs = s.regs := rfl
@[simp] theorem later_staged (s : State) (e : Effect) : (s.later e).staged = s.staged := rfl
@[simp] theorem later_parErr (s : State) (e : Effect) : (s.later e).parErr = s.parErr := rfl
@[simp] theorem later_isl (s : State) (e : Effect) : (s.later e).isl = s.isl := rfl
@[simp] theorem later_tap (s : State) (e : Effect) : (s.later e).tap = s.tap := rfl
@[simp] theorem later_cp (s : State) (e : Effect) : (s.later e).cp = s.cp := rfl
@[simp] theorem later_tbl (s : State) (e : Effect) : (s.later e).tbl = s.tbl := rfl
@[simp] theorem later_flt (s : State) (e : Effect) : (s.later e).flt = s.flt := rfl
@[simp] theorem later_evc (s : State) (e : Effect) : (s.later e).evc = s.evc := rfl
@[simp] theorem later_evs (s : State) (e : Effect) : (s.later e).evs = s.evs := rfl
@[simp] theorem later_chz (s : State) (e : Effect) : (s.later e).chz = s.chz := rfl
@[simp] theorem later_otp (s : State) (e : Effect) : (s.later e).otp = s.otp := rfl
@[simp] theorem later_tb (s : State) (e : Effect) : (s.later e).tb = s.tb := rfl
@[simp] theorem later_mot (s : State) (e : Effect) : (s.later e).mot = s.mot := rfl
@[simp] theorem later_lnk (s : State) (e : Effect) : (s.later e).lnk = s.lnk := rfl
@[simp] theorem later_ha (s : State) (e : Effect) : (s.later e).ha = s.ha := rfl
@[simp] theorem later_tmm (s : State) (e : Effect) : (s.later e).tmm = s.tmm := rfl
@[simp] theorem later_drc (s : State) (e : Effect) : (s.later e).drc = s.drc := rfl
@[simp] theorem later_pas (s : State) (e : Effect) : (s.later e).pas = s.pas := rfl
@[simp] theorem later_rc (s : State) (e : Effect) : (s.later e).rc = s.rc := rfl
@[simp] theorem later_pcu (s : State) (e : Effect) : (s.later e).pcu = s.pcu := rfl
@[simp] theorem later_cvu (s : State) (e : Effect) : (s.later e).cvu = s.cvu := rfl
@[simp] theorem later_acq (s : State) (e : Effect) : (s.later e).acq = s.acq := rfl
@[simp] theorem later_dac (s : State) (e : Effect) : (s.later e).dac = s.dac := rfl
@[simp] theorem later_lth (s : State) (e : Effect) : (s.later e).lth = s.lth := rfl
@[simp] theorem later_flash (s : State) (e : Effect) : (s.later e).flash = s.flash := rfl
@[simp] theorem later_dram (s : State) (e : Effect) : (s.later e).dram = s.dram := rfl
@[simp] theorem later_tcm (s : State) (e : Effect) : (s.later e).tcm = s.tcm := rfl
@[simp] theorem later_effects (s : State) (e : Effect) : (s.later e).effects = s.effects ++ [e] := rfl
@[simp] theorem later_free (s : State) (e : Effect) : (s.later e).free = s.free := rfl
@[simp] theorem later_variant (s : State) (e : Effect) : (s.later e).variant = s.variant := rfl
@[simp] theorem later_pending (s : State) (e : Effect) : (s.later e).pending = s.pending := rfl
@[simp] theorem later_reg (s : State) (e : Effect) (r : Nat) : (s.later e).reg r = s.reg r := rfl

@[simp] theorem withPending_regs (s : State) (l : List Instr) : (s.withPending l).regs = s.regs := rfl
@[simp] theorem withPending_staged (s : State) (l : List Instr) : (s.withPending l).staged = s.staged := rfl
@[simp] theorem withPending_parErr (s : State) (l : List Instr) : (s.withPending l).parErr = s.parErr := rfl
@[simp] theorem withPending_isl (s : State) (l : List Instr) : (s.withPending l).isl = s.isl := rfl
@[simp] theorem withPending_tap (s : State) (l : List Instr) : (s.withPending l).tap = s.tap := rfl
@[simp] theorem withPending_cp (s : State) (l : List Instr) : (s.withPending l).cp = s.cp := rfl
@[simp] theorem withPending_tbl (s : State) (l : List Instr) : (s.withPending l).tbl = s.tbl := rfl
@[simp] theorem withPending_flt (s : State) (l : List Instr) : (s.withPending l).flt = s.flt := rfl
@[simp] theorem withPending_evc (s : State) (l : List Instr) : (s.withPending l).evc = s.evc := rfl
@[simp] theorem withPending_evs (s : State) (l : List Instr) : (s.withPending l).evs = s.evs := rfl
@[simp] theorem withPending_chz (s : State) (l : List Instr) : (s.withPending l).chz = s.chz := rfl
@[simp] theorem withPending_otp (s : State) (l : List Instr) : (s.withPending l).otp = s.otp := rfl
@[simp] theorem withPending_tb (s : State) (l : List Instr) : (s.withPending l).tb = s.tb := rfl
@[simp] theorem withPending_mot (s : State) (l : List Instr) : (s.withPending l).mot = s.mot := rfl
@[simp] theorem withPending_lnk (s : State) (l : List Instr) : (s.withPending l).lnk = s.lnk := rfl
@[simp] theorem withPending_ha (s : State) (l : List Instr) : (s.withPending l).ha = s.ha := rfl
@[simp] theorem withPending_tmm (s : State) (l : List Instr) : (s.withPending l).tmm = s.tmm := rfl
@[simp] theorem withPending_drc (s : State) (l : List Instr) : (s.withPending l).drc = s.drc := rfl
@[simp] theorem withPending_pas (s : State) (l : List Instr) : (s.withPending l).pas = s.pas := rfl
@[simp] theorem withPending_rc (s : State) (l : List Instr) : (s.withPending l).rc = s.rc := rfl
@[simp] theorem withPending_pcu (s : State) (l : List Instr) : (s.withPending l).pcu = s.pcu := rfl
@[simp] theorem withPending_cvu (s : State) (l : List Instr) : (s.withPending l).cvu = s.cvu := rfl
@[simp] theorem withPending_acq (s : State) (l : List Instr) : (s.withPending l).acq = s.acq := rfl
@[simp] theorem withPending_dac (s : State) (l : List Instr) : (s.withPending l).dac = s.dac := rfl
@[simp] theorem withPending_lth (s : State) (l : List Instr) : (s.withPending l).lth = s.lth := rfl
@[simp] theorem withPending_flash (s : State) (l : List Instr) : (s.withPending l).flash = s.flash := rfl
@[simp] theorem withPending_dram (s : State) (l : List Instr) : (s.withPending l).dram = s.dram := rfl
@[simp] theorem withPending_tcm (s : State) (l : List Instr) : (s.withPending l).tcm = s.tcm := rfl
@[simp] theorem withPending_effects (s : State) (l : List Instr) : (s.withPending l).effects = s.effects := rfl
@[simp] theorem withPending_free (s : State) (l : List Instr) : (s.withPending l).free = s.free := rfl
@[simp] theorem withPending_variant (s : State) (l : List Instr) : (s.withPending l).variant = s.variant := rfl
@[simp] theorem withPending_pending (s : State) (l : List Instr) : (s.withPending l).pending = l := rfl
@[simp] theorem withPending_reg (s : State) (l : List Instr) (r : Nat) : (s.withPending l).reg r = s.reg r := rfl

@[simp] theorem setTap_regs (s : State) (f : TapSt → TapSt) : (setTap s f).regs = s.regs := rfl
@[simp] theorem setTap_staged (s : State) (f : TapSt → TapSt) : (setTap s f).staged = s.staged := rfl
@[simp] theorem setTap_parErr (s : State) (f : TapSt → TapSt) : (setTap s f).parErr = s.parErr := rfl
@[simp] theorem setTap_isl (s : State) (f : TapSt → TapSt) : (setTap s f).isl = s.isl := rfl
@[simp] theorem setTap_tap (s : State) (f : TapSt → TapSt) : (setTap s f).tap = f s.tap := rfl
@[simp] theorem setTap_cp (s : State) (f : TapSt → TapSt) : (setTap s f).cp = s.cp := rfl
@[simp] theorem setTap_tbl (s : State) (f : TapSt → TapSt) : (setTap s f).tbl = s.tbl := rfl
@[simp] theorem setTap_flt (s : State) (f : TapSt → TapSt) : (setTap s f).flt = s.flt := rfl
@[simp] theorem setTap_evc (s : State) (f : TapSt → TapSt) : (setTap s f).evc = s.evc := rfl
@[simp] theorem setTap_evs (s : State) (f : TapSt → TapSt) : (setTap s f).evs = s.evs := rfl
@[simp] theorem setTap_chz (s : State) (f : TapSt → TapSt) : (setTap s f).chz = s.chz := rfl
@[simp] theorem setTap_otp (s : State) (f : TapSt → TapSt) : (setTap s f).otp = s.otp := rfl
@[simp] theorem setTap_tb (s : State) (f : TapSt → TapSt) : (setTap s f).tb = s.tb := rfl
@[simp] theorem setTap_mot (s : State) (f : TapSt → TapSt) : (setTap s f).mot = s.mot := rfl
@[simp] theorem setTap_lnk (s : State) (f : TapSt → TapSt) : (setTap s f).lnk = s.lnk := rfl
@[simp] theorem setTap_ha (s : State) (f : TapSt → TapSt) : (setTap s f).ha = s.ha := rfl
@[simp] theorem setTap_tmm (s : State) (f : TapSt → TapSt) : (setTap s f).tmm = s.tmm := rfl
@[simp] theorem setTap_drc (s : State) (f : TapSt → TapSt) : (setTap s f).drc = s.drc := rfl
@[simp] theorem setTap_pas (s : State) (f : TapSt → TapSt) : (setTap s f).pas = s.pas := rfl
@[simp] theorem setTap_rc (s : State) (f : TapSt → TapSt) : (setTap s f).rc = s.rc := rfl
@[simp] theorem setTap_pcu (s : State) (f : TapSt → TapSt) : (setTap s f).pcu = s.pcu := rfl
@[simp] theorem setTap_cvu (s : State) (f : TapSt → TapSt) : (setTap s f).cvu = s.cvu := rfl
@[simp] theorem setTap_acq (s : State) (f : TapSt → TapSt) : (setTap s f).acq = s.acq := rfl
@[simp] theorem setTap_dac (s : State) (f : TapSt → TapSt) : (setTap s f).dac = s.dac := rfl
@[simp] theorem setTap_lth (s : State) (f : TapSt → TapSt) : (setTap s f).lth = s.lth := rfl
@[simp] theorem setTap_flash (s : State) (f : TapSt → TapSt) : (setTap s f).flash = s.flash := rfl
@[simp] theorem setTap_dram (s : State) (f : TapSt → TapSt) : (setTap s f).dram = s.dram := rfl
@[simp] theorem setTap_tcm (s : State) (f : TapSt → TapSt) : (setTap s f).tcm = s.tcm := rfl
@[simp] theorem setTap_effects (s : State) (f : TapSt → TapSt) : (setTap s f).effects = s.effects := rfl
@[simp] theorem setTap_free (s : State) (f : TapSt → TapSt) : (setTap s f).free = s.free := rfl
@[simp] theorem setTap_variant (s : State) (f : TapSt → TapSt) : (setTap s f).variant = s.variant := rfl
@[simp] theorem setTap_pending (s : State) (f : TapSt → TapSt) : (setTap s f).pending = s.pending := rfl
@[simp] theorem setTap_reg (s : State) (f : TapSt → TapSt) (r : Nat) : (setTap s f).reg r = s.reg r := rfl

@[simp] theorem setCp_regs (s : State) (f : CpSt → CpSt) : (setCp s f).regs = s.regs := rfl
@[simp] theorem setCp_staged (s : State) (f : CpSt → CpSt) : (setCp s f).staged = s.staged := rfl
@[simp] theorem setCp_parErr (s : State) (f : CpSt → CpSt) : (setCp s f).parErr = s.parErr := rfl
@[simp] theorem setCp_isl (s : State) (f : CpSt → CpSt) : (setCp s f).isl = s.isl := rfl
@[simp] theorem setCp_tap (s : State) (f : CpSt → CpSt) : (setCp s f).tap = s.tap := rfl
@[simp] theorem setCp_cp (s : State) (f : CpSt → CpSt) : (setCp s f).cp = f s.cp := rfl
@[simp] theorem setCp_tbl (s : State) (f : CpSt → CpSt) : (setCp s f).tbl = s.tbl := rfl
@[simp] theorem setCp_flt (s : State) (f : CpSt → CpSt) : (setCp s f).flt = s.flt := rfl
@[simp] theorem setCp_evc (s : State) (f : CpSt → CpSt) : (setCp s f).evc = s.evc := rfl
@[simp] theorem setCp_evs (s : State) (f : CpSt → CpSt) : (setCp s f).evs = s.evs := rfl
@[simp] theorem setCp_chz (s : State) (f : CpSt → CpSt) : (setCp s f).chz = s.chz := rfl
@[simp] theorem setCp_otp (s : State) (f : CpSt → CpSt) : (setCp s f).otp = s.otp := rfl
@[simp] theorem setCp_tb (s : State) (f : CpSt → CpSt) : (setCp s f).tb = s.tb := rfl
@[simp] theorem setCp_mot (s : State) (f : CpSt → CpSt) : (setCp s f).mot = s.mot := rfl
@[simp] theorem setCp_lnk (s : State) (f : CpSt → CpSt) : (setCp s f).lnk = s.lnk := rfl
@[simp] theorem setCp_ha (s : State) (f : CpSt → CpSt) : (setCp s f).ha = s.ha := rfl
@[simp] theorem setCp_tmm (s : State) (f : CpSt → CpSt) : (setCp s f).tmm = s.tmm := rfl
@[simp] theorem setCp_drc (s : State) (f : CpSt → CpSt) : (setCp s f).drc = s.drc := rfl
@[simp] theorem setCp_pas (s : State) (f : CpSt → CpSt) : (setCp s f).pas = s.pas := rfl
@[simp] theorem setCp_rc (s : State) (f : CpSt → CpSt) : (setCp s f).rc = s.rc := rfl
@[simp] theorem setCp_pcu (s : State) (f : CpSt → CpSt) : (setCp s f).pcu = s.pcu := rfl
@[simp] theorem setCp_cvu (s : State) (f : CpSt → CpSt) : (setCp s f).cvu = s.cvu := rfl
@[simp] theorem setCp_acq (s : State) (f : CpSt → CpSt) : (setCp s f).acq = s.acq := rfl
@[simp] theorem setCp_dac (s : State) (f : CpSt → CpSt) : (setCp s f).dac = s.dac := rfl
@[simp] theorem setCp_lth (s : State) (f : CpSt → CpSt) : (setCp s f).lth = s.lth := rfl
@[simp] theorem setCp_flash (s : State) (f : CpSt → CpSt) : (setCp s f).flash = s.flash := rfl
@[simp] theorem setCp_dram (s : State) (f : CpSt → CpSt) : (setCp s f).dram = s.dram := rfl
@[simp] theorem setCp_tcm (s : State) (f : CpSt → CpSt) : (setCp s f).tcm = s.tcm := rfl
@[simp] theorem setCp_effects (s : State) (f : CpSt → CpSt) : (setCp s f).effects = s.effects := rfl
@[simp] theorem setCp_free (s : State) (f : CpSt → CpSt) : (setCp s f).free = s.free := rfl
@[simp] theorem setCp_variant (s : State) (f : CpSt → CpSt) : (setCp s f).variant = s.variant := rfl
@[simp] theorem setCp_pending (s : State) (f : CpSt → CpSt) : (setCp s f).pending = s.pending := rfl
@[simp] theorem setCp_reg (s : State) (f : CpSt → CpSt) (r : Nat) : (setCp s f).reg r = s.reg r := rfl

@[simp] theorem setRc_regs (s : State) (f : RcSt → RcSt) : (setRc s f).regs = s.regs := rfl
@[simp] theorem setRc_staged (s : State) (f : RcSt → RcSt) : (setRc s f).staged = s.staged := rfl
@[simp] theorem setRc_parErr (s : State) (f : RcSt → RcSt) : (setRc s f).parErr = s.parErr := rfl
@[simp] theorem setRc_isl (s : State) (f : RcSt → RcSt) : (setRc s f).isl = s.isl := rfl
@[simp] theorem setRc_tap (s : State) (f : RcSt → RcSt) : (setRc s f).tap = s.tap := rfl
@[simp] theorem setRc_cp (s : State) (f : RcSt → RcSt) : (setRc s f).cp = s.cp := rfl
@[simp] theorem setRc_tbl (s : State) (f : RcSt → RcSt) : (setRc s f).tbl = s.tbl := rfl
@[simp] theorem setRc_flt (s : State) (f : RcSt → RcSt) : (setRc s f).flt = s.flt := rfl
@[simp] theorem setRc_evc (s : State) (f : RcSt → RcSt) : (setRc s f).evc = s.evc := rfl
@[simp] theorem setRc_evs (s : State) (f : RcSt → RcSt) : (setRc s f).evs = s.evs := rfl
@[simp] theorem setRc_chz (s : State) (f : RcSt → RcSt) : (setRc s f).chz = s.chz := rfl
@[simp] theorem setRc_otp (s : State) (f : RcSt → RcSt) : (setRc s f).otp = s.otp := rfl
@[simp] theorem setRc_tb (s : State) (f : RcSt → RcSt) : (setRc s f).tb = s.tb := rfl
@[simp] theorem setRc_mot (s : State) (f : RcSt → RcSt) : (setRc s f).mot = s.mot := rfl
@[simp] theorem setRc_lnk (s : State) (f : RcSt → RcSt) : (setRc s f).lnk = s.lnk := rfl
@[simp] theorem setRc_ha (s : State) (f : RcSt → RcSt) : (setRc s f).ha = s.ha := rfl
@[simp] theorem setRc_tmm (s : State) (f : RcSt → RcSt) : (setRc s f).tmm = s.tmm := rfl
@[simp] theorem setRc_drc (s : State) (f : RcSt → RcSt) : (setRc s f).drc = s.drc := rfl
@[simp] theorem setRc_pas (s : State) (f : RcSt → RcSt) : (setRc s f).pas = s.pas := rfl
@[simp] theorem setRc_rc (s : State) (f : RcSt → RcSt) : (setRc s f).rc = f s.rc := rfl
@[simp] theorem setRc_pcu (s : State) (f : RcSt → RcSt) : (setRc s f).pcu = s.pcu := rfl
@[simp] theorem setRc_cvu (s : State) (f : RcSt → RcSt) : (setRc s f).cvu = s.cvu := rfl
@[simp] theorem setRc_acq (s : State) (f : RcSt → RcSt) : (setRc s f).acq = s.acq := rfl
@[simp] theorem setRc_dac (s : State) (f : RcSt → RcSt) : (setRc s f).dac = s.dac := rfl
@[simp] theorem setRc_lth (s : State) (f : RcSt → RcSt) : (setRc s f).lth = s.lth := rfl
@[simp] theorem setRc_flash (s : State) (f : RcSt → RcSt) : (setRc s f).flash = s.flash := rfl
@[simp] theorem setRc_dram (s : State) (f : RcSt → RcSt) : (setRc s f).dram = s.dram := rfl
@[simp] theorem setRc_tcm (s : State) (f : RcSt → RcSt) : (setRc s f).tcm = s.tcm := rfl
@[simp] theorem setRc_effects (s : State) (f : RcSt → RcSt) : (setRc s f).effects = s.effects := rfl
@[simp] theorem setRc_free (s : State) (f : RcSt → RcSt) : (setRc s f).free = s.free := rfl
@[simp] theorem setRc_variant (s : State) (f : RcSt → RcSt) : (setRc s f).variant = s.variant := rfl
@[simp] theorem setRc_pending (s : State) (f : RcSt → RcSt) : (setRc s f).pending = s.pending := rfl
@[simp] theorem setRc_reg (s : State) (f : RcSt → RcSt) (r : Nat) : (setRc s f).reg r = s.reg r := rfl

@[simp] theorem setTb_regs (s : State) (t : TbSt) : (s.setTb t).regs = s.regs := rfl
@[simp] theorem setTb_staged (s : State) (t : TbSt) : (s.setTb t).staged = s.staged := rfl
@[simp] theorem setTb_parErr (s : State) (t : TbSt) : (s.setTb t).parErr = s.parErr := rfl
@[simp] theorem setTb_isl (s : State) (t : TbSt) : (s.setTb t).isl = s.isl := rfl
@[simp] theorem setTb_tap (s : State) (t : TbSt) : (s.setTb t).tap = s.tap := rfl
@[simp] theorem setTb_cp (s : State) (t : TbSt) : (s.setTb t).cp = s.cp := rfl
@[simp] theorem setTb_tbl (s : State) (t : TbSt) : (s.setTb t).tbl = s.tbl := rfl
@[simp] theorem setTb_flt (s : State) (t : TbSt) : (s.setTb t).flt = s.flt := rfl
@[simp] theorem setTb_evc (s : State) (t : TbSt) : (s.setTb t).evc = s.evc := rfl
@[simp] theorem setTb_evs (s : State) (t : TbSt) : (s.setTb t).evs = s.evs := rfl
@[simp] theorem setTb_chz (s : State) (t : TbSt) : (s.setTb t).chz = s.chz := rfl
@[simp] theorem setTb_otp (s : State) (t : TbSt) : (s.setTb t).otp = s.otp := rfl
@[simp] theorem setTb_tb (s : State) (t : TbSt) : (s.setTb t).tb = t := rfl
@[simp] theorem setTb_mot (s : State) (t : TbSt) : (s.setTb t).mot = s.mot := rfl
@[simp] theorem setTb_lnk (s : State) (t : TbSt) : (s.setTb t).lnk = s.lnk := rfl
@[simp] theorem setTb_ha (s : State) (t : TbSt) : (s.setTb t).ha = s.ha := rfl
@[simp] theorem setTb_tmm (s : State) (t : TbSt) : (s.setTb t).tmm = s.tmm := rfl
@[simp] theorem setTb_drc (s : State) (t : TbSt) : (s.setTb t).drc = s.drc := rfl
@[simp] theorem setTb_pas (s : State) (t : TbSt) : (s.setTb t).pas = s.pas := rfl
@[simp] theorem setTb_rc (s : State) (t : TbSt) : (s.setTb t).rc = s.rc := rfl
@[simp] theorem setTb_pcu (s : State) (t : TbSt) : (s.setTb t).pcu = s.pcu := rfl
@[simp] theorem setTb_cvu (s : State) (t : TbSt) : (s.setTb t).cvu = s.cvu := rfl
@[simp] theorem setTb_acq (s : State) (t : TbSt) : (s.setTb t).acq = s.acq := rfl
@[simp] theorem setTb_dac (s : State) (t : TbSt) : (s.setTb t).dac = s.dac := rfl
@[simp] theorem setTb_lth (s : State) (t : TbSt) : (s.setTb t).lth = s.lth := rfl
@[simp] theorem setTb_flash (s : State) (t : TbSt) : (s.setTb t).flash = s.flash := rfl
@[simp] theorem setTb_dram (s : State) (t : TbSt) : (s.setTb t).dram = s.dram := rfl
@[simp] theorem setTb_tcm (s : State) (t : TbSt) : (s.setTb t).tcm = s.tcm := rfl
@[simp] theorem setTb_effects (s : State) (t : TbSt) : (s.setTb t).effects = s.effects := rfl
@[simp] theorem setTb_free (s : State) (t : TbSt) : (s.setTb t).free = s.free := rfl
@[simp] theorem setTb_variant (s : State) (t : TbSt) : (s.setTb t).variant = s.variant := rfl
@[simp] theorem setTb_pending (s : State) (t : TbSt) : (s.setTb t).pending = s.pending := rfl
@[simp] theorem setTb_reg (s : State) (t : TbSt) (r : Nat) : (s.setTb t).reg r = s.reg r := rfl

@[simp] theorem setMot_regs (s : State) (m : MotSt) : (s.setMot m).regs = s.regs := rfl
@[simp] theorem setMot_staged (s : State) (m : MotSt) : (s.setMot m).staged = s.staged := rfl
@[simp] theorem setMot_parErr (s : State) (m : MotSt) : (s.setMot m).parErr = s.parErr := rfl
@[simp] theorem setMot_isl (s : State) (m : MotSt) : (s.setMot m).isl = s.isl := rfl
@[simp] theorem setMot_tap (s : State) (m : MotSt) : (s.setMot m).tap = s.tap := rfl
@[simp] theorem setMot_cp (s : State) (m : MotSt) : (s.setMot m).cp = s.cp := rfl
@[simp] theorem setMot_tbl (s : State) (m : MotSt) : (s.setMot m).tbl = s.tbl := rfl
@[simp] theorem setMot_flt (s : State) (m : MotSt) : (s.setMot m).flt = s.flt := rfl
@[simp] theorem setMot_evc (s : State) (m : MotSt) : (s.setMot m).evc = s.evc := rfl
@[simp] theorem setMot_evs (s : State) (m : MotSt) : (s.setMot m).evs = s.evs := rfl
@[simp] theorem setMot_chz (s : State) (m : MotSt) : (s.setMot m).chz = s.chz := rfl
@[simp] theorem setMot_otp (s : State) (m : MotSt) : (s.setMot m).otp = s.otp := rfl
@[simp] theorem setMot_tb (s : State) (m : MotSt) : (s.setMot m).tb = s.tb := rfl
@[simp] theorem setMot_mot (s : State) (m : MotSt) : (s.setMot m).mot = m := rfl
@[simp] theorem setMot_lnk (s : State) (m : MotSt) : (s.setMot m).lnk = s.lnk := rfl
@[simp] theorem setMot_ha (s : State) (m : MotSt) : (s.setMot m).ha = s.ha := rfl
@[simp] theorem setMot_tmm (s : State) (m : MotSt) : (s.setMot m).tmm = s.tmm := rfl
@[simp] theorem setMot_drc (s : State) (m : MotSt) : (s.setMot m).drc = s.drc := rfl
@[simp] theorem setMot_pas (s : State) (m : MotSt) : (s.setMot m).pas = s.pas := rfl
@[simp] theorem setMot_rc (s : State) (m : MotSt) : (s.setMot m).rc = s.rc := rfl
@[simp] theorem setMot_pcu (s : State) (m : MotSt) : (s.setMot m).pcu = s.pcu := rfl
@[simp] theorem setMot_cvu (s : State) (m : MotSt) : (s.setMot m).cvu = s.cvu := rfl
@[simp] theorem setMot_acq (s : State) (m : MotSt) : (s.setMot m).acq = s.acq := rfl
@[simp] theorem setMot_dac (s : State) (m : MotSt) : (s.setMot m).dac = s.dac := rfl
@[simp] theorem setMot_lth (s : State) (m : MotSt) : (s.setMot m).lth = s.lth := rfl
@[simp] theorem setMot_flash (s : State) (m : MotSt) : (s.setMot m).flash = s.flash := rfl
@[simp] theorem setMot_dram (s : State) (m : MotSt) : (s.setMot m).dram = s.dram := rfl
@[simp] theorem setMot_tcm (s : State) (m : MotSt) : (s.setMot m).tcm = s.tcm := rfl
@[simp] theorem setMot_effects (s : State) (m : MotSt) : (s.setMot m).effects = s.effects := rfl
@[simp] theorem setMot_free (s : State) (m : MotSt) : (s.setMot m).free = s.free := rfl
@[simp] theorem setMot_variant (s : State) (m : MotSt) : (s.setMot m).variant = s.variant := rfl
@[simp] theorem setMot_pending (s : State) (m : MotSt) : (s.setMot m).pending = s.pending := rfl
@[simp] theorem setMot_reg (s : State) (m : MotSt) (r : Nat) : (s.setMot m).reg r = s.reg r := rfl

@[simp] theorem setEvs_regs (s : State) (e : EvsSt) : (s.setEvs e).regs = s.regs := rfl
@[simp] theorem setEvs_staged (s : State) (e : EvsSt) : (s.setEvs e).staged = s.staged := rfl
@[simp] theorem setEvs_parErr (s : State) (e : EvsSt) : (s.setEvs e).parErr = s.parErr := rfl
@[simp] theorem setEvs_isl (s : State) (e : EvsSt) : (s.setEvs e).isl = s.isl := rfl
@[simp] theorem setEvs_tap (s : State) (e : EvsSt) : (s.setEvs e).tap = s.tap := rfl
@[simp] theorem setEvs_cp (s : State) (e : EvsSt) : (s.setEvs e).cp = s.cp := rfl
@[simp] theorem setEvs_tbl (s : State) (e : EvsSt) : (s.setEvs e).tbl = s.tbl := rfl
@[simp] theorem setEvs_flt (s : State) (e : EvsSt) : (s.setEvs e).flt = s.flt := rfl
@[simp] theorem setEvs_evc (s : State) (e : EvsSt) : (s.setEvs e).evc = s.evc := rfl
@[simp] theorem setEvs_evs (s : State) (e : EvsSt) : (s.setEvs e).evs = e := rfl
@[simp] theorem setEvs_chz (s : State) (e : EvsSt) : (s.setEvs e).chz = s.chz := rfl
@[simp] theorem setEvs_otp (s : State) (e : EvsSt) : (s.setEvs e).otp = s.otp := rfl
@[simp] theorem setEvs_tb (s : State) (e : EvsSt) : (s.setEvs e).tb = s.tb := rfl
@[simp] theorem setEvs_mot (s : State) (e : EvsSt) : (s.setEvs e).mot = s.mot := rfl
@[simp] theorem setEvs_lnk (s : State) (e : EvsSt) : (s.setEvs e).lnk = s.lnk := rfl
@[simp] theorem setEvs_ha (s : State) (e : EvsSt) : (s.setEvs e).ha = s.ha := rfl
@[simp] theorem setEvs_tmm (s : State) (e : EvsSt) : (s.setEvs e).tmm = s.tmm := rfl
@[simp] theorem setEvs_drc (s : State) (e : EvsSt) : (s.setEvs e).drc = s.drc := rfl
@[simp] theorem setEvs_pas (s : State) (e : EvsSt) : (s.setEvs e).pas = s.pas := rfl
@[simp] theorem setEvs_rc (s : State) (e : EvsSt) : (s.setEvs e).rc = s.rc := rfl
@[simp] theorem setEvs_pcu (s : State) (e : EvsSt) : (s.setEvs e).pcu = s.pcu := rfl
@[simp] theorem setEvs_cvu (s : State) (e : EvsSt) : (s.setEvs e).cvu = s.cvu := rfl
@[simp] theorem setEvs_acq (s : State) (e : EvsSt) : (s.setEvs e).acq = s.acq := rfl
@[simp] theorem setEvs_dac (s : State) (e : EvsSt) : (s.setEvs e).dac = s.dac := rfl
@[simp] theorem setEvs_lth (s : State) (e : EvsSt) : (s.setEvs e).lth = s.lth := rfl
@[simp] theorem setEvs_flash (s : State) (e : EvsSt) : (s.setEvs e).flash = s.flash := rfl
@[simp] theorem setEvs_dram (s : State) (e : EvsSt) : (s.setEvs e).dram = s.dram := rfl
@[simp] theorem setEvs_tcm (s : State) (e : EvsSt) : (s.setEvs e).tcm = s.tcm := rfl
@[simp] theorem setEvs_effects (s : State) (e : EvsSt) : (s.setEvs e).effects = s.effects := rfl
@[simp] theorem setEvs_free (s : State) (e : EvsSt) : (s.setEvs e).free = s.free := rfl
@[simp] theorem setEvs_variant (s : State) (e : EvsSt) : (s.setEvs e).variant = s.variant := rfl
@[simp] theorem setEvs_pending (s : State) (e : EvsSt) : (s.setEvs e).pending = s.pending := rfl
@[simp] theorem setEvs_reg (s : State) (e : EvsSt) (r : Nat) : (s.setEvs e).reg r = s.reg r := rfl

@[simp] theorem setAcq_regs (s : State) (f : AcqSt → AcqSt) : (setAcq s f).regs = s.regs := rfl
@[simp] theorem setAcq_staged (s : State) (f : AcqSt → AcqSt) : (setAcq s f).staged = s.staged := rfl
@[simp] theorem setAcq_parErr (s : State) (f : AcqSt → AcqSt) : (setAcq s f).parErr = s.parErr := rfl
@[simp] theorem setAcq_isl (s : State) (f : AcqSt → AcqSt) : (setAcq s f).isl = s.isl := rfl
@[simp] theorem setAcq_tap (s : State) (f : AcqSt → AcqSt) : (setAcq s f).tap = s.tap := rfl
@[simp] theorem setAcq_cp (s : State) (f : AcqSt → AcqSt) : (setAcq s f).cp = s.cp := rfl
@[simp] theorem setAcq_tbl (s : State) (f : AcqSt → AcqSt) : (setAcq s f).tbl = s.tbl := rfl
@[simp] theorem setAcq_flt (s : State) (f : AcqSt → AcqSt) : (setAcq s f).flt = s.flt := rfl
@[simp] theorem setAcq_evc (s : State) (f : AcqSt → AcqSt) : (setAcq s f).evc = s.evc := rfl
@[simp] theorem setAcq_evs (s : State) (f : AcqSt → AcqSt) : (setAcq s f).evs = s.evs := rfl
@[simp] theorem setAcq_chz (s : State) (f : AcqSt → AcqSt) : (setAcq s f).chz = s.chz := rfl
@[simp] theorem setAcq_otp (s : State) (f : AcqSt → AcqSt) : (setAcq s f).otp = s.otp := rfl
@[simp] theorem setAcq_tb (s : State) (f : AcqSt → AcqSt) : (setAcq s f).tb = s.tb := rfl
@[simp] theorem setAcq_mot (s : State) (f : AcqSt → AcqSt) : (setAcq s f).mot = s.mot := rfl
@[simp] theorem setAcq_lnk (s : State) (f : AcqSt → AcqSt) : (setAcq s f).lnk = s.lnk := rfl
@[simp] theorem setAcq_ha (s : State) (f : AcqSt → AcqSt) : (setAcq s f).ha = s.ha := rfl
@[simp] theorem setAcq_tmm (s : State) (f : AcqSt → AcqSt) : (setAcq s f).tmm = s.tmm := rfl
@[simp] theorem setAcq_drc (s : State) (f : AcqSt → AcqSt) : (setAcq s f).drc = s.drc := rfl
@[simp] theorem setAcq_pas (s : State) (f : AcqSt → AcqSt) : (setAcq s f).pas = s.pas := rfl
@[simp] theorem setAcq_rc (s : State) (f : AcqSt → AcqSt) : (setAcq s f).rc = s.rc := rfl
@[simp] theorem setAcq_pcu (s : State) (f : AcqSt → AcqSt) : (setAcq s f).pcu = s.pcu := rfl
@[simp] theorem setAcq_cvu (s : State) (f : AcqSt → AcqSt) : (setAcq s f).cvu = s.cvu := rfl
@[simp] theorem setAcq_acq (s : State) (f : AcqSt → AcqSt) : (setAcq s f).acq = f s.acq := rfl
@[simp] theorem setAcq_dac (s : State) (f : AcqSt → AcqSt) : (setAcq s f).dac = s.dac := rfl
@[simp] theorem setAcq_lth (s : State) (f : AcqSt → AcqSt) : (setAcq s f).lth = s.lth := rfl
@[simp] theorem setAcq_flash (s : State) (f : AcqSt → AcqSt) : (setAcq s f).flash = s.flash := rfl
@[simp] theorem setAcq_dram (s : State) (f : AcqSt → AcqSt) : (setAcq s f).dram = s.dram := rfl
@[simp] theorem setAcq_tcm (s : State) (f : AcqSt → AcqSt) : (setAcq s f).tcm = s.tcm := rfl
@[simp] theorem setAcq_effects (s : State) (f : AcqSt → AcqSt) : (setAcq s f).effects = s.effects := rfl
@[simp] theorem setAcq_free (s : State) (f : AcqSt → AcqSt) : (setAcq s f).free = s.free := rfl
@[simp] theorem setAcq_variant (s : State) (f : AcqSt → AcqSt) : (setAcq s f).variant = s.variant := rfl
@[simp] theorem setAcq_pending (s : State) (f : AcqSt → AcqSt) : (setAcq s f).pending = s.pending := rfl
@[simp] theorem setAcq_reg (s : State) (f : AcqSt → AcqSt) (r : Nat) : (setAcq s f).reg r = s.reg r := rfl

@[simp] theorem setChz_regs (s : State) (f : ChzSt → ChzSt) : (setChz s f).regs = s.regs := rfl
@[simp] theorem setChz_staged (s : State) (f : ChzSt → ChzSt) : (setChz s f).staged = s.staged := rfl
@[simp] theorem setChz_parErr (s : State) (f : ChzSt → ChzSt) : (setChz s f).parErr = s.parErr := rfl
@[simp] theorem setChz_isl (s : State) (f : ChzSt → ChzSt) : (setChz s f).isl = s.isl := rfl
@[simp] theorem setChz_tap (s : State) (f : ChzSt → ChzSt) : (setChz s f).tap = s.tap := rfl
@[simp] theorem setChz_cp (s : State) (f : ChzSt → ChzSt) : (setChz s f).cp = s.cp := rfl
@[simp] theorem setChz_tbl (s : State) (f : ChzSt → ChzSt) : (setChz s f).tbl = s.tbl := rfl
@[simp] theorem setChz_flt (s : State) (f : ChzSt → ChzSt) : (setChz s f).flt = s.flt := rfl
@[simp] theorem setChz_evc (s : State) (f : ChzSt → ChzSt) : (setChz s f).evc = s.evc := rfl
@[simp] theorem setChz_evs (s : State) (f : ChzSt → ChzSt) : (setChz s f).evs = s.evs := rfl
@[simp] theorem setChz_chz (s : State) (f : ChzSt → ChzSt) : (setChz s f).chz = f s.chz := rfl
@[simp] theorem setChz_otp (s : State) (f : ChzSt → ChzSt) : (setChz s f).otp = s.otp := rfl
@[simp] theorem setChz_tb (s : State) (f : ChzSt → ChzSt) : (setChz s f).tb = s.tb := rfl
@[simp] theorem setChz_mot (s : State) (f : ChzSt → ChzSt) : (setChz s f).mot = s.mot := rfl
@[simp] theorem setChz_lnk (s : State) (f : ChzSt → ChzSt) : (setChz s f).lnk = s.lnk := rfl
@[simp] theorem setChz_ha (s : State) (f : ChzSt → ChzSt) : (setChz s f).ha = s.ha := rfl
@[simp] theorem setChz_tmm (s : State) (f : ChzSt → ChzSt) : (setChz s f).tmm = s.tmm := rfl
@[simp] theorem setChz_drc (s : State) (f : ChzSt → ChzSt) : (setChz s f).drc = s.drc := rfl
@[simp] theorem setChz_pas (s : State) (f : ChzSt → ChzSt) : (setChz s f).pas = s.pas := rfl
@[simp] theorem setChz_rc (s : State) (f : ChzSt → ChzSt) : (setChz s f).rc = s.rc := rfl
@[simp] theorem setChz_pcu (s : State) (f : ChzSt → ChzSt) : (setChz s f).pcu = s.pcu := rfl
@[simp] theorem setChz_cvu (s : State) (f : ChzSt → ChzSt) : (setChz s f).cvu = s.cvu := rfl
@[simp] theorem setChz_acq (s : State) (f : ChzSt → ChzSt) : (setChz s f).acq = s.acq := rfl
@[simp] theorem setChz_dac (s : State) (f : ChzSt → ChzSt) : (setChz s f).dac = s.dac := rfl
@[simp] theorem setChz_lth (s : State) (f : ChzSt → ChzSt) : (setChz s f).lth = s.lth := rfl
@[simp] theorem setChz_flash (s : State) (f : ChzSt → ChzSt) : (setChz s f).flash = s.flash := rfl
@[simp] theorem setChz_dram (s : State) (f : ChzSt → ChzSt) : (setChz s f).dram = s.dram := rfl
@[simp] theorem setChz_tcm (s : State) (f : ChzSt → ChzSt) : (setChz s f).tcm = s.tcm := rfl
@[simp] theorem setChz_effects (s : State) (f : ChzSt → ChzSt) : (setChz s f).effects = s.effects := rfl
@[simp] theorem setChz_free (s : State) (f : ChzSt → ChzSt) : (setChz s f).free = s.free := rfl
@[simp] theorem setChz_variant (s : State) (f : ChzSt → ChzSt) : (setChz s f).variant = s.variant := rfl
@[simp] theorem setChz_pending (s : State) (f : ChzSt → ChzSt) : (setChz s f).pending = s.pending := rfl
@[simp] theorem setChz_reg (s : State) (f : ChzSt → ChzSt) (r : Nat) : (setChz s f).reg r = s.reg r := rfl

/-- A register reads back what is written. -/
@[simp] theorem reg_setReg_self (s : State) (k : Nat) (v : Word) : (s.setReg k v).reg k = v := stGet_set_self regReset s.regs k v

/-- A write of one register leaves every other as it reads. -/
theorem reg_setReg_ne (s : State) (v : Word) {k j : Nat} (h : j ≠ k) : (s.setReg k v).reg j = s.reg j :=
  stGet_set_ne regReset s.regs v h

/-- A register after a write of one. -/
theorem reg_setReg (s : State) (k j : Nat) (v : Word) : (s.setReg k v).reg j = if j = k then v else s.reg j := by
  split
  · rename_i h; subst h; simp
  · rename_i h; exact reg_setReg_ne s v h

/-- A register after a field of one is written. -/
theorem reg_setFld (s : State) (k hi lo v j : Nat) :
    (s.setFld k hi lo v).reg j = if j = k then setBf (s.reg k) hi lo v else s.reg j := reg_setReg s k j _

/-- A register after a bit of one is set. -/
theorem reg_setRegBit (s : State) (k b j : Nat) :
    (s.setRegBit k b).reg j = if j = k then s.reg k ||| w32 (2 ^ b) else s.reg j := reg_setReg s k j _

/-- A register after event bits of one are set. -/
theorem reg_sqBits (s : State) (k b j : Nat) :
    (sqBits s k b).reg j = if j = k then setBf (s.reg k ||| w32 b) 31 24 (bf (s.reg k) 31 24 + 1) else s.reg j :=
  reg_setReg s k j _

end Sys2Proof.Machine
end

