-- ==== Sys2Proof/Laws/Memory.lean ====
section
/-!
SUPPORT. Laws/Memory.lean: every operation on a memory keeps its canonical form, and reads back what it wrote.
-/
namespace Sys2Proof.Machine

/-- A store whose listed keys have the same default under `e` is as canonical under `e`. -/
theorem stWfFrom_congr {α : Type} [DecidableEq α] {d e : Nat → α} {m : Store α} {lo : Nat} (h : ∀ x, x ∈ m → d x.1 = e x.1) :
    stWfFrom d lo m = stWfFrom e lo m := by
  induction m generalizing lo with
  | nil => rfl
  | cons x t ih =>
    obtain ⟨a, v⟩ := x
    simp only [stWfFrom]
    rw [h (a, v) (by simp), ih (fun y hy => h y (by simp [hy]))]

theorem setReg_regs_wf {s : State} (k : Nat) (v : Word) (w : stWf regReset s.regs = true) : stWf regReset (s.setReg k v).regs = true :=
  stWf_set regReset k v w

theorem setStg_staged_wf {s : State} (k : Nat) (v : Word) (w : stWf regReset s.staged = true) :
    stWf regReset (s.setStg k v).staged = true :=
  stWf_set regReset k v w

theorem tcmWrite_wf {s : State} (a : Nat) (l : List Byte) (w : stWf tcmDef s.tcm = true) : stWf tcmDef (tcmWrite s a l).tcm = true :=
  memWrite_wf tcmDef s.tcm a l w

theorem flashProgram_wf {s : State} (cs a : Nat) (l : List Byte) (w : stWf flashDef s.flash = true) :
    stWf flashDef (flashProgram s cs a l).flash = true :=
  memWrite_wf flashDef _ _ _ (memWrite_wf flashDef s.flash _ _ w)

theorem flashErase_wf {s : State} (k n : Nat) (w : stWf flashDef s.flash = true) : stWf flashDef (flashErase s k n).flash = true :=
  stWf_filter flashDef _ w

theorem dramPut_wf {s : State} (line : Nat) (l : DLine) (w : stWf (dramDef s) s.dram = true) :
    stWf (dramDef (dramPut s line l)) (dramPut s line l).dram = true := by
  unfold dramPut
  split
  · exact stWf_set (dramDef s) line l w
  · exact w

theorem setPg_wf {s : State} (key : Nat) (f : PageE → PageE) (w : stWf (pgDef s) s.tmm.pages = true) :
    stWf (pgDef s) (setPg s key f).tmm.pages = true :=
  stWf_set (pgDef s) key _ w

/-- Writes one after the other keep the canonical form. -/
theorem foldl_set_wf {α β : Type} [DecidableEq α] (d : Nat → α) (l : List β) (k : β → Nat) (v : β → α) {m : Store α} (w : stWf d m = true) :
    stWf d (l.foldl (fun m e => stSet d m (k e) (v e)) m) = true := by
  induction l generalizing m with
  | nil => exact w
  | cons x t ih => exact ih (stWf_set d (k x) (v x) w)

theorem flashCutErase_wf {s : State} (k : Nat) (w : stWf flashDef s.flash = true) : stWf flashDef (flashCutErase s k).flash = true :=
  foldl_set_wf flashDef _ (fun (e : Nat × Byte) => e.1) (fun e => e.2) w

theorem drcCh_set_ne (s : State) {c e : Nat} (f : DrcCh → DrcCh) (h : e ≠ c) : drcCh (setDrc s c f) e = drcCh s e := by
  simp [drcCh, setDrc, upd, List.getD_eq_getElem?_getD, Ne.symm h]

/-- A channel's training drops its lines, and keeps the canonical form whatever its free contents become. -/
theorem dram_train_wf {s : State} (c : Nat) (f : DrcCh → DrcCh) (w : stWf (dramDef s) s.dram = true) :
    stWf (dramDef (setDrc { s with dram := s.dram.filter (fun e => chanOf s e.1 != c) } c f))
      (s.dram.filter (fun e => chanOf s e.1 != c)) = true := by
  refine Eq.trans (stWfFrom_congr (fun x hx => ?_)) (stWf_filter (dramDef s) (fun e => chanOf s e.1 != c) w)
  have hc : chanOf s x.1 ≠ c := by simpa using (List.mem_filter.mp hx).2
  show (⟨Config.freeLine (drcCh (setDrc _ c f) (chanOf s x.1)).epoch x.1, 0⟩ : DLine) = dramDef s x.1
  rw [drcCh_set_ne _ f hc]
  rfl

/-! ### Reads after writes -/

theorem dramGet_put_self {s : State} {line : Nat} (l : DLine) (h : drcUp s (chanOf s line) = true) :
    dramGet (dramPut s line l) line = l := by
  unfold dramPut
  rw [if_pos h]
  exact stGet_set_self (dramDef s) s.dram line l

theorem dramGet_put_ne {s : State} {line j : Nat} (l : DLine) (h : j ≠ line) : dramGet (dramPut s line l) j = dramGet s j := by
  unfold dramPut
  split
  · exact stGet_set_ne (dramDef s) s.dram l h
  · rfl

theorem pg_set_self (s : State) (key : Nat) (f : PageE → PageE) : stGet (pgDef s) (setPg s key f).tmm.pages key = f (pg s key) :=
  stGet_set_self (pgDef s) s.tmm.pages key _

theorem tcm_write_other {s : State} (a : Nat) (l : List Byte) {j : Nat} (h : j < a ∨ a + l.length ≤ j) :
    stGet tcmDef (tcmWrite s a l).tcm j = stGet tcmDef s.tcm j :=
  memWrite_other tcmDef s.tcm a l j h

theorem tcm_write_at {s : State} (a : Nat) (l : List Byte) {i : Nat} (h : i < l.length) :
    stGet tcmDef (tcmWrite s a l).tcm (a + i) = l[i] :=
  memWrite_at tcmDef s.tcm a l i h

/-- An erased range reads as erased flash; every other byte of flash is as it was. -/
theorem flashErase_outside {s : State} (k n : Nat) {j : Nat} (h : j < k ∨ k + n ≤ j) :
    stGet flashDef (flashErase s k n).flash j = stGet flashDef s.flash j := by
  unfold flashErase
  generalize s.flash = m
  induction m with
  | nil => rfl
  | cons e t ih =>
    obtain ⟨a, v⟩ := e
    simp only [List.filter_cons]
    split
    · simp only [stGet]
      split
      · rfl
      · exact ih
    · rename_i hp
      have : a ≠ j := by
        rintro rfl
        simp at hp
        omega
      simp only [stGet, this, if_false]
      exact ih

/-! ### The whole state -/

/-- A register write keeps every memory's canonical form. -/
theorem Memory.wf_setReg {s : State} (k : Nat) (v : Word) (w : Memory.wf s = true) : Memory.wf (s.setReg k v) = true := by
  simp only [Memory.wf, Bool.and_eq_true] at w ⊢
  exact ⟨⟨⟨⟨w.1.1.1.1, w.1.1.1.2⟩, w.1.1.2⟩, setReg_regs_wf k v w.1.2⟩, w.2⟩

theorem Memory.wf_setStg {s : State} (k : Nat) (v : Word) (w : Memory.wf s = true) : Memory.wf (s.setStg k v) = true := by
  simp only [Memory.wf, Bool.and_eq_true] at w ⊢
  exact ⟨⟨⟨⟨w.1.1.1.1, w.1.1.1.2⟩, w.1.1.2⟩, w.1.2⟩, setStg_staged_wf k v w.2⟩

theorem Memory.wf_tcmWrite {s : State} (a : Nat) (l : List Byte) (w : Memory.wf s = true) : Memory.wf (tcmWrite s a l) = true := by
  simp only [Memory.wf, Bool.and_eq_true] at w ⊢
  exact ⟨⟨⟨⟨w.1.1.1.1, tcmWrite_wf a l w.1.1.1.2⟩, w.1.1.2⟩, w.1.2⟩, w.2⟩

theorem Memory.wf_flashProgram {s : State} (cs a : Nat) (l : List Byte) (w : Memory.wf s = true) :
    Memory.wf (flashProgram s cs a l) = true := by
  simp only [Memory.wf, Bool.and_eq_true] at w ⊢
  exact ⟨⟨⟨⟨flashProgram_wf cs a l w.1.1.1.1, w.1.1.1.2⟩, w.1.1.2⟩, w.1.2⟩, w.2⟩

theorem Memory.wf_flashErase {s : State} (k n : Nat) (w : Memory.wf s = true) : Memory.wf (flashErase s k n) = true := by
  simp only [Memory.wf, Bool.and_eq_true] at w ⊢
  exact ⟨⟨⟨⟨flashErase_wf k n w.1.1.1.1, w.1.1.1.2⟩, w.1.1.2⟩, w.1.2⟩, w.2⟩

theorem Memory.wf_dramPut {s : State} (line : Nat) (l : DLine) (w : Memory.wf s = true) : Memory.wf (dramPut s line l) = true := by
  simp only [Memory.wf, Bool.and_eq_true] at w ⊢
  refine ⟨⟨⟨⟨?_, ?_⟩, dramPut_wf line l w.1.1.2⟩, ?_⟩, ?_⟩ <;> (unfold dramPut; split)
  all_goals first
    | exact w.1.1.1.1
    | exact w.1.1.1.2
    | exact w.1.2
    | exact w.2

end Sys2Proof.Machine
end

