-- ==== Sys2Proof/Laws/Ops.lean ====
section
/-!
SUPPORT. Laws/Ops.lean: what the shared operations can change: event bits and messages touch registers and the event controller; wake
latches, counters, offers and fault raises touch what `maskRep` hides, and nothing else.
-/
namespace Sys2Proof.Machine

/-- A state with its registers and its event controller blanked: what an event leaves as it is. -/
def maskEvt (s : State) : State := { s with regs := [], evc := evcFresh }

/-- A state with all that reports of events and faults may touch blanked. -/
def maskRep (s : State) : State :=
  { maskEvt s with
    pcu := pcuFresh, evs := evsResetSt none false, isl := islFresh 0 0, flt := fltFresh, effects := [], free := 0 }

theorem maskRep_of_maskEvt {s t : State} (h : maskEvt t = maskEvt s) : maskRep t = maskRep s :=
  congrArg (fun (x : State) => ({ x with
    pcu := pcuFresh, evs := evsResetSt none false, isl := islFresh 0 0, flt := fltFresh, effects := [], free := 0 } : State)) h

/-- Two states that agree under `maskRep` differ in what it hides alone. -/
theorem eq_of_maskRep {s t : State} (h : maskRep t = maskRep s) :
    t = { s with
      regs := t.regs, evc := t.evc, pcu := t.pcu, evs := t.evs, isl := t.isl, flt := t.flt, effects := t.effects, free := t.free } := by
  cases s
  cases t
  simp only [maskRep, maskEvt, State.mk.injEq, true_and] at h ⊢
  simp only [h, and_self]

theorem eq_of_maskEvt {s t : State} (h : maskEvt t = maskEvt s) : t = { s with regs := t.regs, evc := t.evc } := by
  cases s
  cases t
  simp only [maskEvt, State.mk.injEq, true_and] at h ⊢
  simp only [h, and_self]

/-! ### Registers and events -/

@[simp] theorem maskEvt_setReg (s : State) (k : Nat) (v : Word) : maskEvt (s.setReg k v) = maskEvt s := rfl
@[simp] theorem maskEvt_setFld (s : State) (k hi lo v : Nat) : maskEvt (s.setFld k hi lo v) = maskEvt s := rfl
@[simp] theorem maskEvt_setRegBit (s : State) (k b : Nat) : maskEvt (s.setRegBit k b) = maskEvt s := rfl
@[simp] theorem maskEvt_sqBits (s : State) (k bits : Nat) : maskEvt (sqBits s k bits) = maskEvt s := rfl
@[simp] theorem maskEvt_inc (s : State) (k : Nat) : maskEvt (s.inc k) = maskEvt s := by
  unfold State.inc
  split <;> rfl
@[simp] theorem maskEvt_incBy (s : State) (k n : Nat) : maskEvt (s.incBy k n) = maskEvt s := rfl

@[simp] theorem maskEvt_evcPend (s : State) (src : Nat) : maskEvt (evcPend s src) = maskEvt s := by
  unfold evcPend
  dsimp only
  split <;> rfl

@[simp] theorem maskEvt_evcDropped (s : State) : maskEvt (evcDropped s) = maskEvt s := by
  unfold evcDropped
  rw [maskEvt_evcPend, maskEvt_sqBits, maskEvt_inc]

/-- Events queued, with drops that touch registers and the event controller alone, touch no more. -/
theorem maskEvt_evcQueueWith {drop : State → State} (hd : ∀ s, maskEvt (drop s) = maskEvt s) (t k src info : Nat)
    (l : List AgentRec) (s : State) : maskEvt (evcQueueWith drop t k src info l s) = maskEvt s := by
  unfold evcQueueWith
  induction l generalizing s with
  | nil => rfl
  | cons r l ih =>
    rw [List.foldl_cons, ih]
    unfold evcQueueOne
    dsimp only
    split
    · rfl
    · exact hd _

@[simp] theorem maskEvt_evcDropTold (s : State) : maskEvt (evcDropTold s) = maskEvt s := by
  unfold evcDropTold
  dsimp only
  split
  · rw [maskEvt_evcQueueWith maskEvt_evcDropped, maskEvt_evcDropped]
  · exact maskEvt_evcDropped s

@[simp] theorem maskEvt_evcQueueAll (t k src info : Nat) (l : List AgentRec) (s : State) :
    maskEvt (evcQueueAll t k src info l s) = maskEvt s := maskEvt_evcQueueWith maskEvt_evcDropTold t k src info l s

/-- A source's pending bit set, with its messages, touches registers and the event controller alone. -/
@[simp] theorem maskEvt_evcSet (s : State) (src info : Nat) : maskEvt (evcSet s src info) = maskEvt s := by
  unfold evcSet
  split
  · rfl
  · dsimp only
    split
    · rw [maskEvt_evcQueueAll, maskEvt_evcPend]
    · exact maskEvt_evcPend s src

/-- So do the events of an SQ register. -/
@[simp] theorem maskEvt_sqEvt (s : State) (k bits : Nat) : maskEvt (sqEvt s k bits) = maskEvt s := by
  unfold sqEvt
  dsimp only
  split
  · rw [maskEvt_evcSet, maskEvt_sqBits]
  · rfl

/-! ### Latches, counters, offers and raises -/

@[simp] theorem maskRep_setReg (s : State) (k : Nat) (v : Word) : maskRep (s.setReg k v) = maskRep s := rfl
@[simp] theorem maskRep_setFld (s : State) (k hi lo v : Nat) : maskRep (s.setFld k hi lo v) = maskRep s := rfl
@[simp] theorem maskRep_sqBits (s : State) (k bits : Nat) : maskRep (sqBits s k bits) = maskRep s := rfl
@[simp] theorem maskRep_later (s : State) (e : Effect) : maskRep (s.later e) = maskRep s := rfl
@[simp] theorem maskRep_fresh (s : State) : maskRep s.fresh = maskRep s := rfl
@[simp] theorem maskRep_inc (s : State) (k : Nat) : maskRep (s.inc k) = maskRep s := maskRep_of_maskEvt (maskEvt_inc s k)
@[simp] theorem maskRep_evcSet (s : State) (src info : Nat) : maskRep (evcSet s src info) = maskRep s :=
  maskRep_of_maskEvt (maskEvt_evcSet s src info)
@[simp] theorem maskRep_sqEvt (s : State) (k bits : Nat) : maskRep (sqEvt s k bits) = maskRep s :=
  maskRep_of_maskEvt (maskEvt_sqEvt s k bits)

@[simp] theorem maskRep_startIsl (s : State) (i : Nat) : maskRep (startIsl s i) = maskRep s := by
  unfold startIsl
  split <;> rfl

@[simp] theorem maskRep_setLatch (s : State) (b : Nat) : maskRep (setLatch s b) = maskRep s := by
  unfold setLatch
  split
  · rfl
  · split
    · dsimp only
      split <;> split <;> simp
    · simp

@[simp] theorem maskRep_pcuAdd (s : State) (n k : Nat) : maskRep (pcuAdd s n k) = maskRep s := by
  unfold pcuAdd
  dsimp only
  split
  · rfl
  · rw [maskRep_sqEvt]
    rfl

@[simp] theorem maskRep_pcu (ev q k : Nat) (s : State) : maskRep (pcu ev q k s) = maskRep s := by
  unfold pcu
  split
  · rfl
  · rename_i h
    clear h
    generalize s.pcu.on = l
    induction l generalizing s with
    | nil => rfl
    | cons c l ih =>
      rw [List.foldl_cons]
      split
      · rw [ih, maskRep_pcuAdd]
      · exact ih s

@[simp] theorem maskRep_evsPush (s : State) (h : Bool) (typ : Nat) (p : List Byte) (log : Option Nat) :
    maskRep (evsPush s h typ p log) = maskRep s := by
  unfold evsPush
  rw [maskRep_sqEvt]
  rfl

@[simp] theorem maskRep_evsOffer (s : State) (typ : Nat) (p : List Byte) (log : Option Nat) :
    maskRep (evsOffer s typ p log).1 = maskRep s := by
  unfold evsOffer
  split
  · rw [maskRep_setLatch]
    rfl
  · dsimp only
    split <;> simp

@[simp] theorem maskRep_fltContain (s : State) (u : Nat) : maskRep (fltContain s u) = maskRep s := by
  unfold fltContain
  split
  · rfl
  · split <;> rfl

theorem maskRep_fltContains (l : List Nat) (s : State) : maskRep (l.foldl fltContain s) = maskRep s := by
  induction l generalizing s with
  | nil => rfl
  | cons u l ih => rw [List.foldl_cons, ih, maskRep_fltContain]

@[simp] theorem maskRep_fltRecorded (s : State) (n : Nat) : maskRep (fltRecorded s n) = maskRep s := by
  unfold fltRecorded
  dsimp only
  split <;> rfl

@[simp] theorem maskRep_fltOffer (s : State) (p : List Byte) (n : Nat) : maskRep (fltOffer s p n) = maskRep s := by
  unfold fltOffer
  split
  · have h := maskRep_evsOffer s 6 p (some n)
    split
    · rename_i e; rw [e] at h; rw [maskRep_fltRecorded]; exact h
    · rename_i e; rw [e] at h; exact h
    · rename_i e; rw [e] at h; exact h
  · split
    · rfl
    · exact maskRep_sqEvt s _ _

@[simp] theorem maskRep_fltLog (s : State) (c act info : Nat) : maskRep (fltLog s c act info) = maskRep s := by
  unfold fltLog
  dsimp only
  rw [maskRep_setReg, maskRep_setReg, maskRep_setReg, maskRep_setReg, maskRep_setReg]
  split
  · exact maskRep_sqEvt s _ _
  · rfl

@[simp] theorem maskRep_fltLevel (b : Word) (s : State) : maskRep (fltLevel b s) = maskRep s := by
  unfold fltLevel
  split
  · exact maskRep_evcSet s _ _
  · rfl

theorem maskRep_setFlt (s : State) (f : FltSt) : maskRep { s with flt := f } = maskRep s := rfl

/-- A raise touches registers, events, counters, the evidence store's queue, islands, the fault state and what follows. -/
@[simp] theorem maskRep_raise (s : State) (c info : Nat) : maskRep (raise s c info) = maskRep s := by
  simp only [raise, apply_ite maskRep, maskRep_fltOffer, maskRep_setLatch, maskRep_fltLevel, maskRep_evcSet, maskRep_fltLog, maskRep_later,
    maskRep_setFlt, maskRep_fltContains, maskRep_setFld, maskRep_sqBits, ite_self]

@[simp] theorem maskRep_lockViol (s : State) (causes src key : Nat) : maskRep (lockViol s causes src key) = maskRep s := by
  unfold lockViol
  dsimp only
  rw [maskRep_fltLevel, maskRep_raise, maskRep_setReg, maskRep_sqEvt]

/-! ### The end of a command -/

@[simp] theorem finish_pending (s0 s : State) : (finish s0 s).pending = s0.pending := rfl
@[simp] theorem finish_variant (s0 s : State) : (finish s0 s).variant = s0.variant := rfl

end Sys2Proof.Machine
end

