-- ==== Sys2Proof/Laws/Quiet.lean ====
section
/-!
SUPPORT. Laws/Quiet.lean: in a quiet state nothing follows a command.
-/
namespace Sys2Proof.Machine

theorem effectsRun_nil {s : State} (h : s.effects = []) : effectsRun s = s := by
  show effectLoop (511 + 1) s = s
  unfold effectLoop
  rw [h]

theorem foldl_id {α β : Type} (f : β → α → β) (l : List α) (b : β) (h : ∀ x, x ∈ l → f b x = b) : l.foldl f b = b := by
  induction l with
  | nil => rfl
  | cons x t ih =>
    rw [List.foldl_cons, h x (by simp)]
    exact ih (fun y hy => h y (by simp [hy]))

theorem blocksGo_quiet {s : State} (h1 : haBusy s = false) (h2 : tmmBusy s = false) (h3 : s.chz.q.isEmpty = true)
    (h4 : rcBusy s = false) (h5 : acqBusy s = false) (h6 : lthBusy s = false) (h7 : valleyBusy s = false)
    (h8 : s.cp.frame.isNone = true) (h9 : s.tap.acc.isNone = true) : blocksGo s = s := by
  rw [Option.isNone_iff_eq_none] at h8 h9
  simp [blocksGo, h1, h2, h3, h4, h5, h6, h7, h8, h9]

theorem goOn_quiet {s : State} (n : Nat) (h0 : s.effects = []) (h : blocksGo s = s) : goOn n s = s := by
  induction n with
  | zero => rfl
  | succ n ih => rw [goOn, h, effectsRun_nil h0, ih]

theorem portIsls_quiet {s : State} (h : 2 ≤ s.depth ∨
    (List.range (nPorts s)).all (fun p => ((portOf s p).mode != .disabled) == s.running (13 + p)) = true) : portIsls s = s := by
  unfold portIsls
  split
  · rename_i hd
    rcases h with h | h
    · omega
    · refine foldl_id _ _ _ (fun p hp => ?_)
      have := List.all_eq_true.mp h p hp
      unfold portIsl
      simp only [this, if_true]
  · rfl

/-- In a quiet state nothing follows a command, whatever the state before it. -/
theorem follow_quiet {s : State} (s0 : State) (h : Quiet s = true) : follow s0 s = s := by
  simp only [Quiet, Bool.and_eq_true, Bool.not_eq_true', List.isEmpty_iff, beq_iff_eq, Bool.or_eq_true, decide_eq_true_eq] at h
  obtain ⟨⟨⟨⟨⟨⟨⟨⟨⟨⟨⟨⟨⟨he, hp⟩, h1⟩, h2⟩, h3⟩, h4⟩, h5⟩, h6⟩, h7⟩, h8⟩, h9⟩, hc⟩, hi⟩, hl⟩ := h
  have hb : blocksGo s = s := blocksGo_quiet h1 h2 (by simp [h3]) h4 h5 h6 h7 h8 h9
  have hpi : portIsls s = s := portIsls_quiet hi
  have hpc : pcuLevels 0 s = s := by
    unfold pcuLevels
    split
    · rfl
    · simp only [hc, List.foldl_nil, List.map_nil]
      rw [← hc]
  simp only [follow, effectsRun_nil he, hp, goOn_quiet 3 he hb, hpi, hpc]
  simp [irqCount, hc, levelsSet, hl]

/-- In a quiet state with the queue and the variant of the state before, the command ends there. -/
theorem finish_quiet {s0 s : State} (h : Quiet s = true) (hp : s.pending = s0.pending) (hv : s.variant = s0.variant) :
    finish s0 s = s := by
  rw [finish, follow_quiet s0 h, ← hp, ← hv]

end Sys2Proof.Machine
end

