-- ==== Sys2Proof/Laws/Rows.lean ====
section
/-!
SUPPORT. Laws/Rows.lean: what a register write comes to: the guards of the write rows, the fields of the word, and its commands.
-/
namespace Sys2Proof.Machine

/-- A write row whose register takes it is that register's write. -/
theorem rowWrite_takes {s : State} {src : Src} {k : Nat} (w : Word) (h : Takes s src k) :
    rowWrite s src k w = (regWrite s src k none w).1 := by
  obtain ⟨h1, r, ix, h2, h3, h4⟩ := h
  simp [rowWrite, h1, anyWrite, h2, h3, h4]

/-- An event in a clocked island occurs. -/
theorem onIsl_clocked {s : State} {i : Nat} (f : State → State) (h : Clocked s i) : onIsl i f s = f s := by
  simp [onIsl, h.1, h.2]

/-- The staged copy after a write of one. -/
theorem stg_setStg (s : State) (k j : Nat) (v : Word) : (s.setStg k v).stg j = if j = k then v else s.stg j := by
  split
  · rename_i h; subst h; exact stGet_set_self regReset s.staged _ v
  · rename_i h; exact stGet_set_ne regReset s.staged v h

@[simp] theorem reg_setStg (s : State) (k j : Nat) (v : Word) : (s.setStg k v).reg j = s.reg j := rfl
@[simp] theorem stg_setReg (s : State) (k j : Nat) (v : Word) : (s.setReg k v).stg j = s.stg j := rfl

/-- Parity computed afresh changes parity errors alone. -/
theorem parFresh_shape (s : State) (k : Nat) (st : Bool) :
    ∃ l, parFresh s k st = { s with parErr := l } ∧ ∀ e, e ∈ l → e ∈ s.parErr :=
  ⟨_, rfl, fun _ h => (List.mem_filter.mp h).1⟩

theorem parWritten_shape (s : State) (k : Nat) (r : RegRow) (m : Word) :
    ∃ l, parWritten s k r m = { s with parErr := l } ∧ ∀ e, e ∈ l → e ∈ s.parErr := by
  unfold parWritten
  split
  · exact ⟨s.parErr, rfl, fun _ h => h⟩
  · dsimp only
    obtain ⟨l1, h1, h2⟩ : ∃ l, (if shMask r.fields &&& m ≠ 0 then parFresh s k true else s) = { s with parErr := l } ∧
        ∀ e, e ∈ l → e ∈ s.parErr := by
      split
      · exact parFresh_shape s k true
      · exact ⟨s.parErr, rfl, fun _ h => h⟩
    rw [h1]
    split
    · obtain ⟨l2, h3, h4⟩ := parFresh_shape { s with parErr := l1 } (parKey k) false
      exact ⟨l2, h3, fun e h => h2 e (h4 e h)⟩
    · exact ⟨l1, rfl, h2⟩

/-! ### One field of a word written whole -/

section
variable (s : State) (src : Src) (w : Word) (a : WAcc) (name : String) (dom rst : Nat) (cond : FCond)

/-- An RW field takes its bits of the word. -/
theorem fldWrite_rw {hi lo : Nat} (h : hi < 32) (h2 : lo ≤ hi) :
    fldWrite s src false 4294967295#32 w a ⟨hi, lo, name, .rw, dom, cond, rst⟩ = { a with reg := setBf a.reg hi lo (bf w hi lo) } := by
  simp only [fldWrite, fmask_and_all, if_neg (fmask_ne_zero h h2), merge_eq_setBf _ _]

/-- A command field with a nonzero value is a command. -/
theorem fldWrite_cmd {hi lo : Nat} (h : hi < 32) (h2 : lo ≤ hi) :
    fldWrite s src false 4294967295#32 w a ⟨hi, lo, name, .cmd, dom, cond, rst⟩ =
      if bf w hi lo = 0 then a else { a with cmds := (lo, bf w hi lo) :: a.cmds } := by
  simp only [fldWrite, fmask_and_all, if_neg (fmask_ne_zero h h2), and_fmask_eq_zero _ h, bf_and_fmask _ h]

/-- A lockable command field, not locked. -/
theorem fldWrite_cmdlk {hi lo : Nat} (h : hi < 32) (h2 : lo ≤ hi)
    (hg : guarded src ⟨hi, lo, name, .cmdlk, dom, cond, rst⟩ = false) (hl : lockCauses s ⟨hi, lo, name, .cmdlk, dom, cond, rst⟩ = 0) :
    fldWrite s src false 4294967295#32 w a ⟨hi, lo, name, .cmdlk, dom, cond, rst⟩ =
      if bf w hi lo = 0 then a else { a with cmds := (lo, bf w hi lo) :: a.cmds } := by
  simp only [fldWrite, fmask_and_all, if_neg (fmask_ne_zero h h2), and_fmask_eq_zero _ h, bf_and_fmask _ h, hg, hl]
  simp

/-- A lockable field, not locked, takes its bits of the word. -/
theorem fldWrite_lk {hi lo : Nat} (h : hi < 32) (h2 : lo ≤ hi)
    (hg : guarded src ⟨hi, lo, name, .lk, dom, cond, rst⟩ = false) (hl : lockCauses s ⟨hi, lo, name, .lk, dom, cond, rst⟩ = 0) :
    fldWrite s src false 4294967295#32 w a ⟨hi, lo, name, .lk, dom, cond, rst⟩ = { a with reg := setBf a.reg hi lo (bf w hi lo) } := by
  simp only [fldWrite, fmask_and_all, if_neg (fmask_ne_zero h h2), merge_eq_setBf _ _, hg, hl]
  simp

theorem fldWrite_ro (m : Word) (hi lo : Nat) (one : Bool) : fldWrite s src one m w a ⟨hi, lo, name, .ro, dom, cond, rst⟩ = a := by
  simp [fldWrite]

theorem fldWrite_lv (m : Word) (hi lo : Nat) (one : Bool) : fldWrite s src one m w a ⟨hi, lo, name, .lv, dom, cond, rst⟩ = a := by
  simp [fldWrite]

theorem fldWrite_seq (m : Word) (hi lo : Nat) (one : Bool) : fldWrite s src one m w a ⟨hi, lo, name, .seq, dom, cond, rst⟩ = a := by
  simp [fldWrite]

end

/-! ### The word -/

/-- What the fields of a word come to. -/
def fieldsAcc (s : State) (src : Src) (key : Nat) (r : RegRow) (mask w : Word) : WAcc :=
  r.fields.foldl (fldWrite s src false mask w) ⟨s.reg key, s.stg key, [], 0, false, false⟩

/-- A write that stages nothing and meets no lock writes its register alone. -/
theorem fieldsWrite_written {s : State} {src : Src} {key : Nat} {r : RegRow} {ix : List Nat} {mask w : Word}
    (ht : (fieldsAcc s src key r mask w).took = false) (hc : (fieldsAcc s src key r mask w).causes = 0)
    (hs : (fieldsAcc s src key r mask w).stg = s.stg key) :
    Written key (fieldsAcc s src key r mask w).reg s (fieldsWrite s src key r ix false 0 mask w).1
      ∧ (fieldsWrite s src key r ix false 0 mask w).2 = fieldsAcc s src key r mask w := by
  have hm : mask &&& ~~~(0 : Word) = mask := by rw [show ~~~(0 : Word) = BitVec.allOnes 32 from rfl, BitVec.and_allOnes]
  have hj : fieldsJudge s src key r false 0 mask w = fieldsAcc s src key r mask w := by
    unfold fieldsJudge fieldsAcc
    simp only [hm, true_or, if_true]
  have hx : (fieldsWrite s src key r ix false 0 mask w).1 =
      ((parWritten s key r mask).setReg key (fieldsAcc s src key r mask w).reg).setStg key (fieldsAcc s src key r mask w).stg := by
    simp only [fieldsWrite, hj, ht, hc, hm, if_true, Bool.false_eq_true, if_false]
  refine ⟨?_, hj⟩
  rw [hx]
  obtain ⟨l, h1, h2⟩ := parWritten_shape s key r mask
  rw [h1]
  refine ⟨by simp, fun j h => ?_, fun j => ?_, fun e h => h2 e h, rfl⟩
  · rw [reg_setStg, reg_setReg_ne _ _ h]; rfl
  · rw [stg_setStg, hs]
    split
    · rename_i h; rw [h]
    · rfl

/-- A register write of a listed register that no block writes in a way of its own. -/
theorem regWrite_listed {s : State} {src : Src} {k : Nat} {w : Word} {r : RegRow} {ix : List Nat} (hr : regAt k = some (r, ix))
    (hc : src = .cp ∨ cpOnly k = false) (ht : ¬(0xF10000 ≤ k ∧ k < 0xF50000)) (ho : ownWrite s src k (-1) w = none) :
    (regWrite s src k none w).1 =
      (cmdSeq k (fieldsWrite (writeIgnored s k) src k r ix false (writeGate s k w) (-1) w).2.cmds).foldl (regCmd k)
        (regHook k (-1) w s (fieldsWrite (writeIgnored s k) src k r ix false (writeGate s k w) (-1) w).1) := by
  have h1 : ¬(src ≠ .cp ∧ cpOnly k = true) := by
    rcases hc with h | h
    · simp [h]
    · simp [h]
  have h2 : ¬(0xF10000 ≤ k ∧ k < 0xF50000 ∧ (!tblOpen s) = true) := fun h => ht ⟨h.1, h.2.1⟩
  unfold regWrite
  rw [hr]
  simp only [aliasMask, if_neg h1, if_neg h2, ho, Option.isSome_none]

/-- A register write in the common case: the register is written, what its block does with the new word follows, then its commands. -/
theorem regWrite_common {s : State} {src : Src} {k : Nat} {w v : Word} {r : RegRow} {ix : List Nat} {l : List (Nat × Nat)}
    (hr : regAt k = some (r, ix)) (hc : src = .cp ∨ cpOnly k = false) (ht : ¬(0xF10000 ≤ k ∧ k < 0xF50000))
    (ho : ownWrite s src k (-1) w = none) (hg : writeGate s k w = 0) (hi : writeIgnored s k = s)
    (hv : (fieldsAcc s src k r (-1) w).reg = v) (hl : (fieldsAcc s src k r (-1) w).cmds = l)
    (hca : (fieldsAcc s src k r (-1) w).causes = 0) (htk : (fieldsAcc s src k r (-1) w).took = false)
    (hst : (fieldsAcc s src k r (-1) w).stg = s.stg k) :
    ∃ b, Written k v s b ∧ (regWrite s src k none w).1 = (cmdSeq k l).foldl (regCmd k) (regHook k (-1) w s b) := by
  refine ⟨(fieldsWrite s src k r ix false 0 (-1) w).1, ?_, ?_⟩
  · rw [← hv]
    exact (fieldsWrite_written htk hca hst).1
  · rw [regWrite_listed hr hc ht ho, hi, hg, (fieldsWrite_written htk hca hst).2, hl]

end Sys2Proof.Machine
end

