-- ==== Sys2Proof/Tests/Fixtures.lean ====
section
/-!
SUPPORT. Tests/Fixtures.lean: small states for the witnesses that the statements' hypotheses can be met, and lemmas that turn such a
hypothesis into an evaluation.
-/
open Sys2Proof Sys2Proof.Machine

/-- `Takes` as an evaluation. -/
def takesB (s : State) (src : Src) (k : Nat) : Bool :=
  (if src = .cp then cpAnswers s else icStoreOk k) && match regHere s k with
    | some (r, ix) => s.running (rowIsland r ix) && !stalled s (rowIsland r ix)
    | none => false

theorem takes_of_eval {s : State} {src : Src} {k : Nat} (h : takesB s src k = true) : Takes s src k := by
  unfold Takes Clocked
  unfold takesB at h
  cases hr : regHere s k with
  | none => simp [hr] at h
  | some x =>
    obtain ⟨r, ix⟩ := x
    simp only [hr, Bool.and_eq_true, Bool.not_eq_true'] at h
    refine ⟨?_, r, ix, rfl, h.2⟩
    by_cases hs : src = .cp
    · simpa [hs] using h.1
    · simpa [hs] using h.1

theorem takes_all_of_eval {s : State} {src : Src} {l : List Nat} (h : l.all (takesB s src) = true) : ∀ k, k ∈ l → Takes s src k :=
  fun k hk => takes_of_eval (List.all_eq_true.mp h k hk)

/-- A state with part of its island control changed. -/
def tIsl (f : IslSt → IslSt) : State := { State.reset with isl := f State.reset.isl }

/-- A state in which port 0 is active in a session, and agent 1, caching, is attached there. -/
def tLink : State :=
  let s := setPort State.reset 0 (fun (q : PortSt) => { q with mode := .active, session := true, epoch := 1, adv := [64, 64, 64, 64, 64, 64] })
  { s with lnk := { s.lnk with agents := [⟨1, 0, 0, true, some 0, false⟩] } }

/-- A state whose record core is changed, its firmware running. -/
def tRc (f : RcSt → RcSt) : State := { State.reset.setReg Ad.RCC_BOOT_STATUS 0 with rc := f rcFresh }

/-- A request of agent 1. -/
def wReq (k : ReqKind) : ReqMsg := ⟨k, 1, 1, 0, 7, 0, false, 0, 3, 9, 0, 0⟩

/-- A tracker of agent 1's request, on line 3 of tenant 0. -/
def wTrk (k : ReqKind) (ph : TrkPh) : Trk := ⟨5, ⟨0, 0, wReq k, none, false, false, false, false⟩, ph, 0, 3, 0, [], .none, false⟩

/-- `LevelsPending` as an evaluation. -/
theorem levelsPending_of_eval {s : State}
    (h : (List.range 32).all (fun src => !levelOn s src || bit (s.reg (Ad.EVC_PEND 0)) src) = true) : LevelsPending s := by
  intro _ src hs hl
  have := List.all_eq_true.mp h src (List.mem_range.mpr hs)
  simpa [hl] using this

/-- That a command answers a next state, as an evaluation. -/
theorem next_of_eval {o : Host.Outcome State Fault Refusal}
    (h : (match o with | .next _ => true | _ => false) = true) : ∃ t, o = .next t := by
  cases o with
  | next t => exact ⟨t, rfl⟩
  | _ => simp at h

/-- An OTP row that holds the SHA-256 digest of a key. -/
def hashRow (row : Nat) (key : List Byte) : OtpRow :=
  let h := sha256 key
  ⟨row, (List.range 8).map (fun i => w32 (ofBytesLE ((h.drop (4 * i)).take 4))), false, 0, 0⟩

/-- A state with one more OTP row. -/
def tOtp (s : State) (r : OtpRow) : State := { s with otp := { s.otp with rows := r :: s.otp.rows } }

/-- A P-256 public key, that of the private key 5. -/
def tKey : List Byte := toBytesBE 64 (0x51590B7A515140D2D784C85608668FDFEF8C82FD1F5BE52421554A0DC3D033ED * 2 ^ 256 +
  0xE0C17DA8904A727D8AE1BF36BF8A79260D012F00D4D80888D1D0BB44FDA16DA4)
end

