-- ==== Sys2Proof/WellFormed.lean ====
section
/-!
DEFINITION. WellFormed.lean: which commands are well formed: the ranges that the spec gives their operands. The meanings take any
operands; this says which of them the world can bring.
-/
namespace Sys2Proof

/-- Ports 0 to 15 (R155). -/
def portOk (p : Nat) : Bool := decide (p < 16)

/-- DRAM channels 0 to 7. -/
def chanOk (c : Nat) : Bool := decide (c < 8)

/-- Tenants 0 to 1,023 (R22). -/
def tenantOk (t : Nat) : Bool := decide (t < 1024)

/-- Element `n` of an array of `k`. -/
def indexOk (k n : Nat) : Bool := decide (n < k)

/-- A field of four bits: TAG and LEN of a frame (Table 3-1), K of CP_TBL_CTRL. -/
def nibbleOk (x : Nat) : Bool := decide (x < 16)

/-- A word address of the control port (Table 3-1). -/
def cpAddrOk (a : Nat) : Bool := decide (a < 4096)

/-- A WR frame carries LEN + 1 words (Table 3-1). -/
def wordsOk (len : Nat) (words : List Word) : Bool := words.length == len + 1

/-- An OPC that Table 3-2 does not define. -/
def undefOpcOk (opc : Nat) : Bool := opc == 0 || (decide (3 < opc) && decide (opc < 16))

/-- The frame of a late rise: a defined OPC, with its words. -/
def lateOk (opc len : Nat) (words : List Word) : Bool :=
  decide (1 ≤ opc ∧ opc ≤ 3) && (if opc = 2 then wordsOk len words else words.isEmpty)

/-- Codes of the monitored supplies (Table 21-4). -/
def supplyOk (c : Nat) : Bool := decide (35 ≤ c ∧ c ≤ 38)

/-- Latch sources that a pin sets (Table 2-5): WAKE_0 to WAKE_15, CP_CS_N, PPS_IN. -/
def wakeSrcOk (n : Nat) : Bool := decide (n ≤ 17)

/-- The core PLL, the DRAM PLL and those of the ports. -/
def pllOk (k : Nat) : Bool := decide (k < 18)

/-- The on-demand islands: CP, CHZ, EVS (Table 2-1). -/
def islandOk (i : Nat) : Bool := i == 2 || i == 30 || i == 31

/-- An unlock response: a signature and a key of 64 bytes each (R69). -/
def unlockOk (sig key : List Byte) : Bool := sig.length == 64 && key.length == 64

/-- Words of the table staging buffer (R153). -/
def stagingOk (i : Nat) : Bool := decide (i < 0x10000)

/-- ADV of a SYNC flit: one count for each of the six classes (R184). -/
def advOk (l : List Nat) : Bool := l.length == 6

/-- A flit header: a 12-bit acknowledge and count, up to seven slots, a credit class (Table 5-3), and the symbols the
decoder can correct (R168). -/
def hdrOk (h : FlitHdr) : Bool :=
  decide (h.ack < 4096) && decide (h.nslot < 8) && decide (h.cclass < 8) && decide (h.cfreed < 4096) && decide (h.corr ≤ 15)

/-- A request: an agent ID, a transaction, a flow, a tenant and a line within their fields (Tables 5-6 and 6-1). -/
def reqOk (m : ReqMsg) : Bool :=
  decide (m.mclass < 8) && decide (m.src < 256) && decide (m.dst < 256) && tenantOk m.tenant && decide (m.line < 2 ^ 32)

/-- A response: its head and fields within their widths (Tables 5-6 and 6-3). -/
def rspOk (m : RspMsg) : Bool :=
  decide (m.mclass < 8) && decide (m.src < 256) && decide (m.dst < 256) && decide (m.tag < 65536) && decide (m.htid < 65536)

/-- A doorbell (Table 13-5). -/
def doorOk (m : DoorMsg) : Bool := tenantOk m.tenant && decide (m.kind < 256) && decide (m.typ < 256) && decide (m.slot < 256)

/-- A KIND above 2 (R494). -/
def undefKindOk (m : DoorMsg) : Bool := decide (2 < m.kind)

/-- A TimeOfDay message (Table 12-1). -/
def todOk (m : TodMsg) : Bool := tenantOk m.tenant && decide (m.seconds < 2 ^ 48) && decide (m.speed < 65536)

/-- TMM opcodes that Table 8-1 does not list. -/
def tmmBadOk (op : Nat) : Bool := decide (12 < op) && decide (op < 256)

/-- PAS opcodes that are not defined (R357). -/
def pasBadOk (op : Nat) : Bool := decide (3 < op) && decide (op < 256)

/-- OTP operations that Table 20-3 does not list. -/
def otpBadOk (op : Byte) : Bool := decide (5 < op.toNat)

/-- The binding words of a descriptor (Table 8-17). -/
def bindOk (i : Nat) : Bool := decide (i < 8)

/-- What a check of stored bits finds: nothing, a corrected error, an uncorrectable one. -/
def eccOk (e : Nat) : Bool := decide (e ≤ 2)

/-- A register number. -/
def regNoOk (r : Nat) : Bool := decide (r < 32)

/-- A 12-bit immediate. -/
def immOk (i : Int) : Bool := decide (-2048 ≤ i ∧ i < 2048)

/-- A branch or jump offset: even, and within its field. -/
def offOk (bits : Nat) (o : Int) : Bool := decide (-(2 ^ bits : Int) ≤ o ∧ o < 2 ^ bits) && o % 2 == 0

/-- A squash within the queue, of lines of the tenant-0 window. -/
def squashOk (q : Squash) : Bool := decide (q.n ≤ 4) && q.lines.all (fun l => decide (l < 2 ^ 25))

/-- The operands of an integer, branch or jump instruction; there is no SUBI, and shift amounts are below 32. -/
def rvAluOk : RvAlu → Bool
  | .lui rd imm20 => regNoOk rd && decide (imm20 < 2 ^ 20)
  | .auipc rd imm20 => regNoOk rd && decide (imm20 < 2 ^ 20)
  | .jal rd off => regNoOk rd && offOk 20 off
  | .jalr rd rs1 imm => regNoOk rd && regNoOk rs1 && immOk imm
  | .branch _ rs1 rs2 off => regNoOk rs1 && regNoOk rs2 && offOk 12 off
  | .imm f rd rs1 imm => regNoOk rd && regNoOk rs1 && immOk imm && f != .sub &&
      (if f = .sll ∨ f = .srl ∨ f = .sra then decide (0 ≤ imm ∧ imm < 32) else true)
  | .reg _ rd rs1 rs2 => regNoOk rd && regNoOk rs1 && regNoOk rs2

/-- A CSR number. -/
def csrOk (n : Nat) : Bool := decide (n < 4096)

/-- An access width in bytes. -/
def widthOk (w : Nat) : Bool := w == 1 || w == 2 || w == 4

/-- A load's width; a word is loaded as it is. -/
def loadOk (w : Nat) (signed : Bool) : Bool := widthOk w && (w != 4 || signed)

/-- funct3 of a CX instruction. -/
def funct3Ok (f : Nat) : Bool := decide (f < 8)

/-- What DBG_ACCESS OP 8 names: the pc or a register (R70). -/
def dbgRegOk (n : Nat) : Bool := decide (n ≤ 32)

/-- The eight times of a sample (Table 17-4). -/
def tagOk (d : List Nat) : Bool := d.length == 8

/-- How a program ends: well, PROGRAM or VERIFY (Table 13-9). -/
def carveCodeOk (c : Nat) : Bool := c == 0 || c == 0x10 || c == 0x11

/-- The command is well formed: each operand in the range its row gives it. (DEDUCED, log 51.) -/
def Instr.wellFormed : Instr → Bool
  | .porstNAssert _ => true
  | .porstNRelease _ _ => true
  | .tcxoDetectTimeout => true
  | .wrstNAssert _ => true
  | .wrstNRelease _ _ => true
  | .droopReset _ _ _ _ => true
  | .supplyLoss => true
  | .vbatLoss => true
  | .supplyMonitorEvent code => supplyOk code
  | .supplyReturn code => supplyOk code
  | .valleyTargetWrite _ _ => true
  | .rcReadyWrite _ => true
  | .valleyDrainDone => true
  | .valleyRcLimitExpiry => true
  | .valleyDrainLimitExpiry => true
  | .wakeEdge src _ _ => wakeSrcOk src
  | .wakeReqWrite _ => true
  | .pllLock k => pllOk k
  | .valleyExitComplete => true
  | .islandIdleStop isl => islandOk isl
  | .autoReturnReentry => true
  | .pllLockLoss k => pllOk k
  | .refHoldExpiry => true
  | .trstNReset => true
  | .extest => true
  | .idcode => true
  | .samplePreload => true
  | .bypass => true
  | .unlockChal => true
  | .unlockResp _ sig key => unlockOk sig key
  | .unlockRespStatus => true
  | .debugUnlockTimeout => true
  | .dbgIcRead _ => true
  | .dbgIcWrite _ _ => true
  | .dbgWindowRead _ => true
  | .dbgWindowWrite _ _ => true
  | .dbgHalt => true
  | .dbgResume => true
  | .dbgStep => true
  | .dbgReadRegister n => dbgRegOk n
  | .dbgWarmReset _ _ => true
  | .cpFrameRd tag len addr _ _ => nibbleOk tag && nibbleOk len && cpAddrOk addr
  | .cpFrameWr tag len addr words _ _ => nibbleOk tag && nibbleOk len && cpAddrOk addr && wordsOk len words
  | .cpFrameNop tag len addr _ _ => nibbleOk tag && nibbleOk len && cpAddrOk addr
  | .cpFrameUndefinedOp opc tag len addr _ _ => nibbleOk tag && nibbleOk len && cpAddrOk addr && undefOpcOk opc
  | .cpCsEarlyRise => true
  | .cpCsLateRise opc tag len addr words _ => nibbleOk tag && nibbleOk len && cpAddrOk addr && lateOk opc len words
  | .cpStallExpiry _ => true
  | .cpPendingAccessDone => true
  | .cpStallFaultTimeout => true
  | .registerWrite _ _ _ => true
  | .updateStrobe _ _ => true
  | .updNEdge _ _ => true
  | .scheduledStrobe => true
  | .updArm _ => true
  | .updDisarm _ => true
  | .cpLockWrite _ _ => true
  | .cpLockStrictWrite _ _ => true
  | .parityCheck _ _ _ => true
  | .keyCheck _ => true
  | .keyCheckDone => true
  | .check _ => true
  | .tableCheckDone => true
  | .arm _ => true
  | .tableArmCopyDone => true
  | .disarm _ k => nibbleOk k
  | .clear _ => true
  | .stagingBufferWrite _ k _ => stagingOk k
  | .portSignalDetect p => portOk p
  | .equalizeDone p => portOk p
  | .equalizeTimeout p => portOk p
  | .alignLock p => portOk p
  | .syncTimer p => portOk p
  | .sync f _ _ _ _ adv => portOk f.port && hdrOk f.hdr && advOk adv
  | .flitReceiveSequenced p h seq _ _ => portOk p && hdrOk h && decide (seq < 4096)
  | .idle p h => portOk p && hdrOk h
  | .flitCrcFail f => portOk f.port
  | .codewordUncorrectable p => portOk p
  | .nak f _ => portOk f.port && hdrOk f.hdr
  | .nakTmrExpiry p => portOk p
  | .ackTmrExpiry p => portOk p
  | .replayTmrExpiry p => portOk p
  | .transmitFlit p => portOk p
  | .linkCmdRetrain _ p => portOk p
  | .partnerTrainingFrames p => portOk p
  | .codewordLockLoss p => portOk p
  | .retrainLimitExpiry p => portOk p
  | .downRetryTimer p => portOk p
  | .attachReq f _ _ _ _ _ => portOk f.port && hdrOk f.hdr
  | .attachAck f => portOk f.port && hdrOk f.hdr
  | .ctrlTmrExpiry p => portOk p
  | .detachReq f _ _ => portOk f.port && hdrOk f.hdr
  | .detach _ p => portOk p
  | .forceDetach _ p => portOk p
  | .detachTmrExpiry m => portOk m.port
  | .idQuarantineRelease _ => true
  | .lpiAck f => portOk f.port && hdrOk f.hdr
  | .parkAck p h => portOk p && hdrOk h
  | .parkTimeout p => portOk p
  | .readShared p m => portOk p && reqOk m
  | .readUnique p m => portOk p && reqOk m
  | .readOnce p m => portOk p && reqOk m
  | .readReserve p m => portOk p && reqOk m
  | .upgrade p m => portOk p && reqOk m
  | .writeFull p m => portOk p && reqOk m
  | .writePartial p m => portOk p && reqOk m
  | .writeConditional p m => portOk p && reqOk m
  | .cleanEvict p m => portOk p && reqOk m
  | .dirtyEvict p m => portOk p && reqOk m
  | .trackerAllocate => true
  | .translationWalkDone _ ue => decide (ue ≤ 3)
  | .lineActivate tenant _ err => eccOk err && tenantOk tenant
  | .data p m => portOk p && rspOk m
  | .dataPoison p m => portOk p && rspOk m
  | .ack p m => portOk p && rspOk m
  | .compack p m => portOk p && rspOk m
  | .compackTimeout _ => true
  | .dramReadReturn _ err => eccOk err
  | .snoopDeadlineExpiry _ _ => true
  | .poisonSweepDone _ => true
  | .detachSweepDone p _ => portOk p
  | .reservationExpiry _ => true
  | .backInvalidationDone _ => true
  | .evbEntryFree => true
  | .create _ t => tenantOk t
  | .release _ t => tenantOk t
  | .releaseSweepDone => true
  | .map _ t => tenantOk t
  | .unmap _ t => tenantOk t
  | .pin _ t => tenantOk t
  | .unpin _ t => tenantOk t
  | .loadSlot _ t => tenantOk t
  | .loadSlotFetchDone => true
  | .prefetch _ t => tenantOk t
  | .unloadSlot _ t => tenantOk t
  | .flip _ t => tenantOk t
  | .flipSweepDone => true
  | .refetch _ t => tenantOk t
  | .unbind _ t => tenantOk t
  | .unbindScanDone => true
  | .tmmBadOp _ op t => tenantOk t && tmmBadOk op
  | .tmmEnable _ _ => true
  | .dscBindWrite _ t k _ => tenantOk t && bindOk k
  | .blankFillDone _ => true
  | .foldScan => true
  | .foldJobDone _ _ => true
  | .unfoldDone _ _ => true
  | .pageHashDone _ => true
  | .srcFetchTimeout _ => true
  | .runAheadFetchStart => true
  | .grant _ pass => decide (pass < 256)
  | .modify _ pass => decide (pass < 256)
  | .revoke _ pass => decide (pass < 256)
  | .pasBadOp _ op pass => decide (pass < 256) && pasBadOk op
  | .train _ c => chanOk c
  | .drcTrainDone c _ _ => chanOk c
  | .mr4Poll c _ _ => chanOk c
  | .refreshDue c => chanOk c
  | .drcCommandIssue c _ => chanOk c
  | .patrolScrub c err => chanOk c && eccOk err
  | .correctiveWrite c => chanOk c
  | .ceWindowExpiry c => chanOk c
  | .accel _ c _ => chanOk c
  | .accelScrubEnd c => chanOk c
  | .drcRecalibration c _ => chanOk c
  | .rvAlu op _ miss => rvAluOk op && miss.all squashOk
  | .rvMulDiv _ rd rs1 rs2 => regNoOk rd && regNoOk rs1 && regNoOk rs2
  | .illegalInstruction _ => true
  | .rvLoad w signed rd rs1 imm _ ecc => regNoOk rd && regNoOk rs1 && immOk imm && eccOk ecc && loadOk w signed
  | .rvStore w rs1 rs2 imm _ => regNoOk rs1 && regNoOk rs2 && immOk imm && widthOk w
  | .lr rd rs1 ecc => regNoOk rd && regNoOk rs1 && eccOk ecc
  | .sc rd rs1 rs2 _ => regNoOk rd && regNoOk rs1 && regNoOk rs2
  | .amo _ rd rs1 rs2 ecc => regNoOk rd && regNoOk rs1 && regNoOk rs2 && eccOk ecc
  | .fence => true
  | .fenceI => true
  | .csrAccess _ _ n rd src => regNoOk rd && csrOk n && regNoOk src
  | .ecall => true
  | .ebreak => true
  | .mret => true
  | .wfi => true
  | .interruptTaken sq => squashOk sq
  | .storeBufferDrain _ => true
  | .loadFillReturn => true
  | .lrReservationExpiry => true
  | .lrSnoopHoldExpiry => true
  | .timecmpMatch => true
  | .dflush _ => true
  | .dflushDone => true
  | .iinv _ => true
  | .rgnLockWrite _ _ => true
  | .orderWrite _ _ _ => true
  | .bootImageCheck _ => true
  | .retry _ _ => true
  | .bootOfferReenter => true
  | .cxHinit rd rs1 rs2 f3 => regNoOk rd && regNoOk rs1 && regNoOk rs2 && funct3Ok f3
  | .cxHupd rd rs1 rs2 f3 => regNoOk rd && regNoOk rs1 && regNoOk rs2 && funct3Ok f3
  | .cxHfin rd rs1 rs2 f3 => regNoOk rd && regNoOk rs1 && regNoOk rs2 && funct3Ok f3
  | .cxGinit rd rs1 rs2 f3 => regNoOk rd && regNoOk rs1 && regNoOk rs2 && funct3Ok f3
  | .cxGaad rd rs1 rs2 f3 => regNoOk rd && regNoOk rs1 && regNoOk rs2 && funct3Ok f3
  | .cxGupd rd rs1 rs2 f3 => regNoOk rd && regNoOk rs1 && regNoOk rs2 && funct3Ok f3
  | .cxGout rd rs1 rs2 f3 => regNoOk rd && regNoOk rs1 && regNoOk rs2 && funct3Ok f3
  | .cxGfin rd rs1 rs2 f3 => regNoOk rd && regNoOk rs1 && regNoOk rs2 && funct3Ok f3
  | .cxVerify rd rs1 rs2 f3 => regNoOk rd && regNoOk rs1 && regNoOk rs2 && funct3Ok f3
  | .cxKdf rd rs1 rs2 f3 => regNoOk rd && regNoOk rs1 && regNoOk rs2 && funct3Ok f3
  | .cxWait rd rs1 rs2 f3 => regNoOk rd && regNoOk rs1 && regNoOk rs2 && funct3Ok f3
  | .cxPoll rd rs1 rs2 f3 => regNoOk rd && regNoOk rs1 && regNoOk rs2 && funct3Ok f3
  | .cxCrd rd rs1 rs2 f3 => regNoOk rd && regNoOk rs1 && regNoOk rs2 && funct3Ok f3
  | .cxSign rd rs1 rs2 f3 => regNoOk rd && regNoOk rs1 && regNoOk rs2 && funct3Ok f3
  | .cxKset rd rs1 rs2 f3 => regNoOk rd && regNoOk rs1 && regNoOk rs2 && funct3Ok f3
  | .cxKclr rd rs1 rs2 f3 => regNoOk rd && regNoOk rs1 && regNoOk rs2 && funct3Ok f3
  | .cxCinc rd rs1 rs2 f3 => regNoOk rd && regNoOk rs1 && regNoOk rs2 && funct3Ok f3
  | .cxCarve rd rs1 rs2 f3 => regNoOk rd && regNoOk rs1 && regNoOk rs2 && funct3Ok f3
  | .cxAbort rd rs1 rs2 f3 => regNoOk rd && regNoOk rs1 && regNoOk rs2 && funct3Ok f3
  | .cxOperationStart _ _ _ => true
  | .cxOperationComplete _ _ => true
  | .carveSignDone _ => true
  | .carveProgramDone code => carveCodeOk code
  | .carveProgramTimeout => true
  | .ppsInEdge _ _ => true
  | .slewEnd => true
  | .ppsLoss => true
  | .ppsCandidateTimeout => true
  | .timeOfDay p m => portOk p && todOk m
  | .boundRecompute => true
  | .timeStepReoffer => true
  | .ppsOutRise => true
  | .ppsOutFall => true
  | .rtcSet => true
  | .rtcAlarm => true
  | .tbuAlarm => true
  | .tbuAlarmArm _ => true
  | .tbuAlarmDisarm _ => true
  | .tcxoFail => true
  | .tcxoReturn => true
  | .tbuTimeLoRead => true
  | .motEdge _ _ _ => true
  | .motOverrate _ => true
  | .motEdgeTimeout _ => true
  | .noGnssTimeout => true
  | .pulseLossTimeout => true
  | .abSpeedCheck => true
  | .motDistLoRead => true
  | .doorbellSubmit p m => portOk p && doorOk m
  | .submitPayloadReadDone _ => true
  | .receiptWriteAck _ => true
  | .doorbellExport p m => portOk p && doorOk m
  | .exportWriteAck reg _ => indexOk 4 reg
  | .doorbellAck p m => portOk p && doorOk m
  | .drop _ _ => true
  | .evsGenesis _ => true
  | .evsRecCtrlWrite _ n _ => indexOk 4 n
  | .scanComplete => true
  | .eraseEvaluation => true
  | .sectorEraseDone _ => true
  | .evsXRead _ _ _ => true
  | .evsXProgram _ _ _ => true
  | .evsXErase _ _ _ => true
  | .evsXDone _ => true
  | .faultReoffer => true
  | .regStart _ _ => true
  | .regStop _ _ => true
  | .injStart _ _ => true
  | .iadcStart _ _ => true
  | .iadcStop _ _ => true
  | .atrigEdge n _ _ => indexOk 4 n
  | .acqTimerTick => true
  | .acqEntryStart => true
  | .sarConversionDone sl _ _ => indexOk 5 sl
  | .iadcIntegrationDone _ _ _ => true
  | .lineSyncEdge _ _ _ => true
  | .lineSyncLoss _ _ _ => true
  | .calSwap => true
  | .calDone p _ => indexOk 5 p
  | .ringFlushTimer n => indexOk 9 n
  | .ringWriteAck n => indexOk 9 n
  | .ringRdReadReturn n => indexOk 9 n
  | .acqRingEnableWrite _ n _ => indexOk 9 n
  | .refOkTimer => true
  | .refinOutOfRange => true
  | .dacDataWrite _ n _ => indexOk 16 n
  | .dacLdNEdge _ _ => true
  | .dacRelease _ _ => true
  | .prog _ ch => indexOk 16 ch
  | .dacMtpDone _ => true
  | .dacCurrentLimit n _ => indexOk 16 n
  | .start _ n => indexOk 4 n
  | .stop _ n => indexOk 4 n
  | .abort _ n => indexOk 4 n
  | .lthClear _ n => indexOk 4 n
  | .lthMeasureStart n => indexOk 4 n
  | .lthDwellEnd n => indexOk 4 n
  | .rangeStepEnd n => indexOk 4 n
  | .listFetchReturn n => indexOk 4 n
  | .listUnderrunTimeout n => indexOk 4 n
  | .lthResultWriteAck n => indexOk 4 n
  | .lthAnalogTrip n _ => indexOk 4 n
  | .cvuDataB _ n _ => indexOk 8 n
  | .cvuDataH _ n _ => indexOk 8 n
  | .cvuDataW _ n _ => indexOk 8 n
  | .cvuClear _ n _ => indexOk 8 n
  | .cvuEnWrite _ n _ => indexOk 8 n
  | .cvuResultRead n => indexOk 8 n
  | .pcuCntLoRead n => indexOk 32 n
  | .pcuCntWrite _ n _ _ => indexOk 32 n
  | .bwWindowEnd m => indexOk 16 m
  | .pcuBwClear _ m _ => indexOk 16 m
  | .taggedItemComplete _ _ d => tagOk d
  | .pcuSbufClear _ => true
  | .haPoisonLastRead => true
  | .evcPendWrite _ k _ => indexOk 8 k
  | .evcPclr _ k _ => indexOk 8 k
  | .evcPset _ k _ => indexOk 8 k
  | .evcMaskMkWrite _ k _ _ => indexOk 8 k
  | .event p _ => portOk p
  | .escClear _ => true
  | .escForce _ => true
  | .fltRelease _ _ _ => true
  | .fltRaisedClear _ _ _ => true
  | .program _ _ => true
  | .keygen _ _ => true
  | .sealOtp _ _ => true
  | .raiseSvn _ _ => true
  | .revokeFwkey _ _ => true
  | .otpBadOp _ op _ => otpBadOk op
  | .otpCommandDone _ => true
  | .reservedFtypeFlit f => portOk f.port && hdrOk f.hdr
  | .doorbellUndefinedKind p m => portOk p && doorOk m && undefKindOk m
  | .instructionAccessFault f => eccOk f.ecc
  | .valleyEntryComplete => true
  | .refinReturn => true

end Sys2Proof
end

