-- ==== Sys2Proof/Tests/Slice0.lean ====
section
/-!
SUPPORT. Tests/Slice0.lean: the smoke test of WellFormed, and tests of single operations and steps. Expected values come from the
spec's tables or from the standards it names, not from the model.
-/
open Sys2Proof Sys2Proof.Machine

section

set_option Elab.async false

/-! ### WellFormed: each check refuses an ill-formed command -/

/-- A request with agent 1 as its source, for tests. -/
def tReq (k : ReqKind) (c tenant line : Nat) : ReqMsg := ⟨k, c, 1, 0, 7, 0, false, tenant, line, 0, 0, 0⟩

/-- A response of agent 1. -/
def tRsp (k : RspKind) (c tag htid state : Nat) : RspMsg := ⟨k, c, 1, 0, tag, htid, state, 0, 0⟩

/-- A doorbell of agent 1 for tenant 0. -/
def tDoor (kind typ low : Nat) : DoorMsg := ⟨5, 1, 0, 0, kind, typ, 0, low⟩

theorem test_wf_ports_and_channels : Instr.wellFormed (.alignLock 16) = false ∧ Instr.wellFormed (.alignLock 15) = true ∧
    Instr.wellFormed (.refreshDue 8) = false ∧ Instr.wellFormed (.pllLock 18) = false := by decide

theorem test_wf_tenants_and_indices : Instr.wellFormed (.create .cp 1024) = false ∧ Instr.wellFormed (.create .cp 1023) = true ∧
    Instr.wellFormed (.exportWriteAck 4 0) = false ∧ Instr.wellFormed (.grant .cp 256) = false := by decide

theorem test_wf_frames : Instr.wellFormed (.cpFrameRd 16 0 0 0 false) = false ∧ Instr.wellFormed (.cpFrameRd 0 0 4096 0 false) = false ∧
    Instr.wellFormed (.cpFrameWr 0 1 0 [5] 0 false) = false ∧ Instr.wellFormed (.cpFrameUndefinedOp 3 0 0 0 0 false) = false ∧
    Instr.wellFormed (.cpFrameUndefinedOp 4 0 0 0 0 false) = true ∧ Instr.wellFormed (.cpCsLateRise 0 0 0 0 [] 0) = false := by decide

theorem test_wf_pins_and_supplies : Instr.wellFormed (.supplyReturn 39) = false ∧ Instr.wellFormed (.supplyReturn 38) = true ∧
    Instr.wellFormed (.wakeEdge 18 true 20) = false ∧ Instr.wellFormed (.islandIdleStop 3) = false := by decide

theorem test_wf_debug_and_staging : Instr.wellFormed (.unlockResp 0 [] []) = false ∧ Instr.wellFormed (.dbgReadRegister 33) = false ∧
    Instr.wellFormed (.stagingBufferWrite .cp 0x10000 0) = false ∧ Instr.wellFormed (.stagingBufferWrite .cp 0xFFFF 0) = true := by decide

theorem test_wf_link_messages : Instr.wellFormed (.sync ⟨0, ⟨0, 0, 0, 0, 0, 0⟩⟩ 1 0 true true [0]) = false ∧
    Instr.wellFormed (.idle 0 ⟨4096, 0, 0, 0, 0, 0⟩) = false ∧ Instr.wellFormed (.readOnce 0 (tReq .readOnce 8 0 0)) = false ∧
    Instr.wellFormed (.readOnce 0 (tReq .readOnce 0 0 (2 ^ 32))) = false ∧ Instr.wellFormed (.ack 0 (tRsp .ack 2 65536 0 0)) = false := by
  decide

theorem test_wf_doorbells_and_time : Instr.wellFormed (.doorbellAck 0 (tDoor 256 0 0)) = false ∧
    Instr.wellFormed (.doorbellUndefinedKind 0 (tDoor 2 0 0)) = false ∧ Instr.wellFormed (.doorbellUndefinedKind 0 (tDoor 3 0 0)) = true ∧
    Instr.wellFormed (.timeOfDay 0 ⟨5, 1, 0, 0, 2 ^ 48, 0, 0, true, true⟩) = false := by decide

theorem test_wf_undefined_ops : Instr.wellFormed (.tmmBadOp .cp 12 0) = false ∧ Instr.wellFormed (.tmmBadOp .cp 13 0) = true ∧
    Instr.wellFormed (.pasBadOp .cp 3 0) = false ∧ Instr.wellFormed (.otpBadOp .cp 5 0) = false ∧
    Instr.wellFormed (.dscBindWrite .cp 0 8 0) = false ∧ Instr.wellFormed (.patrolScrub 0 3) = false := by decide

theorem test_wf_core : Instr.wellFormed (.rvMulDiv .mul 32 0 0) = false ∧ Instr.wellFormed (.rvAlu (.imm .add 1 1 2048) false none) = false ∧
    Instr.wellFormed (.rvAlu (.jal 0 3) false none) = false ∧ Instr.wellFormed (.rvAlu (.imm .sub 1 1 0) false none) = false ∧
    Instr.wellFormed (.csrAccess .rw false 4096 0 0) = false ∧ Instr.wellFormed (.rvStore 3 0 0 0 false) = false ∧
    Instr.wellFormed (.rvLoad 4 false 1 0 0 false 0) = false ∧ Instr.wellFormed (.cxWait 1 2 0 8) = false := by decide

theorem test_wf_samples_and_carves : Instr.wellFormed (.taggedItemComplete true 0 [1]) = false ∧
    Instr.wellFormed (.carveProgramDone 1) = false ∧ Instr.wellFormed (.carveProgramDone 0x11) = true := by decide

/-! ### Decode: no row of the table has bits -/

theorem test_no_word_spells_a_command : decodeTableWord 0 0 = none ∧ State.reset.withFetchWord 32 0x13 = State.reset := by
  exact ⟨rfl, rfl⟩

/-! ### Named operations, against values from outside the model -/

/-- The check value of CRC-8 SAE J1850 over the ASCII digits 1 to 9 (R87 and Table 17-1). -/
theorem test_crc8_check : crc8 [0x31, 0x32, 0x33, 0x34, 0x35, 0x36, 0x37, 0x38, 0x39] = 0x4B := by decide +kernel

/-- The check value of CRC-32C over the ASCII digits 1 to 9. -/
theorem test_crc32c_check : crc32c [0x31, 0x32, 0x33, 0x34, 0x35, 0x36, 0x37, 0x38, 0x39] = 0xE3069283 := by decide +kernel

/-- FIPS 180-4: the SHA-256 digest of "abc". -/
theorem test_sha256_abc : ofBytesBE (sha256 [0x61, 0x62, 0x63]) =
    0xBA7816BF8F01CFEA414140DE5DAE2223B00361A396177A9CB410FF61F20015AD := by decide +kernel

/-- RFC 6979, A.2.5: P-256 with SHA-256 over "sample": the signature's r. -/
theorem test_p256_sign_sample : ofBytesBE ((p256Sign 0xC9AFA9D845BA75166B5C215767B1D6934E50C3DB36E89B127B8A622B120F6721
    (sha256 [0x73, 0x61, 0x6D, 0x70, 0x6C, 0x65])).take 32) =
    0xEFD48B2AACB6A8FD1140DD9CD45E81D69D2C877B56AAF991C34D0EA84EAF3716 := by decide +kernel

/-- GCM test case 13: AES-256, an all-zero key and IV, no text: the tag. -/
theorem test_gcm_tag_case13 : ofBytesBE (gcmTag (List.replicate 32 0) (List.replicate 12 0) [] []) =
    0x530F8AFBC74536B9A963B4F1C4CB738B := by decide +kernel

/-- Table 17-1, the check values of ALG 0 and ALG 2 over the ASCII digits 1 to 9. -/
theorem test_cvu_check_values :
    let run (p : CrcPar) : Nat := crcOut p ([0x31, 0x32, 0x33, 0x34, 0x35, 0x36, 0x37, 0x38, 0x39].foldl (crcByte p) p.init)
    run (cvuPar (State.reset.setReg (Ad.CVU_CFG 0) 0) 0) = 0xCBF43926 ∧ run (cvuPar (State.reset.setReg (Ad.CVU_CFG 0) 2) 0) = 0x29B1 := by decide +kernel

/-- Every register row of the index with an SQ field is in the list that the statements on SQ registers use (Table 4-1). -/
theorem test_sq_keys_have_a_sequence : sqKeys.all (fun k => ((regAt k).map (fun (x : RegRow × List Nat) =>
    x.1.fields.any (fun f => f.ty == .seq))).getD false) = true := by decide +kernel

/-! ### Single steps -/

/-- Whether a command answers a next state that has a property. -/
def nx (o : Host.Outcome State Fault Refusal) (p : State → Bool) : Bool :=
  match o with
  | .next t => p t
  | _ => false

/-- A core whose firmware runs (STAGE 0), with x5 and x6 given. -/
def tCore (a b : Word) : State :=
  { State.reset.setReg Ad.RCC_BOOT_STATUS 0 with rc := { rcFresh with x := (List.replicate 5 0) ++ [a, b] ++ List.replicate 25 0 } }

/-- A step takes the front command and leaves the rest of the queue (log entry 5). -/
theorem test_front_command_leaves_the_queue : nx (step (State.reset.withPending [.tbuTimeLoRead, .idcode]))
    (fun t => t.pending == [.idcode] && t.tap.dr == 0) = true := by decide +kernel

/-- R70: IDCODE shifts out 0x1D1024A3. -/
theorem test_idcode : nx (exec .idcode State.reset) (fun t => t.tap.dr == 0x1D1024A3 && t.tap.ir == 1) = true := by decide +kernel

/-- A read of CP_ID (word 0): 24 A0 A1 D1 order, least significant byte first, then the status byte of TAG 5 and code 0. -/
theorem test_frame_reads_cp_id : nx (exec (.cpFrameRd 5 0 0 (crc8 [0x15, 0x00, 0x00]) false) State.reset)
    (fun t => t.cp.resp.take 5 == [0x24, 0x10, 0xA0, 0xD1, 0x50]) = true := by decide +kernel

/-- R134: a locked domain stays locked when zero is written. -/
theorem test_lock_holds : nx (exec (.cpLockWrite .cp 0) (State.reset.setReg Ad.CP_LOCK 4))
    (fun t => t.reg Ad.CP_LOCK == 4 && bit (t.reg Ad.FLT_RAISED_0) 2) = true := by decide +kernel

/-- Addition wraps, and x0 stays zero. -/
theorem test_add_wraps : nx (exec (.rvAlu (.reg .add 7 5 6) false none) (tCore 0xFFFFFFFF 2)) (fun t => rx t 7 == 1 && t.rc.pc == 4) &&
    nx (exec (.rvAlu (.reg .add 0 5 6) true none) (tCore 3 4)) (fun t => rx t 0 == 0 && t.rc.pc == 2) = true := by decide +kernel

/-- The division corners of the M extension: by zero, and the overflow. -/
theorem test_division_corners :
    nx (exec (.rvMulDiv .div 7 5 6) (tCore 7 0)) (fun t => rx t 7 == 0xFFFFFFFF) &&
    nx (exec (.rvMulDiv .div 7 5 6) (tCore 0x80000000 0xFFFFFFFF)) (fun t => rx t 7 == 0x80000000) &&
    nx (exec (.rvMulDiv .rem 7 5 6) (tCore 7 0)) (fun t => rx t 7 == 7) = true := by decide +kernel

/-- An arithmetic shift keeps the sign; a logical one does not; a signed and an unsigned comparison differ. -/
theorem test_shifts_and_compares :
    nx (exec (.rvAlu (.reg .sra 7 5 6) false none) (tCore 0x80000000 4)) (fun t => rx t 7 == 0xF8000000) &&
    nx (exec (.rvAlu (.reg .srl 7 5 6) false none) (tCore 0x80000000 4)) (fun t => rx t 7 == 0x08000000) &&
    nx (exec (.rvAlu (.reg .slt 7 5 6) false none) (tCore 0x80000000 4)) (fun t => rx t 7 == 1) &&
    nx (exec (.rvAlu (.reg .sltu 7 5 6) false none) (tCore 0x80000000 4)) (fun t => rx t 7 == 0) = true := by decide +kernel

/-- ECALL in machine mode: cause 11, mepc at the instruction, the pc at BASE (R397). -/
theorem test_ecall_traps : nx (exec .ecall (tCore 0 0)) (fun t => t.rc.mcause == 11 && t.rc.mepc == 0 && t.rc.pc == 0x80 && t.rc.mach)
    = true := by decide +kernel

/-- A store of a byte to TCM enters the store buffer and drains into the memory (R381). -/
theorem test_store_then_drain : nx (exec (.rvStore 1 5 6 0 false) (tCore 0x10000020 0x1A5)) (fun t => t.rc.sb.length == 1 &&
    nx (exec (.storeBufferDrain 0) t) (fun u => u.rc.sb.isEmpty && tcmRead u 0x10000020 2 == [0xA5, 0])) = true := by decide +kernel

/-- A PORST_N pulse of 199 ns is ignored; one of 200 ns puts the device in power-on reset (R62). -/
theorem test_porst_filter : nx (exec (.porstNAssert 199) State.reset) (fun t => t == State.reset) &&
    nx (exec (.porstNAssert 200) State.reset) (fun t => t.isl.phase == .porst) = true := by decide +kernel

/-- The mode of a port after a signal, then after equalization's limit (Table 5-13). -/
theorem test_port_training : nx (exec (.portSignalDetect 3) State.reset) (fun t => (portOf t 3).mode == .equalize &&
    nx (exec (.equalizeTimeout 3) t) (fun u => (portOf u 3).mode == .detect && bit (u.reg (Ad.LNK_EVT 3)) 5)) = true := by decide +kernel

end
end

