-- ==== Sys2Proof/Tests/WitnessAnalog.lean ====
section
/-!
SUPPORT. Tests/WitnessAnalog.lean: the hypotheses of the statements on acquisition, the DAC, the Lathes, check units, counters, events,
faults and OTP can be met: one theorem for each statement, one conjunct for each of its clauses.
-/
open Sys2Proof Sys2Proof.Machine

section

set_option Elab.async false

/-- Acquisition past its boot calibration, changed; a sequence of one entry in either table. -/
def tAcq (f : AcqSt → AcqSt) : State :=
  { State.reset with acq := f { State.reset.acq with
      boot := false, regTbl := 1 :: List.replicate 39 0, injTbl := 0 :: 1 :: List.replicate 38 0 } }

theorem witness_AcquisitionAndDacCommandsAct_takes : Takes (tAcq id) .cp Ad.ACQ_CTRL ∧ Takes (tAcq id) .cp (Ad.ACQ_BUF_CTRL 8) ∧
    Takes (tAcq id) .cp (Ad.DAC_DATA 15) ∧ Takes (tAcq id) .cp Ad.DAC_CMD ∧ Takes (tAcq id) .cp Ad.DAC_MTP_CMD := by
  refine ⟨?_, ?_, ?_, ?_, ?_⟩ <;> exact takes_of_eval (by decide +kernel)

/-- A run with slice 4 converting channel 39; a conversion of the integrating converter. -/
def wLane : AcqLane := ⟨4, 39, 0, 0, true, 0, false, false⟩

def wRun : AcqRun := ⟨false, 0, 0, 0, 0, 0, 0, [wLane], none⟩

def wIadc (mode : Nat) : IadcRun := ⟨0, mode, 39, 0, none, false, some 1⟩

theorem witness_AcquisitionAndDacCommandsAct_commands :
    (let s := tAcq id; contained s 28 = false ∧ acqStopping s = false ∧ s.acq.boot = false ∧ 0 < acqNreg s.acq.regTbl ∧ s.acq.regRun = false ∧
      0 < acqNinj s.acq.injTbl ∧ s.acq.injRun = false ∧ s.acq.owner = 0 ∧ s.acq.iadc = none) ∧
    (tAcq (fun a => { a with regRun := true })).acq.regRun = true ∧
    (let s := tAcq (fun a => { a with iadc := some (wIadc 1) }); s.acq.owner = 0 ∧ s.acq.iadc.isSome = true) ∧
    (Clocked (tAcq id) 32 ∧ acqOpen ((tAcq id).setReg Ad.ACQ_CTRL 1) = true ∧ 3 < 4 ∧ 20 ≤ 20) ∧
    (let s := tAcq (fun a => { a with injRun := true }); s.acq.injRun = true ∧ s.acq.injNext < acqNinj s.acq.injTbl ∧
      (entStart s (acqEnt s.acq.injTbl (acqNreg s.acq.injTbl + s.acq.injNext)) true).isSome = true ∧ s.acq.runs = []) ∧
    (let s := tAcq (fun a => { a with regRun := true }); s.acq.injRun = false ∧ s.acq.runs = [] ∧ s.acq.regStop = false ∧
      s.acq.regNew = false ∧ atWait s = false ∧ s.acq.regNext < acqNreg s.acq.regTbl ∧
      (entStart s (acqEnt s.acq.regTbl s.acq.regNext) false).isSome = true) := by
  refine ⟨?_, ?_, ?_, ?_, ?_, ?_⟩ <;> decide +kernel

/-- A ring with bytes not yet flushed. -/
def wRing (len : Nat) : State := tAcq (fun a => { a with
  rings := upd a.rings 8 (fun (r : AcqRing) => { r with line := List.replicate len 0 }) })

def wAg (w : Ag0Who) : State := { tAcq id with ha := { haFresh with ag0 := [⟨w, .data, 0, 0, 5⟩] } }

theorem witness_AcquisitionAndDacCommandsAct_engines :
    (let s := tAcq (fun a => { a with runs := [wRun] });
      s.acq.runs.find? (fun r => r.lanes.any (fun l => l.sl == 4 && l.live)) = some wRun ∧
      wRun.lanes.find? (fun l => l.sl == 4 && l.live) = some wLane) ∧
    ((tAcq (fun a => { a with iadc := some (wIadc 1) })).acq.iadc = some (wIadc 1) ∧ (wIadc 1).mode ≠ 3) ∧
    (∀ n, n ∈ [14290000, 25000000] → let s : State := { tAcq (fun a => { a with lastEdge := some 0 }) with tb := { State.reset.tb with time := n } };
      s.acq.lastEdge = some 0 ∧ 14290000 ≤ s.now - 0 ∧ s.now - 0 ≤ 25000000 ∧ s.acq.iadc = none) ∧
    (let s := tAcq (fun a => { a with iadc := some (wIadc 3) }); s.acq.iadc = some (wIadc 3) ∧ (wIadc 3).mode = 3 ∧ (wIadc 3).edges = some 1 ∧
      lineUsed s = true ∧ s.acq.lineLost = false) ∧
    (lineUsed (tAcq id) = false ∧ (tAcq (fun a => { a with lineLost := true })).acq.lineLost = true) ∧
    (let s := (tAcq id).setReg Ad.ACQ_CAL_CFG 0x100; bit (s.reg Ad.ACQ_CAL_CFG) 8 = true ∧ s.acq.spare = some 4 ∧
      sliceLive s s.acq.swapAt = false ∧ s.acq.boot = false) ∧
    (let s := tAcq (fun a => { a with spare := none, cal := [4] }); 4 ∈ s.acq.cal ∧ s.acq.failed = [] ∧ ¬ 4 ∈ s.acq.map ∧ s.acq.boot = false ∧
      (calFail (setAcq s (fun (a : AcqSt) => { a with cal := a.cal.filter (· != 4) })) 4).acq.boot = false ∧ ¬ 3 ∈ s.acq.cal) ∧
    (∀ n, n ∈ [1, 63] → (ringOf (wRing n) 8).flushed < (ringOf (wRing n) 8).line.length ∧ (ringOf (wRing n) 8).line.length < 64) ∧
    (let s := wAg (.acqWr 8 3); s.ha.ag0.find? (fun r => match r.who with | .acqData k _ => k == 8 | .acqWr k _ => k == 8 | _ => false) =
      some ⟨.acqWr 8 3, .data, 0, 0, 5⟩) ∧
    ((ag0Take (wAg (.acqRd 8)) (.acqRd 8)).map (fun x => x.1.kind) = some .data) ∧ (tAcq id).acq.refinOk = true := by
  refine ⟨?_, ?_, ?_, ?_, ?_, ?_, ?_, ?_, ?_, ?_, ?_⟩ <;> decide +kernel

theorem witness_AcquisitionAndDacCommandsAct_dac :
    (20 ≤ 20 ∧ ({ State.reset with dac := { dacFresh with prog := some (15, 7) } } : State).dac.prog = some (15, 7)) ∧
    (¬ 15 ∈ State.reset.dac.ilim) ∧
    (8 < 9 ∧ locked (tAcq id) 0 = false ∧ ringEn (tAcq id) 8 = false ∧ bit (1 : Word) 0 = true) ∧
    (ringEn ((tAcq id).setReg (Ad.ACQ_BUF_CTRL 8) 1) 8 = true ∧ bit (0 : Word) 0 = false) ∧
    ((dacCh State.reset 15).owner = 0 ∧
      (dacCh { State.reset with dac := { dacFresh with ch := List.replicate 16 ⟨4, 0, false⟩ } } 15).owner ≠ 0) ∧
    (65535 < 65536 ∧ (65535 : Nat).testBit 15 = true ∧ State.reset.flt.esc = none ∧ contained State.reset (32 + 15) = false ∧
      ownerIdle State.reset 15 = true) ∧
    (locked State.reset 9 = false ∧ State.reset.dac.prog = none ∧ State.reset.dac.rows[15]? = some ⟨0, false, 0⟩) := by
  refine ⟨?_, ?_, ?_, ?_, ?_, ?_, ?_⟩ <;> decide +kernel

/-! ### The Lathes -/

/-- Lathe `n` changed, its three channels owned and not faulted. -/
def tLth (n : Nat) (f : LthSt → LthSt) : State :=
  let s := [4 * n, 4 * n + 1, 4 * n + 2].foldl (fun (s : State) c => (s.setReg (Ad.DAC_CH_CFG c) (w32 ((n + 1) * 256))).setReg (Ad.DAC_OUT c) 0) State.reset
  { s with dac := { dacFresh with ch := List.replicate 16 ⟨n + 1, 0, false⟩ }, lth := upd s.lth n f }

def wPoint : Point := ⟨0, 0, 0, 0, 0, false, false, false, false, false⟩

theorem witness_LatheCommandsAct_takes : Takes (tLth 0 id) .cp (Ad.LTH_CTRL 0) ∧ Takes (tLth 3 id) .cp (Ad.LTH_CTRL 3) :=
  ⟨takes_of_eval (by decide +kernel), takes_of_eval (by decide +kernel)⟩

theorem witness_LatheCommandsAct_start :
    (3 < 4 ∧ (lthOf (tLth 3 (fun l => { l with mode := .run })) 3).mode ≠ .idle) ∧
    (let s : State := { tLth 3 id with flt := { fltFresh with esc := some 2 } }; (lthOf s 3).mode = .idle ∧ s.flt.esc.isSome = true) ∧
    ((lthOf (tLth 3 id) 3).tblR = none ∧ (tLth 3 id).flt.esc = none) ∧
    (let s := tLth 3 (fun l => { l with tblR := some [2], tblC := some [1] }); (lthOf s 3).tblR = some [2] ∧ (lthOf s 3).tblC = some [1] ∧
      nRange [2] ≠ nRange [1]) ∧
    (let s := tLth 3 (fun l => { l with tblR := some [1], tblC := some [1] }); nRange [1] = nRange [1] ∧ lthOwns s 3 = true ∧
      fetched s 3 = false ∧ lthOwns (s.setReg (Ad.DAC_CH_CFG 12) 0) 3 = false ∧
      fetched (s.setReg (Ad.LTH_LIST 3) 0x80000000) 3 = true ∧ 2 ≤ ((s.setReg (Ad.LTH_LIST 3) 0x80000000).setFld Ad.CP_VALLEY 5 4 2).depth) := by
  refine ⟨?_, ?_, ?_, ?_, ?_⟩ <;> decide +kernel

theorem witness_LatheCommandsAct :
    (let s := tLth 3 (fun l => { l with mode := .run }); (lthOf s 3).mode = .run ∧ (lthOf s 3).ended = false ∧ (lthOf s 3).mode ≠ .tripped ∧
      3 < s.lth.length ∧ (dacCh s 12).owner = 3 + 1) ∧
    (let s := tLth 3 (fun l => { l with mode := .tripped }); (lthOf s 3).mode = .tripped ∧ contained s (48 + 3) = false ∧
      (lthOf s 3).trans = none ∧ (lthOf s 3).toSafe = false) ∧
    (let s := tLth 3 (fun l => { l with mode := .run, point := some wPoint, begun := true }); Clocked s 32 ∧ (lthOf s 3).point = some wPoint ∧
      (lthOf s 3).begun = true ∧ (lthOf s 3).meas = false ∧ (lthOf s 3).trans = none ∧ (lthOf s 3).mode = .run ∧ wPoint.iadc = false ∧
      wPoint.acq = false ∧ (lthOf s 3).iadcDue = false ∧ (lthOf s 3).ended = false ∧ missing s 3 = false) ∧
    (∀ l, l ∈ [[9], [9, 17]] → (lthOf (tLth 3 (fun x => { x with trans := some ⟨1, l, .point⟩ })) 3).trans = some ⟨1, l, .point⟩ ∧
      (lthOf (tLth 3 (fun x => { x with trans := some ⟨1, l, .point⟩ })) 3).toSafe = false) ∧
    (let f (k : RspKind) : State := { tLth 3 (fun l => { l with mode := .run, asked := [⟨7, 0, 0, 1⟩] }) with
        ha := { haFresh with ag0 := [⟨.lthList 3 7, k, 0, 0, 5⟩] } };
      (fetchTake (f .data) 3).map (·.2) = some true ∧ (fetchTake (f .dataPoison) 3).map (fun x => (x.2, (lthOf x.1 3).mode)) = some (false, .run)) ∧
    (let s := (tLth 3 (fun l => { l with mode := .run, ended := true, begun := true, point := some wPoint })).setReg (Ad.LTH_LIST 3) 0x80000004;
      (lthOf s 3).ended = true ∧ (lthOf s 3).begun = true ∧ (lthOf s 3).iadcDue = false ∧ missing s 3 = true) ∧
    (let s : State := { tLth 3 id with ha := { haFresh with ag0 := [⟨.lthRes 3 7, .ack, 0, 0, 5⟩] } };
      s.ha.ag0.find? (fun r => match r.who with | .lthRes k _ => k == 3 | _ => false) = some ⟨.lthRes 3 7, .ack, 0, 0, 5⟩) ∧
    (40 ≤ 40 ∧ (lthOf (tLth 3 id) 3).mode ≠ .tripped ∧ faulted (tLth 3 id) (4 * 3) = false ∧ (dacCh (tLth 3 id) (4 * 3)).owner = 3 + 1) := by
  refine ⟨?_, ?_, ?_, ?_, ?_, ?_, ?_, ?_⟩ <;> decide +kernel

/-! ### Check units and counters -/

theorem witness_CheckUnitAndCounterCommandsAct_takes :
    (∀ k, k ∈ [Ad.CVU_DATA_B 7, Ad.CVU_DATA_H 7, Ad.CVU_DATA_W 0, Ad.CVU_CTRL 7, Ad.PCU_CNT_HI 31, Ad.PCU_CNT_LO 31, Ad.PCU_BW_CFG 15,
      Ad.PCU_SBUF_CTRL] → Takes State.reset .cp k) := takes_all_of_eval (by decide +kernel)

theorem witness_CheckUnitAndCounterCommandsAct :
    (let s := ((State.reset.setReg (Ad.CVU_CFG 7) 1).setReg (Ad.CVU_CTRL 7) 1).setReg (Ad.CVU_LIMIT 7) 0;
      7 < 8 ∧ bit (s.reg (Ad.CVU_CFG 7)) 16 = false ∧ cvuEn s 7 = true ∧ s.reg (Ad.CVU_LIMIT 7) = 0) ∧
    (cvuEn State.reset 7 = false ∧ Clocked State.reset 3 ∧ 31 < 32 ∧ 15 < 16) ∧
    bit ((State.reset.setReg (Ad.PCU_BW_CFG 15) 0x80000000).reg (Ad.PCU_BW_CFG 15)) 31 = true ∧
    (∀ n, n ∈ [63, 64] → let s : State := { State.reset with pcu := { pcuFresh with tagHa := ⟨0, some (1, 0, 0, 0)⟩, sbCount := n } };
      (tagOf s true).fly = some (1, 0, 0, 0) ∧
      (if n = 64 then 64 ≤ s.pcu.sbCount ∧ bit ((s.setReg Ad.PCU_TAG_CFG 0).reg Ad.PCU_TAG_CFG) 28 = false else ¬ 64 ≤ s.pcu.sbCount)) := by
  refine ⟨?_, ?_, ?_, ?_⟩ <;> decide +kernel

/-! ### Events, faults and OTP -/

theorem witness_EventFaultAndOtpCommandsAct_takes :
    (∀ k, k ∈ [Ad.EVC_PEND 0, Ad.EVC_PEND 7, 0xC00060 + 8 * 7 + 4 * b2n true, Ad.FLT_CTRL, Ad.FLT_RELEASE_0, Ad.FLT_RELEASE_1,
      Ad.FLT_RAISED_0, Ad.FLT_RAISED_1, Ad.OTP_CMD] → Takes State.reset .cp k) := takes_all_of_eval (by decide +kernel)

theorem witness_EventFaultAndOtpCommandsAct :
    (7 < 8 ∧ Accepts tLink 0 (.other 0x32 5 1 0)) ∧
    (¬(bf (State.reset.reg Ad.FLT_RAISED_0) 23 0 ≠ 0 ∨ bf (State.reset.reg Ad.FLT_RAISED_1) 16 0 ≠ 0)) ∧
    (bf ((State.reset.setReg Ad.FLT_RAISED_1 0x10000).reg Ad.FLT_RAISED_1) 16 0 ≠ 0) ∧
    (locked State.reset 7 = false ∧ State.reset.otp.cmd = none) ∧
    (otpJudge ((State.reset.setReg (Ad.OTP_STAGE 0) 1)) 4 0 = 0 ∧ otpJudge (tOtp State.reset ⟨3, [], false, 0, 0⟩) 1 3 = 1 ∧
      2 ≤ otpJudge State.reset 3 0 ∧ otpJudge State.reset 2 0 = 0) ∧
    (∀ op, op ∈ [1, 2, 3, 4, 5] → let s : State := { State.reset with otp := { otpFresh with cmd := some ⟨op, 3⟩ } };
      s.otp.cmd = some ⟨op, 3⟩ ∧ Clocked s 1) ∧
    (State.reset.isl.phase = .run ∧ pinsOk State.reset = true ∧ (stopIsls State.reset [32]).running 32 = false) := by
  refine ⟨?_, ?_, ?_, ?_, ?_, ?_, ?_⟩ <;> decide +kernel

theorem witness_RaisedClearZeroesItsCount :
    (let s := State.reset.setReg Ad.FLT_RAISED_1 0x10000; 16 < 17 ∧ bit (s.reg Ad.FLT_RAISED_1) 16 = true ∧
      bit ((regWrite s .cp Ad.FLT_RAISED_1 none 0x10000).1.reg Ad.FLT_RAISED_1) 16 = false ∧
      bit ((regWrite s .cp Ad.FLT_RAISED_1 none 0).1.reg Ad.FLT_RAISED_1) 16 = bit (s.reg Ad.FLT_RAISED_1) 16) ∧
    (let s := State.reset.setReg Ad.FLT_RAISED_0 0x800000; 23 < 24 ∧ bit (s.reg Ad.FLT_RAISED_0) 23 = true ∧
      bit ((regWrite s .cp Ad.FLT_RAISED_0 none 0x800000).1.reg Ad.FLT_RAISED_0) 23 = false) := by
  refine ⟨?_, ?_⟩ <;> decide +kernel

theorem witness_OtpWritesWhileBusyChangeNothing :
    ({ State.reset with otp := { otpFresh with cmd := some ⟨1, 3⟩ } } : State).otp.cmd.isSome = true ∧ 15 < 16 ∧
    (State.reset.otp.cmd = none ∧ locked State.reset 7 = false ∧ bf (1 : Word) 7 0 ≠ 0) := by decide +kernel

end
end

