-- ==== Sys2Proof/Tests/WitnessControl.lean ====
section
/-!
SUPPORT. Tests/WitnessControl.lean: the hypotheses of the statements on debug, the control port, registers and the table engine can be
met: one theorem for each statement, one conjunct for each of its clauses.
-/
open Sys2Proof Sys2Proof.Machine

section

set_option Elab.async false

/-- A transition to valley 2 in progress. -/
def wBusy : State := State.reset.setFld Ad.CP_VALLEY 6 6 1

theorem witness_TargetWriteWhileBusyIsKept : 0 < 4 ∧ 3 < 4 ∧ (vBusy State.reset = false ∧ 0 = State.reset.depth) ∧ vBusy wBusy = true ∧
    (let u := tIsl (fun i => { i with keptTarget := some 3 }); u.isl.keptTarget = some 3 ∧ vBusy u = false) := by decide +kernel

/-- A grant open, or a challenge waiting. -/
def wTap (f : TapSt → TapSt) : State := { tOtp State.reset (hashRow 0x0B (tKey)) with tap := f State.reset.tap }

/-- A challenge of 32 zero bytes, and the response that grants every feature. -/
def wChal : State := wTap (fun t => { t with chal := some (List.replicate 32 0) })

/-- Its signature over the challenge, the GRANT 0x3F and the device ID. -/
def wSig : List Byte := toBytesBE 64 (0xEE3B67E7D8A8DC3B64F1B7A72530CEA53E13E466ACDFACB913DE577E3C48D8CA * 2 ^ 256 +
  0xF3EBC8A43FC493107CB069FB765137D280F566FFA23662C92B4C4439CEC05816)

theorem witness_TapCommandsAct :
    (wChal.isl.phase = .run ∧ wChal.tap.chal = some (List.replicate 32 0) ∧ unlockJudge wChal 0x3F wSig (tKey) = 0) ∧
    (let s : State := { wChal with evs := { wChal.evs with mode := .opened } };
      (evsOffer { s with tap := { s.tap with ir := 0x21, chal := none, status := 0 } } 7 [] none).2 ≠ .busy) ∧
    unlockJudge wChal 0 [] [] ≠ 0 ∧ unlockJudge State.reset 0 [] [] ≠ 0 ∧
    (wTap (fun t => { t with waiting := some [] })).tap.waiting.isSome = true ∧
    (let s := wTap (fun t => { t with grant := 0x3F }); s.isl.phase = .run ∧ s.tap.grant ≠ 0 ∧ s.tap.acc = none ∧
      ∀ g, g < 6 → s.tap.grant.testBit g = true) ∧
    (let s : State := { wTap (fun t => { t with grant := 1 }) with rc := { rcFresh with halted := true } };
      s.rc.halted = true ∧ s.tap.grant.testBit 0 = true ∧ 1 ≤ 1 ∧ 31 ≤ 31) := by
  refine ⟨?_, ?_, ?_, ?_, ?_, ?_, ?_⟩ <;> decide +kernel

theorem witness_TapLeavesTheRest : Quiet (tRc id) = true ∧
    Instr.trstNReset ∈ [Instr.trstNReset, .extest, .idcode, .samplePreload, .bypass, .unlockChal, .unlockRespStatus] := by decide +kernel

theorem witness_LockedDebugSelectsBypass : (State.reset.isl.phase = .run ∧ State.reset.tap.grant = 0 ∧ Quiet (tRc id) = true) ∧
    (∀ g, g < 6 → let s := wTap (fun t => { t with grant := 0x3F - 2 ^ g });
      s.isl.phase = .run ∧ s.tap.grant ≠ 0 ∧ s.tap.acc = none ∧ s.tap.grant.testBit g = false) := by decide +kernel

/-- A frame whose words wait for their access, and one that pends. -/
def wFrame (opc : Nat) (expired : Bool) : CpFrame := ⟨opc, 0, 0, 0, [], 0, 0, [], 0, 0, 0, false, false, expired, 0⟩

def wPend : State := { State.reset with cp := { State.reset.cp with pendAcc := some (wFrame 1 true) } }

theorem witness_FrameCommandsAct :
    (cpAnswers State.reset = true ∧ State.reset.cp.frame = none ∧ State.reset.cp.pendAcc = none) ∧
    (∀ x, x ∈ [(3, 0, 0), (1, 0, 0), (1, 15, 0x4FF - 15), (2, 0, 0xFFF), (0, 0, 0), (4, 0, 0), (15, 15, 0xFFF)] →
      let f : CpFrame := ⟨x.1, 5, x.2.1, x.2.2, if x.1 = 2 then [7] else [], 0, 0, [], 0, 0, 0, false, false, false, 0⟩;
      crc8 (frameHdr f) = crc8 (frameHdr f) ∧ (x.1 = 1 ∨ x.1 = 2 → cpLenOk (x.2.2 % 4096) (x.2.1 % 16) = true)) ∧
    bit ((csFall (State.reset.setReg Ad.CP_CFG 0)).reg Ad.CP_CFG) 0 = false ∧
    (let s : State := { State.reset with cp := { State.reset.cp with frame := some (wFrame 1 false) } };
      s.cp.frame = some (wFrame 1 false) ∧ Clocked s 2) ∧
    (Clocked wPend 2 ∧ wPend.cp.pendAcc = some (wFrame 1 true) ∧ (wFrame 1 true).expired = true ∧
      (match frameWord wPend (wFrame 1 true) with | .done _ _ _ => true | _ => false) = true ∧ wPend.cp.pendAcc ≠ none) := by
  refine ⟨?_, ?_, ?_, ?_, ?_⟩ <;> decide +kernel

theorem witness_BadCcrcAccessesNothing : cpAnswers State.reset = true ∧ State.reset.cp.frame = none ∧
    crc8 (frameHdr ⟨1, 5, 0, 0, [], 0, 0, [], 0, 0, 0, false, false, false, 0⟩) ≠ 0 ∧
    crc8 (frameHdr ⟨2, 5, 0, 0, [7], 0, 0, [], 0, 0, 0, false, false, false, 0⟩ ++ [7].flatMap (fun (w : Word) => toBytesLE 4 w.toNat)) ≠ 0 := by
  decide +kernel

theorem witness_FrameReadsAndWritesAWord : 15 < 16 ∧ 0x19 < 0x100 ∧ State.reset.cp.pendAcc = none ∧
    directKey 0x19 = some Ad.FLT_LOCKVIOL ∧ (∃ r ix, regHere State.reset Ad.FLT_LOCKVIOL = some (r, ix) ∧
      Clocked State.reset (rowIsland r ix) ∧ readBad State.reset Ad.FLT_LOCKVIOL r = none) ∧ 0x19 ≠ 0x40 ∧ 0x19 ≠ 0x41 := by
  refine ⟨by decide, by decide, rfl, by decide, ?_, by decide, by decide⟩
  exact ⟨((regHere State.reset Ad.FLT_LOCKVIOL).getD (⟨"", 0, [], 0, 0, 0, false, []⟩, [])).1,
    ((regHere State.reset Ad.FLT_LOCKVIOL).getD (⟨"", 0, [], 0, 0, 0, false, []⟩, [])).2, by decide +kernel⟩

/-! ### Registers and tables -/

/-- Registers of the staging buffer from bytes. -/
def wStage (s : State) (l : List Byte) : State := bufWrite s (Ad.CP_TBL_BUF 0) l

/-- The header and body of an image for CP_TBL entry 8 (no layouts), version 1, unbound. -/
def wHead : List Byte :=
  [0x44, 0x4C, 0x56, 0x42, 1, 0] ++ toBytesLE 2 6 ++ toBytesLE 4 1 ++ toBytesLE 4 4 ++ toBytesLE 2 0x80 ++ List.replicate 46 0 ++ [0, 0, 0, 0]

def wSigned : List Byte := wHead ++ toBytesLE 4 (crc32c wHead).toNat

/-- The signature of that image. -/
def wImgSig : List Byte := toBytesBE 64 (0x8DCA965A519880F9073CC85C9E46A082B4B286C200DF74868E1E5F13C581A345 * 2 ^ 256 +
  0x9AE888526C8ABE0D2F49A4C8CA9818D9EE13243F18946A207312254A9930F728)

/-- That image in the buffer, signed with the key in CP_TBL_KEY, with KEY_OK. -/
def wImage (state : Nat) : State :=
  (((bufWrite (wStage State.reset (wSigned ++ wImgSig)) (Ad.CP_TBL_KEY 0) (tKey)).setFld Ad.CP_TBL_STATUS 16 16 1).setFld
    Ad.CP_TBL_STATUS 2 0 state)

/-- A state with part of the table engine changed, and its STATE. -/
def wTbl (state : Nat) (f : TblSt → TblSt) : State := { State.reset.setFld Ad.CP_TBL_STATUS 2 0 state with tbl := f State.reset.tbl }

theorem witness_TableCommandsAct_takes : Takes State.reset .rc (Ad.RCC_TIMECMP_LO) ∧ Takes State.reset .cp Ad.CP_UPDATE ∧
    Takes State.reset .cp Ad.CP_UPD_TCTRL ∧ Takes State.reset .cp Ad.CP_LOCK ∧ Takes State.reset .cp Ad.CP_LOCK_STRICT ∧
    Takes State.reset .cp Ad.CP_TBL_CTRL ∧ Takes State.reset .cp (0xF10000 + 4 * 0) ∧ Takes State.reset .rc (0xF10000 + 4 * 0xFFFF) := by
  refine ⟨?_, ?_, ?_, ?_, ?_, ?_, ?_, ?_⟩ <;> exact takes_of_eval (by decide +kernel)

theorem witness_TableCommandsAct :
    ((1 : Byte) ≠ 0 ∧ (255 : Byte) ≠ 0 ∧ State.reset.isl.phase = .run) ∧
    (let s := wTbl 0 (fun t => { t with updAt := some 0 }); s.tbl.updAt = some 0 ∧ 0 ≤ s.now) ∧
    (let e : ParErr := ⟨Ad.CP_LOCK, false, false⟩; let s : State := { State.reset with parErr := [e] };
      e ∈ s.parErr ∧ e.reported = false ∧ s.running (keyIsland e.key) = true ∧ e.key < 0x60000000) ∧
    (State.reset.setReg Ad.CP_LOCK 1).reg Ad.CP_LOCK &&& ~~~(0x7FF : Word) &&& 0x7FF = 0 ∧
    ((State.reset.setReg Ad.CP_LOCK_STRICT 1).reg Ad.CP_LOCK_STRICT = 1 ∧ bit (State.reset.reg Ad.CP_LOCK_STRICT) 0 = false) ∧
    (State.reset.tbl.keyBusy = false ∧ bit (State.reset.reg Ad.CP_TBL_STATUS) 16 = false) ∧
    (tblState (wTbl 0 id) = 0 ∧ tblState (wTbl 3 id) = 3 ∧ tblOpen (wTbl 3 id) = true ∧ tblOpen (wTbl 1 id) = false) ∧
    (tblState (wImage 2) = 2 ∧ imgIndex (wImage 2) = some 8 ∧ tblRejudge (wImage 2) 8 = 0 ∧
      (evsOffer { wImage 2 with evs := { (wImage 2).evs with mode := .opened } } 3 [] none).2 ≠ .busy) ∧
    (0 < 16 ∧ 15 < 16 ∧ tblArmed (wTbl 0 (fun t => { t with armed := [⟨0, 1, []⟩, ⟨13, 1, []⟩] })) 13 = true) ∧
    (let s := wTbl 0 (fun t => { t with keyBusy := true }); Clocked s 2 ∧ s.tbl.keyBusy = true) ∧
    (let s := tOtp (bufWrite (wTbl 0 (fun t => { t with keyBusy := true })) (Ad.CP_TBL_KEY 0) (tKey)) (hashRow 0x0A (tKey));
      otpGood s 0x0A = true ∧ sha256 (tblKey s) = (List.range 8).flatMap (fun i => toBytesLE 4 (otpWord s 0x0A i).toNat)) ∧
    (tblState (wImage 1) = 1 ∧ tblReason (wImage 1) = 0 ∧ Clocked (wImage 1) 2) ∧
    (tblState (wTbl 1 id) = 1 ∧ tblReason (wTbl 1 id) ≠ 0) ∧
    (tblState (wImage 4) = 4 ∧ imgIndex (wImage 4) = some 8 ∧ Clocked (wImage 4) 2) := by
  refine ⟨?_, ?_, ?_, ?_, ?_, ?_, ?_, ?_, ?_, ?_, ?_, ?_, ?_, ?_⟩ <;> decide +kernel

/-- A row whose fields have every type that the statement names. -/
def wRow : RegRow :=
  let f (b : Nat) (ty : FTy) : Fld := ⟨b, b, "", ty, 16, .none, 0⟩
  ⟨"", 0, [], 1, 0, 0, false, [f 0 .rw, f 1 .ro, f 2 .lv, f 3 .mk, f 4 .cmd, f 5 .cmdlk, f 6 .sq, f 7 .sh, f 8 .wo, f 9 .lk, f 10 .shlk,
    ⟨14, 11, "", .lk, 3, .none, 0⟩, ⟨31, 24, "", .seq, 16, .none, 0⟩]⟩

theorem witness_FieldsActByType :
    wRow.fields.Pairwise (fun a b => a.hi < b.lo ∨ b.hi < a.lo) ∧ (∀ a, a ∈ wRow.fields → a.lo ≤ a.hi ∧ a.hi < 32) ∧
    (∀ ty, ty ∈ [FTy.rw, .ro, .lv, .mk, .seq, .cmd, .cmdlk, .sq, .sh, .wo, .lk, .shlk] → wRow.fields.any (fun f => f.ty == ty) = true) ∧
    (∀ g, g ∈ wRow.fields → g.hi < 24 ∨ g.ty = .seq) ∧
    (∀ f, f ∈ wRow.fields → f.dom = 16 → lockCauses State.reset f = 0 ∧ guarded .cp f = false) ∧
    wRow.fields.any (fun f => f.ty == .lk && lockCauses (State.reset.setReg Ad.CP_LOCK 8) f != 0) = true := by
  decide +kernel

theorem witness_WriteOnceFields :
    let f : Fld := ⟨15, 0, "", .wo, 16, .none, 0⟩
    let a (v : Word) : WAcc := ⟨v, 0, [], 0, false, false⟩
    f.ty = .wo ∧ f.lo ≤ f.hi ∧ f.hi < 32 ∧ bf (a 0).reg f.hi f.lo = f.reset ∧
    (bf (a 5).reg f.hi f.lo ≠ f.reset ∧ bf (5 : Word) f.hi f.lo = bf (a 5).reg f.hi f.lo) ∧
    (bf (a 5).reg f.hi f.lo ≠ f.reset ∧ bf (0 : Word) f.hi f.lo ≠ bf (a 5).reg f.hi f.lo) := by decide +kernel

theorem witness_LockDomainsHold :
    (∀ d, d < 11 → locked (State.reset.setReg Ad.CP_LOCK 0x7FF) d = true ∧ bit (0 : Word) d = false) ∧
    bit ((State.reset.setReg Ad.CP_LOCK_STRICT 1).reg Ad.CP_LOCK_STRICT) 0 = true := by decide +kernel

theorem witness_StrictModeEscalatesLockViolations : bit (State.reset.reg Ad.CP_LOCK_STRICT) 0 = false ∧
    bit ((State.reset.setReg Ad.CP_LOCK_STRICT 1).reg Ad.CP_LOCK_STRICT) 0 = true := by decide +kernel

theorem witness_SequenceClearedBits : 2 ^ 24 - 1 < 2 ^ 24 ∧ Ad.CP_STATUS ∈ sqKeys ∧ Ad.CP_TBL_EVT ∈ sqKeys ∧
    bf (0x01000000 : Word) 31 24 ≠ bf (State.reset.reg Ad.CP_STATUS) 31 24 := by decide +kernel

theorem witness_ScheduledStrobeTiming :
    (let s := State.reset.setReg Ad.CP_UPD_AT_HI 1;
      s.now < (s.reg Ad.CP_UPD_AT_LO).toNat + 2 ^ 32 * (s.reg Ad.CP_UPD_AT_HI).toNat) ∧
    (let s := wTbl 0 (fun t => { t with updAt := some 0 }); s.tbl.updAt = some 0 ∧ 0 ≤ s.now) ∧
    (let s := wTbl 0 (fun t => { t with updAt := some 1 }); s.tbl.updAt = some 1 ∧ s.now < 1) ∧
    (State.reset.reg Ad.CP_UPD_AT_LO).toNat + 2 ^ 32 * (State.reset.reg Ad.CP_UPD_AT_HI).toNat ≤ State.reset.now := by decide +kernel

end
end

