-- ==== Sys2Proof/Tests/WitnessCore.lean ====
section
/-!
SUPPORT. Tests/WitnessCore.lean: the hypotheses of the statements on the record core, its boot and Chisel can be met: one theorem for
each statement, one conjunct for each of its clauses.
-/
open Sys2Proof Sys2Proof.Machine

section

set_option Elab.async false

/-- A core that runs, its window usable, with x5 and x6 given and part of it changed. -/
def wCore (a b : Word) (f : RcSt → RcSt) : State :=
  (tRc (fun c => f { c with x := List.replicate 5 0 ++ [a, b] ++ List.replicate 25 0, pc := 0x10000000 })).setReg Ad.TMM_CTRL 1

theorem witness_CoreInstructionsAct :
    (let s := wCore 0 0 id; Clocked s 29 ∧ rcFree s = true ∧ s.rc.sb = [] ∧ s.rc.mach = true) ∧
    (let s := wCore 0 0 id; (∀ n, n ∈ [0x300, 0x341, 0xB00, 0xC00, 0xC9F] → csrReadable s n = true) ∧ 0x300 < 3072 ∧
      (CsrFn.rs ≠ .rw ∧ 32 % 32 = 0)) ∧
    (rvKnown 0 = false ∧ rvKnown 0xFFFFFFFF = false) ∧
    (memKind (wCore 0 0 (fun c => { c with pc := 0xF0000000 })) 0xF0000000 = .none ∧ memKind (wCore 0 0 id) 0xC0000000 = .ic) ∧
    (let s := wCore 0 0 (fun c => { c with pc := 0x1003FFFE }); let a := s.rc.pc.toNat; let a2 := (a + 2) % 2 ^ 32;
      pmpOk s s.rc.mach a 2 2 = true ∧ memKind s a = .tcm ∧ tcmBad s a 2 = none ∧ memKind s a2 = .none ∧ pmpOk s s.rc.mach 0xF0000000 2 2 = true) ∧
    (let s := (wCore 0 0 (fun c => { c with mie := 8, mstatus := 8 })).setReg Ad.RCC_MSIP 1;
      irqFirst s = some 3 ∧ fwRuns s = true ∧ contained s 25 = false ∧ s.rc.halted = false ∧ irqOn s = true ∧ curYields s = true) := by
  refine ⟨?_, ?_, ?_, ?_, ?_, ?_⟩ <;> decide +kernel

/-- A line of the D-cache, and an entry of the store buffer. -/
def wLine (st : Nat) : RcLine := ⟨0, st, 5, none, 0, false⟩

def wSb (kind : Nat) : SbEnt := ⟨0, 0x2000000, 0x77, 0xFFFF, kind, false, false⟩

theorem witness_CoreMemoryActs_loads :
    (∀ w, w ∈ [1, 2, 4] → let s := wCore 0x10000000 0 id; let a := (rx s 5 + immW 4).toNat;
      (w = 1 ∨ w = 2 ∨ w = 4) ∧ pmpOk s (dataMach s) a w 0 = true ∧ a % w = 0 ∧ memKind s a = .tcm ∧ sbFwd s a w = .clear ∧ tcmBad s a w = none) ∧
    (let s := wCore 0x20000000 0 (fun c => { c with dc := [wLine 1] }); let a := (rx s 5 + immW 0).toNat;
      pmpOk s (dataMach s) a 4 0 = true ∧ a % 4 = 0 ∧ memKind s a = .cached ∧ winOff s = false ∧ s.rc.flushing = false ∧
      ¬ winLine a ∈ s.rc.fills ∧ rcLine s (winLine a) = some (wLine 1) ∧ (wLine 1).poison = none ∧ (wLine 1).wb = false ∧
      sbFwd s a 4 = .clear) ∧
    (let s := (wCore 0x20000000 0 (fun c => { c with sb := [wSb 1] })).setReg Ad.RCC_CTRL 0; sbFwd s 0x20000000 4 = .hit 0x77 ∧
      memKind s 0x20000000 = .cached ∧ winOff s = false) ∧
    (let s := wCore 0xC0C00000 0 id; let a := (rx s 5 + immW 0).toNat; memKind s a = .ic ∧ s.rc.sb = [] ∧ a % 4 = 0 ∧
      pmpOk s (dataMach s) a 4 0 = true ∧
      (match icLoad (rvBegin s (.load 4 true 1 5 0 false 0)) (a - 0xC0000000) with | .done _ _ => true | _ => false) = true) := by
  refine ⟨?_, ?_, ?_, ?_⟩ <;> decide +kernel

theorem witness_CoreMemoryActs_stores :
    (let s := wCore 0x10000000 1 id; let a := (rx s 5 + immW 0).toNat; pmpOk s (dataMach s) a 4 1 = true ∧ a % 4 = 0 ∧
      s.rc.sb.length < 8 ∧ memKind s a = .tcm) ∧
    (let s := wCore 0x20000000 1 id; let a := (rx s 5 + immW 0).toNat; pmpOk s (dataMach s) a 4 1 = true ∧ memKind s a = .cached ∧
      winOff s = false ∧ s.rc.flushing = false) ∧
    (let s := wCore 0xC0C00000 1 id; let a := (rx s 5 + immW 0).toNat; memKind s a = .ic ∧ pmpOk s (dataMach s) a 4 1 = true ∧
      (match icStore (rvBegin s (.store 4 5 6 0 false)) .rc (a - 0xC0000000) 1 with | .done _ _ => true | _ => false) = true) ∧
    (let s := wCore 0x10000000 1 id; inTcm (rx s 5).toNat = true ∧ tcmBad s (rx s 5).toNat 4 = none ∧
      atomCheck s (rx s 5).toNat true false = 0 ∧ atomCheck s (rx s 5).toNat false true = 0 ∧
      tcmBad (releaseHold (rvBegin s (.lr 7 5 0))) (rx s 5).toNat 4 = none) ∧
    (let s := wCore 0x10000000 1 (fun c => { c with resv := some ⟨true, 0x10000000, 64⟩ });
      atomCheck s (rx s 5).toNat false false = 0 ∧ s.rc.resv = some (granule s (rx s 5).toNat)) ∧
    (∀ st, st ∈ [2, 3] → let s := wCore 0x20000000 0 (fun c => { c with dc := [wLine st], resv := some ⟨false, 0, 64⟩ }); let a := (rx s 5).toNat;
      (∀ b, b ∈ [s, releaseHold (rvBegin s (.lr 7 5 0))] → b.rc.flushing = false ∧ ¬ winLine a ∈ b.rc.fills ∧
        rcLine b (winLine a) = some (wLine st)) ∧ inTcm a = false ∧
      (wLine st).poison = none ∧ (wLine st).wb = false ∧ ((wLine st).st = 2 ∨ (wLine st).st = 3) ∧ atomCheck s a true false = 0 ∧
      atomCheck s a false true = 0 ∧ s.rc.resv = some (granule s a)) := by
  refine ⟨?_, ?_, ?_, ?_, ?_, ?_⟩ <;> decide +kernel

theorem witness_CoreMemoryActs :
    (let s := wCore 0 0 (fun c => { c with sb := [wSb 0] }); s.rc.sb[0]? = some (wSb 0) ∧ sbMay s (wSb 0) = true) ∧
    (wCore 0 0 (fun c => { c with cur := some (.load 4 true 1 5 0 false 0) })).rc.cur = some (.load 4 true 1 5 0 false 0) ∧
    (let s := ((wCore 0 0 (fun c => { c with mie := 0x80, wfi := true })).setReg Ad.RCC_TIMECMP_LO 0).setReg Ad.RCC_TIMECMP_HI 0;
      bit (rcMip s) 7 = true ∧ fwRuns s = true ∧ s.rc.wfi = true ∧ rcIrqDue s = true) ∧
    (let s := wCore 0 0 (fun c => { c with flushing := true }); s.rc.flushing = true ∧ s.rc.dc = []) ∧
    (wCore 0 0 id).rc.flushing = false ∧ bit ((wCore 0 0 id).reg Ad.RCC_CTRL) 1 = false ∧ rcFree (wCore 0 0 id) = true ∧
      (wCore 0 0 id).rc.sb = [] := by
  refine ⟨?_, ?_, ?_, ?_, ?_, ?_⟩ <;> decide +kernel

theorem witness_CoreMemoryActs_takes : Takes (wCore 0 0 id) .rc Ad.RCC_CACHE_CMD ∧ Takes (wCore 0 0 id) .cp Ad.RCC_CTRL :=
  ⟨takes_of_eval (by decide +kernel), takes_of_eval (by decide +kernel)⟩

/-- A record core image of four bytes for the staging buffer, unbound, with FWKEY slot 0, signed. -/
def wImg : List Byte :=
  [0x44, 0x4C, 0x56, 0x46, 1, 0, 0, 0] ++ List.replicate 12 0 ++ toBytesLE 4 4 ++ List.replicate 16 0 ++ tKey ++ List.replicate 24 0 ++
    [0x13, 0, 0, 0]

/-- The signature of that image. -/
def wBootSig : List Byte := toBytesBE 64 (0x520DA8012A99378F621CD9612AE6DF250B78AD4B09567C5B54F5D9CA253B4089 * 2 ^ 256 +
  0xB7D1753919CBBB13A4258377D985B3DAF6FD5790CEC52071493BCD25577513C3)

/-- A boot that reads the staging buffer (3), or copy A (1) or B (2), of which there is none. -/
def wBoot (n : Nat) : State :=
  tOtp (bufWrite { State.reset with rc := { rcFresh with boot := n } } (Ad.CP_TBL_BUF 0) (wImg ++ wBootSig))
    (hashRow 8 (tKey))

theorem witness_BootCommandsAct :
    (Clocked (wBoot 3) 29 ∧ (wBoot 3).rc.boot ≠ 0 ∧ bootJudge (wBoot 3) (wBoot 3).rc.boot true = 0) ∧
    ((wBoot 1).rc.boot = 1 ∧ bootJudge (wBoot 1) 1 true = 1 ∧ 1 ≠ 0 ∧ bootHasB (wBoot 1) = false) ∧
    (let s := tOtp (wBoot 1) ⟨5, [w32 2], false, 0, 0⟩; s.rc.boot = 1 ∧ bootJudge s 1 true = 1 ∧ bootHasB s = true) ∧
    ((wBoot 2).rc.boot = 2 ∧ bootJudge (wBoot 2) 2 true = 1 ∧ bootJudge (wBoot 3) 3 false = 1) ∧
    (bootStage State.reset = 2 ∧ bootStage (State.reset.setReg Ad.RCC_BOOT_STATUS 3) = 3) ∧
    (let s : State := { State.reset with evs := { State.reset.evs with keptBoot := some [], mode := .opened } };
      Clocked s 31 ∧ s.evs.keptBoot = some [] ∧ evsCount s < 64 ∧ s.evs.mode ≠ .noGenesis) := by
  refine ⟨?_, ?_, ?_, ?_, ?_, ?_⟩ <;> decide +kernel

theorem witness_BootCommandsAct_takes : Takes State.reset .cp Ad.RCC_BOOT_CTRL := takes_of_eval (by decide +kernel)

theorem witness_IntegerInstructionsTouchRdAndPc : let s := wCore 7 0 id;
    Quiet s = true ∧ Clocked s 29 ∧ rcFree s = true ∧ bit (s.reg Ad.PCU_TAG_CFG) 30 = false ∧
    (⟨4, []⟩ : Squash).lines = [] := by decide +kernel

theorem witness_TrapEntryAndReturn :
    (let s := wCore 7 0 id; Quiet s = true ∧ Clocked s 29 ∧ rcFree s = true ∧ s.rc.sb = [] ∧ s.rc.heldSnp = [] ∧
      bit (s.reg Ad.PCU_TAG_CFG) 30 = false ∧ s.rc.mach = true) ∧ rvKnown 0 = false ∧
    (let s := wCore 7 0 (fun c => { c with mach := false, mstatus := 0x200000 }); Quiet s = true ∧ rcFree s = true ∧ s.rc.mach = false ∧
      bit s.rc.mstatus 21 = true) := by
  refine ⟨?_, ?_, ?_⟩ <;> decide +kernel

theorem witness_AtomicsAreGuarded :
    (let s := wCore 0x10000000 7 id; Clocked s 29 ∧ rcFree s = true ∧ s.rc.sb = [] ∧ atomCheck s (rx s 5).toNat false false = 0 ∧
      s.rc.resv ≠ some (granule s (rx s 5).toNat) ∧ s.rc.heldSnp = [] ∧ 31 ≠ 0 ∧ 31 < s.rc.x.length) ∧
    ((rx (wCore 0x10000002 7 id) 5).toNat % 4 ≠ 0) ∧
    (let s := wCore 0 7 id; memKind s (rx s 5).toNat ≠ .tcm ∧ memKind s (rx s 5).toNat ≠ .cached) ∧
    (let s := (wCore 0x20000000 7 id).setReg Ad.TMM_CTRL 0; memKind s (rx s 5).toNat ≠ .tcm ∧ winOff s = true) := by
  refine ⟨?_, ?_, ?_, ?_⟩ <;> decide +kernel

/-! ### Chisel -/

/-- Chisel changed, in a core that runs. -/
def wChz (f : ChzSt → ChzSt) : State := let s := wCore 0 0 id; { s with chz := f s.chz }

theorem witness_ChiselCommandsAct_queued :
    (∀ x, x ∈ ([(.hinit, 3, 0, 0), (.hupd, 3, 0x10000000, 65535), (.hfin, 3, 0x10000000, 0), (.ginit, 1, 0x10000000, 2),
        (.gaad, 1, 0x10000000, 65535), (.gupd, 1, 0x10000000, 256), (.gout, 1, 0x10000000, 0), (.gfin, 1, 0x10000000, 0),
        (.verify, 3, 0x10000000, 0x10000040), (.kdf, 0, 0x10000000, 0xF00), (.sign, 3, 0x10000000, 15), (.kset, 0, 0x10000000, 0x800),
        (.kclr, 0, 15, 0), (.cinc, 0, 0, 0), (.carve, 0, 0x80FF0000, 0x10000000)] : List (CxName × Nat × Word × Word)) →
      let s := wCore x.2.2.1 x.2.2.2 id; let i : CxIn := ⟨x.1, 1, 5, 6, x.2.1⟩; let a := rx s 5; let b := rx s 6;
      Clocked s 29 ∧ rcFree s = true ∧ cxLegal s i a b = true ∧ (cxOpOf i a b).isSome = true ∧
      (∀ m, m ∈ cxMems s i a.toNat b.toNat → cxMemCheck s m = 0) ∧ s.rc.sb = [] ∧ s.chz.q.length < 4) ∧
    (let s := wCore 0x80000005 0 id; cxLegal s ⟨.wait, 1, 5, 6, 0⟩ (rx s 5) (rx s 6) = true ∧ cxStatus s (rx s 5) ≠ 1 ∧
      cxLegal s ⟨.poll, 1, 5, 6, 0⟩ (rx s 5) (rx s 6) = true ∧ cxLegal s ⟨.crd, 1, 5, 6, 0⟩ (rx s 5) (rx s 6) = true ∧
      cxLegal s ⟨.abort, 1, 5, 6, 0⟩ (rx s 5) (rx s 6) = true) := by
  refine ⟨?_, ?_⟩ <;> decide +kernel

/-- An entry of the queue. -/
def wEnt (op : CxOp) (phase code : Nat) : CxEnt := ⟨5, op, phase, [], [], code⟩

/-- A CARVE in a step. -/
def wCarve (step : Nat) : CarveSt := ⟨5, true, step, none, 0, 0, 0, []⟩

theorem witness_ChiselCommandsAct :
    (let e := wEnt (.carve true 0 0 0x10000000) 0 0; let s := wChz (fun z => { z with q := [e] });
      s.chz.q.find? (fun e => e.no == 5) = some e ∧ cxReady s e = true ∧ e.op = .carve true 0 0 0x10000000 ∧ Clocked s 30) ∧
    (let e := wEnt (.hinit 0 0) 0 0; let s := wChz (fun z => { z with q := [e] }); s.chz.q.find? (fun e => e.no == 5) = some e ∧
      cxReady s e = true) ∧
    (let e := wEnt (.cinc) 1 0x0B; let s := wChz (fun z => { z with q := [e] });
      s.chz.q.find? (fun e => e.no == 5 && e.phase == 1 && e.want.isEmpty) = some e ∧ e.code ≠ 0) ∧
    (let e := wEnt (.hinit 0 0) 1 0; let s := wChz (fun z => { z with q := [e] });
      s.chz.q.find? (fun e => e.no == 5 && e.phase == 1 && e.want.isEmpty) = some e ∧ e.code = 0 ∧ (cxResult s e).1 = 0 ∧ cxReads s e.op = []) ∧
    (let e := wEnt (.verify 0 0x10000000 0x10000040) 1 0; let s := wChz (fun z => { z with q := [e] });
      e.code = 0 ∧ (cxResult s e).1 ≠ 0 ∧ ∀ x, x ∈ cxReads s e.op → inTcm x.1 = true ∧ tcmBad s x.1 x.2 = none) ∧
    (let s := wChz (fun z => { z with carve := some (wCarve 5) }); s.chz.carve = some (wCarve 5) ∧ (wCarve 5).step = 5) ∧
    (let s := wChz (fun z => { z with carve := some (wCarve 6) }); s.chz.carve = some (wCarve 6) ∧ (wCarve 6).step = 6 ∧ Clocked s 31) := by
  refine ⟨?_, ?_, ?_, ?_, ?_, ?_, ?_⟩ <;> decide +kernel

/-- The ticket of entry 5 in x5, a CARVE of that number in a step. -/
def wAbort (op : CxOp) (step : Nat) : State :=
  let s := wCore 0x80000005 0 id
  { s with chz := { s.chz with q := [wEnt op 1 0], carve := some (wCarve step) } }

theorem witness_AbortOnlyBeforeTheProgram :
    (∀ n, n ∈ [5, 6] → let s := wAbort (.carve true 0 0 0x10000000) n;
      Clocked s 29 ∧ rcFree s = true ∧ cxLegal s ⟨.abort, 31, 5, 6, 0⟩ (rx s 5) (rx s 6) = true ∧ (∀ e, e ∈ s.chz.q → e.no < 65536) ∧
      31 ≠ 0 ∧ 31 < s.rc.x.length ∧ s.chz.q.find? (fun e => rx s 5 == w32 (2 ^ 31 + e.no)) = some (wEnt (.carve true 0 0 0x10000000) 1 0) ∧
      s.chz.carve = some (wCarve n) ∧ (wCarve n).no = 5) ∧ (wCarve 5).step < 6 ∧ 6 ≤ (wCarve 6).step ∧
    (let s := wAbort .cinc 6; ∀ e, e ∈ s.chz.q → rx s 5 = w32 (2 ^ 31 + e.no) → e.op = .cinc) := by
  refine ⟨?_, ?_, ?_, ?_⟩ <;> decide +kernel

end
end

