-- ==== Sys2Proof/Tests/WitnessLinks.lean ====
section
/-!
SUPPORT. Tests/WitnessLinks.lean: the hypotheses of the statements on the links, the attached agents and the home agent can be met:
one theorem for each statement, one conjunct for each of its clauses.
-/
open Sys2Proof Sys2Proof.Machine

section

set_option Elab.async false

/-- Port 0 of the linked state changed. -/
def tPort (f : PortSt → PortSt) : State := setPort tLink 0 f

/-- Port 15, the last one, in a mode, at reset. -/
def tMode (m : PortMode) : State := setPort State.reset 15 (fun (q : PortSt) => { q with mode := m })

theorem witness_PortTrainingActs :
    (PortUp State.reset 0 ∧ PortUp State.reset 15 ∧ (portOf State.reset 15).mode = .detect) ∧
    (∀ m, m ∈ [PortMode.equalize, .align, .retrain, .sync, .active, .lpi, .down] → PortUp (tMode m) 15 ∧ (portOf (tMode m) 15).mode = m) ∧
    (let s := setPort State.reset 0 (fun (q : PortSt) => { q with mode := .retrain, rtSync := true });
      (portOf s 0).mode = .retrain ∧ (portOf s 0).rtSync = true) ∧
    (advLow (capAdv [0, 0, 16, 32, 16, 8]) = false ∧ (portOf (tMode .sync) 15).session = false) ∧
    (let s := tPort (fun q => { q with
        mode := .retrain, rtSync := true, adv := capAdv [0, 0, 16, 32, 16, 8], next := 3, acked := 0, las := 9, held := [⟨1, false, []⟩, ⟨2, false, []⟩] });
      (portOf s 0).session = true ∧ 1 = (portOf s 0).epoch ∧ capAdv [0, 0, 16, 32, 16, 8] = (portOf s 0).adv ∧
        ∀ las, las ∈ [0, 2] → seqFrom (portOf s 0).acked las ≤ seqFrom (portOf s 0).acked ((portOf s 0).next + 4095)) ∧
    (contained (tMode .down) 15 = false ∧ 15 < 16) := by
  refine ⟨?_, ?_, ?_, ?_, ?_, ?_⟩ <;> decide +kernel

theorem witness_PortTrainingActs_retrain : Takes (tMode .active) .cp (Ad.LNK_CMD 15) := takes_of_eval (by decide +kernel)

theorem witness_PortFlitsAct :
    let s := tPort (fun q => { q with next := 3, acked := 0, las := 9, held := [⟨1, false, []⟩, ⟨2, false, []⟩] });
    (PortUp s 0 ∧ (portOf s 0).mode = .active) ∧
    (∀ ack, ack ∈ [0, 2] → HdrOk s 0 ⟨ack, 0, 5, 0, 0, 10⟩) ∧
    (seqFrom (portOf s 0).las 10 = 1 ∧ seqFrom (portOf s 0).las 9 = 0 ∧ 2048 < seqFrom (portOf s 0).las (9 + 2049) ∧
      1 < seqFrom (portOf s 0).las 11 ∧ seqFrom (portOf s 0).las (9 + 2048) ≤ 2048) ∧
    (let t := headed s 0 ⟨0, 0, 5, 0, 0, 10⟩; (portOf t 0).replay = none ∧
      ∀ e, e ∈ [1, 2] → seqFrom ((portOf t 0).acked + 1) e ≤ seqFrom ((portOf t 0).acked + 1) (portOf s 0).next ∧
        e % 4096 ≠ (portOf s 0).next) ∧
    ((portOf s 0).replay = none ∧ (portOf s 0).held = ⟨1, false, []⟩ :: [⟨2, false, []⟩] ∧ (portOf s 0).ctl = []) ∧
    (portOf (tPort (fun q => { q with ackDue := true })) 0).ackDue = true ∧
    (portOf (tPort (fun q => { q with ctl := [.idle] })) 0).ctl = .idle :: [] ∧
    (portOf (tPort (fun q => { q with replay := some 1 })) 0).replay = some 1 := by
  refine ⟨?_, ?_, ?_, ?_, ?_, ?_, ?_, ?_⟩ <;> decide +kernel

/-- A reset in which port 0 may attach agents. -/
def wAttach : State := (setPort State.reset 0 (fun (q : PortSt) => { q with mode := .active, session := true })).setReg (Ad.LNK_CFG 0) 0x2008

/-- A header that acknowledges nothing. -/
def wHdr : FlitHdr := ⟨4095, 0, 0, 0, 0, 0⟩

theorem witness_PortAgentsAct :
    (PortUp wAttach 0 ∧ HdrOk wAttach 0 wHdr ∧ (portOf wAttach 0).attach = none ∧ (portOf wAttach 0).answer = none) ∧
    (let t := headed wAttach 0 wHdr;
      refusal t 0 1 false = 0 ∧ refusal t 0 32 false = 0 ∧ refusal t 0 33 false = 5 ∧ refusal State.reset 0 0 false ≠ 0) ∧
    (let s := tPort (fun q => { q with attach := some ⟨7, [1], 0, 5, false, true⟩ });
      (portOf s 0).attach = some ⟨7, [1], 0, 5, false, true⟩ ∧ HdrOk s 0 ⟨4095, 0, 5, 0, 0, 0⟩ ∧ (portOf s 0).mode = .active ∧ (portOf s 0).hubReqs = []) ∧
    ((portOf tLink 0).detach = [] ∧ (portOf tLink 0).hubReqs = [] ∧ maskIds tLink 0 2 = [] ∧
      (maskIds tLink 0 1).filter (fun a => !unresp tLink a) ≠ []) ∧
    (let s := declare tLink 1 false; maskIds s 0 1 ≠ [] ∧ (maskIds s 0 1).filter (fun a => !unresp s a) = []) ∧
    (let s := tPort (fun q => { q with detach := [⟨7, 1, [1], 0⟩], hubReqs := [(8, 2)] });
      (portOf s 0).detach.any (fun d => d.mask == 1) = true ∧ (portOf s 0).hubReqs.any (fun r => r.2 == 2) = true) ∧
    (∀ a, a ∈ [1, 254] → let s : State := { State.reset with lnk := { State.reset.lnk with quar := [(a, 0, none)] } };
      Clocked s 3 ∧ s.lnk.quar.any (fun x => x.1 == a) = true ∧ idClear s a = true ∧ a < 255) ∧
    (portOf (tPort (fun q => { q with lpiWait := true })) 0).lpiWait = true ∧ HdrOk tLink 0 wHdr ∧
    (∀ m, m ∈ [PortMode.sync, .active] → let s := tPort (fun q => { q with mode := m, parkWait := true });
      (portOf s 0).parkWait = true ∧ (portOf s 0).mode = m ∧ HdrOk s 0 wHdr) ∧
    (let s := tLink.setReg (Ad.LNK_DETACH_MASK 0) 1; (s.reg (Ad.LNK_DETACH_MASK 0)).toNat = 1 ∧ maskIds s 0 1 ≠ []) := by
  refine ⟨?_, ?_, ?_, ?_, ?_, ?_, ?_, ?_⟩ <;> decide +kernel

theorem witness_PortAgentsAct_commands : Takes (tLink.setReg (Ad.LNK_DETACH_MASK 0) 1) .cp (Ad.LNK_CMD 0) := takes_of_eval (by decide +kernel)

theorem witness_DiscardedFlitsActOnNothing : PortUp tLink 0 ∧ (portOf tLink 0).mode = .active ∧
    seqFrom (portOf tLink 0).las 7 ≠ 1 := by decide +kernel

theorem witness_AttachGrantsFreeIds : PortUp wAttach 0 ∧ (portOf wAttach 0).mode = .active ∧
    HdrOk wAttach 0 wHdr ∧ (portOf wAttach 0).attach = none ∧ (portOf wAttach 0).answer = none ∧
    refusal (headed wAttach 0 wHdr) 0 32 false = 0 ∧ bit (wAttach.reg Ad.LNK_ID_CFG) 0 = false := by decide +kernel

/-! ### Messages and transactions -/

/-- A home agent with these trackers. -/
def tHa (f : HaSt → HaSt) : State := { tLink with ha := f tLink.ha }

/-- The class of a message of a kind. -/
def wMsg (k : ReqKind) : ReqMsg := { wReq k with mclass := 0 }

theorem witness_MessageCommandsAct :
    (∀ k, k ∈ [ReqKind.readShared, .readUnique, .readOnce, .readReserve, .upgrade, .writeFull, .writePartial, .writeConditional,
        .cleanEvict, .dirtyEvict] → Accepts tLink 0 (.req { wReq k with kind := k, mclass := 0 })) ∧
    (unresp tLink 1 = false ∧ txidOpen tLink 1 7 = false ∧ findAgent tLink 1 = some ⟨1, 0, 0, true, some 0, false⟩ ∧ tLink.ha.wcs = [] ∧
      ∀ a, findAgent tLink 1 = some a → a.detaching = false) ∧
    (let t : Trk := { wTrk .readShared .active with snps := [(1, .invalidate, none)] }; let s := tHa (fun h => { h with trks := [t] });
      (∀ r, r ∈ [(⟨.data, 4, 1, 0, 5, 0, 0, 0, 0⟩ : RspMsg), ⟨.dataPoison, 4, 1, 0, 5, 0, 0, 1, 0⟩, ⟨.ack, 3, 1, 0, 5, 0, 0, 0, 0⟩] →
        Accepts s 0 (.rsp r) ∧ r.state ≤ 4 ∧ (if r.kind = .dataPoison then 1 ≤ r.code ∧ r.code ≤ 5 else r.code = 0) ∧ r.tag < 0xC00) ∧
      t ∈ s.ha.trks ∧ s.ha.trks.find? (fun t => t.id == 5 && t.snps.any (fun x => x.1 == 1 && x.2.2.isNone)) = some t ∧
      t.snps.find? (fun x => x.1 == 1) = some (1, .invalidate, none) ∧
      ansOk .invalidate ((dirAt s t.pa).any (fun e => e.st == .ow && e.owner == 1)) (.data 0 0) = true ∧
      ansOk .invalidate ((dirAt s t.pa).any (fun e => e.st == .ow && e.owner == 1)) (.poison 0 1) = true ∧
      ansOk .invalidate ((dirAt s t.pa).any (fun e => e.st == .ow && e.owner == 1)) (.ack 0) = true) ∧
    (let t := wTrk .readShared .comp; let s := tHa (fun h => { h with trks := [t] });
      Accepts s 0 (.rsp ⟨.compAck, 3, 1, 0, 0, 5, 4, 0, 0⟩) ∧ trkAt s 5 = some t ∧ t.ph = .comp ∧ t.r.m.src = 1 ∧ t.r.who = none) := by
  refine ⟨?_, ?_, ?_, ?_⟩ <;> decide +kernel

/-- A DRAM read that tracker 5 waits for, issued in channel 0, which serves. -/
def wRead (n : Nat) : DrcCmd := ⟨n, false, .tenant 0, 3, some 5⟩

def tDrc (f : DrcCh → DrcCh) (s : State) : State := setDrc { s with tmm := { s.tmm with nch := 8 } } 0 f

/-- An entry of the directory: owned by agent 1, at line 0. -/
def wDir : DirE := ⟨0, .ow, 1, 0, false, 0, 0, 3, 15⟩

theorem witness_HomeAgentCommandsAct :
    Clocked tLink 3 ∧ Clocked tLink 4 ∧
    (let t := wTrk .readShared .line; let s := tHa (fun h => { h with trks := [t] });
      queueHead s 0 3 = some t ∧ lineActive s t.pa = false ∧ ∀ b, b ∈ s.ha.binv → b.e.pa ≠ t.pa) ∧
    (let t := wTrk .readShared .comp; let s := tHa (fun h => { h with trks := [t] }); trkAt s 5 = some t ∧ t.ph = .comp) ∧
    findRead (tDrc (fun d => { d with mode := .ready, issued := [wRead 2] }) tLink) 5 = some (0, wRead 2) ∧
    (let t : Trk := { wTrk .readShared .active with snps := [(1, .shared, none)] }; let s := tHa (fun h => { h with trks := [t] });
      t ∈ s.ha.trks ∧ t.id = 5 ∧ (1, SnpKind.shared, (none : Option SnpAns)) ∈ t.snps) ∧
    (let s := tHa (fun h => { h with poison := [(1, [(3, 0)])], sf := [wDir] });
      (1, [(3, 0)]) ∈ s.ha.poison ∧ ∀ e, e ∈ ownedBy s 1 → lineActive s e.pa = false) ∧
    (let s := setPort (tHa (fun h => { h with sweeps := [⟨0, .detach [1], some []⟩] })) 0 (fun (q : PortSt) => { q with detach := [⟨7, 1, [1], 0⟩] });
      (portOf s 0).detach.find? (fun d => d.mask == 1) = some ⟨7, 1, [1], 0⟩ ∧
      s.ha.sweeps.find? (fun w => w.no == 0) = some ⟨0, .detach [1], some []⟩ ∧ sweepDone s ⟨0, .detach [1], some []⟩ = true) ∧
    (let b : BInv := ⟨0xC00, wDir, true, [(1, some (.ack 0))], true, none, []⟩; let s := tHa (fun h => { h with binv := [b] });
      s.ha.binv.find? (fun b => b.sid == 0xC00 && b.evb && b.ready) = some b) ∧
    (let t := wTrk .readShared .evb; (tHa (fun h => { h with trks := [t] })).ha.trks.filter (fun t => t.ph == .evb) = [t]) ∧
    (let s : State := { tLink with tmm := { tLink.tmm with
        walks := [6], pages := [(6, { pg tLink 6 with st := .resident })] } };
      6 ∈ s.tmm.walks ∧ (pg s 6).st = .resident ∧ unread s 6 = false) ∧
    (let s : State := { tLink with tmm := { tLink.tmm with walks := [7], bad := [⟨0, some 1, 3, 1⟩] } };
      7 ∈ s.tmm.walks ∧ unread s 7 = true ∧ unread s 6 = false) := by
  refine ⟨?_, ?_, ?_, ?_, ?_, ?_, ?_, ?_, ?_, ?_, ?_, ?_⟩ <;> decide +kernel

theorem witness_FailedWriteConditionalWritesNothing :
    let t := wTrk .writeConditional .line; let m := t.r.m
    let s := tHa (fun h => { h with trks := [t], resv := [⟨1, 0, 8⟩] }); let u := tHa (fun h => { h with trks := [t], wcs := [(1, 9, true)] })
    (∀ x, x ∈ [s, u] → Clocked x 3 ∧ queueHead x 0 3 = some t ∧ lineActive x t.pa = false ∧ (∀ b, b ∈ x.ha.binv → b.e.pa ≠ t.pa) ∧
      findAgent x m.src = some ⟨1, 0, 0, true, some 0, false⟩ ∧ unresp x m.src = false) ∧ m.kind = .writeConditional ∧ t.r.who = none ∧
    (∀ w, w ∈ s.ha.wcs → ¬(w.1 = m.src ∧ w.2.1 = m.rtag)) ∧ (∀ x, x ∈ s.ha.resv → ¬(x.agent = m.src ∧ x.pa = t.pa ∧ x.rtag = m.rtag)) ∧
    u.ha.wcs.find? (fun w => w.1 == m.src && w.2.1 == m.rtag) = some (m.src, m.rtag, true) := by decide +kernel

/-- The tracker and the state of the read. -/
def wReadTrk (k : ReqKind) : Trk := { wTrk k .active with rd := .pend 2 }

def wReadSt (k : ReqKind) : State :=
  tDrc (fun d => { d with mode := .ready, issued := [wRead 2] }) (tHa (fun h => { h with trks := [wReadTrk k] }))

theorem witness_ReadOfUncachedLineGrantsE :
    (∀ k, k ∈ [ReqKind.readShared, .readUnique] →
      Clocked (wReadSt k) 3 ∧ findRead (wReadSt k) 5 = some (0, wRead 2) ∧ trkAt (wReadSt k) 5 = some (wReadTrk k) ∧
      findAgent (wReadSt k) 1 = some ⟨1, 0, 0, true, some 0, false⟩ ∧ unresp (wReadSt k) 1 = false ∧ drcUp (wReadSt k) 0 = true) ∧
    (wRead 2).trk = some 5 ∧ (wReadTrk .readUnique).rd = .pend (wRead 2).n ∧ (wReadTrk .readUnique).ph = .active ∧
    (wReadTrk .readUnique).snps = [] ∧ (wReadTrk .readUnique).r.who = none ∧ (wReadTrk .readUnique).r.m.src = 1 ∧
    (wRead 2).line = (wReadTrk .readUnique).pa ∧ dirAt (wReadSt .readUnique) 3 = none ∧ sfFull (wReadSt .readUnique) 3 = false ∧
    (dramGet (wReadSt .readUnique) 3).mark = 0 := by
  refine ⟨?_, ?_, ?_, ?_, ?_, ?_, ?_, ?_, ?_, ?_, ?_⟩ <;> decide +kernel

end
end

