-- ==== Sys2Proof/Tests/WitnessMemory.lean ====
section
/-!
SUPPORT. Tests/WitnessMemory.lean: the hypotheses of the statements on tenant memory, passes and DRAM can be met: one theorem for each
statement, one conjunct for each of its clauses.
-/
open Sys2Proof Sys2Proof.Machine

section

set_option Elab.async false

/-- The TMM enabled with eight channels that serve. -/
def tTmm (f : TmmSt → TmmSt) : State :=
  { State.reset with tmm := f { State.reset.tmm with nch := 8 }, drc := List.replicate 8 { drcOff with mode := .ready } }

/-- Tenant `t` LIVE with 2 MiB, the first argument `a0`, a count of one page. -/
def wLive (t : Nat) (a0 : Word) : State :=
  ((((tTmm id).setReg (Ad.DSC_CTRL t) 1).setReg (Ad.DSC_PLAIN t) 1).setReg Ad.TMM_CMD_ARG_0 a0).setReg Ad.TMM_CMD_ARG_1 1

theorem witness_TmmCommandsAct_takes : Takes (tTmm id) .cp Ad.TMM_CMD := takes_of_eval (by decide +kernel)

/-- Tenant 1,023 free, with a plain size. -/
def wPlain (p : Word) : State := (tTmm id).setReg (Ad.DSC_PLAIN 1023) p

theorem witness_TmmCommandsAct :
    (1023 < 1024 ∧ (tTmm id).tmm.cmd = none ∧ (tTmm id).tmm.nch ≠ 0) ∧
    (12 < 13 ∧ 255 < 256) ∧
    (tenantState (wPlain 131072) 1023 = 0 ∧ (wPlain 131072).fld (Ad.DSC_PLAIN 1023) 17 0 = 131072 ∧
      (wPlain 1).fld (Ad.DSC_PLAIN 1023) 17 0 = 1) ∧
    ((wPlain 131072).fld (Ad.DSC_LARGE_LO 1023) 16 0 = 0 ∧ (wPlain 131072).fld (Ad.DSC_LARGE_HI 1023) 16 0 = 0 ∧
      (wPlain 131072).fld (Ad.DSC_IMG_PAGES 1023) 16 0 = 0 ∧ (wPlain 131072).fld (Ad.DSC_IMG_BASE 1023) 16 0 = 0 ∧ overlaps 0 0 0 0 = false ∧ overlaps 64 0 0 65536 = false ∧
      overlaps 0 32 32 1 = false) ∧
    ptFits (wPlain 131072) 2048 = true ∧
    (let s := wLive 1023 0; tenantState s 1023 = 1 ∧ 1023 ≠ 0 ∧ rangeOk s 1023 0 1 = true ∧ rangeImage s 1023 0 1 = false ∧
      s.fld Ad.TMM_CMD_ARG_1 22 0 = 1 ∧ contained s 24 = false ∧ slotState s 1023 0 = 0 ∧ locked s 0 = false ∧ s.flt.esc = none) ∧
    rangeOk (wLive 1023 31) 1023 31 1 = true ∧
    slotState ((wLive 1 0).setReg (Ad.SLOT_CTRL 1 0) 3) 1 0 = 3 ∧
    (let s := (wLive 1 0).setReg (Ad.SLOT_CTRL 1 1) 2; slotState s 1 (1 - activeSlot s 1) = 2 ∧ bit (s.reg (Ad.DSC_CTRL 1)) 8 = false) ∧
    (let s := ((wLive 1 0).setReg (Ad.SLOT_CTRL 1 1) 2).setReg (Ad.DSC_CTRL 1) 0x101; slotState s 1 (1 - activeSlot s 1) = 2 ∧
      tenantState s 1 = 1 ∧ bit (s.reg (Ad.DSC_CTRL 1)) 8 = true ∧
      (evsOffer { s with evs := { s.evs with mode := .opened } } 2 [] none).2 ≠ .busy) ∧
    slotState ((wLive 1 0).setReg (Ad.SLOT_CTRL 1 0) 2) 1 0 = 2 ∧
    (wLive 1 1).fld Ad.TMM_CMD_ARG_0 21 0 % 2 ≠ activeSlot (wLive 1 1) 1 := by
  refine ⟨?_, ?_, ?_, ?_, ?_, ?_, ?_, ?_, ?_, ?_, ?_, ?_⟩ <;> decide +kernel

/-- Key of page 0 of tenant 1, its record, and a state with that page, a job and a fetch. -/
def wKey : Nat := 2 ^ 23

def wPage (st : PgSt) : PageE := ⟨st, false, false, false, false, false, 4096, 0, 0, 0, [], 0⟩

def wFetch (w : FWhat) : Fetch := ⟨some 3, w, true, 1, 0, 0, 0, [], false, some 0, 0, none⟩

def wJob (st : PgSt) (k : PJobKind) : State :=
  tTmm (fun m => { m with
    pages := [(wKey, wPage st)], jobs := [⟨wKey, k, some 4096, true, false⟩], fetches := [wFetch (.page wKey)],
    slots := [⟨1, 0, 0, 0, 1, sha256 [], [], []⟩] })

/-- A layout whose pool 0 folds: 64 chunks from 0x10000. -/
def wPool : List Byte :=
  toBytesLE 4 0 ++ toBytesLE 4 16 ++ List.replicate 24 0 ++ toBytesLE 4 3 ++ toBytesLE 4 16 ++ toBytesLE 4 64 ++ toBytesLE 4 0x10000 ++
    toBytesLE 4 64 ++ List.replicate 492 0

def wFold (n : Nat) : State :=
  let s := { wJob .resident .fold with tbl := { tblFresh with active := [⟨9, 1, wPool⟩] } }
  { s.setReg (Ad.DSC_FOLDQ 1) (w32 n) with ha := { s.ha with sweeps := [⟨4, .page wKey, some []⟩] } }

/-- A sweep that is done. -/
def wSweep (k : SweepKind) : State := { tTmm id with ha := { haFresh with sweeps := [⟨4, k, some []⟩] } }

theorem witness_TmmEventsAct_takes : Takes State.reset .cp Ad.TMM_CTRL ∧ Takes (wLive 1023 0) .cp (Ad.DSC_BIND 1023 0) ∧
    Takes (wLive 1023 0) .cp (Ad.DSC_BIND 1023 7) := by
  refine ⟨?_, ?_, ?_⟩ <;> exact takes_of_eval (by decide +kernel)

theorem witness_TmmEventsAct :
    bit (State.reset.reg Ad.TMM_CTRL) 0 = false ∧
    (1023 < 1024 ∧ 7 < 8 ∧ tenantState (wLive 1023 0) 1023 = 1 ∧ locked (wLive 1023 0) 0 = false) ∧ Clocked (tTmm id) 4 ∧
    (wSweep (.release 1)).ha.sweeps.find? (fun w => isRelease w.kind && sweepDone (wSweep (.release 1)) w) = some ⟨4, .release 1, some []⟩ ∧
    (wSweep (.flip 1023 0)).ha.sweeps.find? (fun w => (match w.kind with | .flip _ _ => true | _ => false) &&
      sweepDone (wSweep (.flip 1023 0)) w) = some ⟨4, .flip 1023 0, some []⟩ ∧
    (wSweep (.unbind 1 254)).ha.sweeps.find? (fun w => (match w.kind with | .unbind _ _ => true | _ => false) &&
      sweepDone (wSweep (.unbind 1 254)) w) = some ⟨4, .unbind 1 254, some []⟩ ∧
    (∀ w, w ∈ [FWhat.manifest 1 0, .level 1 0 2] → let s := tTmm (fun m => { m with fetches := [wFetch w] });
      s.tmm.fetches.find? (fun f => f.whole && (match f.what with | .manifest _ _ => true | .level _ _ _ => true | _ => false)) =
        some (wFetch w)) ∧
    (∀ k, k ∈ [PJobKind.fill, .unfold, .fetch, .fold] → jobOf (wJob .blank k) wKey = some ⟨wKey, k, some 4096, true, false⟩) ∧
    (let s := wJob .imagePending .fetch; s.tmm.fetches.find? (fun f => f.what == .page wKey) = some (wFetch (.page wKey)) ∧
      (wFetch (.page wKey)).whole = true ∧ (slotX s (keyTenant wKey) (wKey % 2)).bind (fun x => leafHash x (imgIdx s wKey)) = some (sha256 []) ∧
      sha256 (fetchBytes (wFetch (.page wKey))) = sha256 [] ∧
      (let u : State := { s with tmm := { s.tmm with jobs := [⟨wKey, .fetch, some 4096, true, true⟩] } };
        jobOf u wKey = some ⟨wKey, .fetch, some 4096, true, true⟩) ∧
      (let u : State := { s with tmm := { s.tmm with slots := [⟨1, 0, 0, 0, 1, sha256 [1], [], []⟩] } };
        let leaf := (slotX u (keyTenant wKey) (wKey % 2)).bind (fun x => leafHash x (imgIdx u wKey));
        leaf ≠ none ∧ leaf ≠ some (sha256 (fetchBytes (wFetch (.page wKey)))))) ∧
    (∀ c, c ∈ [0, 12] → let s := wFold 12; pageSweepDone s wKey = some ⟨4, .page wKey, some []⟩ ∧ c ≤ 12 ∧
      findChunks s (pg s wKey).pool (max 1 c) = some 0x10000 ∧
      tenantChunks s (keyTenant wKey) + max 1 c ≤ s.fld (Ad.DSC_FOLDQ (keyTenant wKey)) 25 0) ∧
    (let s := tTmm (fun m => { m with pages := [(wKey, wPage .imagePending)], ahead := [wKey] });
      s.tmm.ahead = wKey :: [] ∧ contained s 24 = false ∧ (ridsUsed s).length < 32 ∧ (pg s wKey).st = .imagePending ∧
      (pg s wKey).ppend = false ∧ jobOf s wKey = none) ∧
    (Clocked (tTmm id) 4 ∧ (List.range 1024).all (fun i => drcUp (tTmm id) (chanOf (tTmm id) (4096 * 1024 + i))) = true) := by
  refine ⟨?_, ?_, ?_, ?_, ?_, ?_, ?_, ?_, ?_, ?_, ?_, ?_⟩ <;> decide +kernel

theorem witness_FlipRefusedUnderEscalation :
    Takes { wLive 1 0 with flt := { fltFresh with esc := some 2 } } .cp Ad.TMM_CMD ∧
    ({ wLive 1 0 with flt := { fltFresh with esc := some 2 } } : State).flt.esc ≠ none ∧ (wLive 1 0).tmm.cmd = none :=
  ⟨takes_of_eval (by decide +kernel), by decide, rfl⟩

theorem witness_RefusedTmmCommandsChangeNothing :
    (tTmm (fun m => { m with cmd := some ⟨3, 1, 0, 1, 0, false⟩ })).tmm.cmd.isSome = true ∧
    (State.reset.tmm.cmd = none ∧ State.reset.tmm.nch = 0) ∧
    (let s := { wLive 1 0 with flt := { fltFresh with con0 := 0x1000000 } }; s.tmm.nch ≠ 0 ∧ contained s 24 = true ∧ s.tmm.cmd = none) ∧
    (let s := wLive 1 0; s.tmm.nch ≠ 0 ∧ contained s 24 = false ∧ s.flt.esc = none ∧ tenantState s 1 ≠ 0 ∧ tenantState s 1023 ≠ 1 ∧
      slotState s 1 0 ≠ 2 ∧ s.fld Ad.TMM_CMD_ARG_0 21 0 % 2 = activeSlot s 1) ∧
    slotState ((wLive 1 0).setReg (Ad.SLOT_CTRL 1 0) 1) 1 0 = 1 ∧ slotState ((wLive 1 0).setReg (Ad.SLOT_CTRL 1 0) 2) 1 0 = 2 := by
  decide +kernel

theorem witness_FilledFrameIsZero : Clocked (wJob .blank .fill) 4 ∧
    jobOf (wJob .blank .fill) wKey = some ⟨wKey, .fill, some 4096, true, false⟩ ∧
    ∀ i, i < (pg (wJob .blank .fill) wKey).nf * 1024 →
      drcUp (wJob .blank .fill) (chanOf (wJob .blank .fill) (4096 * 1024 + i)) = true := by decide +kernel

/-! ### Passes and channels -/

/-- Eight channels of 16,384 MiB that serve, tenant 1 LIVE, and the argument of a pass command. -/
def wPas (arg : Word) : State :=
  ((List.range 8).foldl (fun s c => s.setFld (Ad.DRC_CAP c) 15 0 16384) (wLive 1 0)).setReg Ad.PAS_CMD_ARG arg

/-- Channel 7, the last one, changed. -/
def tCh (f : DrcCh → DrcCh) : State := setDrc (tTmm id) 7 f

/-- The argument of a pass: class, rank, port, tenant, units. -/
def wArg (cls rank port tenant units : Nat) : Word :=
  w32 (units * 2 ^ 20 + port * 2 ^ 16 + rank * 2 ^ 12 + cls * 2 ^ 10 + tenant)

theorem witness_PassAndDramCommandsAct_takes : Takes (wPas 0) .cp Ad.PAS_CMD ∧ Takes State.reset .cp (Ad.DRC_CTRL 7) ∧
    Takes State.reset .cp (Ad.DRC_SCRUB 7) := by
  refine ⟨?_, ?_, ?_⟩ <;> exact takes_of_eval (by decide +kernel)

theorem witness_PassAndDramCommandsAct_passes :
    (∀ x, x ∈ [(0, 20), (1, 1), (2, 1)] → let s := wPas (wArg x.1 2 3 1 x.2); let p : Pass := ⟨0, x.1, 2, 3, 1, x.2⟩;
      let a := s.reg Ad.PAS_CMD_ARG;
      p = ⟨0, bf a 11 10, bf a 14 12, bf a 19 16, bf a 9 0, bf a 31 20⟩ ∧ passArgOk s p = true ∧ locked s 2 = false ∧
      tenantLive s p.tenant = true ∧ passes s = [] ∧ (List.range 256).find? (fun n => (passAt s n).isNone) = some 0 ∧
      passCeiling s p = true ∧ s.pas.oc = false ∧ passFits s p p.units = true) ∧
    (let s := (wPas (wArg 1 2 0 1 5)).setReg (Ad.PAS_PASS 255) (passWord ⟨255, 1, 2, 0, 1, 4⟩);
      passAt s 255 = some ⟨255, 1, 2, 0, 1, 4⟩ ∧ tenantLive s 1 = true ∧ passArgOk s ⟨255, 1, 2, 0, 1, 5⟩ = true ∧
      passCeiling s ⟨255, 1, 2, 0, 1, 5⟩ = true ∧ locked s 2 = false ∧ s.pas.oc = false ∧ passFits s ⟨255, 1, 2, 0, 1, 5⟩ 1 = true) ∧
    (3 < 4 ∧ 255 < 256) := by
  refine ⟨?_, ?_, ?_⟩ <;> decide +kernel

/-- A read that waits in a channel's queue. -/
def wCmd : DrcCmd := ⟨2, false, .overhead, 0, some 5⟩

theorem witness_PassAndDramCommandsAct_channels :
    (7 < nChans State.reset ∧ (drcCh State.reset 7).mode ≠ .training ∧ ChanUp State.reset 7 ∧ ChanUp State.reset 0) ∧
    (drcCh (tCh (fun d => { d with mode := .training })) 7).mode = .training ∧
    ((drcCh (tTmm id) 7).mode = .ready ∧ (drcCh (tTmm id) 7).scrubq = [] ∧ drcUp (tTmm id) 7 = true) ∧
    0 < (drcCh (tCh (fun d => { d with refDue := 1 })) 7).refDue ∧
    (let s := tCh (fun d => { d with q := [wCmd] }); drcNext (drcDrain s 7) 7 = some wCmd) ∧
    (drcCh (tCh (fun d => { d with scrubq := [9] })) 7).scrubq = 9 :: [] ∧ (drcCh (tCh (fun d => { d with corr := [9] })) 7).corr = 9 :: [] ∧
    (drcCh (tCh (fun d => { d with accel := true })) 7).accel = true := by
  refine ⟨?_, ?_, ?_, ?_, ?_, ?_, ?_, ?_⟩ <;> decide +kernel

theorem witness_GrantsStayWithinTheCommitLimit : Takes (wPas 0) .cp Ad.PAS_CMD := takes_of_eval (by decide +kernel)

theorem witness_FailedChannelServesNothing : ChanUp (tTmm id) 7 ∧ drcUp (tTmm id) 7 = true ∧
    ChanUp (tCh (fun d => { d with mode := .training })) 7 ∧ (drcCh (tCh (fun d => { d with mode := .training })) 7).mode = .training := by
  decide +kernel

end
end

