-- ==== Sys2Proof/Tests/WitnessRecords.lean ====
section
/-!
SUPPORT. Tests/WitnessRecords.lean: the hypotheses of the statements on time, motion and the evidence store can be met: one theorem for
each statement, one conjunct for each of its clauses.
-/
open Sys2Proof Sys2Proof.Machine

section

set_option Elab.async false

/-- The timebase, and motion, changed. -/
def tTb (f : TbSt → TbSt) : State := { State.reset with tb := f State.reset.tb }

def tMot (cfg : Word) (f : MotSt → MotSt) : State := { State.reset.setReg Ad.MOT_CFG cfg with mot := f State.reset.mot }

/-- An edge at cycle 0, not accepted. -/
def wEdge : PpsEdge := ⟨0, 0, 0, none, false, false, 0, false, false⟩

theorem witness_TimeAndMotionCommandsAct_time :
    (Clocked State.reset 1 ∧ 1000 ≤ 1000 ∧ State.reset.tb.edge = none) ∧
    (let s := tTb (fun t => { t with edge := some wEdge, cyc := 76800000 }); s.tb.edge = some wEdge ∧ cycSec ≤ (s.tb.cyc - wEdge.cyc) * 2) ∧
    ((tTb (fun t => { t with slew := true })).tb.slew = true ∧ (tTb (fun t => { t with slew := true })).tb.slewLeft = 0) ∧
    (let s := tTb (fun t => { t with servo := 5 }); s.tb.slew = false ∧ s.tb.servo ≠ 0 ∧ s.tb.servoLeft = 0) ∧
    (let s := tTb (fun t => { t with ppsLost := false, lastAcc := some 5, cyc := 230400005 });
      s.tb.ppsLost = false ∧ 3 * cycSec ≤ (s.tb.cyc - s.tb.lastAcc.getD 0) * 2) ∧
    (let s := tTb (fun t => { t with edge := some wEdge, cyc := 200000000 }); s.tb.edge = some wEdge ∧ wEdge.accepted = false ∧
      wEdge.bad = false ∧ 5 * cycSec + 768 * max 1 (s.fld Ad.TBU_SRV_CFG 23 16) < (s.tb.cyc - wEdge.cyc) * 5) ∧
    (let s := tTb (fun t => { t with steps := [[1]] }); s.tb.steps = [[1]] ∧
      (evsOffer { s with evs := { s.evs with mode := .opened } } 4 [1] none).2 ≠ .busy) ∧
    (let s := tTb (fun t => { t with time := 2000000000 }); s.tb.ppsOut.sec < s.tb.time / 1000000000 ∧ s.tb.ppsOut.rise = none) ∧
    (let s := tTb (fun t => { t with ppsOut := ⟨true, some 0, 15360000, 0⟩, cyc := 15360000 });
      s.tb.ppsOut.rise = some 0 ∧ s.tb.ppsOut.high = true ∧ 0 + s.tb.ppsOut.width ≤ s.tb.cyc) ∧
    (let s := tTb (fun t => { t with time := 2000000000 }); s.tb.intOsc = false ∧ s.tb.rtcSec < s.tb.time / 1000000000) ∧
    (let s := tTb (fun t => { t with alarm := some 7, time := 7 }); s.tb.alarm = some 7 ∧ 7 ≤ s.tb.time) ∧
    (tTb (fun t => { t with intOsc := true })).tb.intOsc = true ∧
    (¬Clocked (porst State.reset) 1 ∧ pinsOk (porst State.reset) = true ∧ bit ((porst State.reset).reg Ad.ISL_LATCH) 18 = false) ∧
    (let s := State.reset.setReg Ad.TBU_RTC_ALARM 0; Clocked s 0 ∧ s.reg Ad.TBU_RTC_SEC_LO = s.reg Ad.TBU_RTC_ALARM) := by
  refine ⟨?_, ?_, ?_, ?_, ?_, ?_, ?_, ?_, ?_, ?_, ?_, ?_, ?_, ?_⟩ <;> decide +kernel

theorem witness_TimeAndMotionCommandsAct_takes : Takes State.reset .cp Ad.TBU_ALARM_CTRL := takes_of_eval (by decide +kernel)

/-- Tenant 0 LIVE, agent 1 bound to it, which may record (bit 9) and bring time (bit 10). -/
def wBound : State := (tLink.setReg (Ad.DSC_CTRL 0) 0x601).setReg (Ad.DSC_BIND 0 0) 2

def wTod : TodMsg := ⟨5, 1, 0, 0, 100, 2, 300, true, true⟩

theorem witness_TimeAndMotionCommandsAct_motion :
    (let s := tMot 3 id; motEn s true = true ∧ motEn s false = true ∧ (s.fld Ad.MOT_CFG 7 4 + 1) * 1000 ≤ 1000 ∧ (motIn s true).overrate = false) ∧
    (let s : State := { tMot 3 (fun m => { m with a := ⟨[(0, 0)], false, false⟩ }) with tb := { State.reset.tb with cyc := 307200000 } };
      (motIn s false).edges = (0, 0) :: [] ∧ 2 * cycSec ≤ s.tb.cyc - 0) ∧
    (motPlaus (tMot 3 (fun m => { m with a := ⟨[], false, true⟩ })) = 5 ∧ (tMot 3 id).mot.plaus ≠ 5) ∧
    (motPlaus (tMot 3 (fun m => { m with dev := true })) = 2 ∧ motPlaus (tMot 3 (fun m => { m with plaus := 0 })) = 1) ∧
    (Accepts wBound 0 (.tod wTod) ∧ wTod.tenant < 1024 ∧ wBound.fld (Ad.DSC_CTRL 0) 2 0 = 1 ∧ bindBit wBound 0 1 = true ∧
      bit (wBound.reg (Ad.DSC_CTRL 0)) 10 = true) ∧
    (Accepts tLink 0 (.tod wTod) ∧ bindBit tLink 0 1 = false) := by
  refine ⟨?_, ?_, ?_, ?_, ?_, ?_⟩ <;> decide +kernel

theorem witness_LegalTimeStepsOnlyForward : State.reset.tb.time + 10 ^ 9 < 2 ^ 64 ∧
    (let s := tTb (fun t => { t with edge := some wEdge }); s.tb.edge = some wEdge ∧
      (s.tb.time : Int) + edgeLeft s wEdge (wEdge.offset 100) < 2 ^ 64 ∧ (s.tb.time : Int) + edgeLeft s wEdge (wEdge.offset (nearestSec wEdge)) < 2 ^ 64) ∧
    5 + 1000 < 2 ^ 64 := by
  refine ⟨?_, ?_, ?_⟩ <;> decide +kernel

/-! ### The evidence store -/

/-- The store changed: tenant 0 registered with number 3, type 0x40 open to tenants and critical. -/
def tEvs (f : EvsSt → EvsSt) : State :=
  { wBound.setReg (Ad.EVS_REC_CTRL 3) 0x80000000 with
    evs := f { wBound.evs with mode := .opened }
    tbl := { tblFresh with active := [⟨8, 1, toBytesLE 4 1 ++ [0x40, 7, 0, 0] ++ toBytesLE 4 12⟩] } }

/-- A partition of two sectors at 0. -/
def wPart (f : EvsSt → EvsSt) : State :=
  { ((tEvs f).setReg Ad.EVS_PART_SECTORS 2).setReg Ad.EVS_FLASH_INFO 1 with otp := { otpFresh with partOk := true } }

/-- A doorbell of agent 1 for tenant 0. -/
def wDoor (kind low : Nat) : DoorMsg := ⟨5, 1, 0, 0, kind, 0x40, 0, low⟩

def wQ (device : Bool) : QEntry := ⟨4, device, 0, 0x40, 0, 7, 1, [], none⟩

theorem witness_EvidenceStoreCommandsAct_doorbells :
    (∀ m, m ∈ [EvsMode.opened, .reserve] → let s := tEvs (fun e => { e with mode := m }); let A := arrived s 0 (.door (wDoor 0 7));
      Accepts s 0 (.door (wDoor 0 7)) ∧ isRecorder A 0 1 = true ∧ evsReg A 0 = some 3 ∧ A.evs.nonces = [] ∧ typeFlags A 0x40 % 4 = 3 ∧
      (A.evs.mode = .opened ∨ (A.evs.mode = .reserve ∧ typeCritical A 0x40 = true)) ∧ evsCount A < 56) ∧
    (let s := tEvs (fun e => { e with lastSeq := some 5 }); ∀ k, k ∈ [1, 2, 3, 255] → let A := arrived s 0 (.door (wDoor k 7));
      Accepts s 0 (.door (wDoor k 7)) ∧ isRecorder A 0 1 = true ∧ evsReg A 0 = some 3 ∧ A.evs.mode ≠ .scanning ∧ A.evs.mode ≠ .noGenesis ∧
      A.evs.exports = [] ∧ contained A 27 = false ∧ A.evs.lastSeq = some 5) ∧
    (let s := tEvs (fun e => { e with mode := .scanning }); ∀ k, k ∈ [0, 1, 2, 3, 255] →
      Accepts s 0 (.door (wDoor k 7)) ∧ (arrived s 0 (.door (wDoor k 7))).evs.mode = .scanning) := by
  refine ⟨?_, ?_, ?_⟩ <;> decide +kernel

theorem witness_EvidenceStoreCommandsAct_takes : Takes (tEvs id) .cp Ad.EVS_CMD ∧ Takes (tEvs id) .cp Ad.EVS_GENESIS ∧
    Takes (tEvs id) .cp (Ad.EVS_REC_CTRL 0) ∧ Takes (tEvs id) .cp (Ad.EVS_REC_CTRL 3) ∧ Takes (tEvs id) .cp Ad.EVS_X_CTRL := by
  refine ⟨?_, ?_, ?_, ?_, ?_⟩ <;> exact takes_of_eval (by decide +kernel)

theorem witness_EvidenceStoreCommandsAct_registers :
    (let s := tEvs (fun e => { e with q := [wQ false] }); s.chz.carve = none ∧ s.evs.q = wQ false :: [] ∧ (wQ false).device = false) ∧
    (let s := (wPart (fun e => { e with mode := .noGenesis })).setReg Ad.OTP_LIFECYCLE 1; locked s 6 = false ∧ s.evs.mode = .noGenesis ∧
      s.fld Ad.OTP_LIFECYCLE 1 0 = 1 ∧ (evsPart s).isSome = true ∧ bit (s.reg (Ad.CHZ_KEY_POL 1)) 16 = false ∧ s.evs.scanBad = false ∧
      s.evs.q = [] ∧ s.evs.headWait = []) ∧
    (let s := wPart (fun e => { e with scanBad := true }); partErased s = true) ∧
    (0 < 4 ∧ 3 < 4 ∧ locked (tEvs id) 6 = false ∧ (tEvs id).fld (Ad.EVS_REC_CTRL 3) 9 0 = bf (0x80000000 : Word) 9 0 ∧
      bit ((tEvs id).reg (Ad.EVS_REC_CTRL 3)) 31 = true ∧ bit (0x80000000 : Word) 31 = true) ∧
    ((wPart id).evs.xop = none ∧ contained (wPart id) 27 = false ∧ inPart (wPart id) 0 0x2000 256 = false ∧ inPart (wPart id) 1 0 256 = false ∧
      inPart (wPart id) 0 0x1FFF 1 = true ∧ inPart (wPart id) 0 0xFFFFFF80 256 = true ∧ (wPart (fun e => { e with scanBad := true })).evs.scanBad = true) := by
  refine ⟨?_, ?_, ?_, ?_, ?_⟩ <;> decide +kernel

/-- An answer for an engine of agent 0. -/
def wAns (w : Ag0Who) : Ag0Rsp := ⟨w, .data, 0, 0, 5⟩

def wRcpt : Rcpt := ⟨0, 1, 0, 7, 0, 0, 0x40, [], 0⟩

def wExp : ExportSt := ⟨3, 0, 1, 0, 1, 0, 4, 0, 0, 1⟩

/-- A sector full of a record that is older than the next, sequence 20, acknowledged. -/
def wErase : State := { wPart (fun e => { e with next := 20, ack := 100 }) with flash := [(0, 0)] }

theorem witness_EvidenceStoreCommandsAct_engines :
    (let s := { tEvs (fun e => { e with reading := [wQ false] }) with ha := { haFresh with ag0 := [wAns (.evsSub 4 0), wAns (.evsSub 4 1)] } };
      Clocked s 31 ∧ s.evs.reading.find? (fun e => e.idx == 4) = some (wQ false) ∧ ag0Peek s (.evsSub 4 0) = some (wAns (.evsSub 4 0)) ∧
      ag0Peek s (.evsSub 4 1) = some (wAns (.evsSub 4 1)) ∧ (wAns (.evsSub 4 0)).kind = .data ∧ (wAns (.evsSub 4 1)).kind = .data) ∧
    (let s := { tEvs (fun e => { e with rcpts := [(9, wRcpt)] }) with ha := { haFresh with ag0 := [wAns (.evsRcpt 9)] } };
      (ag0Take s (.evsRcpt 9)).map (fun x => x.2.evs.rcpts.find? (fun r => r.1 == 9)) = some (some (9, wRcpt))) ∧
    (let s := { tEvs (fun e => { e with exports := [wExp] }) with ha := { haFresh with ag0 := [wAns (.evsExp 3 0)] } };
      s.evs.exports.find? (fun e => e.reg == 3) = some wExp ∧ (ag0Take s (.evsExp 3 0)).isSome = true) ∧
    (let s := wPart (fun e => { e with mode := .scanning }); s.evs.mode = .scanning ∧ evsPart s = some (0, 0, 2) ∧ 0 < 2 ∧
      0 + 4096 * 2 ≤ 2 ^ 32 ∧ flashErased s (flashKey 0 0) (4096 * 2) = true) ∧
    (wErase.evs.mode ≠ .scanning ∧ wErase.evs.mode ≠ .noGenesis ∧ wErase.evs.erasing = none ∧ wErase.evs.eraseOff = false ∧
      contained wErase 27 = false ∧ flashHold wErase = false ∧ wErase.fld Ad.EVS_FLASH_INFO 0 0 = 1 ∧ eraseCand wErase = some 0) ∧
    (∀ k, k ∈ [0, 1] → let s := wPart (fun e => { e with erasing := some (1, k) }); s.evs.erasing = some (1, k) ∧ evsPart s = some (0, 0, 2) ∧ flashHold s = false) ∧
    (∀ op, op ∈ [1, 2, 3] → let s := tEvs (fun e => { e with xop := some ⟨op, 0, 0x3000, 256⟩ });
      s.evs.xop = some ⟨op, 0, 0x3000, 256⟩ ∧ flashHold s = false) ∧
    (let s := { tEvs id with flt := { fltFresh with offers := [⟨[1], 2⟩] } }; Clocked s 1 ∧ s.flt.offers = [⟨[1], 2⟩] ∧
      (evsOffer s 6 [1] (some 2)).2 = .accepted) := by
  refine ⟨?_, ?_, ?_, ?_, ?_, ?_, ?_, ?_⟩ <;> decide +kernel

theorem witness_OnlyAcknowledgedRecordsAreErased : 0 < evsSlots wErase := by decide +kernel

end
end

