-- ==== Sys2Proof/Tests/WitnessReset.lean ====
section
/-!
SUPPORT. Tests/WitnessReset.lean: the hypotheses of the statements on the queue, reset, valleys, debug, the control port and
registers can be met: one theorem for each statement, one conjunct for each of its clauses.
-/
open Sys2Proof Sys2Proof.Machine

section

set_option Elab.async false

theorem witness_FrontCommandRuns : (State.reset.withPending [.timecmpMatch, .idcode]).pending = .timecmpMatch :: [.idcode] := rfl

theorem witness_IdleStepIsATick : State.reset.pending = [] ∧ (tIsl (fun i => { i with phase := .porst })).pending = [] ∧
    (tIsl (fun i => { i with phase := .hold })).isl.phase = .hold := ⟨rfl, rfl, rfl⟩

/-- Latch 3 set and its level source pending, with commands in the queue. -/
def wLevel (l : List Instr) : State := ((State.reset.setReg Ad.ISL_LATCH 8).setReg (Ad.EVC_PEND 0) 8).withPending l

theorem witness_LevelSourcesStayPending : LevelsPending (wLevel [.evcPclr .cp 0 0xFFFFFFFF]) ∧
    (∃ t, step (wLevel [.evcPclr .cp 0 0xFFFFFFFF]) = .next t) ∧ (List.range 32).any (fun src => levelOn (wLevel []) src) = true :=
  ⟨levelsPending_of_eval (by decide +kernel), next_of_eval (by decide +kernel), by decide +kernel⟩

theorem witness_ResetAndSupplyCommandsAct :
    (tIsl (fun i => { i with phase := .porst })).isl.phase = .porst ∧ (tIsl (fun i => { i with phase := .hold })).isl.phase = .hold ∧
    (200 ≤ 200 ∧ State.reset.isl.phase = .run) ∧
    ((tIsl (fun i => { i with phase := .warm })).isl.phase = .warm ∧ (tIsl (fun i => { i with phase := .warm })).isl.warmInPor = false) ∧
    (5000 < 5001 ∧ State.reset.isl.phase ≠ .porst) ∧
    (35 ≤ 35 ∧ State.reset.isl.supplyOut.getLsbD (35 - 35) = false) ∧ (38 ≤ 38 ∧ State.reset.isl.supplyOut.getLsbD (38 - 35) = false) := by
  decide +kernel

theorem witness_ResetAndSupplyCommandsAct_droop : 5000 < 5001 ∧ 7234 < droopAt := by
  unfold droopAt
  omega

theorem witness_PowerOnResetLeaves : Instr.porstNAssert 200 = .porstNAssert 200 ∧ 200 ≤ 200 ∧ State.reset.otp.cmd = none :=
  ⟨rfl, by decide, rfl⟩

theorem witness_WarmResetKeepsLocks : 200 ≤ 200 ∧ (State.reset.setReg Ad.CP_LOCK 0x7FF).isl.phase = .run := ⟨by decide, rfl⟩

theorem witness_ShortResetPulsesAreIgnored : 199 < 200 ∧ Quiet (tRc (fun c => { c with wfi := true })) = true := by decide +kernel

/-- A device in valley `d`. -/
def tValley (d : Nat) (f : IslSt → IslSt) : State := (tIsl f).setFld Ad.CP_VALLEY 5 4 d

theorem witness_ValleyCommandsAct :
    Takes State.reset .cp Ad.CP_VALLEY ∧
    (Clocked (tRc id) 29 ∧ rcFree (tRc id) = true ∧ (tRc id).rc.sb = []) ∧
    (let s := (tRc id).setFld Ad.CP_VALLEY 5 4 2; s.isl.stage = .idle ∧ s.depth ≠ 0 ∧ Clocked s 29 ∧ rcFree s = true ∧ s.rc.sb = []) ∧
    (let s := tIsl (fun i => { i with stage := .drain, goal := 2 }); s.isl.stage = .drain ∧ drainOk s = true ∧ s.isl.phase = .run) ∧
    (let s := tIsl (fun i => { i with stage := .gbDrain, goal := 3 }); s.isl.stage = .gbDrain ∧ gbOk s = true ∧ s.isl.phase = .run) ∧
    (let s := tIsl (fun i => { i with stage := .waitRc }); s.isl.stage = .waitRc ∧ s.isl.phase = .run) ∧
    (let s := tIsl (fun i => { i with pll := 0 }); ∀ k, k ∈ [0, 17] → k < 2 + nPorts s ∧ s.isl.pll.getLsbD k = false ∧ s.depth ≠ 3) ∧
    (let s := State.reset; ∀ k, k ∈ [0, 1, 17] → k < 2 + nPorts s ∧ s.isl.pll.getLsbD k = true ∧ s.depth ≠ 3) ∧
    (let s := tIsl (fun i => { i with stage := .park, goal := 2 }); s.isl.stage = .park ∧ parkOk s = true ∧ s.isl.phase = .run) ∧
    (let s := tIsl (fun i => { i with stage := .waitWfi, goal := 3 }); basinOk s = true ∧ s.isl.phase = .run) ∧
    (let s := tValley 3 (fun i => { i with stage := .exit, goal := 2 });
      s.isl.stage = .exit ∧ exitReady s = true ∧ s.isl.goal = 2 ∧ s.isl.keptTarget = none ∧ s.isl.phase = .run) ∧
    (let s := tValley 2 id; vBusy s = false ∧ (s.depth = 2 ∨ s.depth = 3) ∧ demandIdle s 30 = true ∧ s.isl.phase = .run) ∧
    (let s := (tValley 2 (fun i => { i with autoRet := true })).setReg Ad.ISL_VALLEY_CFG 0x80000000;
      s.isl.autoRet = true ∧ s.isl.otherWake = false ∧ bit (s.reg Ad.ISL_VALLEY_CFG) 31 = true ∧ s.depth = 2 ∧ vBusy s = false ∧
        evsIdle s = true ∧ s.isl.phase = .run) ∧
    (let s := State.reset.setReg Ad.ISL_WAKE_EDGE 0xC0000003; Clocked s 0 ∧ 20 ≤ 20 ∧ pinsOk s = true ∧
      (∀ src, src ∈ [0, 15] → src < 16 ∧ bit (s.reg Ad.ISL_WAKE_EDGE) (2 * src + b2n (!true)) = true ∧
        bit (s.reg Ad.ISL_WAKE_EDGE) (2 * src + b2n (!false)) = true) ∧ true = !bit (s.reg Ad.TBU_SRV_CFG) 0) ∧
    (let s := { State.reset with tb := { State.reset.tb with intOsc := true } }; Clocked s 1 ∧ s.tb.intOsc = true) := by
  refine ⟨takes_of_eval ?_, ?_, ?_, ?_, ?_, ?_, ?_, ?_, ?_, ?_, ?_, ?_, ?_, ?_, ?_⟩ <;> decide +kernel

end
end

section
/-!
PROOF. Which registers the events of a block reach: its own event register and those of the event controller.
-/
namespace Sys2Proof.Machine

/-! ### Register frames -/

theorem RegsBut.refl (l : List Nat) (s : State) : RegsBut l s s := fun _ _ => rfl

theorem RegsBut.trans {l : List Nat} {s t u : State} (h1 : RegsBut l s t) (h2 : RegsBut l t u) : RegsBut l s u :=
  fun k hk => (h2 k hk).trans (h1 k hk)

theorem RegsBut.mono {l m : List Nat} {s t : State} (h : RegsBut l s t) (hs : l ⊆ m) : RegsBut m s t :=
  fun k hk => h k (fun hl => hk (hs hl))

theorem RegsBut.setReg {l : List Nat} {k : Nat} (s : State) (v : Word) (h : k ∈ l) : RegsBut l s (s.setReg k v) :=
  fun _ hj => reg_setReg_ne s v (fun e => hj (e ▸ h))

theorem Written.regsBut {l : List Nat} {k : Nat} {v : Word} {s b : State} (h : Written k v s b) (hk : k ∈ l) : RegsBut l s b := by
  obtain ⟨-, hother, -, -, -⟩ := h
  exact fun j hj => hother j (fun e => hj (e ▸ hk))

/-! ### Events -/

/-- The registers of the event controller that a hardware event reaches (R657, R661, R665). -/
def evcKeys : List Nat := (List.range 8).map Ad.EVC_PEND ++ (List.range 8).map Ad.EVC_MASK ++ [Ad.EVC_EVT, Ad.EVC_MSG_DROP_COUNT]

theorem evcPend_mem_evcKeys {i : Nat} (h : i < 8) : Ad.EVC_PEND i ∈ evcKeys := by
  simp only [evcKeys, List.mem_append, List.mem_map, List.mem_range]
  exact .inl (.inl ⟨i, h, rfl⟩)

theorem evcMask_mem_evcKeys {i : Nat} (h : i < 8) : Ad.EVC_MASK i ∈ evcKeys := by
  simp only [evcKeys, List.mem_append, List.mem_map, List.mem_range]
  exact .inl (.inr ⟨i, h, rfl⟩)

theorem evcKeys_ge {k : Nat} (h : k ∈ evcKeys) : 0xC00000 ≤ k :=
  (by decide : ∀ j ∈ evcKeys, 0xC00000 ≤ j) k h

theorem evcPend_regsBut (s : State) {src : Nat} (h : src < 256) : RegsBut evcKeys s (evcPend s src) := by
  have hi : src / 32 < 8 := by omega
  have hp : RegsBut evcKeys s (s.setRegBit (Ad.EVC_PEND (src / 32)) (src % 32)) := .setReg s _ (evcPend_mem_evcKeys hi)
  unfold evcPend
  dsimp only
  split
  · exact hp.trans (.setReg _ _ (evcMask_mem_evcKeys hi))
  · exact hp

theorem inc_regsBut {l : List Nat} {k : Nat} (s : State) (h : k ∈ l) : RegsBut l s (s.inc k) := by
  unfold State.inc
  split
  · exact .refl _ s
  · exact .setReg s _ h

theorem evcDropped_regsBut (s : State) : RegsBut evcKeys s (evcDropped s) :=
  ((inc_regsBut s (by decide)).trans (.setReg _ _ (by decide))).trans (evcPend_regsBut _ (by decide))

/-- Events queued, with drops that reach the event controller's registers alone, reach no others. -/
theorem evcQueueWith_regsBut {drop : State → State} (hd : ∀ s, RegsBut evcKeys s (drop s)) (t k src info : Nat)
    (l : List AgentRec) (s : State) : RegsBut evcKeys s (evcQueueWith drop t k src info l s) := by
  unfold evcQueueWith
  induction l generalizing s with
  | nil => exact .refl _ s
  | cons r l ih =>
    refine RegsBut.trans ?_ (ih _)
    unfold evcQueueOne
    dsimp only
    split
    · exact .refl _ s
    · exact hd _

theorem evcDropTold_regsBut (s : State) : RegsBut evcKeys s (evcDropTold s) := by
  unfold evcDropTold
  dsimp only
  split
  · exact (evcDropped_regsBut s).trans (evcQueueWith_regsBut evcDropped_regsBut _ _ _ _ _ _)
  · exact evcDropped_regsBut s

/-- A source's pending bit set, with its messages, reaches the event controller's registers alone; the sources from 224 on are
reserved. -/
theorem evcSet_regsBut (s : State) (src info : Nat) : RegsBut evcKeys s (evcSet s src info) := by
  unfold evcSet
  split
  · exact .refl _ s
  · rename_i hr
    have hsrc : src < 256 := by
      simp only [evcReserved, Bool.or_eq_true, decide_eq_true_eq] at hr
      omega
    dsimp only
    split
    · exact (evcPend_regsBut s hsrc).trans (evcQueueWith_regsBut evcDropTold_regsBut _ _ _ _ _ _)
    · exact evcPend_regsBut s hsrc

/-- The events of an SQ register reach it and the event controller's registers. -/
theorem sqEvt_regsBut (s : State) (k bits : Nat) : RegsBut (k :: evcKeys) s (sqEvt s k bits) := by
  have hk : RegsBut (k :: evcKeys) s (sqBits s k bits) := .setReg s _ (List.mem_cons_self ..)
  unfold sqEvt
  dsimp only
  split
  · exact hk.trans ((evcSet_regsBut _ _ _).mono (List.subset_cons_self ..))
  · exact hk

end Sys2Proof.Machine
end

section
/-!
PROOF. A write of TMM_CMD (R299): while a command is in progress it sets CMD_IGN and no more, otherwise the command begins; and what a
command that is refused touches.
-/
namespace Sys2Proof.Machine

/-! ### A write of which a block takes no bit -/

/-- A word of which no bit is taken, in a register without lockable fields, leaves the register as it reads and does nothing else. -/
theorem fieldsWrite_gated (s : State) (src : Src) (key : Nat) (r : RegRow) (ix : List Nat) (mask w : Word)
    (hl : ∀ f ∈ r.fields, lkField f = false) :
    Written key (s.reg key) s (fieldsWrite s src key r ix false (-1) mask w).1
      ∧ (fieldsWrite s src key r ix false (-1) mask w).2.cmds = [] := by
  have hm : mask &&& ~~~(-1 : Word) = 0 := by simp
  have hnone : fieldsJudge s src key r false (-1) mask w = ⟨s.reg key, s.stg key, [], 0, false, false⟩ := by
    have hfold (a : WAcc) : r.fields.foldl (fldWrite s src false 0 w) a = a :=
      foldl_id _ _ _ (fun f _ => by simp [fldWrite])
    have hlk : r.fields.filter (fun f => lkField f && (lockCauses s f != 0 || guarded src f)) = [] :=
      List.filter_eq_nil_iff.mpr (fun f hf => by simp [hl f hf])
    simp only [fieldsJudge, hm, hfold, hlk, List.foldl_nil, Bool.or_self, Nat.or_self, ite_self]
  have hpar : parWritten s key r 0 = s := by simp [parWritten]
  have hx : (fieldsWrite s src key r ix false (-1) mask w).1 = (s.setReg key (s.reg key)).setStg key (s.stg key) := by
    simp only [fieldsWrite, hnone, hm, hpar, if_true, Bool.false_eq_true, if_false]
  refine ⟨?_, by simp only [fieldsWrite, hnone]⟩
  rw [hx]
  refine ⟨by simp, fun j h => by rw [reg_setStg, reg_setReg_ne _ _ h], fun j => ?_, fun e h => h, rfl⟩
  rw [stg_setStg]
  split
  · rename_i h; rw [h]
  · rfl

/-! ### The write of TMM_CMD -/

/-- The row of TMM_CMD in the register index. -/
def tmmCmdRow : RegRow :=
  ⟨"TMM_CMD", 0x400004, [], 4, 0, 8, false, [⟨25, 16, "TENANT", .rw, 16, .none, 0⟩, ⟨7, 0, "OP", .rw, 16, .none, 0⟩]⟩

theorem regAt_tmmCmd : regAt Ad.TMM_CMD = some (tmmCmdRow, []) := by decide +kernel

theorem ownWrite_tmmCmd (s : State) (src : Src) (w : Word) : ownWrite s src Ad.TMM_CMD (-1) w = none := by
  simp [ownWrite, inArr, Ad.TMM_CMD]

theorem lthIgnores_tmmCmd (s : State) : lthIgnores s Ad.TMM_CMD = false := by
  simp [lthIgnores, lthGuardKey, lthRamKey, Ad.TMM_CMD]

theorem writeGate_tmmCmd (s : State) (w : Word) : writeGate s Ad.TMM_CMD w = if s.tmm.cmd.isSome then -1 else 0 := by
  have hd : ¬(0x410000 ≤ Ad.TMM_CMD ∧ Ad.TMM_CMD < 0x450000) := by decide
  simp only [writeGate, if_neg hd, lthIgnores_tmmCmd, Bool.false_eq_true, if_false, if_true]

/-- The word that a write of TMM_CMD leaves there. -/
def tmmCmdWord (old : Word) (op t : Nat) : Word := setBf (setBf old 25 16 (t % 1024)) 7 0 (op % 256)

theorem fieldsAcc_tmmCmd (s : State) (src : Src) (op t : Nat) :
    fieldsAcc s src Ad.TMM_CMD tmmCmdRow (-1) (tmmWord op t) =
      ⟨tmmCmdWord (s.reg Ad.TMM_CMD) op t, s.stg Ad.TMM_CMD, [], 0, false, false⟩ := by
  have ht : bf (tmmWord op t) 25 16 = t % 1024 := by
    rw [tmmWord, bf_w32 _ (by decide)]
    omega
  have ho : bf (tmmWord op t) 7 0 = op % 256 := by
    rw [tmmWord, bf_w32 _ (by decide)]
    omega
  have hall : (-1 : Word) = 4294967295#32 := rfl
  simp only [fieldsAcc, tmmCmdRow, List.foldl_cons, List.foldl_nil, hall]
  rw [fldWrite_rw _ _ _ _ _ _ _ _ (by decide) (by decide), fldWrite_rw _ _ _ _ _ _ _ _ (by decide) (by decide), ht, ho]
  rfl

/-- A write of TMM_CMD while no command is in progress writes the register, and the command begins. -/
theorem regWrite_tmmCmd_idle {s : State} (src : Src) (op t : Nat) (hc : s.tmm.cmd = none) :
    ∃ b, Written Ad.TMM_CMD (tmmCmdWord (s.reg Ad.TMM_CMD) op t) s b ∧
      (regWrite s src Ad.TMM_CMD none (tmmWord op t)).1 = tmmCmd b (op % 256) (t % 1024) := by
  have hacc := fieldsAcc_tmmCmd s src op t
  obtain ⟨b, hb, hw⟩ := regWrite_common (l := []) regAt_tmmCmd (.inr (by decide)) (by decide) (ownWrite_tmmCmd s src (tmmWord op t))
    (by simp [writeGate_tmmCmd, hc]) (by simp [writeIgnored, lthIgnores_tmmCmd, hc])
    (by rw [hacc]) (by rw [hacc]) (by rw [hacc]) (by rw [hacc]) (by rw [hacc])
  have hop : b.fld Ad.TMM_CMD 7 0 = op % 256 := by
    rw [State.fld, hb.1, tmmCmdWord, bf_setBf_self _ _ (by decide)]
    omega
  have hten : b.fld Ad.TMM_CMD 25 16 = t % 1024 := by
    rw [State.fld, hb.1, tmmCmdWord, bf_setBf_other _ _ (.inr (by decide)), bf_setBf_self _ _ (by decide)]
    omega
  refine ⟨b, hb, ?_⟩
  rw [hw]
  simp [cmdSeq, regHook, hc, hop, hten]

/-- A write of TMM_CMD while a command is in progress sets CMD_IGN, and the register stays as it reads. -/
theorem regWrite_tmmCmd_busy {s : State} (src : Src) (w : Word) (hc : s.tmm.cmd.isSome = true) :
    Written Ad.TMM_CMD ((tmmEvt s 2).reg Ad.TMM_CMD) (tmmEvt s 2) (regWrite s src Ad.TMM_CMD none w).1 := by
  have hi : writeIgnored s Ad.TMM_CMD = tmmEvt s 2 := by simp [writeIgnored, lthIgnores_tmmCmd, hc]
  obtain ⟨hb, hcmds⟩ := fieldsWrite_gated (tmmEvt s 2) src Ad.TMM_CMD tmmCmdRow [] (-1) w (by decide)
  rw [regWrite_listed regAt_tmmCmd (.inr (by decide)) (by decide) (ownWrite_tmmCmd s src w), hi, writeGate_tmmCmd, if_pos hc, hcmds]
  simpa [cmdSeq, regHook, hc] using hb

/-! ### Commands that are refused -/

/-- The registers that a refused TMM command touches: its own, and those that its events reach. -/
def tmmRefusalKeys : List Nat := [Ad.TMM_CMD, Ad.TMM_CMD_STATUS, Ad.TMM_EVT] ++ evcKeys

/-- Of the registers only those of the command and its events differ, and beyond registers, staged copies and parity errors (which the
write may touch, R140) the event controller alone. -/
structure TmmRefused (s u : State) : Prop where
  regs : RegsBut tmmRefusalKeys s u
  rest : u = { s with regs := u.regs, staged := u.staged, parErr := u.parErr, evc := u.evc }

theorem TmmRefused.trans {s t u : State} (h1 : TmmRefused s t) (h2 : TmmRefused t u) : TmmRefused s u :=
  ⟨h1.regs.trans h2.regs, by rw [h2.rest, h1.rest]⟩

theorem TmmRefused.of_written {v : Word} {s b : State} (h : Written Ad.TMM_CMD v s b) : TmmRefused s b := by
  refine ⟨h.regsBut (by decide), ?_⟩
  obtain ⟨-, -, -, -, hb⟩ := h
  rw [hb]

theorem TmmRefused.setFld {k hi lo v : Nat} (s : State) (h : k ∈ tmmRefusalKeys) : TmmRefused s (s.setFld k hi lo v) :=
  ⟨.setReg s _ h, rfl⟩

theorem TmmRefused.tmmEvt (s : State) (bits : Nat) : TmmRefused s (tmmEvt s bits) := by
  refine ⟨(sqEvt_regsBut s Ad.TMM_EVT bits).mono (by decide), ?_⟩
  have h := eq_of_maskEvt (maskEvt_sqEvt s Ad.TMM_EVT bits)
  rw [Machine.tmmEvt, h]

/-- A command that ends at once, where none was in progress, leaves its RESULT and CMD_DONE. -/
theorem tmmEnd_setCmd {s : State} (c : Option TmmCmd) (r : Nat) (h : s.tmm.cmd = none) :
    tmmEnd (setCmd s c) r = tmmEvt (s.setFld Ad.TMM_CMD_STATUS 23 16 r) 1 := by
  have hs : ({ setCmd s c with tmm := { (setCmd s c).tmm with cmd := none } } : State) = s := by
    rw [setCmd, ← h]
  rw [tmmEnd, hs]

/-- An event of the TMM leaves TMM_CMD_STATUS as it reads. -/
theorem tmmEvt_status (s : State) (bits hi lo : Nat) :
    (tmmEvt s bits).fld Ad.TMM_CMD_STATUS hi lo = s.fld Ad.TMM_CMD_STATUS hi lo :=
  congrArg (bf · hi lo) (sqEvt_regsBut s Ad.TMM_EVT bits Ad.TMM_CMD_STATUS (by decide))

/-- A command refused at its start changes nothing but its registers and events, and reads its RESULT. -/
theorem tmmEnd_refused {s : State} (op r : Nat) (c : Option TmmCmd) (h : s.tmm.cmd = none) (hr : r < 256) :
    let u := tmmEnd (setCmd (s.setFld Ad.TMM_CMD_STATUS 15 8 op) c) r
    TmmRefused s u ∧ u.fld Ad.TMM_CMD_STATUS 23 16 = r := by
  intro u
  have hu : u = tmmEvt ((s.setFld Ad.TMM_CMD_STATUS 15 8 op).setFld Ad.TMM_CMD_STATUS 23 16 r) 1 := tmmEnd_setCmd c r h
  rw [hu]
  constructor
  · exact ((TmmRefused.setFld s (by decide)).trans (.setFld _ (by decide))).trans (.tmmEvt _ 1)
  · rw [tmmEvt_status, State.fld, reg_setFld, if_pos rfl, bf_setBf_self _ _ (by decide)]
    omega

/-- The registers of a tenant descriptor are none that a refused command touches. -/
theorem descriptor_not_mem_tmmRefusalKeys {k : Nat} (h : 0x410000 ≤ k) (h2 : k < 0xC00000) : k ∉ tmmRefusalKeys := by
  intro hk
  rcases List.mem_append.mp hk with h3 | h3
  · simp only [List.mem_cons, List.not_mem_nil, or_false, Ad.TMM_CMD, Ad.TMM_CMD_STATUS, Ad.TMM_EVT] at h3
    omega
  · exact absurd (evcKeys_ge h3) (by omega)

theorem dscCtrl_not_mem_tmmRefusalKeys {n : Nat} (hn : n < 1024) : Ad.DSC_CTRL n ∉ tmmRefusalKeys := by
  apply descriptor_not_mem_tmmRefusalKeys <;> (simp only [Ad.DSC_CTRL]; omega)

theorem slotCtrl_not_mem_tmmRefusalKeys {n k : Nat} (hn : n < 1024) (hk : k < 2) : Ad.SLOT_CTRL n k ∉ tmmRefusalKeys := by
  apply descriptor_not_mem_tmmRefusalKeys <;> (simp only [Ad.SLOT_CTRL]; omega)

theorem TmmRefused.activeSlot {s u : State} (h : TmmRefused s u) {n : Nat} (hn : n < 1024) : activeSlot u n = activeSlot s n :=
  congrArg (bf · 4 4) (h.regs _ (dscCtrl_not_mem_tmmRefusalKeys hn))

theorem TmmRefused.slotState {s u : State} (h : TmmRefused s u) {n k : Nat} (hn : n < 1024) (hk : k < 2) :
    slotState u n k = slotState s n k :=
  congrArg (bf · 1 0) (h.regs _ (slotCtrl_not_mem_tmmRefusalKeys hn hk))

/-! ### FLIP under an escalation -/

/-- A FLIP that begins under an escalation ends at once: with RESULT 2 where the TMM is not enabled, otherwise with RESULT 7,
contained or not (Tables 8-2 and 19-3). -/
theorem tmmCmd_flip_escalated {s : State} (t : Nat) (hc : s.tmm.cmd = none) (he : s.flt.esc ≠ none) :
    ∃ r c, (r = 2 ∨ r = 7) ∧ tmmCmd s 10 t = tmmEnd (setCmd (s.setFld Ad.TMM_CMD_STATUS 15 8 10) c) r := by
  let a := s.fld Ad.TMM_CMD_ARG_0 21 0
  let c : Option TmmCmd := some ⟨10, t, a, s.fld Ad.TMM_CMD_ARG_1 22 0, a, false⟩
  by_cases hn : s.tmm.nch = 0
  · exact ⟨2, c, .inl rfl, by simp [tmmCmd, hc, hn, c, a]⟩
  · have hflip : tmmFlip (setCmd (s.setFld Ad.TMM_CMD_STATUS 15 8 10) c) t = tmmEnd (setCmd (s.setFld Ad.TMM_CMD_STATUS 15 8 10) c) 7 :=
      if_pos (Option.isSome_iff_ne_none.mpr he)
    exact ⟨7, c, .inr rfl, by simp [tmmCmd, hc, hn, ← hflip, c, a]⟩

/-- A FLIP written to TMM_CMD under an escalation touches its registers and events alone, whatever the tenant, and where no command
was in progress its RESULT is not OK (R36). -/
theorem regWrite_flip_escalated (s : State) (src : Src) (t : Nat) (he : s.flt.esc ≠ none) :
    let u := (regWrite s src Ad.TMM_CMD none (tmmWord 10 t)).1
    TmmRefused s u ∧ (s.tmm.cmd = none → u.fld Ad.TMM_CMD_STATUS 23 16 ≠ 0) := by
  intro u
  cases hc : s.tmm.cmd with
  | some c =>
    have hw : Written Ad.TMM_CMD _ (tmmEvt s 2) u := regWrite_tmmCmd_busy src (tmmWord 10 t) (by rw [hc]; rfl)
    exact ⟨(TmmRefused.tmmEvt s 2).trans (.of_written hw), nofun⟩
  | none =>
    obtain ⟨b, hb, hu⟩ := regWrite_tmmCmd_idle src 10 t hc
    have hsb : TmmRefused s b := .of_written hb
    have htmm : b.tmm = s.tmm := by rw [hsb.rest]
    have hflt : b.flt = s.flt := by rw [hsb.rest]
    obtain ⟨r, c, hr, hflip⟩ := tmmCmd_flip_escalated (s := b) (t % 1024) (by rw [htmm, hc]) (by rw [hflt]; exact he)
    obtain ⟨hbu, hres⟩ := tmmEnd_refused (s := b) 10 r c (by rw [htmm, hc]) (by omega)
    rw [← hflip, ← show u = _ from hu] at hbu hres
    exact ⟨hsb.trans hbu, fun _ => by omega⟩

/-- Settles O37: the write of TMM_CMD is refused whether or not a command is in progress, and a refusal touches the command's registers
and its events alone. -/
theorem flipRefusedUnderEscalation : Obligations.FlipRefusedUnderEscalation := by
  unfold Obligations.FlipRefusedUnderEscalation
  intro s src t htakes he
  obtain ⟨href, hres⟩ := regWrite_flip_escalated s src t he
  refine ⟨_, congrArg (fun u => Host.Outcome.next (finish s u)) (rowWrite_takes _ htakes),
    fun n hn => ⟨href.activeSlot hn, fun k hk => href.slotState hn hk⟩, ?_, ?_, ?_, ?_, ?_, hres⟩
  all_goals rw [href.rest]

end Sys2Proof.Machine
end

section
/-!
PROOF. CP_VALLEY field by field, and what a write of its TARGET comes to: acted on at once, or kept while a transition runs (R53, R72).
-/
namespace Sys2Proof.Machine

/-! ### Fields of a register -/

theorem fld_setFld_self (s : State) (k v : Nat) {hi lo : Nat} (h : hi < 32) :
    (s.setFld k hi lo v).fld k hi lo = v % 2 ^ (hi + 1 - lo) := by
  rw [State.fld, reg_setFld, if_pos rfl, bf_setBf_self _ _ h]

/-- A written field leaves every other field of its register as it reads. -/
theorem fld_setFld_other (s : State) (k v : Nat) {hi lo h2 l2 : Nat} (hd : hi < l2 ∨ h2 < lo) :
    (s.setFld k h2 l2 v).fld k hi lo = s.fld k hi lo := by
  rw [State.fld, reg_setFld, if_pos rfl, bf_setBf_other _ _ hd]
  rfl

/-! ### A write of TARGET -/

/-- The state with ABANDONED cleared and TARGET written. -/
def targetSet (s : State) (v : Nat) : State := vTarget (s.setFld Ad.CP_VALLEY 7 7 0) v

/-- Of CP_VALLEY's fields above TARGET every one but ABANDONED, so CURRENT, BUSY and WAKE_SRC, reads as before. -/
theorem fld_targetSet_other (s : State) (v : Nat) {hi lo : Nat} (h1 : 1 < lo) (h7 : hi < 7 ∨ 7 < lo) :
    (targetSet s v).fld Ad.CP_VALLEY hi lo = s.fld Ad.CP_VALLEY hi lo := by
  rw [targetSet, vTarget, fld_setFld_other _ _ _ (.inr h1), fld_setFld_other _ _ _ h7]

theorem targetSet_depth (s : State) (v : Nat) : (targetSet s v).depth = s.depth :=
  fld_targetSet_other s v (by decide) (by decide)

theorem vBusy_targetSet (s : State) (v : Nat) : vBusy (targetSet s v) = vBusy s :=
  congrArg (· == 1) (fld_targetSet_other s v (by decide) (by decide))

theorem targetSet_target (s : State) {v : Nat} (hv : v < 4) : (targetSet s v).fld Ad.CP_VALLEY 1 0 = v := by
  rw [targetSet, vTarget, fld_setFld_self _ _ _ (by decide)]
  exact Nat.mod_eq_of_lt hv

theorem reg_targetSet (s : State) (v : Nat) :
    (targetSet s v).reg Ad.CP_VALLEY = setBf (setBf (s.reg Ad.CP_VALLEY) 7 7 0) 1 0 v := by
  rw [targetSet, vTarget, reg_setFld, if_pos rfl, reg_setFld, if_pos rfl]

/-- A write while no transition runs is acted on at once. -/
theorem targetWrite_idle {s : State} (v : Nat) (hb : vBusy s = false) : targetWrite s v = targetAct (targetSet s v) v := by
  rw [targetWrite, hb]
  rfl

/-- A TARGET of the depth that the device stands at starts nothing (R53). -/
theorem targetAct_depth (s : State) : targetAct s s.depth = s := if_pos rfl

theorem targetWrite_depth {s : State} (hb : vBusy s = false) : targetWrite s s.depth = targetSet s s.depth :=
  calc targetWrite s s.depth
    _ = targetAct (targetSet s s.depth) s.depth := targetWrite_idle s.depth hb
    _ = targetAct (targetSet s s.depth) (targetSet s s.depth).depth := by rw [targetSet_depth]
    _ = targetSet s s.depth := targetAct_depth _

/-- A write while a transition runs is kept, in the place of an earlier one (R72). -/
theorem targetWrite_busy {s : State} (v : Nat) (hb : vBusy s = true) :
    targetWrite s v = { targetSet s v with isl := { s.isl with keptTarget := some v } } := by
  rw [targetWrite, hb]
  rfl

/-- The kept TARGET is acted on once no transition runs, and is kept no longer (R72). -/
theorem keptAct_some {s : State} {v : Nat} (hk : s.isl.keptTarget = some v) (hb : vBusy s = false) :
    keptAct s = targetAct (vTarget { s with isl := { s.isl with keptTarget := none } } v) v := by
  simp [keptAct, hk, hb]

/-- Settles O12: where BUSY is 0 the write is `targetSet` alone, and where it is 1 `targetSet` with the TARGET kept. -/
theorem targetWriteWhileBusyIsKept : Obligations.TargetWriteWhileBusyIsKept := by
  unfold Obligations.TargetWriteWhileBusyIsKept
  intro s v hv
  constructor
  · rintro hb rfl
    rw [targetWrite_depth hb]
    exact ⟨rfl, .trans (.setReg s _ (by decide)) (.setReg _ _ (by decide)), reg_targetSet s _⟩
  · intro hb
    rw [targetWrite_busy v hb]
    exact ⟨rfl, rfl, rfl, targetSet_depth s v, targetSet_target s hv, (vBusy_targetSet s v).trans hb, fun _ => keptAct_some⟩

end Sys2Proof.Machine
end

section
/-!
PROOF. The TAP (R69, Table 2-8): a command that changes the TAP alone ends there in a quiet device, and DBG_ACCESS by its grant (R70).
-/
namespace Sys2Proof.Machine

/-! ### What the TAP leaves quiet -/

/-- Only the operation of DBG_ACCESS in progress counts of the TAP, and no free value does. -/
theorem quiet_setTap (s : State) {t : TapSt} (n : Nat) (h : t.acc = s.tap.acc) : Quiet { s with tap := t, free := n } = Quiet s := by
  unfold Quiet
  dsimp only
  rw [h]
  rfl

/-- In a quiet device nothing follows a change of the TAP that begins and ends no operation. -/
theorem finish_setTap {s : State} {t : TapSt} (n : Nat) (hq : Quiet s = true) (h : t.acc = s.tap.acc) :
    finish s { s with tap := t, free := n } = { s with tap := t, free := n } :=
  finish_quiet ((quiet_setTap s n h).trans hq) rfl rfl

/-- TRST_N, boundary scan, IDCODE, BYPASS, the challenge and the status scan: the TAP's own effect, which no operation of DBG_ACCESS
begins or ends. -/
theorem exec_scan (s : State) {c : Instr}
    (hc : c ∈ [Instr.trstNReset, .extest, .idcode, .samplePreload, .bypass, .unlockChal, .unlockRespStatus]) :
    ∃ t n, exec c s = .next (finish s { s with tap := t, free := n }) ∧ t.acc = s.tap.acc ∧
      (c = .trstNReset → n = s.free ∧ t = { s.tap with ir := 1, dr := 0 }) := by
  simp only [List.mem_cons, List.not_mem_nil, or_false] at hc
  rcases hc with rfl | rfl | rfl | rfl | rfl | rfl | rfl
  case inl => exact ⟨_, _, rfl, rfl, fun _ => ⟨rfl, rfl⟩⟩
  all_goals exact ⟨_, _, rfl, rfl, nofun⟩

/-- Settles O14: each of the commands is a change of the TAP, which in a quiet device nothing follows. -/
theorem tapLeavesTheRest : Obligations.TapLeavesTheRest := by
  unfold Obligations.TapLeavesTheRest
  intro s c hq hc
  obtain ⟨t, n, hexec, hacc, htrst⟩ := exec_scan s hc
  exact ⟨{ s with tap := t, free := n }, by rw [hexec, finish_setTap n hq hacc], rfl, htrst⟩

/-! ### DBG_ACCESS -/

/-- The operations of DBG_ACCESS, each with the GRANT bit that opens it (R70). -/
inductive DbgOp : Instr → Nat → Prop
  | icRead (a : Nat) : DbgOp (.dbgIcRead a) 1
  | icWrite (a : Nat) (d : Word) : DbgOp (.dbgIcWrite a d) 2
  | windowRead (a : Nat) : DbgOp (.dbgWindowRead a) 3
  | windowWrite (a : Nat) (d : Word) : DbgOp (.dbgWindowWrite a d) 4
  | halt : DbgOp .dbgHalt 0
  | resume : DbgOp .dbgResume 0
  | step : DbgOp .dbgStep 0
  | readRegister (n : Nat) : DbgOp (.dbgReadRegister n) 0
  | warmReset (tcxo : Bool) (ticks : Nat) : DbgOp (.dbgWarmReset tcxo ticks) 5

theorem onRun_run {s : State} (f : State → State) (h : s.isl.phase = .run) : onRun f s = f s := if_pos h

/-- Each operation is an access under its GRANT bit. -/
theorem DbgOp.exec_dbgAccess {c : Instr} {g : Nat} (h : DbgOp c g) {s : State} (hrun : s.isl.phase = .run) :
    ∃ f, exec c s = .next (finish s (dbgAccess s g f)) := by
  cases h <;> exact ⟨_, congrArg (fun u => Host.Outcome.next (finish s u)) (onRun_run _ hrun)⟩

/-- Before an unlock an access selects BYPASS and nothing more. -/
theorem dbgAccess_locked {s : State} (g : Nat) (f : State → State) (h : s.tap.grant = 0) :
    dbgAccess s g f = { s with tap := { s.tap with ir := 0x3F, dr := 0 } } := if_pos h

/-- Under a grant without its bit an access that can begin ends DENIED (STATUS 2), after the scan of the last one's answer. -/
theorem dbgAccess_denied {s : State} {g : Nat} (f : State → State) (h : s.tap.grant ≠ 0) (ha : s.tap.acc = none)
    (hb : s.tap.grant.testBit g = false) :
    dbgAccess s g f = { s with tap := { s.tap with
      ir := 0x22, dr := s.tap.accStatus * 2 ^ 32 + s.tap.accData.toNat, acc := none, accStatus := 2, accData := 0 } } := by
  simp [dbgAccess, h, tapIr, setTap, ha, hb, accEnd]

/-- Settles O15: each operation is an access under its GRANT bit, which does nothing without a grant and is denied without its bit. -/
theorem lockedDebugSelectsBypass : Obligations.LockedDebugSelectsBypass := by
  unfold Obligations.LockedDebugSelectsBypass
  intro s c g hrun hop
  have hdbg : DbgOp c g := by
    rcases hop with ⟨a, rfl, rfl⟩ | ⟨a, d, rfl, rfl⟩ | ⟨a, rfl, rfl⟩ | ⟨a, d, rfl, rfl⟩ | ⟨rfl, rfl⟩ | ⟨rfl, rfl⟩ | ⟨rfl, rfl⟩ |
      ⟨n, rfl, rfl⟩ | ⟨x, k, rfl, rfl⟩ <;> constructor
  obtain ⟨f, hexec⟩ := hdbg.exec_dbgAccess hrun
  rw [hexec]
  constructor
  · intro hg
    rw [dbgAccess_locked g f hg]
    exact ⟨rfl, fun hq => congrArg Host.Outcome.next (finish_setTap s.free hq rfl)⟩
  · intro hg hacc hbit
    rw [dbgAccess_denied f hg hacc hbit]

end Sys2Proof.Machine
end

section
/-!
PROOF. The glitch filter of the reset pins (R62).
-/
namespace Sys2Proof.Machine

theorem porstAssert_short (s : State) {low : Nat} (h : low < 200) : porstAssert s low = s := if_pos h

theorem wrstAssert_short (s : State) {low : Nat} (h : low < 200) : wrstAssert s low = s := if_pos h

/-- Settles O10: the filter leaves the state to `finish` as it is, and in a quiet device nothing follows. -/
theorem shortResetPulsesAreIgnored : Obligations.ShortResetPulsesAreIgnored := by
  unfold Obligations.ShortResetPulsesAreIgnored
  intro s low hlow
  have hporst : exec (.porstNAssert low) s = .next (finish s s) :=
    congrArg (fun u => Host.Outcome.next (finish s u)) (porstAssert_short s hlow)
  have hwrst : exec (.wrstNAssert low) s = .next (finish s s) :=
    congrArg (fun u => Host.Outcome.next (finish s u)) (wrstAssert_short s hlow)
  refine ⟨hporst, hwrst, fun hq => ?_⟩
  rw [hporst, hwrst, finish_quiet hq rfl rfl]
  exact ⟨rfl, rfl⟩

end Sys2Proof.Machine
end

section
/-!
PROOF. Write-once fields (R134): what a word written whole does to one.
-/
namespace Sys2Proof.Machine

/-- A field replaced by what it holds leaves the word as it is. -/
theorem setBf_bf (w : Word) (h l : Nat) : setBf w h l (bf w h l) = w := by
  rw [← merge_eq_setBf]
  apply BitVec.eq_of_getLsbD_eq
  intro i hi
  simp only [merge, BitVec.getLsbD_or, BitVec.getLsbD_and, BitVec.getLsbD_not, hi, decide_true, Bool.true_and]
  cases (fmask h l).getLsbD i <;> simp

/-- A word with a field of another one is the old word just where the two fields agree. -/
theorem setBf_bf_eq_self (old w : Word) {hi lo : Nat} (h : hi < 32) : setBf old hi lo (bf w hi lo) = old ↔ bf w hi lo = bf old hi lo := by
  constructor
  · intro e
    rw [← bf_merge_self old w h, merge_eq_setBf, e]
  · intro e
    rw [e, setBf_bf]

/-- A WO field ignores the value it holds, takes another one from its reset value alone, and reports a lock violation otherwise. -/
theorem fldWrite_wo (s : State) (src : Src) (w : Word) (a : WAcc) {f : Fld} (ht : f.ty = .wo) (h : f.hi < 32) (h2 : f.lo ≤ f.hi) :
    fldWrite s src false (-1) w a f =
      if bf w f.hi f.lo = bf a.reg f.hi f.lo then a
      else if bf a.reg f.hi f.lo = f.reset then { a with reg := setBf a.reg f.hi f.lo (bf w f.hi f.lo) }
      else { a with causes := a.causes ||| 2048 } := by
  have hall : (-1 : Word) = 4294967295#32 := rfl
  simp only [fldWrite, hall, fmask_and_all, if_neg (fmask_ne_zero h h2), ht, merge_eq_setBf, setBf_bf_eq_self _ _ h]

/-- Settles O21: the three cases are the branches of `fldWrite_wo`; a reset value written again is already held. -/
theorem writeOnceFields : Obligations.WriteOnceFields := by
  unfold Obligations.WriteOnceFields
  intro s src w a f ht h2 h
  simp only [fldWrite_wo s src w a ht h h2]
  refine ⟨fun hreset => ?_, fun _ hsame => if_pos hsame, fun hset hdiff => by rw [if_neg hdiff, if_neg hset]⟩
  by_cases hsame : bf w f.hi f.lo = bf a.reg f.hi f.lo
  · rw [if_pos hsame]
    exact ⟨hsame.symm, rfl⟩
  · rw [if_neg hsame, if_pos hreset]
    refine ⟨?_, rfl⟩
    rw [← merge_eq_setBf, bf_merge_self _ _ h]

end Sys2Proof.Machine
end

section
/-!
PROOF. The scheduled strobe (R132): ARM and DISARM field by field, and the cycle that finds its time due.
-/
namespace Sys2Proof.Machine

/-- A bit of a register, as its one-bit field reads. -/
theorem bit_eq_fld (s : State) (k b : Nat) : bit (s.reg k) b = (s.fld k b b).testBit 0 := by
  rw [State.fld, testBit_bf]
  simp [bit_eq]

theorem bit_setFld_self (s : State) (k v : Nat) {b : Nat} (h : b < 32) : bit ((s.setFld k b b v).reg k) b = v.testBit 0 := by
  rw [bit_eq_fld, fld_setFld_self _ _ _ h, Nat.testBit_mod_two_pow]
  simp

theorem bit_setFld_other (s : State) (k v : Nat) {b h2 l2 : Nat} (hd : b < l2 ∨ h2 < b) :
    bit ((s.setFld k h2 l2 v).reg k) b = bit (s.reg k) b := by
  rw [bit_eq_fld, fld_setFld_other _ _ _ hd, ← bit_eq_fld]

/-- A cycle that finds legal time at or past the held time strobes. -/
theorem updDue_due {s : State} {t : Nat} (h : s.tbl.updAt = some t) (hd : t ≤ s.now) : updDue s = updFire s := by
  rw [updDue, h]
  exact if_pos hd

/-- A cycle before the held time does nothing. -/
theorem updDue_early {s : State} {t : Nat} (h : s.tbl.updAt = some t) (hd : s.now < t) : updDue s = s := by
  rw [updDue, h]
  exact if_neg (Nat.not_le.mpr hd)

theorem updDisarm_armed (s : State) : bit ((updDisarm s).reg Ad.CP_UPD_TCTRL) 8 = false :=
  bit_setFld_self _ _ 0 (by decide)

theorem updArm_armed (s : State) : bit ((updArm s).reg Ad.CP_UPD_TCTRL) 8 = true :=
  bit_setFld_self _ _ 1 (by decide)

/-- LATE, once ARM has been written. -/
theorem updArm_late (s : State) : bit ((updArm s).reg Ad.CP_UPD_TCTRL) 9 =
    decide ((s.reg Ad.CP_UPD_AT_LO).toNat + 2 ^ 32 * (s.reg Ad.CP_UPD_AT_HI).toNat < s.now) := by
  rw [updArm, bit_setFld_other _ _ _ (.inr (by decide)), bit_setFld_self _ _ _ (by decide)]
  cases decide (_ < s.now) <;> rfl

theorem updArm_regs (s : State) {j : Nat} (h : j ≠ Ad.CP_UPD_TCTRL) : (updArm s).reg j = s.reg j := by
  rw [updArm, reg_setFld, if_neg h, reg_setFld, if_neg h]
  rfl

/-- The scheduled strobe strobes from the state that DISARM leaves. -/
theorem updFire_eq (s : State) : updFire s = updStrobes (updGroups s 2 0) (updDisarm s) := rfl

/-- Settles O25: ARM by its fields, a cycle by whether the held time has come; the strobe takes the time away as DISARM does. -/
theorem scheduledStrobeTiming : Obligations.ScheduledStrobeTiming := by
  unfold Obligations.ScheduledStrobeTiming
  intro s
  exact ⟨⟨rfl, updArm_armed s, updArm_late s, fun _ => updArm_regs s⟩, fun _ ht => ⟨updDue_due ht, updDue_early ht⟩,
    ⟨updDisarm s, updFire_eq s, rfl, updDisarm_armed s⟩, rfl, updDisarm_armed s⟩

end Sys2Proof.Machine
end

section
/-!
PROOF. What follows a fault's action in its raise, and what reports of events and records do, leaves the escalation, the containments and
the raised bits standing; so a lock violation comes to the action that STRICT gives it (R138).
-/
namespace Sys2Proof.Machine

/-- The escalation and the containments are as they were, and no raised bit of FLT_RAISED_0 is lost. -/
structure FaultKept (s t : State) : Prop where
  esc : t.flt.esc = s.flt.esc
  con0 : t.flt.con0 = s.flt.con0
  con1 : t.flt.con1 = s.flt.con1
  raised : ∀ b, b < 24 → bit (s.reg Ad.FLT_RAISED_0) b = true → bit (t.reg Ad.FLT_RAISED_0) b = true

namespace FaultKept

/-! ### The relation -/

theorem of_eq {s t : State} (hf : t.flt = s.flt) (hr : t.reg Ad.FLT_RAISED_0 = s.reg Ad.FLT_RAISED_0) : FaultKept s t :=
  ⟨by rw [hf], by rw [hf], by rw [hf], fun b _ h => by rwa [hr]⟩

theorem refl (s : State) : FaultKept s s := of_eq rfl rfl

theorem trans {s t u : State} (h1 : FaultKept s t) (h2 : FaultKept t u) : FaultKept s u :=
  ⟨h2.esc.trans h1.esc, h2.con0.trans h1.con0, h2.con1.trans h1.con1, fun b hb h => h2.raised b hb (h1.raised b hb h)⟩

/-- A step from a state that has the same registers and fault state. -/
theorem of_same {s t u : State} (h : FaultKept t u) (hf : t.flt = s.flt) (hr : t.regs = s.regs) : FaultKept s u :=
  (of_eq hf (congrArg (stGet regReset · Ad.FLT_RAISED_0) hr)).trans h

theorem ite {s t u : State} {p : Prop} [Decidable p] (ht : FaultKept s t) (hu : FaultKept s u) : FaultKept s (if p then t else u) := by
  split
  · exact ht
  · exact hu

/-! ### Registers and events -/

theorem setReg (s : State) {k : Nat} (v : Word) (h : Ad.FLT_RAISED_0 ≠ k) : FaultKept s (s.setReg k v) :=
  of_eq rfl (reg_setReg_ne s v h)

/-- Event bits set in any register take no raised bit away: FLT_RAISED_0 is an SQ register itself. -/
theorem sqBits (s : State) (k bits : Nat) : FaultKept s (sqBits s k bits) := by
  refine ⟨rfl, rfl, rfl, fun b hb h => ?_⟩
  rw [reg_sqBits]
  split
  · rename_i hk
    subst hk
    rw [bit_setBf_other _ _ (.inl hb), bit_or, h, Bool.true_or]
  · exact h

theorem inc (s : State) {k : Nat} (h : Ad.FLT_RAISED_0 ≠ k) : FaultKept s (s.inc k) := by
  unfold State.inc
  exact ite (refl s) (setReg s _ h)

theorem evcSet (s : State) (src info : Nat) : FaultKept s (evcSet s src info) := by
  have hflt : (Machine.evcSet s src info).flt = s.flt := by rw [eq_of_maskEvt (maskEvt_evcSet s src info)]
  exact of_eq hflt (evcSet_regsBut s src info _ (by decide))

theorem sqEvt (s : State) (k bits : Nat) : FaultKept s (sqEvt s k bits) := by
  unfold Machine.sqEvt
  dsimp only
  split
  · exact (sqBits s k bits).trans (evcSet _ _ _)
  · exact sqBits s k bits

/-! ### Wakes, counters and offers -/

theorem startIsl (s : State) (i : Nat) : FaultKept s (startIsl s i) := by
  unfold Machine.startIsl
  exact ite (refl s) (of_eq rfl rfl)

theorem later (s : State) (e : Effect) : FaultKept s (s.later e) := of_eq rfl rfl

theorem setLatch (s : State) (b : Nat) : FaultKept s (setLatch s b) := by
  unfold Machine.setLatch
  dsimp only
  refine ite (refl s) (ite ?_ (((sqBits s _ _).trans (evcSet _ _ _)).trans (later _ _)))
  have hovf (p : Prop) [Decidable p] (info : Nat) : FaultKept s
      (if p then Machine.sqBits s Ad.ISL_LATCH_OVF (2 ^ b) else Machine.evcSet (Machine.sqBits s Ad.ISL_LATCH_OVF (2 ^ b)) 27 info) :=
    ite (sqBits s _ _) ((sqBits s _ _).trans (evcSet _ _ _))
  exact ite ((hovf _ _).trans (later _ _)) (hovf _ _)

theorem pcuAdd (s : State) (n k : Nat) : FaultKept s (pcuAdd s n k) := by
  unfold Machine.pcuAdd
  dsimp only
  exact ite (of_eq rfl rfl) ((sqEvt _ _ _).of_same rfl rfl)

theorem foldl {α : Type} {f : State → α → State} (hf : ∀ s x, FaultKept s (f s x)) (l : List α) (s : State) :
    FaultKept s (l.foldl f s) := by
  induction l generalizing s with
  | nil => exact refl s
  | cons x l ih => exact (hf s x).trans (ih _)

theorem pcu (ev q k : Nat) (s : State) : FaultKept s (pcu ev q k s) := by
  unfold Machine.pcu
  exact ite (refl s) (foldl (fun s c => ite (pcuAdd s _ _) (refl s)) _ s)

theorem evsPush (s : State) (h : Bool) (typ : Nat) (p : List Byte) (log : Option Nat) : FaultKept s (evsPush s h typ p log) := by
  unfold Machine.evsPush
  exact (sqEvt _ _ _).of_same rfl rfl

theorem evsOffer (s : State) (typ : Nat) (p : List Byte) (log : Option Nat) : FaultKept s (evsOffer s typ p log).1 := by
  unfold Machine.evsOffer
  split
  · exact (setLatch _ _).of_same rfl rfl
  · have hstart : FaultKept s (Machine.startIsl (Machine.startIsl s 31) 30) := (startIsl s _).trans (startIsl _ _)
    dsimp only
    split
    · exact (hstart.trans (inc _ (by decide))).trans (pcu _ _ _ _)
    · exact hstart.trans (evsPush _ _ _ _ _)

/-! ### The rest of a raise -/

/-- FLT_LOG lies above FLT_RAISED_0, whatever its index. -/
theorem setReg_log (s : State) (i j : Nat) (v : Word) : FaultKept s (s.setReg (Ad.FLT_LOG i j) v) :=
  setReg s v (by simp only [Ad.FLT_RAISED_0, Ad.FLT_LOG]; omega)

theorem fltRecorded (s : State) (n : Nat) : FaultKept s (fltRecorded s n) := by
  unfold Machine.fltRecorded
  exact ite (setReg_log s _ _ _) (refl s)

theorem fltOffer (s : State) (p : List Byte) (n : Nat) : FaultKept s (fltOffer s p n) := by
  unfold Machine.fltOffer
  split
  · have h := evsOffer s 6 p (some n)
    split <;> rename_i e <;> rw [e] at h
    · exact h.trans (fltRecorded _ n)
    · exact h
    · exact h.trans ⟨rfl, rfl, rfl, fun _ _ h => h⟩
  · exact ite ⟨rfl, rfl, rfl, fun _ _ h => h⟩ (sqEvt s _ _)

theorem fltLog (s : State) (c act info : Nat) : FaultKept s (fltLog s c act info) := by
  have hwrap : FaultKept s (if bit (s.reg (Ad.FLT_LOG (s.fld Ad.FLT_LOG_STATUS 3 0) 0)) 11 then Machine.sqEvt s Ad.FLT_EVT 4 else s) :=
    ite (sqEvt s _ _) (refl s)
  exact ((((hwrap.trans (setReg_log _ _ _ _)).trans (setReg_log _ _ _ _)).trans (setReg_log _ _ _ _)).trans
    (setReg_log _ _ _ _)).trans (setReg _ _ (by decide))

theorem fltLevel (b : Word) (s : State) : FaultKept s (fltLevel b s) := by
  unfold Machine.fltLevel
  exact ite (evcSet s _ _) (refl s)

end FaultKept

/-! ### A raise up to its action -/

/-- FLT_CNT of the class after a raise: one higher, up to 255 (R679). -/
def raiseCnt (s : State) (c : Nat) : Nat := if fltCnt s c < 255 then fltCnt s c + 1 else 255

/-- A raise as it is counted, before its action: the raised bit, FLT_CNT and LAST. -/
def raiseCounted (s : State) (c : Nat) : State :=
  let s1 := if c < 24 then sqBits s Ad.FLT_RAISED_0 (2 ^ c) else sqBits s Ad.FLT_RAISED_1 (2 ^ (c - 24))
  let s2 := s1.setFld (Ad.FLT_CNT (c / 4)) (8 * (c % 4) + 7) (8 * (c % 4)) (raiseCnt s c)
  { s2 with flt := { s2.flt with last := c } }

/-- The action of a raise: 0 report, 1 contain, 2 escalate. -/
def raiseAct (s : State) (c info : Nat) : Nat := fltActs (raiseCounted s c) c info (raiseCnt s c)

/-- A raise with its units contained, as its action asks. -/
def raiseContained (s : State) (c info : Nat) : State :=
  if raiseAct s c info = 0 then raiseCounted s c else (fltUnits c info).foldl fltContain (raiseCounted s c)

/-- A raise with its action taken: its units contained, and the escalation begun where none stands. -/
def raiseActed (s : State) (c info : Nat) : State :=
  let t := raiseContained s c info
  if decide (raiseAct s c info = 2) && t.flt.esc.isNone then ({ t with flt := { t.flt with esc := some c } } : State).later .escalate else t

/-- What follows the action in a raise is its log entry, its events and its record. -/
theorem raise_faultKept (s : State) (c info : Nat) : FaultKept (raiseActed s c info) (raise s c info) := by
  unfold raise
  extract_lets before s1 cnt s2 f2 s3 act s4 began f4 s5 wrapped num s6 s7
  have h5 : raiseActed s c info = s5 := rfl
  have h6 : FaultKept s5 s6 := ((FaultKept.fltLog s5 c act info).trans (.evcSet _ _ _)).trans (.fltLevel _ _)
  have h7 : FaultKept s5 s7 := .ite (h6.trans (.setLatch _ _)) h6
  rw [h5]
  exact .ite (h7.trans (.fltOffer _ _ _)) h7

/-- Of the registers the count of a raise writes FLT_CNT alone, beside the raised bit. -/
theorem raiseCounted_reg (s : State) {c j : Nat} (h : c < 24) (hj : j ≠ Ad.FLT_CNT (c / 4)) :
    (raiseCounted s c).reg j = (sqBits s Ad.FLT_RAISED_0 (2 ^ c)).reg j := by
  have hregs : (raiseCounted s c).regs =
      ((sqBits s Ad.FLT_RAISED_0 (2 ^ c)).setFld (Ad.FLT_CNT (c / 4)) (8 * (c % 4) + 7) (8 * (c % 4)) (raiseCnt s c)).regs := by
    simp only [raiseCounted, if_pos h]
  rw [State.reg, hregs]
  exact reg_setReg_ne _ _ hj

theorem raiseCounted_raised (s : State) {c : Nat} (h : c < 24) : bit ((raiseCounted s c).reg Ad.FLT_RAISED_0) c = true := by
  have hcnt : Ad.FLT_RAISED_0 ≠ Ad.FLT_CNT (c / 4) := by simp only [Ad.FLT_RAISED_0, Ad.FLT_CNT]; omega
  have hself : bit (w32 (2 ^ c)) c = true := by
    simp only [bit_w32_two_pow, decide_true, Bool.and_true, decide_eq_true_eq]
    omega
  rw [raiseCounted_reg s h hcnt, reg_sqBits, if_pos rfl, bit_setBf_other _ _ (.inl h), bit_or, hself, Bool.or_true]

theorem raiseCounted_strict (s : State) {c : Nat} (h : c < 24) :
    (raiseCounted s c).reg Ad.CP_LOCK_STRICT = s.reg Ad.CP_LOCK_STRICT := by
  have hcnt : Ad.CP_LOCK_STRICT ≠ Ad.FLT_CNT (c / 4) := by simp only [Ad.CP_LOCK_STRICT, Ad.FLT_CNT]; omega
  rw [raiseCounted_reg s h hcnt, reg_sqBits, if_neg (by decide)]

/-! ### LOCK_VIOL -/

/-- The action of class 2 is that of STRICT, whatever the fault action table holds (R138). -/
theorem fltAction_lockViol (s : State) (cnt : Nat) : fltAction s 2 cnt = if bit (s.reg Ad.CP_LOCK_STRICT) 0 then 2 else 0 := rfl

/-- LOCK_VIOL has no containment unit (Table 19-1). -/
theorem fltUnits_lockViol (info : Nat) : fltUnits 2 info = [] := by simp [fltUnits]

/-- A raise of LOCK_VIOL contains nothing. -/
theorem raiseContained_lockViol (s : State) (info : Nat) : raiseContained s 2 info = raiseCounted s 2 := by
  rw [raiseContained, fltUnits_lockViol]
  exact ite_self _

theorem raiseAct_lockViol (s : State) (info : Nat) : raiseAct s 2 info = if bit (s.reg Ad.CP_LOCK_STRICT) 0 then 2 else 0 := by
  simp only [raiseAct, fltActs, fltAction_lockViol, fltUnits_lockViol, raiseCounted_strict s (c := 2) (by decide)]
  cases bit (s.reg Ad.CP_LOCK_STRICT) 0 <;> rfl

/-- The escalation that stands after a raise of LOCK_VIOL: while STRICT is 1 the one that stood, or its own. -/
theorem raiseActed_lockViol (s : State) (info : Nat) :
    let t := raiseActed s 2 info
    t.flt.con0 = s.flt.con0 ∧ t.flt.con1 = s.flt.con1 ∧ bit (t.reg Ad.FLT_RAISED_0) 2 = true ∧
      t.flt.esc = if bit (s.reg Ad.CP_LOCK_STRICT) 0 then some (s.flt.esc.getD 2) else s.flt.esc := by
  have hraised := raiseCounted_raised s (c := 2) (by decide)
  simp only [raiseActed, raiseContained_lockViol, raiseAct_lockViol]
  cases bit (s.reg Ad.CP_LOCK_STRICT) 0 with
  | false => exact ⟨rfl, rfl, hraised, rfl⟩
  | true =>
    have hesc : (raiseCounted s 2).flt.esc = s.flt.esc := rfl
    rw [hesc]
    cases he : s.flt.esc with
    | none => exact ⟨rfl, rfl, hraised, rfl⟩
    | some c => exact ⟨rfl, rfl, hraised, hesc.trans he⟩

/-- The state in which a lock violation raises LOCK_VIOL, with its causes and its word recorded (R137). -/
theorem lockViol_eq (s : State) (causes src key : Nat) :
    ∃ t info, lockViol s causes src key = fltLevel (fltSummary s) (raise t 2 info) ∧ FaultKept s t ∧ t.reg Ad.CP_LOCK_STRICT = s.reg Ad.CP_LOCK_STRICT := by
  unfold lockViol
  extract_lets s1 s2
  have hregs : RegsBut ([Ad.FLT_LOCKVIOL, Ad.FLT_LOCKVIOL_ADDR] ++ evcKeys) s s2 :=
    ((sqEvt_regsBut s _ _).mono (by simp)).trans (.setReg s1 _ (by decide))
  exact ⟨s2, _, rfl, (FaultKept.sqEvt s _ _).trans (.setReg _ _ (by decide)), hregs _ (by decide)⟩

/-- What a lock violation leaves: LOCK_VIOL raised, the containments as they were, and the escalation that STRICT asks for. -/
theorem lockViol_faults (s : State) (causes src key : Nat) :
    let u := lockViol s causes src key
    u.flt.con0 = s.flt.con0 ∧ u.flt.con1 = s.flt.con1 ∧ bit (u.reg Ad.FLT_RAISED_0) 2 = true ∧
      u.flt.esc = if bit (s.reg Ad.CP_LOCK_STRICT) 0 then some (s.flt.esc.getD 2) else s.flt.esc := by
  obtain ⟨t, info, hu, hst, hstrict⟩ := lockViol_eq s causes src key
  obtain ⟨hcon0, hcon1, hraised, hesc⟩ := raiseActed_lockViol t info
  have htail : FaultKept (raiseActed t 2 info) (lockViol s causes src key) := by
    rw [hu]
    exact (raise_faultKept t 2 info).trans (.fltLevel _ _)
  rw [hstrict, hst.esc] at hesc
  exact ⟨(htail.con0.trans hcon0).trans hst.con0, (htail.con1.trans hcon1).trans hst.con1, htail.raised 2 (by decide) hraised,
    htail.esc.trans hesc⟩

/-- Settles O23: class 2 takes its action from STRICT, and the rest of its raise keeps what that action left. -/
theorem strictModeEscalatesLockViolations : Obligations.StrictModeEscalatesLockViolations := by
  unfold Obligations.StrictModeEscalatesLockViolations
  intro s causes src key cnt
  obtain ⟨hcon0, hcon1, hraised, hesc⟩ := lockViol_faults s causes src key
  constructor
  · intro hstrict
    rw [hstrict] at hesc
    rw [fltAction_lockViol, hstrict]
    exact ⟨rfl, hraised, hesc, hcon0, hcon1⟩
  · intro hstrict
    rw [hstrict] at hesc
    rw [fltAction_lockViol, hstrict]
    exact ⟨rfl, hraised, hesc⟩

end Sys2Proof.Machine
end

section
/-!
PROOF. Ports of a link: an event at a port that the variant has, the port's state after an update, what reports leave of the links, and
a flit's header taken (R177, R180, R202).
-/
namespace Sys2Proof.Machine

/-! ### Events at a port -/

/-- An event at a port that is up occurs. -/
theorem onPort_up {s : State} {p : Nat} (f : State → State) (h : PortUp s p) : onPort p f s = f s := by
  rw [onPort, if_pos h.1, onIsl_clocked f h.2]

/-- A command that is an event at a port that is up ends where the event leaves the state. -/
theorem next_onPort {s u : State} {p : Nat} {f : State → State} (h : PortUp s p) (hf : f s = u) :
    (Host.Outcome.next (finish s (onPort p f s)) : Host.Outcome State Fault Refusal) = .next (finish s u) := by
  rw [onPort_up f h, hf]

/-! ### The state of a port -/

/-- A port that does not read DISABLED is one of the list. -/
theorem port_lt_of_mode {s : State} {p : Nat} (h : (portOf s p).mode ≠ .disabled) : p < s.lnk.ports.length := by
  by_contra hlt
  apply h
  rw [portOf, List.getD_eq_default _ _ (Nat.le_of_not_lt hlt)]
  rfl

theorem portOf_setPort_self {s : State} {p : Nat} (f : PortSt → PortSt) (h : p < s.lnk.ports.length) :
    portOf (setPort s p f) p = f (portOf s p) := by
  simp [portOf, setPort, upd, List.getElem?_eq_getElem h]

@[simp] theorem setPort_ports_length (s : State) (p : Nat) (f : PortSt → PortSt) :
    (setPort s p f).lnk.ports.length = s.lnk.ports.length := List.length_modify ..

@[simp] theorem setPort_agents (s : State) (p : Nat) (f : PortSt → PortSt) : (setPort s p f).lnk.agents = s.lnk.agents := rfl
@[simp] theorem setPort_quar (s : State) (p : Nat) (f : PortSt → PortSt) : (setPort s p f).lnk.quar = s.lnk.quar := rfl

theorem portOf_congr {s t : State} (h : t.lnk = s.lnk) (p : Nat) : portOf t p = portOf s p :=
  congrArg (fun l : LnkSt => l.ports.getD p (portFresh .disabled 2 0)) h

/-! ### Reports leave the links as they are -/

theorem lnk_of_maskRep {s t : State} (h : maskRep t = maskRep s) : t.lnk = s.lnk := by rw [eq_of_maskRep h]

@[simp] theorem inc_lnk (s : State) (k : Nat) : (s.inc k).lnk = s.lnk := lnk_of_maskRep (maskRep_inc s k)
@[simp] theorem incBy_lnk (s : State) (k n : Nat) : (s.incBy k n).lnk = s.lnk := rfl
@[simp] theorem sqEvt_lnk (s : State) (k bits : Nat) : (sqEvt s k bits).lnk = s.lnk := lnk_of_maskRep (maskRep_sqEvt s k bits)
@[simp] theorem pcu_lnk (ev q k : Nat) (s : State) : (pcu ev q k s).lnk = s.lnk := lnk_of_maskRep (maskRep_pcu ev q k s)
@[simp] theorem raise_lnk (s : State) (c info : Nat) : (raise s c info).lnk = s.lnk := lnk_of_maskRep (maskRep_raise s c info)

@[simp] theorem bwAdd_lnk (s : State) (port : Nat) (sent : Bool) (unit n : Nat) : (bwAdd s port sent unit n).lnk = s.lnk := by
  unfold bwAdd
  dsimp only
  split <;> rfl

@[simp] theorem fecCount_lnk (s : State) (p n : Nat) : (fecCount s p n).lnk = s.lnk := by
  unfold fecCount
  split
  · rfl
  · rw [pcu_lnk, incBy_lnk]

@[simp] theorem portOf_inc (s : State) (k p : Nat) : portOf (s.inc k) p = portOf s p := portOf_congr (inc_lnk s k) p
@[simp] theorem portOf_incBy (s : State) (k n p : Nat) : portOf (s.incBy k n) p = portOf s p := rfl
@[simp] theorem portOf_sqEvt (s : State) (k bits p : Nat) : portOf (sqEvt s k bits) p = portOf s p := portOf_congr (sqEvt_lnk s k bits) p
@[simp] theorem portOf_pcu (ev q k : Nat) (s : State) (p : Nat) : portOf (pcu ev q k s) p = portOf s p := portOf_congr (pcu_lnk ev q k s) p
@[simp] theorem portOf_raise (s : State) (c info p : Nat) : portOf (raise s c info) p = portOf s p := portOf_congr (raise_lnk s c info) p
@[simp] theorem portOf_bwAdd (s : State) (port : Nat) (sent : Bool) (unit n p : Nat) : portOf (bwAdd s port sent unit n) p = portOf s p :=
  portOf_congr (bwAdd_lnk s port sent unit n) p
@[simp] theorem portOf_fecCount (s : State) (p n r : Nat) : portOf (fecCount s p n) r = portOf s r := portOf_congr (fecCount_lnk s p n) r

/-! ### The header of a flit -/

theorem inSync_active {q : PortSt} (h : q.mode = .active) : inSync q = false := by simp [inSync, h]

/-- A header that holds on an ACTIVE port is taken, and the rest of the flit handled. -/
theorem rxHdr_active {s : State} {p : Nat} {h : FlitHdr} (k : State → State) (hm : (portOf s p).mode = .active) (hh : HdrOk s p h) :
    rxHdr s p h k = k (headed s p h) := by
  obtain ⟨hresv, hclass, hack⟩ := hh
  have hbad : ¬(h.resv ≠ 0 ∨ 5 < h.cclass ∨ seqFrom (portOf s p).acked ((portOf s p).next + 4095) < seqFrom (portOf s p).acked h.ack) := by
    omega
  simp only [rxHdr, inSync_active hm, Bool.false_eq_true, if_false, hm, ne_eq, not_true, if_neg hbad]

/-- The port whose header is taken: its ACK and CFREED. -/
theorem portOf_headed {s : State} {p : Nat} (h : FlitHdr) (hm : (portOf s p).mode ≠ .disabled) :
    portOf (headed s p h) p = { takeAck (portOf s p) (h.ack % 4096) with
      freedTx := upd (portOf s p).freedTx h.cclass (fun _ => h.cfreed % 4096) } := by
  rw [headed, hdrTake, portOf_setPort_self _ (by rw [fecCount_lnk]; exact port_lt_of_mode hm), portOf_fecCount]
  rfl

@[simp] theorem headed_agents (s : State) (p : Nat) (h : FlitHdr) : (headed s p h).lnk.agents = s.lnk.agents := by
  rw [headed, hdrTake, setPort_agents, fecCount_lnk]

@[simp] theorem headed_quar (s : State) (p : Nat) (h : FlitHdr) : (headed s p h).lnk.quar = s.lnk.quar := by
  rw [headed, hdrTake, setPort_quar, fecCount_lnk]

/-- A counted event reaches no register below those of the counters' overflows. -/
theorem pcuAdd_reg (s : State) (n k : Nat) {j : Nat} (h : j < Ad.PCU_OVF 0) : (pcuAdd s n k).reg j = s.reg j := by
  unfold pcuAdd
  dsimp only
  split
  · rfl
  · refine (sqEvt_regsBut _ _ _ j (fun hj => ?_)).trans rfl
    rcases List.mem_cons.mp hj with hj | hj
    · simp only [Ad.PCU_OVF] at h hj
      omega
    · have := evcKeys_ge hj
      simp only [Ad.PCU_OVF] at h
      omega

theorem pcu_reg (ev q k : Nat) (s : State) {j : Nat} (h : j < Ad.PCU_OVF 0) : (pcu ev q k s).reg j = s.reg j := by
  unfold pcu
  split
  · rfl
  · rename_i hk
    clear hk
    generalize s.pcu.on = l
    induction l generalizing s with
    | nil => rfl
    | cons c l ih =>
      rw [List.foldl_cons, ih]
      split
      · exact pcuAdd_reg s _ _ h
      · rfl

/-- The corrected symbols of a codeword reach their counter and no other register of the links. -/
theorem fecCount_reg (s : State) (p n : Nat) {j : Nat} (h : j < Ad.PCU_OVF 0) (hj : j ≠ Ad.LNK_COUNT p 6) :
    (fecCount s p n).reg j = s.reg j := by
  unfold fecCount
  split
  · rfl
  · rw [pcu_reg _ _ _ _ h, State.incBy, reg_setReg_ne _ _ hj]

end Sys2Proof.Machine
end

section
/-!
PROOF. An attach that nothing refuses (R187, R188): the IDs that are free, the order in which they are granted, and the records of the
agents that get them.
-/
namespace Sys2Proof.Machine

/-! ### Free IDs and slots -/

theorem freeIds_sorted (s : State) : (freeIds s).Pairwise (· < ·) := List.pairwise_lt_range.filter _

theorem mem_freeIds {s : State} {i : Nat} : i ∈ freeIds s ↔
    i < 255 ∧ i ≠ 0 ∧ (∀ x ∈ s.lnk.agents, x.id ≠ i) ∧ ∀ x ∈ s.lnk.quar, x.1 ≠ i := by
  simp [freeIds, and_assoc]

theorem freeIds_congr {s t : State} (ha : t.lnk.agents = s.lnk.agents) (hq : t.lnk.quar = s.lnk.quar) : freeIds t = freeIds s := by
  rw [freeIds, freeIds, ha, hq]

/-- The grant order is an order of the free IDs. -/
theorem grantOrder_perm (s : State) : (grantOrder s).Perm (freeIds s) := by
  unfold grantOrder
  dsimp only
  split
  · have hnot : (fun i => decide (i ≤ s.lnk.lastId)) = fun i => !decide (s.lnk.lastId < i) := by
      funext i
      rw [← decide_not, decide_eq_decide, Nat.not_lt]
    rw [hnot]
    exact List.filter_append_perm _ _
  · exact .refl _

theorem grantOrder_lowest {s : State} (h : bit (s.reg Ad.LNK_ID_CFG) 0 = false) : grantOrder s = freeIds s := by
  simp [grantOrder, h]

theorem freeSlots_nodup (s : State) : (freeSlots s).Nodup := List.nodup_range.filter _

theorem slot_ne_of_mem_freeSlots {s : State} {k : Nat} (h : k ∈ freeSlots s) : ∀ x ∈ s.lnk.agents, x.slot ≠ some k := by
  simp only [freeSlots, List.mem_filter, Bool.and_eq_true, Bool.not_eq_true', List.any_eq_false, beq_iff_eq] at h
  exact h.2.1

/-- Of an ascending list's first members none is passed over. -/
theorem mem_take_of_lt {l : List Nat} (hl : l.Pairwise (· < ·)) {n x y : Nat} (hx : x ∈ l.take n) (hy : y ∈ l) (hlt : y < x) :
    y ∈ l.take n := by
  rw [← List.take_append_drop n l] at hl hy
  obtain ⟨-, -, hcross⟩ := List.pairwise_append.mp hl
  rcases List.mem_append.mp hy with hy | hy
  · exact hy
  · exact absurd (hcross x hx y hy) (by omega)

/-- Below an ID among the first of the free ones, every ID is an agent's, in quarantine, or among them too. -/
theorem lower_id_taken {s : State} {n i j : Nat} (hj : j ∈ (freeIds s).take n) (h1 : 1 ≤ i) (hlt : i < j) :
    (∃ x, x ∈ s.lnk.agents ∧ x.id = i) ∨ (∃ x, x ∈ s.lnk.quar ∧ x.1 = i) ∨ i ∈ (freeIds s).take n := by
  have hj255 := (mem_freeIds.mp (List.mem_of_mem_take hj)).1
  by_contra hno
  simp only [not_or, not_exists, not_and] at hno
  obtain ⟨hnoagent, hnoquar, hnotake⟩ := hno
  exact hnotake (mem_take_of_lt (freeIds_sorted s) hj (mem_freeIds.mpr ⟨by omega, by omega, hnoagent, hnoquar⟩) hlt)

/-! ### The records of granted IDs -/

/-- The first record of a grant: it gets a precise slot only as a caching agent, the first of those left, and otherwise none. -/
theorem grantRecs_cons (p caching i a : Nat) (ids slots : List Nat) : ∃ slot rest,
    grantRecs p caching i (a :: ids) slots = ⟨a, p, i, caching.testBit i, slot, false⟩ :: grantRecs p caching (i + 1) ids rest ∧
      ((slot = none ∧ rest = slots) ∨ caching.testBit i = true ∧ ∃ k, slot = some k ∧ slots = k :: rest) := by
  by_cases hc : caching.testBit i = true
  · cases slots with
    | nil => exact ⟨none, [], by simp [grantRecs, hc], .inl ⟨rfl, rfl⟩⟩
    | cons k rest => exact ⟨some k, rest, by simp [grantRecs, hc], .inr ⟨hc, k, rfl, rfl⟩⟩
  · exact ⟨none, slots, by simp [grantRecs, hc], .inl ⟨rfl, rfl⟩⟩

theorem grantRecs_ids (p caching : Nat) (ids : List Nat) (i : Nat) (slots : List Nat) :
    (grantRecs p caching i ids slots).map AgentRec.id = ids := by
  induction ids generalizing i slots with
  | nil => rfl
  | cons a ids ih =>
    obtain ⟨slot, rest, hrecs, -⟩ := grantRecs_cons p caching i a ids slots
    rw [hrecs, List.map_cons, ih]

/-- The agents get the indices from `i` on, in the order of their IDs; only a caching one gets a slot. -/
theorem grantRecs_getElem? (p caching : Nat) (ids : List Nat) (i : Nat) (slots : List Nat) (j : Nat) (r : AgentRec)
    (h : (grantRecs p caching i ids slots)[j]? = some r) :
    r.port = p ∧ r.index = i + j ∧ r.caching = caching.testBit (i + j) ∧ (r.slot.isSome = true → r.caching = true) := by
  induction ids generalizing i slots j with
  | nil => simp [grantRecs] at h
  | cons a ids ih =>
    obtain ⟨slot, rest, hrecs, hslot⟩ := grantRecs_cons p caching i a ids slots
    rw [hrecs] at h
    cases j with
    | zero =>
      obtain rfl : _ = r := Option.some.inj h
      refine ⟨rfl, rfl, rfl, fun hs => ?_⟩
      rcases hslot with ⟨rfl, -⟩ | ⟨hc, -⟩
      · cases hs
      · exact hc
    | succ j =>
      have hnext := ih (i + 1) rest j h
      rwa [Nat.add_right_comm, Nat.add_assoc] at hnext

/-- The slots given are taken from those offered, each once. -/
theorem grantRecs_slots (p caching : Nat) (ids : List Nat) (i : Nat) (slots : List Nat) :
    ((grantRecs p caching i ids slots).filterMap AgentRec.slot).Sublist slots := by
  induction ids generalizing i slots with
  | nil => exact List.nil_sublist _
  | cons a ids ih =>
    obtain ⟨slot, rest, hrecs, hslot⟩ := grantRecs_cons p caching i a ids slots
    rw [hrecs]
    rcases hslot with ⟨rfl, rfl⟩ | ⟨-, k, rfl, rfl⟩
    · exact ih (i + 1) rest
    · exact (ih (i + 1) rest).cons_cons k

/-! ### The attach -/

/-- An attach that nothing refuses, and that repeats no earlier one, adds the records of the IDs first in the grant order. -/
theorem attachReq_agents {s : State} {p n : Nat} {part : Bool} (nonce caching partner : Nat) (hattach : (portOf s p).attach = none)
    (hanswer : (portOf s p).answer = none) (hr : refusal s p n part = 0) :
    (attachReq s p nonce n part caching partner).lnk.agents =
      s.lnk.agents ++ grantRecs p caching 0 ((grantOrder s).take n) (freeSlots s) := by
  simp [attachReq, hattach, hanswer, hr, setPort]

/-- Settles O30: the records are those of the first free IDs in the grant order, and a header taken changes neither agents nor
quarantine. -/
theorem attachGrantsFreeIds : Obligations.AttachGrantsFreeIds := by
  unfold Obligations.AttachGrantsFreeIds
  intro s p nonce n caching partner part h hp hm hh hattach hanswer href
  let t := headed s p h
  let ids := (grantOrder t).take n
  let recs := grantRecs p caching 0 ids (freeSlots t)
  have hport := portOf_headed h (by rw [hm]; decide)
  have hagents := attachReq_agents nonce caching partner (by rw [hport]; exact hattach) (by rw [hport]; exact hanswer) href
  rw [headed_agents] at hagents
  have hfree : freeIds t = freeIds s := freeIds_congr (headed_agents s p h) (headed_quar s p h)
  have hperm : (grantOrder t).Perm (freeIds s) := hfree ▸ grantOrder_perm t
  have hids : recs.map AgentRec.id = ids := grantRecs_ids p caching ids 0 _
  have hgranted (r : AgentRec) (hr : r ∈ recs) : r.id ∈ ids := hids ▸ List.mem_map_of_mem hr
  have hslots : (recs.filterMap AgentRec.slot).Sublist (freeSlots t) := grantRecs_slots p caching ids 0 _
  refine ⟨_, recs, next_onPort hp (rxHdr_active _ hm hh), hagents, ?_, ?_, fun r hr => ?_, fun hpol r hr i h1 hlt => ?_, fun i r hi => ?_,
    (freeSlots_nodup t).sublist hslots, fun k r hr hk => ?_⟩
  · rw [← List.length_map (f := AgentRec.id), hids, List.length_take, hperm.length_eq]
  · rw [hids]
    exact (hperm.nodup_iff.mpr (freeIds_sorted s).nodup).sublist (List.take_sublist ..)
  · obtain ⟨hlt, hne, hnoagent, hnoquar⟩ := mem_freeIds.mp (hperm.mem_iff.mp (List.mem_of_mem_take (hgranted r hr)))
    exact ⟨by omega, by omega, hnoagent, hnoquar⟩
  · have hcfg : t.reg Ad.LNK_ID_CFG = s.reg Ad.LNK_ID_CFG :=
      fecCount_reg s p h.corr (by decide) (by simp only [Ad.LNK_ID_CFG, Ad.LNK_COUNT]; omega)
    have horder : ids = (freeIds s).take n := by
      rw [← hfree, ← grantOrder_lowest (s := t) (by rw [hcfg]; exact hpol)]
    rcases lower_id_taken (horder ▸ hgranted r hr) h1 hlt with hx | hx | hx
    · exact .inl hx
    · exact .inr (.inl hx)
    · rw [← horder, ← hids] at hx
      exact .inr (.inr (List.mem_map.mp hx))
  · simpa using grantRecs_getElem? p caching ids 0 _ i r hi
  · have hx := slot_ne_of_mem_freeSlots (hslots.subset (List.mem_filterMap.mpr ⟨r, hr, hk⟩))
    rwa [headed_agents] at hx

end Sys2Proof.Machine
end

section
/-!
PROOF. A write of LNK_CMD (R183, R190, R192): the register keeps its value, and the command written acts on its port.
-/
namespace Sys2Proof.Machine

/-- The row of LNK_CMD in the register index. -/
def lnkCmdRow : RegRow :=
  ⟨"LNK_CMD", 0x20001C, [(16, 0x10000)], 13, 1, 8, false,
    [⟨2, 2, "FORCE_DETACH", .cmd, 16, .none, 0⟩, ⟨1, 1, "DETACH", .cmd, 16, .none, 0⟩, ⟨0, 0, "RETRAIN", .cmd, 16, .none, 0⟩]⟩

theorem regAt_lnkCmd {p : Nat} (hp : p < 16) : regAt (Ad.LNK_CMD p) = some (lnkCmdRow, [p]) :=
  (by decide +kernel : ∀ r < 16, regAt (Ad.LNK_CMD r) = some (lnkCmdRow, [r])) p hp

/-- The keys of the links' registers. -/
def LinkKey (k : Nat) : Prop := 0x200000 ≤ k ∧ k < 0x300000

theorem linkKey_lnkCmd {p : Nat} (hp : p < 16) : LinkKey (Ad.LNK_CMD p) := by
  constructor <;> (simp only [Ad.LNK_CMD]; omega)

section
variable {k : Nat} (h : LinkKey k)
include h

/-- Of an array of registers beyond those of the links a link's register is none. -/
theorem LinkKey.inArr_none {base : Nat} (stride count : Nat) (hb : 0x300000 ≤ base) : inArr k base stride count = none :=
  if_neg (fun hk => by obtain ⟨-, hlt⟩ := h; omega)

theorem LinkKey.ownWrite (s : State) (src : Src) (w : Word) : ownWrite s src k (-1) w = none := by
  obtain ⟨hlo, hhi⟩ := id h
  unfold Machine.ownWrite
  rw [h.inArr_none _ _ (by decide), h.inArr_none _ _ (by decide), h.inArr_none _ _ (by decide), h.inArr_none _ _ (by decide)]
  simp only [Ad.ISL_RC_CTRL, Ad.ACQ_TDAC]
  repeat rw [if_neg (by omega)]

theorem LinkKey.lthIgnores (s : State) : lthIgnores s k = false := by
  obtain ⟨hlo, hhi⟩ := h
  have hg : lthGuardKey k = false := by simp only [lthGuardKey, Bool.and_eq_false_iff, decide_eq_false_iff_not]; omega
  have hr : lthRamKey k = false := by simp only [lthRamKey, decide_eq_false_iff_not]; omega
  simp [Machine.lthIgnores, hg, hr]

theorem LinkKey.writeIgnored (s : State) : writeIgnored s k = s := by
  obtain ⟨hlo, hhi⟩ := id h
  unfold Machine.writeIgnored
  rw [h.lthIgnores]
  simp only [Ad.TMM_CMD, Ad.OTP_CMD, Bool.false_eq_true, if_false]
  repeat rw [if_neg (by omega)]

theorem LinkKey.writeGate (s : State) (w : Word) : writeGate s k w = 0 := by
  obtain ⟨hlo, hhi⟩ := id h
  have ho : otpKey k = false := by
    simp only [otpKey, Bool.or_eq_false_iff, beq_eq_false_iff_ne, decide_eq_false_iff_not, Ad.OTP_CMD, Ad.OTP_KEYPOL, Ad.OTP_STAGE]
    omega
  unfold Machine.writeGate
  rw [h.lthIgnores, ho, h.inArr_none _ _ (by decide), h.inArr_none _ _ (by decide), h.inArr_none _ _ (by decide)]
  simp only [Ad.TMM_CMD, Ad.EVC_MASK, Ad.EVC_ROUTE, Bool.false_eq_true, if_false]
  repeat rw [if_neg (by omega)]

theorem LinkKey.regHook (mask w : Word) (s0 s : State) : regHook k mask w s0 s = s := by
  obtain ⟨hlo, hhi⟩ := id h
  have hr : lthRamKey k = false := by simp only [lthRamKey, decide_eq_false_iff_not]; omega
  unfold Machine.regHook
  rw [hr, h.inArr_none _ _ (by decide), h.inArr_none _ _ (by decide), h.inArr_none _ _ (by decide), h.inArr_none _ _ (by decide)]
  simp only [Ad.CP_VALLEY, Ad.TMM_CMD, Ad.TMM_CTRL, Ad.PAS_CMD, Ad.EVS_X_CTRL, Ad.OTP_CMD, Ad.FLT_RAISED_0, Ad.FLT_RAISED_1,
    Bool.false_eq_true, if_false]
  repeat rw [if_neg (by omega)]

theorem LinkKey.cpOnly : cpOnly k = false := by
  obtain ⟨hlo, hhi⟩ := h
  simp only [Machine.cpOnly, List.contains_cons, List.contains_nil, Bool.or_eq_false_iff, beq_eq_false_iff_ne, decide_eq_false_iff_not, and_true,
    Ad.FLT_CTRL, Ad.FLT_RELEASE_0, Ad.FLT_RELEASE_1, Ad.FLT_CFG, Ad.EVC_IRQ_CFG, Ad.EVC_ROUTE]
  omega

end

/-- A command of a port by its bit of LNK_CMD: RETRAIN, DETACH or FORCE_DETACH. -/
def lnkCmdAct (lo : Nat) (s : State) (p : Nat) : State :=
  if lo = 0 then cmdRetrain s p else if lo = 1 then cmdDetach s p else cmdForce s p

theorem regCmd_lnkCmd {p : Nat} (hp : p < 16) (s : State) (lo v : Nat) : regCmd (Ad.LNK_CMD p) s (lo, v) = lnkCmdAct lo s p := by
  have harr : inArr (Ad.LNK_CMD p) (Ad.LNK_CMD 0) 0x10000 16 = some p := by
    have hd : Ad.LNK_CMD p - Ad.LNK_CMD 0 = 0x10000 * p := by simp only [Ad.LNK_CMD]; omega
    rw [inArr, hd, if_pos (by simp only [Ad.LNK_CMD]; omega), Nat.mul_div_cancel_left _ (by decide)]
  have hne (k : Nat) (hk : k < 0x200000 ∨ 0x300000 ≤ k) : Ad.LNK_CMD p ≠ k := by
    obtain ⟨hlo, hhi⟩ := linkKey_lnkCmd hp
    omega
  unfold regCmd
  rw [harr]
  repeat rw [if_neg (hne _ (by decide))]
  rfl

/-- A word with one of LNK_CMD's bits leaves the register as it reads and is that command. -/
theorem fieldsAcc_lnkCmd (s : State) (src : Src) (p : Nat) {lo : Nat} (hlo : lo < 3) :
    fieldsAcc s src (Ad.LNK_CMD p) lnkCmdRow (-1) (w32 (2 ^ lo)) =
      ⟨s.reg (Ad.LNK_CMD p), s.stg (Ad.LNK_CMD p), [(lo, 1)], 0, false, false⟩ := by
  have hall : (-1 : Word) = 4294967295#32 := rfl
  simp only [fieldsAcc, lnkCmdRow, List.foldl_cons, List.foldl_nil, hall]
  rw [fldWrite_cmd _ _ _ _ _ _ _ _ (by decide) (by decide), fldWrite_cmd _ _ _ _ _ _ _ _ (by decide) (by decide),
    fldWrite_cmd _ _ _ _ _ _ _ _ (by decide) (by decide)]
  interval_cases lo <;> rfl

/-- A command bit written to LNK_CMD by a source that reaches it acts on the port. -/
theorem rowWrite_lnkCmd {s : State} {src : Src} {p lo : Nat} (hp : p < 16) (hlo : lo < 3) (ht : Takes s src (Ad.LNK_CMD p)) :
    ∃ b, Written (Ad.LNK_CMD p) (s.reg (Ad.LNK_CMD p)) s b ∧ rowWrite s src (Ad.LNK_CMD p) (w32 (2 ^ lo)) = lnkCmdAct lo b p := by
  have hk := linkKey_lnkCmd hp
  have hacc := fieldsAcc_lnkCmd s src p hlo
  obtain ⟨b, hb, hw⟩ := regWrite_common (regAt_lnkCmd hp) (.inr hk.cpOnly) (by obtain ⟨-, hhi⟩ := hk; omega) (hk.ownWrite s src _)
    (hk.writeGate s _) (hk.writeIgnored s) (by rw [hacc]) (by rw [hacc]) (by rw [hacc]) (by rw [hacc]) (by rw [hacc])
  refine ⟨b, hb, ?_⟩
  have hseq : cmdSeq (Ad.LNK_CMD p) [(lo, 1)] = [(lo, 1)] := by
    unfold cmdSeq
    split <;> rfl
  rw [rowWrite_takes _ ht, hw, hk.regHook, hseq, List.foldl_cons, List.foldl_nil, regCmd_lnkCmd hp]

theorem Written.lnk {k : Nat} {v : Word} {s b : State} (h : Written k v s b) : b.lnk = s.lnk := by
  obtain ⟨-, -, -, -, hb⟩ := h
  rw [hb]

end Sys2Proof.Machine
end

section
/-!
PROOF. Training, sessions and RETRAIN of a port (Table 5-13, R182 to R184).
-/
namespace Sys2Proof.Machine

/-! ### SYNC flits -/

theorem inSync_iff {q : PortSt} : inSync q = true ↔ q.mode = .sync ∨ (q.mode = .retrain ∧ q.rtSync = true) := by
  simp [inSync]

theorem ne_disabled_of_inSync {q : PortSt} (h : inSync q = true) : q.mode ≠ .disabled := by
  rcases inSync_iff.mp h with h | ⟨h, -⟩ <;> (rw [h]; decide)

theorem syncTimer_inSync {s : State} {p : Nat} (h : inSync (portOf s p) = true) :
    syncTimer s p = emitCtl s p (syncFlit (portOf s p)) := if_pos h

/-- A flit of a reserved type is a protocol error where flits are taken: on an ACTIVE port and one that exchanges SYNC flits. -/
theorem reservedFlit_taken {s : State} {p : Nat} (h : FlitHdr) (hq : (portOf s p).mode = .active ∨ inSync (portOf s p) = true) :
    reservedFlit s p h = protoErr (fecCount s p h.corr) p := if_pos hq

section
variable {s : State} {p : Nat} {h : FlitHdr} (epoch las : Nat) (fresh : Bool) {adv : List Nat}
variable (hsync : inSync (portOf s p) = true) (hresv : h.resv = 0) (hadv : advLow (capAdv adv) = false)
include hsync hresv hadv

/-- A SYNC without SEEN is noted (R184). -/
theorem recvSync_unseen : recvSync s p h epoch las false fresh adv =
    setPort (fecCount s p h.corr) p (fun (q : PortSt) => { q with seen := true }) := by
  simp [recvSync, syncDecide, hsync, hresv, hadv]

/-- The first SYNC with SEEN starts a session where none stands (R184). -/
theorem recvSync_start (hsess : (portOf s p).session = false) : recvSync s p h epoch las true fresh adv =
    sessionStart (setPort (fecCount s p h.corr) p (fun (q : PortSt) => { q with seen := true })) p (capAdv adv) := by
  simp [recvSync, syncDecide, hsync, hresv, hadv, hsess]

/-- The same EPOCH, a LAS among the held flits and the same credits resume the session (R184). -/
theorem recvSync_resume (hsess : (portOf s p).session = true) (hepoch : epoch = (portOf s p).epoch) (hsame : capAdv adv = (portOf s p).adv)
    (hlas : seqFrom (portOf s p).acked las ≤ seqFrom (portOf s p).acked ((portOf s p).next + 4095)) :
    recvSync s p h epoch las true false adv =
      sessionResume (setPort (fecCount s p h.corr) p (fun (q : PortSt) => { q with seen := true })) p las := by
  rw [hsame] at hadv
  simp [recvSync, syncDecide, hsync, hresv, hadv, hsess, hepoch, hsame, hlas]

end

/-! ### The commands -/

/-- The port's list, once a SYNC flit's corrected symbols have been counted, still holds the port. -/
theorem port_lt_of_inSync {s : State} {p : Nat} (n : Nat) (h : inSync (portOf s p) = true) : p < (fecCount s p n).lnk.ports.length := by
  rw [fecCount_lnk]
  exact port_lt_of_mode (ne_disabled_of_inSync h)

/-- LNK_CMD.RETRAIN takes an ACTIVE port to RETRAIN. -/
theorem exec_linkCmdRetrain {s : State} {src : Src} {p : Nat} (hp : p < 16) (ht : Takes s src (Ad.LNK_CMD p))
    (hm : (portOf s p).mode = .active) : ∃ b, Written (Ad.LNK_CMD p) (s.reg (Ad.LNK_CMD p)) s b ∧
      exec (.linkCmdRetrain src p) s = .next (finish s (retrain b p false)) := by
  obtain ⟨b, hb, hw⟩ := rowWrite_lnkCmd (lo := 0) hp (by decide) ht
  have hbm : (portOf b p).mode = .active := by rw [portOf_congr hb.lnk, hm]
  have hact : rowWrite s src (Ad.LNK_CMD (p % 16)) 1 = retrain b p false := by
    rw [Nat.mod_eq_of_lt hp]
    exact hw.trans (if_pos hbm)
  exact ⟨b, hb, congrArg (fun u => Host.Outcome.next (finish s u)) hact⟩

/-- Settles O26: each event at the port is the branch that its mode selects; a SYNC decides by whether a session stands. -/
theorem portTrainingActs : Obligations.PortTrainingActs := by
  unfold Obligations.PortTrainingActs
  intro s p epoch las fresh adv h hp q S F
  refine ⟨fun hdetect => next_onPort hp (if_pos hdetect), fun hequal => ⟨next_onPort hp (if_pos hequal), next_onPort hp (if_pos hequal)⟩,
    fun halign => next_onPort hp (if_pos halign), fun hretrain => ?_, fun hin => ?_, fun hactive => ?_, fun hlpi => ?_,
    fun hdown hfree => next_onPort hp (if_pos ⟨hdown, by rw [hfree]; rfl⟩), fun src hp16 ht hactive => exec_linkCmdRetrain hp16 ht hactive⟩
  · have halign : q.mode ≠ .align := by rw [hretrain]; decide
    exact ⟨next_onPort hp ((if_neg halign).trans (if_pos hretrain)), next_onPort hp (if_pos hretrain)⟩
  · have hsync : inSync q = true := inSync_iff.mpr hin
    have hport : p < F.lnk.ports.length := port_lt_of_inSync h.corr hsync
    have hseen : p < (setPort F p (fun (q : PortSt) => { q with seen := true })).lnk.ports.length := by rwa [setPort_ports_length]
    refine ⟨next_onPort hp (syncTimer_inSync hsync), next_onPort hp (reservedFlit_taken h (.inr hsync)), fun hresv hadv =>
      ⟨next_onPort hp (recvSync_unseen _ _ _ hsync hresv hadv), fun hsess => ?_, fun hsess hepoch hsame hlas => ?_⟩⟩
    · refine ⟨_, next_onPort hp (recvSync_start _ _ _ hsync hresv hadv hsess), rfl, ?_⟩
      rw [portOf_setPort_self _ hseen, portOf_setPort_self _ hport, portOf_fecCount]
      exact ⟨rfl, rfl, rfl, rfl, rfl, rfl, rfl⟩
    · refine ⟨_, next_onPort hp (recvSync_resume _ _ hsync hresv hadv hsess hepoch hsame hlas), rfl, ?_⟩
      rw [sessionResume, portOf_setPort_self _ hseen, portOf_setPort_self _ hport, portOf_fecCount]
      exact ⟨rfl, rfl, rfl, rfl, rfl⟩
  · exact ⟨next_onPort hp (by rw [partnerFrames, hactive]), next_onPort hp (if_pos hactive),
      next_onPort hp (reservedFlit_taken h (.inl hactive))⟩
  · exact next_onPort hp (by rw [partnerFrames, hlpi])

end Sys2Proof.Machine
end

section
/-!
PROOF. Flits of an ACTIVE port as they are received, acknowledged and sent (R168 to R177, R180, R196).
-/
namespace Sys2Proof.Machine

/-! ### Sequenced flits -/

/-- A header taken leaves the last accepted sequence number as it was. -/
theorem headed_las {s : State} {p : Nat} (h : FlitHdr) (hm : (portOf s p).mode = .active) :
    (portOf (headed s p h) p).las = (portOf s p).las := by
  rw [portOf_headed h (by rw [hm]; decide)]
  rfl

section
variable {s : State} {p : Nat} {h : FlitHdr} (hm : (portOf s p).mode = .active) (hh : HdrOk s p h)
include hm hh

/-- A sequenced flit whose header holds is judged by the distance of its sequence number from the last one accepted (R173). -/
theorem recvFlit_active (seq : Nat) (data : Bool) (msgs : List Msg) :
    recvFlit s p h seq data msgs =
      let s1 := headed (bwAdd s p false 0 2) p h
      let d := seqFrom (portOf s p).las seq
      if d = 1 then
        let s2 := pcu 0x01 p 1 (setPort s1 p (fun (q : PortSt) => { q with las := seq % 4096, ackDue := true, nak := none, nakHeld := false }))
        ((flitSlots data msgs).take (min h.nslot (if data then 2 else 7))).foldl (fun s x => deliverMsg p s x.1 x.2)
          (if data then bwAdd s2 p false 1 1 else s2)
      else if d = 0 ∨ 2048 < d then pcu 0x04 p 1 ((setPort s1 p (fun (q : PortSt) => { q with ackDue := true })).inc (Ad.LNK_COUNT p 0))
      else nakSend s1 p := by
  have hm' : (portOf (bwAdd s p false 0 2) p).mode = .active := by rw [portOf_bwAdd, hm]
  have hh' : HdrOk (bwAdd s p false 0 2) p h := by rwa [HdrOk, portOf_bwAdd]
  rw [recvFlit, if_pos hm, rxHdr_active _ hm' hh', headed_las h hm', portOf_bwAdd]

/-- A NAK of a held flit, after its own ACK, starts the replay there (R177, R196). -/
theorem recvNak_headed {expect : Nat} (hheld : seqFrom ((portOf (headed s p h) p).acked + 1) expect ≤
      seqFrom ((portOf (headed s p h) p).acked + 1) (portOf s p).next)
    (hnext : expect % 4096 ≠ (portOf s p).next) (hreplay : (portOf (headed s p h) p).replay = none) :
    rxHdr s p h (fun s => recvNak s p expect) = replayFrom ((headed s p h).inc (Ad.LNK_COUNT p 3)) p (expect % 4096) := by
  have hq : (portOf (headed s p h) p).next = (portOf s p).next := by
    rw [portOf_headed h (by rw [hm]; decide)]
    rfl
  rw [rxHdr_active _ hm hh, recvNak]
  simp only [portOf_inc, hq, if_neg (Nat.not_lt.mpr hheld), if_neg hnext, hreplay]

end

/-! ### Flits that fail -/

/-- A port that enters RETRAIN stands there. -/
theorem retrain_mode {s : State} {p : Nat} (limit : Bool) (h : p < s.lnk.ports.length) : (portOf (retrain s p limit) p).mode = .retrain := by
  unfold retrain
  dsimp only
  split
  · rw [portOf_raise, portOf_sqEvt, portOf_inc, portOf_setPort_self _ h]
  · rw [portOf_sqEvt, portOf_inc, portOf_setPort_self _ h]

/-- The port whose `n`-th NAK with an EXPECT waits to be sent. -/
def nakPort (expect n : Nat) (q : PortSt) : PortSt :=
  { q with nak := some expect, nakHeld := false, nakFor := expect, nakN := n, ctl := .nak expect :: q.ctl }

/-- What a NAK can do: it is held back while NAK_TMR runs for its EXPECT; otherwise it is queued and counted, and at its limit the port
retrains (R174, R183). -/
theorem nakSend_cases (s : State) (p : Nat) :
    nakSend s p = setPort s p (fun (q : PortSt) => { q with nakHeld := true }) ∨
      ∃ e n, let t := pcu 0x05 p 1 ((setPort s p (nakPort e n)).inc (Ad.LNK_COUNT p 2))
        nakSend s p = t ∨ nakSend s p = retrain t p true := by
  unfold nakSend
  dsimp only
  generalize (portOf s p).las + 1 = e
  generalize (if (portOf s p).nakFor = e % 4096 then (portOf s p).nakN + 1 else 1) = n
  split
  · exact .inl rfl
  · refine .inr ⟨e % 4096, n, ?_⟩
    split
    · exact .inr rfl
    · exact .inl rfl

/-- A NAK leaves an ACTIVE port there, or takes it to RETRAIN. -/
theorem nakSend_mode {s : State} {p : Nat} (hm : (portOf s p).mode = .active) :
    (portOf (nakSend s p) p).mode = .active ∨ (portOf (nakSend s p) p).mode = .retrain := by
  have hport := port_lt_of_mode (s := s) (p := p) (by rw [hm]; decide)
  rcases nakSend_cases s p with h | ⟨e, n, h | h⟩ <;> rw [h]
  · exact .inl (by rw [portOf_setPort_self _ hport, hm])
  · exact .inl (by rw [portOf_pcu, portOf_inc, portOf_setPort_self _ hport, nakPort, hm])
  · exact .inr (retrain_mode true (by rwa [pcu_lnk, inc_lnk, setPort_ports_length]))

/-- On an ACTIVE port flits that fail their CRC are counted, and a NAK asks for them again (R169). -/
theorem crcFail_active {s : State} {p : Nat} (n : Nat) (hm : (portOf s p).mode = .active) :
    crcFail s p n = nakSend (pcu 0x06 p n (s.incBy (Ad.LNK_COUNT p 1) n)) p := if_pos hm

/-- An uncorrectable codeword is five failed flits; it is noted with its time, unless it takes the port to RETRAIN (R168, R183). -/
theorem codewordBad_active {s : State} {p : Nat} (hm : (portOf s p).mode = .active) :
    (portOf (codewordBad s p) p).mode = .retrain ∨
      codewordBad s p = setPort (crcFail (s.inc (Ad.LNK_COUNT p 7)) p 5) p
        (fun (q : PortSt) => { q with uncorr := (portOf (codewordBad s p) p).uncorr }) := by
  let s1 := crcFail (s.inc (Ad.LNK_COUNT p 7)) p 5
  let l := ((portOf s p).uncorr ++ [s.tb.cyc]).filter (fun c => decide (s.tb.cyc < c + 153600))
  have hs1 : s1 = nakSend (pcu 0x06 p 5 ((s.inc (Ad.LNK_COUNT p 7)).incBy (Ad.LNK_COUNT p 1) 5)) p :=
    crcFail_active 5 (by rw [portOf_inc, hm])
  have hs1m : (portOf s1 p).mode = .active ∨ (portOf s1 p).mode = .retrain := by
    rw [hs1]
    exact nakSend_mode (by rw [portOf_pcu, portOf_incBy, portOf_inc, hm])
  have hport : p < s1.lnk.ports.length := port_lt_of_mode (by rcases hs1m with h | h <;> (rw [h]; decide))
  have hbad : codewordBad s p = if (portOf s1 p).mode ≠ .active then s1
      else if max 1 (s.fld (Ad.LNK_ERR_CFG p) 7 0) ≤ l.length then retrain s1 p true
      else setPort s1 p (fun (q : PortSt) => { q with uncorr := l }) := by
    rw [codewordBad, if_neg (by rw [hm]; simp)]
  rw [hbad]
  split
  · next hleft => exact .inl (hs1m.resolve_left hleft)
  · split
    · exact .inl (retrain_mode true hport)
    · exact .inr (by rw [portOf_setPort_self _ hport])

/-! ### Timers and transmission -/

/-- NAK_TMR on an ACTIVE port: a NAK held back meanwhile is sent (R174). -/
theorem nakTimer_active {s : State} {p : Nat} (hm : (portOf s p).mode = .active) :
    let s1 := setPort s p (fun (q : PortSt) => { q with nak := none, nakHeld := false })
    nakTimer s p = if (portOf s p).nakHeld then nakSend s1 p else s1 := by
  simp [nakTimer, hm]

theorem replayTimer_active {s : State} {p : Nat} {f : HeldFlit} {l : List HeldFlit} (hm : (portOf s p).mode = .active)
    (hheld : (portOf s p).held = f :: l) : replayTimer s p = replayFrom s p f.seq := by
  simp [replayTimer, hm, hheld]

/-- The next flit of an ACTIVE port: a control flit, then the replay in progress, then a new one (R180). -/
theorem sendNext_active {s : State} {p : Nat} (hm : (portOf s p).mode = .active) :
    (∀ c t, (portOf s p).ctl = c :: t → sendNext s p = emitCtl (setPort s p (fun (q : PortSt) => { q with ctl := t })) p c) ∧
      (∀ r, (portOf s p).ctl = [] → (portOf s p).replay = some r → sendNext s p = sendReplay s p r) ∧
      ((portOf s p).ctl = [] → (portOf s p).replay = none → sendNext s p = sendNew s p) := by
  refine ⟨fun c t hc => ?_, fun r hc hr => ?_, fun hc hr => ?_⟩
  · simp [sendNext, hm, hc]
  · simp [sendNext, hm, hc, hr]
  · simp [sendNext, hm, hc, hr]

/-- Settles O27: each flit, timer and transmission is the branch that an ACTIVE port takes. -/
theorem portFlitsAct : Obligations.PortFlitsAct := by
  unfold Obligations.PortFlitsAct
  intro s p corr expect seq h data msgs hp hm q
  refine ⟨fun hh => ?_, next_onPort hp (crcFail_active 1 (by rw [portOf_fecCount]; exact hm)),
    ⟨_, next_onPort hp rfl, codewordBad_active hm⟩, next_onPort hp (nakTimer_active hm), fun hdue => next_onPort hp (if_pos ⟨hm, hdue⟩),
    fun f l hheld => next_onPort hp (replayTimer_active hm hheld), ?_⟩
  · have hflit := recvFlit_active hm hh seq data msgs
    refine ⟨next_onPort hp (rxHdr_active _ hm hh), fun hheld hnext hreplay => next_onPort hp (recvNak_headed hm hh hheld hnext hreplay),
      fun hnew => next_onPort hp (hflit.trans (if_pos hnew)), fun hdup => next_onPort hp ?_, fun hgap hfar => next_onPort hp ?_⟩
    · have hnew : seqFrom q.las seq ≠ 1 := by omega
      exact hflit.trans ((if_neg hnew).trans (if_pos hdup))
    · have hnew : seqFrom q.las seq ≠ 1 := by omega
      have hdup : ¬(seqFrom q.las seq = 0 ∨ 2048 < seqFrom q.las seq) := by omega
      exact hflit.trans ((if_neg hnew).trans (if_neg hdup))
  · intro R
    obtain ⟨hctl, hreplay, hnew⟩ := sendNext_active hm
    exact ⟨fun c t hc => next_onPort hp (congrArg R (hctl c t hc)), fun r hc hr => next_onPort hp (congrArg R (hreplay r hc hr)),
      fun hc hr => next_onPort hp (congrArg R (hnew hc hr))⟩

end Sys2Proof.Machine
end

section
/-!
PROOF. Why a request of an attached, responsive agent need not join the waiting requests where agents' IDs are any numbers: no attach
grants an ID above 254 (R187), but a state may hold one, and HA_UNRESP as the model reads it for such an ID can lie on a register of
another block.
-/
namespace Sys2Proof.Machine

/-- The ID whose bit of HA_UNRESP, read beyond the register's eight words, is the pending bit of source 32, that of LNK_EVT of port 0. -/
def strayId : Nat := 32 * 0x23FFF1

/-- An ACTIVE port 0 that has sent its GRANT and waits for the attach to complete, with an agent of that ID. -/
def strayState : State :=
  setPort { State.reset with lnk := { State.reset.lnk with agents := [⟨strayId, 0, 0, true, none, false⟩] } } 0
    (fun (q : PortSt) => { q with mode := .active, session := true, attach := some ⟨0, [], 0, 0, false, true⟩ })

/-- The agent's first message, a ReadShared of tenant 0's line 0. -/
def strayRead : ReqMsg := ⟨.readShared, 0, strayId, 0, 0, 0, false, 0, 0, 0, 0, 0⟩

/-- The number of requests that have reached the home agent, where a command has completed. -/
def arrivalsAfter : Host.Outcome State Fault Refusal → Option Nat
  | .next t => some t.ha.arrivals
  | _ => none

/-- ATTACHED, which the message sets, sets the pending bit of LNK_EVT's source, and so the agent reads as declared unresponsive. -/
theorem strayId_unresp : unresp strayState strayId = false ∧ unresp (attachComplete strayState 0) strayId = true := by decide +kernel

theorem accepts_strayRead : Accepts strayState 0 (.req strayRead) := by decide +kernel

theorem findAgent_strayId : findAgent strayState strayId = some ⟨strayId, 0, 0, true, none, false⟩ := by decide +kernel

/-- The message is discarded as that of an unresponsive agent. -/
theorem strayRead_discarded : arrivalsAfter (exec (.readShared 0 strayRead) strayState) = some 0 := by decide +kernel

/-- Refutes O31: a ReadShared that meets every condition of the first clause is discarded, where the clause has it join the requests
that wait; the clause lets an agent's ID be any number, and this one's completes the attach and thereby reads as unresponsive. -/
theorem not_messageCommandsAct : ¬ Obligations.MessageCommandsAct := by
  unfold Obligations.MessageCommandsAct
  intro h
  obtain ⟨hreq, -⟩ := h strayState 0 strayRead ⟨.ack, 3, strayId, 0, 0, 0, 0, 0, 0⟩ strayId_unresp.1 strayId_unresp.1
  have hjoins := hreq (.readShared 0 strayRead) .readShared (List.mem_cons_self ..) accepts_strayRead (by decide +kernel)
    (fun a ha => by
      obtain rfl := Option.some.inj (findAgent_strayId.symm.trans ha)
      rfl) nofun
  have harrivals := congrArg arrivalsAfter hjoins
  rw [strayRead_discarded] at harrivals
  exact absurd harrivals (by decide +kernel)

end Sys2Proof.Machine
end

section
/-!
PROOF. What the events of the home agent come to where they act (chapters 6 and 7), and the end of a walk (R303, R338).
-/
namespace Sys2Proof.Machine

/-- A command that is an event of a clocked island ends where the event leaves the state. -/
theorem next_onIsl {s u : State} {i : Nat} {f : State → State} (h : Clocked s i) (hf : f s = u) :
    (Host.Outcome.next (finish s (onIsl i f s)) : Host.Outcome State Fault Refusal) = .next (finish s u) := by
  rw [onIsl_clocked f h, hf]

/-! ### Transactions -/

/-- The head of a line's queue becomes active where no transaction on the line is and the line is not being back-invalidated. -/
theorem lineActivate_head {s : State} {tenant line : Nat} {t : Trk} (err : Nat) (hq : queueHead s tenant line = some t)
    (hl : lineActive s t.pa = false) (hb : ∀ b, b ∈ s.ha.binv → b.e.pa ≠ t.pa) :
    lineActivate s tenant line err = activate (sfError s t.pa err) t := by
  have hbinv : ¬(s.ha.binv.any (fun b => b.e.pa == t.pa) = true) := by simpa using hb
  simp only [lineActivate, hq, hl, hbinv, Bool.false_eq_true, or_self, if_false]

theorem compTimeout_comp {s : State} {htid : Nat} {t : Trk} (ht : trkAt s htid = some t) (hp : t.ph = .comp) :
    compTimeout s htid = haProto (trkDrop s htid) t.r.port t.r.m.src 0x24 5 := by
  rw [compTimeout, ht]
  exact if_pos hp

/-- The read found for a tracker leaves its channel and is delivered. -/
theorem dramReturn_found {s : State} {htid c : Nat} {x : DrcCmd} (err : Nat) (h : findRead s htid = some (c, x)) :
    dramReturn s htid err = dramDeliver (setDrc s c (fun (d : DrcCh) =>
      { d with issued := d.issued.filter (fun y => y.n != x.n), q := d.q.filter (fun y => y.n != x.n) })) c x err := by
  rw [dramReturn, h]

/-- The deadline of a transaction's outstanding snoop declares its agent unresponsive. -/
theorem snoopExpiry_outstanding {s : State} {a : Nat} {t : Trk} {k : SnpKind} (ht : t ∈ s.ha.trks) (hk : (a, k, none) ∈ t.snps) :
    snoopExpiry s t.id a = declare s a false := by
  refine if_pos (.inl (List.any_eq_true.mpr ⟨t, ht, ?_⟩))
  rw [beq_self_eq_true, Bool.true_and]
  exact List.any_eq_true.mpr ⟨_, hk, by simp⟩

/-- The one request that waits for the eviction buffer settles. -/
theorem evbFree_single {s : State} {t : Trk} (h : s.ha.trks.filter (fun t => t.ph == .evb) = [t]) : evbFree s = trySettle s t.id := by
  rw [evbFree, h]
  rfl

/-! ### Sweeps and back-invalidations -/

theorem sendTo_ha (s : State) (a : Nat) (m : OutMsg) : (sendTo s a m).ha = s.ha := by
  unfold sendTo
  split <;> rfl

/-- Notices are messages to agents; the home agent stays as it is. -/
theorem tenantNotice_ha (s : State) (tenant kind agent count first : Nat) : (tenantNotice s tenant kind agent count first).ha = s.ha :=
  List.foldlRecOn (motive := fun (u : State) => u.ha = s.ha) _ _ rfl (fun u hu r _ => (sendTo_ha u r.id _).trans hu)

/-- A poison sweep that no active transaction holds up ends with its event, and is listed no longer (R245). -/
theorem poisonSweepDone_ends {s : State} {a : Nat} {l : List (Nat × Nat)} (hl : (a, l) ∈ s.ha.poison)
    (ho : ∀ e, e ∈ ownedBy s a → lineActive s e.pa = false) :
    ∃ u, poisonSweepDone s a = sqEvt u Ad.HA_EVT 16 ∧ ∀ x, x ∈ u.ha.poison → x.1 ≠ a := by
  have hgo : ¬((!(s.ha.poison.any (fun p => p.1 == a))) = true ∨ (ownedBy s a).any (fun e => lineActive s e.pa) = true) := by
    rw [List.any_eq_true.mpr ⟨_, hl, beq_self_eq_true a⟩]
    simpa using ho
  rw [poisonSweepDone, if_neg hgo]
  refine ⟨_, rfl, fun x hx => ?_⟩
  have hx' := List.foldlRecOn (motive := fun (u : State) => ∀ x, x ∈ u.ha.poison → x.1 ≠ a) _ _
    (fun x hx => by simpa using (List.mem_filter.mp hx).2)
    (fun u hu t _ => by rw [tenantNotice_ha]; exact hu) x hx
  exact hx'

/-- The detach whose sweep is done ends. -/
theorem detachSweepDone_ends {s : State} {p mask : Nat} {d : DetachSt} {w : Sweep}
    (hd : (portOf s p).detach.find? (fun d => d.mask == mask) = some d) (hw : s.ha.sweeps.find? (fun w => w.no == d.sweep) = some w)
    (h : sweepDone s w = true) : detachSweepDone s p mask = detachEnd (sweepEnd s w.no) p d := by
  simp only [detachSweepDone, hd, hw]
  exact if_pos (.inl h)

theorem binvDone_ready {s : State} {sid : Nat} {b : BInv} (h : s.ha.binv.find? (fun b => b.sid == sid && b.evb && b.ready) = some b) :
    binvDone s sid = binvFinish s b := by
  rw [binvDone, h]

/-- A read of HA_POISON_LAST_0 clears VALID alone (R293). -/
theorem readFx_poisonLast (s : State) :
    readFx s Ad.HA_POISON_LAST_0 = s.setReg Ad.HA_POISON_LAST_0 (setBf (s.reg Ad.HA_POISON_LAST_0) 31 31 0) := by
  rw [readFx, if_neg (by decide), if_neg (by decide), if_pos rfl]
  rfl

/-! ### The end of a walk -/

/-- A walk without its key among those in flight, in a new FAB cycle. -/
def walkTaken (s : State) (key : Nat) : State := joinTick { s with tmm := { s.tmm with walks := s.tmm.walks.filter (· != key) } }

/-- The requests that wait for a walk meet their page, and walks held back start. -/
def walkResume (key : Nat) (s : State) : State :=
  startWalks ((s.ha.trks.filter (fun t => t.ph == .walk && t.key == key)).foldl pageAccess s)

/-- A walk that finds a RESIDENT page loads the translation cache. -/
theorem walkDone_resident {s : State} {key : Nat} (hk : key ∈ s.tmm.walks) (hst : (pg s key).st = .resident)
    (hu : unread s key = false) :
    walkDone s key 0 = walkResume key (tcPut (setPg (walkTaken s key) key (fun (e : PageE) => { e with acc := true })) key false) := by
  have hin : s.tmm.walks.contains key = true := by simpa using hk
  have hst' : (pg (walkTaken s key) key).st = .resident := hst
  have hu' : unread (walkTaken s key) key = false := hu
  simp only [walkTaken] at hst' hu'
  simp only [walkDone, hin, hu', hst', Bool.not_true, Bool.false_eq_true, if_false, true_or, if_true, reduceCtorEq]
  rfl

/-- A walk to an entry that has met an error is reported once (R338). -/
theorem walkDone_unread {s : State} {key : Nat} (ue : Nat) (hk : key ∈ s.tmm.walks) (hu : unread s key = true) :
    walkDone s key ue = walkResume key (raise (tmmEvt (walkTaken s key) 4096) 13 (keyTenant key)) := by
  have hin : s.tmm.walks.contains key = true := by simpa using hk
  have hu' : unread (walkTaken s key) key = true := hu
  simp only [walkTaken] at hu'
  simp only [walkDone, hin, hu', Bool.not_true, Bool.false_eq_true, if_false, or_true, if_true]
  rfl

/-- Settles O32: each command is its event in a clocked island, and each event the branch that its conditions select. -/
theorem homeAgentCommandsAct : Obligations.HomeAgentCommandsAct := by
  unfold Obligations.HomeAgentCommandsAct
  intro s key tenant line err htid sid a p mask ue
  refine ⟨fun hc => ⟨next_onIsl hc rfl, fun t hq hl hb => next_onIsl hc (lineActivate_head err hq hl hb),
    fun t ht hp => next_onIsl hc (compTimeout_comp ht hp), fun c x hx => next_onIsl hc (dramReturn_found err hx),
    fun t k ht hid hk => next_onIsl hc ?_, fun l hl ho => ?_, fun d w hd hw h => next_onIsl hc (detachSweepDone_ends hd hw h),
    next_onIsl hc rfl, fun b hb => next_onIsl hc (binvDone_ready hb), fun t ht => next_onIsl hc (evbFree_single ht),
    next_onIsl hc (readFx_poisonLast s)⟩, fun hc hk => ?_⟩
  · rw [← hid]
    exact snoopExpiry_outstanding ht hk
  · obtain ⟨u, hu, hgone⟩ := poisonSweepDone_ends hl ho
    exact ⟨u, next_onIsl hc hu, hgone⟩
  · intro s1 W
    exact ⟨fun hst hu => next_onIsl hc (walkDone_resident hk hst hu), fun hu => next_onIsl hc (walkDone_unread ue hk hu)⟩

end Sys2Proof.Machine
end

section
/-!
PROOF. What leaves the links of the ports as they are: reports and offers, requests of agent 0's engines, DRAM lines, the directory and
the records of transactions, up to an answer that goes out.
-/
namespace Sys2Proof.Machine

theorem foldl_lnk {α : Type} {f : State → α → State} (hf : ∀ s x, (f s x).lnk = s.lnk) (l : List α) (s : State) :
    (l.foldl f s).lnk = s.lnk :=
  List.foldlRecOn (motive := fun (u : State) => u.lnk = s.lnk) l f rfl (fun u hu x _ => (hf u x).trans hu)

theorem ite_lnk {s t u : State} {p : Prop} [Decidable p] (ht : t.lnk = s.lnk) (hu : u.lnk = s.lnk) : (if p then t else u).lnk = s.lnk := by
  split
  · exact ht
  · exact hu

/-! ### Reports and offers -/

@[simp] theorem evcSet_lnk (s : State) (src info : Nat) : (evcSet s src info).lnk = s.lnk := lnk_of_maskRep (maskRep_evcSet s src info)
@[simp] theorem startIsl_lnk (s : State) (i : Nat) : (startIsl s i).lnk = s.lnk := lnk_of_maskRep (maskRep_startIsl s i)
@[simp] theorem evsPush_lnk (s : State) (h : Bool) (typ : Nat) (p : List Byte) (log : Option Nat) :
    (evsPush s h typ p log).lnk = s.lnk := lnk_of_maskRep (maskRep_evsPush s h typ p log)
@[simp] theorem fltRecorded_lnk (s : State) (n : Nat) : (fltRecorded s n).lnk = s.lnk := lnk_of_maskRep (maskRep_fltRecorded s n)

theorem evsOffer_lnk {s t : State} {typ : Nat} {p : List Byte} {log : Option Nat} {r : OfferRes} (h : evsOffer s typ p log = (t, r)) :
    t.lnk = s.lnk := by
  have := lnk_of_maskRep (maskRep_evsOffer s typ p log)
  rwa [h] at this

theorem fltOfferLoop_lnk (n : Nat) (s : State) : (fltOfferLoop n s).lnk = s.lnk := by
  induction n generalizing s with
  | zero => rfl
  | succ n ih =>
    unfold fltOfferLoop
    split
    · rfl
    · split <;> rename_i e <;> have h := evsOffer_lnk e
      · rw [ih, fltRecorded_lnk, ← h]
      · rw [ih, ← h]
      · exact h

@[simp] theorem fltReoffer_lnk (s : State) : (fltReoffer s).lnk = s.lnk := fltOfferLoop_lnk _ s

theorem heldLoop_lnk (n : Nat) (s : State) : (heldLoop n s).lnk = s.lnk := by
  induction n generalizing s with
  | zero => rfl
  | succ n ih =>
    unfold heldLoop
    split
    · rfl
    · split
      · rfl
      · rw [ih]
        split <;> simp

@[simp] theorem evsFreed_lnk (s : State) : (evsFreed s).lnk = s.lnk := by
  have hhead : ∀ s1 : State, s1.lnk = s.lnk → (if s1.running 31 then heldLoop s1.evs.held.length s1 else s1).lnk = s.lnk := by
    intro s1 h1
    split
    · rw [heldLoop_lnk, h1]
    · exact h1
  unfold evsFreed
  apply hhead
  split
  · rfl
  · split
    · rfl
    · rw [evsPush_lnk, setEvs_lnk]

@[simp] theorem cvuRestart_lnk (s : State) : (cvuRestart s).lnk = s.lnk :=
  foldl_lnk (fun s n => by split <;> simp [cvuFlag, setCvu]) _ s

/-! ### Engines of agent 0 -/

@[simp] theorem tagReq_lnk (m : ReqMsg) (s : State) : (tagReq m s).lnk = s.lnk := by
  simp [tagReq, tagItem, setTag, apply_ite State.lnk]

@[simp] theorem ag0Req_lnk (s : State) (w : Ag0Who) (k : ReqKind) (tenant line : Nat) (peek : Bool) (d : Line) (mask : BitVec 64) :
    (ag0Req s w k tenant line peek d mask).lnk = s.lnk := by
  simp [ag0Req, apply_ite State.lnk]

@[simp] theorem rcInstall_lnk (s : State) (line : Nat) (r : Ag0Rsp) : (rcInstall s line r).lnk = s.lnk := by
  unfold rcInstall
  split
  · rfl
  · rfl
  · split <;> rfl
  · rfl

@[simp] theorem ag0Answer_lnk (s : State) (r : Ag0Rsp) : (ag0Answer s r).lnk = s.lnk := by
  unfold ag0Answer
  dsimp only
  split
  · split <;> simp
  · rfl
  · split <;> rfl
  · rfl

/-! ### DRAM and passes -/

@[simp] theorem setDrc_lnk (s : State) (c : Nat) (f : DrcCh → DrcCh) : (setDrc s c f).lnk = s.lnk := rfl
@[simp] theorem dramPut_lnk (s : State) (line : Nat) (l : DLine) : (dramPut s line l).lnk = s.lnk := by
  unfold dramPut
  split <;> rfl
@[simp] theorem dramMark_lnk (s : State) (line : Nat) : (dramMark s line).lnk = s.lnk := dramPut_lnk ..
@[simp] theorem overhead_lnk (s : State) (n : Nat) : (overhead s n).lnk = s.lnk := pcu_lnk ..

@[simp] theorem drcEnq_lnk (s : State) (write : Bool) (ch : Charge) (line : Nat) (trk : Option Nat) :
    (drcEnq s write ch line trk).lnk = s.lnk := by
  cases ch with
  | overhead => exact overhead_lnk ..
  | tenant t => rfl

@[simp] theorem dramWrite_lnk (s : State) (ch : Charge) (line : Nat) (l : DLine) : (dramWrite s ch line l).lnk = s.lnk := by
  simp [dramWrite]

@[simp] theorem drcLatent_lnk (s : State) (c line : Nat) : (drcLatent s c line).lnk = s.lnk := by simp [drcLatent]

@[simp] theorem drcRefund_lnk (s : State) (c t : Nat) : (drcRefund s c t).lnk = s.lnk := by
  unfold drcRefund
  dsimp only
  split <;> simp [bktTake]

@[simp] theorem poisonMade_lnk (s : State) (cause tenant line agent : Nat) : (poisonMade s cause tenant line agent).lnk = s.lnk := by
  have hevt : (pcu 0x19 agent 1 (sqEvt (s.inc Ad.HA_POISON_COUNT) Ad.HA_EVT 2)).lnk = s.lnk := by simp
  unfold poisonMade
  dsimp only
  split
  · exact hevt
  · rw [setReg_lnk, setReg_lnk, hevt]

@[simp] theorem linkCut_lnk (s : State) (p : Nat) : (linkCut s p).lnk = s.lnk := by
  simp [linkCut, apply_ite State.lnk]

@[simp] theorem pasCut_lnk (s : State) : (pasCut s).lnk = s.lnk := by
  simp [pasCut, apply_ite State.lnk]

@[simp] theorem pasRecompute_lnk (s : State) : (pasRecompute s).lnk = s.lnk := by
  simp [pasRecompute, foldl_lnk linkCut_lnk, apply_ite State.lnk]

/-! ### Directory, pages and trackers -/

@[simp] theorem dirDrop_lnk (s : State) (pa : Nat) : (dirDrop s pa).lnk = s.lnk := rfl
@[simp] theorem sfUse_lnk (s : State) (pa way : Nat) : (sfUse s pa way).lnk = s.lnk := rfl
@[simp] theorem sfVictim_lnk (s : State) (pa : Nat) : (sfVictim s pa).lnk = s.lnk := by
  unfold sfVictim
  dsimp only
  split <;> rfl
@[simp] theorem dirPut_lnk (s : State) (e : DirE) : (dirPut s e).lnk = s.lnk := by
  simp [dirPut, apply_ite State.lnk]
@[simp] theorem noteWrite_lnk (s : State) (tenant line : Nat) : (noteWrite s tenant line).lnk = s.lnk := by
  simp [noteWrite, setPg, apply_ite State.lnk]
@[simp] theorem haWrite_lnk (s : State) (tenant line pa : Nat) (l : DLine) : (haWrite s tenant line pa l).lnk = s.lnk := by
  simp [haWrite]
@[simp] theorem trkPut_lnk (s : State) (t : Trk) : (trkPut s t).lnk = s.lnk := rfl
@[simp] theorem trkDrop_lnk (s : State) (id : Nat) : (trkDrop s id).lnk = s.lnk := rfl
@[simp] theorem loseResv_lnk (s : State) (pa keep : Nat) : (loseResv s pa keep).lnk = s.lnk := rfl
@[simp] theorem markUpgrades_lnk (s : State) (a tenant line : Nat) : (markUpgrades s a tenant line).lnk = s.lnk := rfl
@[simp] theorem haCount_lnk (s : State) (i : Nat) : (haCount s i).lnk = s.lnk := inc_lnk ..
@[simp] theorem lostLine_lnk (s : State) (a pa tenant line : Nat) : (lostLine s a pa tenant line).lnk = s.lnk := by simp [lostLine]
@[simp] theorem ownerLost_lnk (s : State) (e : DirE) : (ownerLost s e).lnk = s.lnk := lostLine_lnk ..

/-! ### The data of transactions -/

@[simp] theorem haRead_lnk (s : State) (t : Trk) (spec : Bool) : (haRead s t spec).1.lnk = s.lnk := by
  unfold haRead
  split
  · rfl
  · cases spec <;> simp

@[simp] theorem haDiscard_lnk (s : State) (t : Trk) : (haDiscard s t).lnk = s.lnk := by
  unfold haDiscard
  split
  · dsimp only
    split <;> simp
  · rfl

@[simp] theorem haData_lnk (s : State) (t : Trk) : (haData s t).1.lnk = s.lnk := by
  unfold haData
  split
  · exact haDiscard_lnk s t
  · split
    · split <;> simp
    · rfl
    · rfl

@[simp] theorem writeAns_lnk (s : State) (t : Trk) (r : SnpAns) : (writeAns s t r).lnk = s.lnk := by
  cases r <;> simp [writeAns]

@[simp] theorem readWrites_lnk (t : Trk) (s : State) (l : List (Nat × SnpKind × Option SnpAns)) : (readWrites t s l).lnk = s.lnk := by
  induction l generalizing s with
  | nil => rfl
  | cons x l ih =>
    obtain ⟨a, k, r⟩ := x
    cases r with
    | none => exact ih s
    | some r => simp [readWrites, ih, apply_ite State.lnk]

@[simp] theorem binvWrite_lnk (e : DirE) (s : State) (l : List (Nat × Option SnpAns)) : (binvWrite e s l).lnk = s.lnk := by
  induction l generalizing s with
  | nil => rfl
  | cons x l ih =>
    obtain ⟨a, r⟩ := x
    rcases r with _ | (_ | _ | _) <;> simp [binvWrite, ih]

@[simp] theorem binvTry_lnk (s : State) (sid : Nat) : (binvTry s sid).lnk = s.lnk := by
  have hfinish (b : BInv) : (binvFinish s b).lnk = s.lnk := by
    unfold binvFinish
    dsimp only
    split <;> split <;> simp <;> split <;> simp
  unfold binvTry
  split
  · split
    · exact hfinish _
    · rfl
  · rfl

end Sys2Proof.Machine
end

section
/-!
PROOF. What keeps the ports of the links, each in its place: answers to agents, transactions that settle, and the loss of agents.
-/
namespace Sys2Proof.Machine

theorem foldl_ports {α : Type} {f : State → α → State} (hf : ∀ s x, (f s x).lnk.ports.length = s.lnk.ports.length) (l : List α)
    (s : State) : (l.foldl f s).lnk.ports.length = s.lnk.ports.length :=
  List.foldlRecOn (motive := fun (u : State) => u.lnk.ports.length = s.lnk.ports.length) l f rfl (fun u hu x _ => (hf u x).trans hu)

/-! ### Messages and credits -/

@[simp] theorem sendTo_ports (s : State) (a : Nat) (m : OutMsg) : (sendTo s a m).lnk.ports = s.lnk.ports := by
  unfold sendTo
  split <;> rfl

@[simp] theorem reqCredit_ports (s : State) (port cls : Nat) : (reqCredit s port cls).lnk.ports.length = s.lnk.ports.length := by
  unfold reqCredit
  split <;> exact List.length_modify ..

@[simp] theorem freeReq_ports (s : State) (port : Nat) (m : ReqMsg) (dat : Bool) :
    (freeReq s port m dat).lnk.ports.length = s.lnk.ports.length := by
  cases dat <;> simp [freeReq]

@[simp] theorem freeOwed_ports (s : State) (t : Trk) : (freeOwed s t).lnk.ports.length = s.lnk.ports.length := by
  unfold freeOwed
  split <;> simp

@[simp] theorem tenantNotice_ports (s : State) (tenant kind agent count first : Nat) :
    (tenantNotice s tenant kind agent count first).lnk.ports.length = s.lnk.ports.length :=
  foldl_ports (fun u r => by rw [sendTo_ports]) _ s

@[simp] theorem hubReq_ports (s : State) (port mask : Nat) : (hubReq s port mask).lnk.ports.length = s.lnk.ports.length := by
  simp [hubReq, ctlPush, upd]

/-! ### Transactions -/

@[simp] theorem haRespond_ports (s : State) (t : Trk) (k : RspKind) (st code : Nat) (line : Line) :
    (haRespond s t k st code line).lnk.ports.length = s.lnk.ports.length := by
  have hfree : (freeOwed (if k = .retry then pcu 0x18 t.r.m.src 1 s else s) t).lnk.ports.length = s.lnk.ports.length := by
    rw [freeOwed_ports]
    split <;> simp
  unfold haRespond
  dsimp only
  split
  · rw [ag0Answer_lnk, trkDrop_lnk, hfree]
  · split
    · rw [trkDrop_lnk, hfree]
    · rw [sendTo_ports, trkPut_lnk, hfree]

@[simp] theorem settleRead_ports (s : State) (t : Trk) : (settleRead s t).lnk.ports.length = s.lnk.ports.length := by
  unfold settleRead
  rcases hd : haData s t with ⟨s1, line, code⟩
  have h1 : s1.lnk = s.lnk := by rw [← haData_lnk s t, hd]
  dsimp -zeta only
  extract_lets e xd s2 s3 s4 ha s5
  have h3 : s3.lnk = s.lnk := by
    rw [← h1, ← readWrites_lnk t s1 t.snps]
    dsimp only [s3]
    split
    · rfl
    · exact dirPut_lnk ..
  have h4 : s4.lnk = s.lnk := by rw [← h3]; exact ite_lnk (loseResv_lnk ..) rfl
  rw [haRespond_ports, ← h4]
  exact congrArg (fun l : LnkSt => l.ports.length) (ite_lnk rfl rfl)

@[simp] theorem settleUpgrade_ports (s : State) (t : Trk) : (settleUpgrade s t).lnk.ports.length = s.lnk.ports.length := by
  unfold settleUpgrade
  extract_lets e s1 e1 s2
  have h1 : s1.lnk = s.lnk := by
    dsimp only [s1]
    split
    · rfl
    · exact dramMark_lnk ..
    · rfl
  have h2 : s2.lnk = s.lnk := ite_lnk (by rw [lostLine_lnk, h1]) h1
  split
  · rw [haRespond_ports, loseResv_lnk, dirPut_lnk, h1]
  · rw [haRespond_ports, dirDrop_lnk, h2]

@[simp] theorem settleWrite_ports (s : State) (t : Trk) : (settleWrite s t).lnk.ports.length = s.lnk.ports.length := by
  unfold settleWrite
  dsimp only
  split <;> split <;> simp

@[simp] theorem trySettle_ports (s : State) (id : Nat) : (trySettle s id).lnk.ports.length = s.lnk.ports.length := by
  unfold trySettle
  split
  · rfl
  · dsimp only
    repeat' split
    all_goals simp

@[simp] theorem takeAnswer_ports (s : State) (a sid : Nat) (r : SnpAns) :
    (takeAnswer s a sid r).lnk.ports.length = s.lnk.ports.length := by
  unfold takeAnswer
  dsimp only
  split
  · split <;> simp
  · split
    · rfl
    · split <;> simp

/-! ### The loss of agents -/

@[simp] theorem dropSnoops_ports (a : Nat) (s : State) (t : Trk) : (dropSnoops a s t).lnk.ports.length = s.lnk.ports.length := by
  unfold dropSnoops
  split
  · extract_lets own s1 s2 t1
    have h1 : s1.lnk = s.lnk := by
      dsimp only [s1]
      split
      · exact ite_lnk (ownerLost_lnk ..) rfl
      · rfl
    have h2 : s2.lnk = s.lnk := by
      rw [← h1]
      dsimp only [s2]
      split
      · exact ite_lnk (haDiscard_lnk ..) rfl
      · exact ite_lnk (haDiscard_lnk ..) rfl
      · rfl
    rw [takeAnswer_ports, trkPut_lnk, h2]
  · rfl

@[simp] theorem dropBinv_ports (a : Nat) (s : State) (b : BInv) : (dropBinv a s b).lnk.ports.length = s.lnk.ports.length := by
  unfold dropBinv
  split
  · split <;> simp
  · split
    · split <;> simp
    · rfl

@[simp] theorem declare_ports (s : State) (a : Nat) (surprise : Bool) : (declare s a surprise).lnk.ports.length = s.lnk.ports.length := by
  unfold declare
  split
  · rfl
  · split
    · rfl
    · extract_lets s1 s2 mine gone owed s3 l3 h3 s4 s5 s6 s7 s8
      have hs3 : s3.lnk.ports.length = s.lnk.ports.length := by
        rw [foldl_ports freeOwed_ports, foldl_ports (fun s (q : HReq) => freeReq_ports s q.port q.m q.dat)]
        rfl
      have h6 : s6.lnk.ports.length = s.lnk.ports.length := by
        rw [foldl_ports (dropBinv_ports a), foldl_ports (dropSnoops_ports a), ← hs3]
      have h8 : s8.lnk.ports.length = s.lnk.ports.length := by
        rw [foldl_ports (fun s t => tenantNotice_ports s t 1 a 0 0), raise_lnk, sqEvt_lnk, h6]
      split
      · exact h8
      · rw [hubReq_ports, h8]

@[simp] theorem removeAgents_ports (s : State) (p : Nat) (ids : List Nat) : (removeAgents s p ids).lnk.ports.length = s.lnk.ports.length := by
  unfold removeAgents
  dsimp only
  split
  · exact setPort_ports_length ..
  · rfl

@[simp] theorem surpriseAll_ports (s : State) (p : Nat) : (surpriseAll s p).lnk.ports.length = s.lnk.ports.length := by
  unfold surpriseAll surpriseDetach
  split
  · rfl
  · rw [removeAgents_ports, sqEvt_lnk, foldl_ports (fun s a => declare_ports s a true)]

end Sys2Proof.Machine
end

section
/-!
PROOF. What leaves the links of the ports as they are, in the analog blocks and the table engine: containments of channels, Lathes and the
acquisition, an escalation, and words and tables taken over by a strobe.
-/
namespace Sys2Proof.Machine

/-! ### The acquisition -/

theorem acqIssue_lnk (n : Nat) (s : State) : (acqIssue n s).lnk = s.lnk := by
  induction n generalizing s with
  | zero => rfl
  | succ n ih =>
    unfold acqIssue
    split
    · rfl
    · split
      · rfl
      · dsimp only
        rw [ih]
        split <;> simp [setRing]

@[simp] theorem ringFlush_lnk (s : State) (n : Nat) : (ringFlush s n).lnk = s.lnk := by
  unfold ringFlush ringOut
  dsimp only
  split
  · rfl
  · exact acqIssue_lnk 16 _

@[simp] theorem iadcCancel_lnk (s : State) : (iadcCancel s).lnk = s.lnk := by
  unfold iadcCancel
  split <;> rfl

@[simp] theorem acqContain_lnk (s : State) : (acqContain s).lnk = s.lnk := by
  simp [acqContain, foldl_lnk ringFlush_lnk]

@[simp] theorem acqAnaStart_lnk (s : State) : (acqAnaStart s).lnk = s.lnk := rfl

@[simp] theorem refStrobe_lnk (s : State) : (refStrobe s).lnk = s.lnk := by
  simp [refStrobe, refTaint, acqEvt, apply_ite State.lnk]

/-! ### DAC channels -/

@[simp] theorem dacOut_lnk (s : State) (n code : Nat) (span flt hiz : Bool) : (dacOut s n code span flt hiz).lnk = s.lnk := setReg_lnk ..
@[simp] theorem dacTakes_lnk (s : State) (n : Nat) : (dacTakes s n).lnk = s.lnk := rfl

@[simp] theorem dacFault_lnk (s : State) (n : Nat) : (dacFault s n).lnk = s.lnk := by
  unfold dacFault
  dsimp only
  rw [dacTakes_lnk]
  exact ite_lnk (dacOut_lnk ..) (dacOut_lnk ..)

@[simp] theorem faultLoads_lnk (s : State) (l : List Nat) : (faultLoads s l).lnk = s.lnk := by
  simp [faultLoads, dacEvt, foldl_lnk dacFault_lnk, apply_ite State.lnk]

theorem dacLoad_lnk (s : State) (n : Nat) : (dacLoad s n).lnk = s.lnk :=
  ite_lnk rfl (by rw [dacTakes_lnk, dacOut_lnk])

@[simp] theorem groupLoad_lnk (s : State) (src : Nat) (sel : Option Nat) : (groupLoad s src sel).lnk = s.lnk := by
  refine foldl_lnk (fun s n => ?_) _ s
  dsimp only
  split
  · exact dacLoad_lnk s n
  · rfl

@[simp] theorem dacCfgStrobe_lnk (old : List Word) (s : State) : (dacCfgStrobe old s).lnk = s.lnk := by
  unfold dacCfgStrobe
  extract_lets s1
  have h1 : s1.lnk = s.lnk := by
    refine foldl_lnk (fun s n => ?_) _ s
    dsimp only
    split <;> rfl
  exact ite_lnk (by rw [dacEvt, sqEvt_lnk, h1]) h1

/-! ### Lathes -/

@[simp] theorem setLth_lnk (s : State) (n : Nat) (f : LthSt → LthSt) : (setLth s n f).lnk = s.lnk := rfl
@[simp] theorem lthTables_lnk (s : State) (n : Nat) : (lthTables s n).lnk = s.lnk := rfl
@[simp] theorem lthEvt_lnk (s : State) (n b : Nat) : (lthEvt s n b).lnk = s.lnk := sqEvt_lnk ..

@[simp] theorem resFlush_lnk (s : State) (n : Nat) : (resFlush s n).lnk = s.lnk := by
  unfold resFlush
  dsimp only
  split
  · rfl
  · rw [ag0Req_lnk, setLth_lnk]

@[simp] theorem resPut_lnk (s : State) (n i : Nat) (b : List Byte) : (resPut s n i b).lnk = s.lnk := by
  unfold resPut
  split
  · simp [apply_ite State.lnk]
  · exact foldl_lnk (fun s w => setReg_lnk s _ _) _ s

@[simp] theorem toSafe_lnk (s : State) (n : Nat) : (toSafe s n).lnk = s.lnk := by
  have hstart (dest : Nat) (why : TransFor) : (transStart s n dest why).lnk = s.lnk := by
    unfold transStart
    dsimp only
    split <;> simp
  simp [toSafe, hstart, apply_ite State.lnk]

@[simp] theorem abortRaise_lnk (s : State) (n causes : Nat) : (abortRaise s n causes).lnk = s.lnk := by
  simp [abortRaise, apply_ite State.lnk]

@[simp] theorem lthAbortAs_lnk (load : Bool) (s : State) (n causes : Nat) : (lthAbortAs load s n causes).lnk = s.lnk := by
  unfold lthAbortAs
  extract_lets l s1 s2 going s3 s4 s5 s6 s7
  have h2 : s2.lnk = s.lnk := by simp only [s2, s1, apply_ite State.lnk, iadcCancel_lnk, faultLoads_lnk, ite_self]
  have h3 : s3.lnk = s.lnk := by
    simp only [s3, apply_ite State.lnk, resFlush_lnk, resPut_lnk, fresh_lnk, h2, ite_self]
  have h7 : s7.lnk = s.lnk := by
    rw [← h3]
    simp only [s7, s6, s5, s4, pcu_lnk, lthEvt_lnk, inc_lnk, setReg_lnk, lthTables_lnk, setLth_lnk]
  exact ite_lnk rfl (by rw [abortRaise_lnk, toSafe_lnk, h7])

@[simp] theorem lthTblStrobe_lnk (s : State) (n : Nat) (r c : Bool) : (lthTblStrobe s n r c).lnk = s.lnk := by
  unfold lthTblStrobe
  dsimp only
  split <;> rfl

/-! ### Containments and escalations -/

@[simp] theorem dacContain_lnk (s : State) (n : Nat) : (dacContain s n).lnk = s.lnk := by
  simp [dacContain, cmdAbort, lthAbort, apply_ite State.lnk]

theorem lthEscalate_lnk (s : State) : (lthEscalate s).lnk = s.lnk :=
  foldl_lnk (fun _ _ => ite_lnk (setFld_lnk ..) (ite_lnk rfl (lthAbortAs_lnk ..))) _ s

@[simp] theorem escApply_lnk (s : State) : (escApply s).lnk = s.lnk := by
  rw [escApply, faultAll, faultLoads_lnk, lthEscalate_lnk]

@[simp] theorem escalate_lnk (s : State) : (escalate s).lnk = s.lnk := by
  simp [escalate, apply_ite State.lnk]

@[simp] theorem anaFirst_lnk (s : State) : (anaFirst s).lnk = s.lnk := by
  simp [anaFirst, apply_ite State.lnk]

/-! ### Timebase and motion -/

@[simp] theorem tbReclass_lnk (s : State) : (tbReclass s).lnk = s.lnk := by
  simp [tbReclass, apply_ite State.lnk]

@[simp] theorem motEval_lnk (s : State) : (motEval s).lnk = s.lnk := by
  simp [motEval, apply_ite State.lnk]

@[simp] theorem tbApplied_lnk (old s : State) : (tbApplied old s).lnk = s.lnk := by
  simp [tbApplied, apply_ite State.lnk]

/-! ### Words and tables taken over -/

@[simp] theorem parReport_lnk (s : State) (key : Nat) (staged : Bool) : (parReport s key staged).lnk = s.lnk := by
  unfold parReport
  dsimp only
  split
  · rw [raise_lnk, setReg_lnk]
  · rfl

theorem copyWord_lnk (s : State) (w : Nat × Word) : (copyWord s w).lnk = s.lnk := by
  unfold copyWord
  split
  · exact parReport_lnk ..
  · rfl

@[simp] theorem tblHook_lnk (s : State) (k : Nat) : (tblHook s k).lnk = s.lnk := by
  simp [tblHook, acqTblStrobe, apply_ite State.lnk]

theorem tblActivate_lnk (x : State × Nat) (k : Nat) : (tblActivate x k).1.lnk = x.1.lnk := by
  unfold tblActivate
  dsimp only
  split
  · rfl
  · split
    · rfl
    · rw [tblHook_lnk, setReg_lnk]
      rfl

theorem tblActivates_lnk (l : List Nat) (x : State × Nat) : (l.foldl tblActivate x).1.lnk = x.1.lnk :=
  List.foldlRecOn (motive := fun (y : State × Nat) => y.1.lnk = x.1.lnk) l _ rfl (fun y hy k _ => (tblActivate_lnk y k).trans hy)

/-! ### The core's wake from WFI -/

@[simp] theorem timecmpMatch_lnk (s : State) : (timecmpMatch s).lnk = s.lnk := by
  simp [timecmpMatch, wfiWake, apply_ite State.lnk]

end Sys2Proof.Machine
end

section
/-!
PROOF. A device without ports: what follows a command in power-on reset leaves its links, and so the messages queued for agents, as they
are. A state that comes to have no ports had none before, for nothing takes a port away.
-/
namespace Sys2Proof.Machine

/-- Where the state after has no ports, its links are those of the state before. -/
def LinksStay (s t : State) : Prop := t.lnk.ports = [] → t.lnk = s.lnk

namespace LinksStay

/-! ### The relation -/

theorem of_lnk {s t : State} (h : t.lnk = s.lnk) : LinksStay s t := fun _ => h

theorem refl (s : State) : LinksStay s s := of_lnk rfl

theorem trans {s t u : State} (h1 : LinksStay s t) (h2 : LinksStay t u) : LinksStay s u := fun hu => by
  have ht := h2 hu
  rw [ht]
  exact h1 (by rw [← ht]; exact hu)

/-- A change from a state with the same links. -/
theorem of_same {s t u : State} (h : LinksStay t u) (e : t.lnk = s.lnk) : LinksStay s u := (of_lnk e).trans h

theorem ite {s t u : State} {p : Prop} [Decidable p] (ht : LinksStay s t) (hu : LinksStay s u) : LinksStay s (if p then t else u) := by
  split
  · exact ht
  · exact hu

theorem foldl {α : Type} {f : State → α → State} (hf : ∀ s x, LinksStay s (f s x)) (l : List α) (s : State) : LinksStay s (l.foldl f s) :=
  List.foldlRecOn (motive := fun u => LinksStay s u) l f (refl s) (fun u hu x _ => hu.trans (hf u x))

/-- The state before has no ports where the state after has none. -/
theorem ports_nil {s t : State} (h : LinksStay s t) (ht : t.lnk.ports = []) : s.lnk.ports = [] := by rw [← h ht, ht]

/-! ### Ports -/

theorem setPort (s : State) (p : Nat) (f : PortSt → PortSt) : LinksStay s (setPort s p f) := fun h => by
  have hs : s.lnk.ports = [] := List.eq_nil_of_length_eq_zero (by rw [← setPort_ports_length s p f, h]; rfl)
  have hupd : upd s.lnk.ports p f = s.lnk.ports := h.trans hs.symm
  exact congrArg (fun q => { s.lnk with ports := q }) hupd

theorem hubReq (s : State) (p mask : Nat) : LinksStay s (hubReq s p mask) :=
  .trans (setPort s p _) (setPort _ p _)

theorem reconfDone (s : State) (p : Nat) : LinksStay s (reconfDone s p) :=
  (setPort s p _).trans (.of_lnk (linkCut_lnk ..))

theorem reconfTry (s : State) (p : Nat) : LinksStay s (reconfTry s p) := ite (reconfDone s p) (refl s)

theorem reconfCheck (s : State) (p : Nat) : LinksStay s (reconfCheck s p) := by
  unfold Machine.reconfCheck
  extract_lets n s1
  have h1 : LinksStay s s1 := (reconfTry s p).trans (reconfTry _ n)
  exact ite (h1.trans (reconfDone s1 n)) h1

theorem portConfig (s : State) (p : Nat) : LinksStay s (portConfig s p) := by
  have happly (s : State) : LinksStay s (cfgApply s p) := by
    unfold cfgApply
    extract_lets q en s1
    exact ite (ite (reconfDone s p) (setPort s p _)) (ite (refl s)
      ((setPort s p _).trans (ite (reconfCheck s1 p) (hubReq s1 p _))))
  exact (happly _).of_same (ite_lnk (sqEvt_lnk ..) rfl)

/-- A device without ports has none to contain. -/
theorem portContain (s : State) (p : Nat) : LinksStay s (portContain s p) := fun h => by
  by_cases hs : s.lnk.ports = []
  · have hp : (portOf s p).mode = .disabled := by rw [portOf, hs]; rfl
    rw [Machine.portContain, if_pos (.inl hp)]
  · refine absurd ?_ hs
    rw [Machine.portContain] at h
    split at h
    · exact h
    · have h1 := ports_nil (setPort _ p _) (ports_nil (reconfCheck _ p) h)
      refine List.eq_nil_of_length_eq_zero ?_
      rw [← sqEvt_lnk s (Ad.LNK_EVT p) 128, ← surpriseAll_ports _ p, h1]
      rfl

theorem eachPort {f : State → Nat → State} (hf : ∀ s p, LinksStay s (f s p)) (s : State) : LinksStay s (eachPort f s) := foldl hf _ s

theorem lpiEnter (s : State) (p : Nat) : LinksStay s (lpiEnter s p) := ite (setPort s p _) (refl s)

theorem parkEnter (s : State) (p : Nat) : LinksStay s (parkEnter s p) := ite (setPort s p _) (refl s)

/-! ### Strobes -/

theorem grpHook (old : State) (g isl : Nat) (s : State) : LinksStay s (grpHook old g isl s) := by
  unfold Machine.grpHook
  refine ite (portConfig s _) (ite (.of_lnk (tbApplied_lnk ..)) (ite (.of_lnk ?_) (refl s)))
  extract_lets s1 s2 s3
  rw [groupLoad_lnk]
  have h1 : s1.lnk = s.lnk := ite_lnk rfl (refStrobe_lnk s)
  have h2 : s2.lnk = s.lnk := ite_lnk (t := setAcq s1 _) h1 h1
  have h3 : s3.lnk = s.lnk := ite_lnk ((dacCfgStrobe_lnk ..).trans h2) rfl
  exact h3

theorem applyIsl (s : State) (g isl : Nat) : LinksStay s (applyIsl s g isl) := by
  unfold Machine.applyIsl
  extract_lets w left s1 act s2 t2 s3
  refine (grpHook s g isl s3).of_same ?_
  have hact : act.1.lnk = s.lnk := (tblActivates_lnk _ (s1, 0)).trans (foldl_lnk copyWord_lnk w s)
  have h2 : s2.lnk = s.lnk := ite_lnk hact ((sqEvt_lnk ..).trans hact)
  exact ite_lnk h2 h2

theorem strobeIsl (g : Nat) (s : State) (isl : Nat) : LinksStay s (strobeIsl g s isl) :=
  ite (applyIsl s g isl) (ite (refl s) (.of_lnk rfl))

theorem grpAfter (s : State) (g : Nat) : LinksStay s (grpAfter s g) := by
  have hpend (s : State) : (pendCheck s g).lnk = s.lnk := ite_lnk rfl (setFld_lnk ..)
  exact .of_lnk ((hpend _).trans (ite_lnk (pasRecompute_lnk s) rfl))

theorem updStrobes (l : List Nat) (s : State) : LinksStay s (updStrobes l s) :=
  foldl (fun s g => (foldl (strobeIsl g) _ s).trans (grpAfter _ g)) l s

theorem heldApply (s : State) (isl : Nat) : LinksStay s (heldApply s isl) := by
  unfold Machine.heldApply
  refine foldl (fun u h => ?_) _ s
  extract_lets i u1
  exact ((applyIsl u1 h.1 isl).trans (grpAfter _ h.1)).of_same rfl

theorem updDue (s : State) : LinksStay s (updDue s) := by
  unfold Machine.updDue
  split
  · exact ite ((updStrobes _ _).of_same rfl) (refl s)
  · exact refl s

/-! ### Valleys -/

theorem exitBegin (s : State) (d : Nat) : LinksStay s (exitBegin s d) := .of_lnk rfl

theorem parkBegin (s : State) (goal : Nat) : LinksStay s (parkBegin s goal) := by
  have habort (s : State) (key : Nat) : (foldAbort s key).lnk = s.lnk := by
    unfold foldAbort
    split
    · exact ite_lnk rfl rfl
    · rfl
  exact (eachPort parkEnter _).of_same ((foldl_lnk habort _ _).trans rfl)

theorem wakeAs (s : State) (d src : Nat) (keep cut : Bool) : LinksStay s (wakeAs s d src keep cut) := by
  unfold Machine.wakeAs
  extract_lets note c s1 g
  have hnote : (note s).lnk = s.lnk := ite_lnk rfl rfl
  have h1 : s1.lnk = s.lnk := ite_lnk hnote rfl
  split
  case h_1 | h_2 | h_8 => exact ite (.of_lnk hnote) (refl s)
  case h_3 | h_4 | h_5 => exact ite (.of_lnk h1) (ite (.of_lnk h1) (ite ((parkBegin s1 g).of_same h1) (.of_lnk h1)))
  case h_6 | h_7 => exact ite (refl s) (ite (.of_lnk hnote) (.of_lnk hnote))

theorem wake (s : State) (b : Nat) : LinksStay s (wake s b) := by
  unfold Machine.wake
  extract_lets auto i s1 s2
  have h2 : LinksStay s s2 := (wakeAs s1 _ b auto true).of_same (ite_lnk rfl rfl)
  exact ite (refl s) (ite (h2.trans (.of_lnk rfl)) h2)

theorem daleWake (s : State) : LinksStay s (daleWake s) := ite (wakeAs s 0 0xFE false true) (refl s)

theorem keptAct (s : State) : LinksStay s (keptAct s) := by
  have hlatch (s : State) : LinksStay s (latchWakes s) :=
    foldl (fun s b => ite (wakeAs s (wakeDepth s b) b false false) (refl s)) _ s
  have hentry (s : State) (v : Nat) : LinksStay s (entryStart s v) := by
    unfold entryStart
    extract_lets s1 i s2 s3
    have h3 : LinksStay s s3 := ite ((eachPort lpiEnter (vStage s2 .toDale 1)).of_same rfl)
      (ite (.of_lnk (evcSet_lnk (vStage s2 .gbDrain 3) 24 0)) (.of_lnk (evcSet_lnk (vStage s2 .waitRc v) 24 0)))
    exact h3.trans (hlatch s3)
  unfold Machine.keptAct
  split
  · exact refl s
  · have htarget (s : State) (v : Nat) : LinksStay s (targetAct s v) := ite (refl s) (ite (hentry s v) (.of_lnk rfl))
    exact ite (refl s) ((htarget _ _).of_same rfl)

/-! ### The consequences of a command -/

theorem islStarted (s : State) (isl : Nat) : LinksStay s (islStarted s isl) := by
  refine (heldApply s isl).trans ?_
  refine ite (.of_lnk ?_) (ite (.of_lnk (cvuRestart_lnk _)) (ite (.of_lnk ?_) (refl _)))
  · rw [acqAnaStart_lnk, anaFirst_lnk]
  · rw [fltReoffer_lnk, evsFreed_lnk]

theorem containApply (s : State) (u : Nat) : LinksStay s (containApply s u) :=
  ite (portContain s u) (ite (.of_lnk (pasRecompute_lnk s)) (ite (ite (.of_lnk (acqContain_lnk s)) (refl s))
    (ite (ite (.of_lnk (dacContain_lnk ..)) (refl s)) (ite (ite (.of_lnk (lthAbortAs_lnk ..)) (refl s)) (refl s)))))

theorem effectApply (s : State) (e : Effect) : LinksStay s (effectApply s e) := by
  cases e with
  | contain u => exact containApply s u
  | escalate => exact .of_lnk (escalate_lnk s)
  | wake b => exact wake s b
  | started isl => exact islStarted s isl
  | jump => exact (updDue s).trans (.of_lnk (timecmpMatch_lnk _))
  | daleWake => exact daleWake s
  | keptTarget => exact keptAct s

theorem effectsRun (s : State) : LinksStay s (effectsRun s) := by
  have hloop (n : Nat) (s : State) : LinksStay s (effectLoop n s) := by
    induction n generalizing s with
    | zero => exact refl s
    | succ n ih =>
      unfold effectLoop
      split
      · exact refl s
      · exact ((effectApply _ _).trans (ih _)).of_same rfl
  exact hloop 512 s

end LinksStay

end Sys2Proof.Machine
end

section
/-!
PROOF. Why a message need not be queued for an agent where agents' IDs are any numbers: no attach grants an ID above 254 (R187), but a
state may hold one, and HA_UNRESP as the model reads it for such an ID can lie on a register that the command itself counts in. The
statements name the state before the command's consequences by what holds of it alone, so the witnesses are of a device without ports in
power-on reset, in which the messages queued for agents stay through those consequences.
-/
namespace Sys2Proof.Machine

/-! ### Level sources at the end of a command -/

/-- A pending bit of the first word stays set while sources are set. -/
theorem evcPend_keeps (s : State) (src : Nat) {b : Nat} (h : bit (s.reg (Ad.EVC_PEND 0)) b = true) :
    bit ((evcPend s src).reg (Ad.EVC_PEND 0)) b = true := by
  have hpend : bit ((s.setRegBit (Ad.EVC_PEND (src / 32)) (src % 32)).reg (Ad.EVC_PEND 0)) b = true := by
    rw [reg_setRegBit]
    split
    · rename_i hk
      rw [bit_or, ← hk, h, Bool.true_or]
    · exact h
  unfold evcPend
  dsimp only
  split
  · rwa [reg_setRegBit, if_neg (by simp only [Ad.EVC_PEND, Ad.EVC_MASK]; omega)]
  · exact hpend

theorem evcPend_first (s : State) : bit ((evcPend s 0).reg (Ad.EVC_PEND 0)) 0 = true := by
  have hpend : bit ((s.setRegBit (Ad.EVC_PEND 0) 0).reg (Ad.EVC_PEND 0)) 0 = true := by
    rw [reg_setRegBit, if_pos rfl, bit_or, bit_w32_two_pow]
    simp
  unfold evcPend
  dsimp only
  split
  · rwa [reg_setRegBit, if_neg (by decide)]
  · exact hpend

/-- Level sources set reach the event controller's registers alone. -/
theorem levelsSet_regsBut (s : State) : RegsBut evcKeys s (levelsSet s) := by
  refine List.foldlRecOn (motive := fun u => RegsBut evcKeys s u) _ _ (.refl _ s) (fun u hu src hsrc => hu.trans (evcPend_regsBut u ?_))
  have := List.mem_range.mp (List.mem_filter.mp hsrc).1
  omega

/-- Once level sources are set, that of latch 0 is pending where the latch is set (R657). -/
theorem levelsSet_pending {s : State} (h : bit ((levelsSet s).reg Ad.ISL_LATCH) 0 = true) :
    bit ((levelsSet s).reg (Ad.EVC_PEND 0)) 0 = true := by
  have hon : 0 ∈ levelsOn s := by
    rw [levelsSet_regsBut s _ (by decide)] at h
    exact List.mem_filter.mpr ⟨by simp, h⟩
  obtain ⟨l1, l2, hl⟩ := List.append_of_mem hon
  rw [levelsSet, hl, List.foldl_append, List.foldl_cons]
  exact List.foldlRecOn (motive := fun (u : State) => bit (u.reg (Ad.EVC_PEND 0)) 0 = true) l2 _ (evcPend_first _)
    (fun u hu src _ => evcPend_keeps u src hu)

/-- Where latch 0 is set and its source is not pending, the command has ended in power-on reset, with its consequences alone. -/
theorem follow_unpended {s0 s : State} (hl : bit ((follow s0 s).reg Ad.ISL_LATCH) 0 = true)
    (hp : bit ((follow s0 s).reg (Ad.EVC_PEND 0)) 0 = false) : follow s0 s = effectsRun s := by
  have hcases : follow s0 s = effectsRun s ∨ ∃ v, follow s0 s = levelsSet v := by
    unfold follow
    dsimp only
    split
    · exact .inr ⟨_, rfl⟩
    · exact .inr ⟨_, rfl⟩
    · exact .inl rfl
  obtain hrest | ⟨v, hv⟩ := hcases
  · exact hrest
  · rw [hv] at hl hp
    rw [levelsSet_pending hl] at hp
    cases hp

/-! ### Commands that leave no message -/

/-- The command has left a device without ports and messages, in which latch 0 is set and its source is not pending. -/
def endsBare : Host.Outcome State Fault Refusal → Bool
  | .next t => t.lnk.ports.isEmpty && t.lnk.tx.isEmpty && bit (t.reg Ad.ISL_LATCH) 0 && !bit (t.reg (Ad.EVC_PEND 0)) 0
  | _ => false

/-- Before the consequences of such a command, whatever they are, there was no message either. -/
theorem tx_nil_of_endsBare {s0 s : State} {o : Host.Outcome State Fault Refusal} (h : endsBare o = true)
    (ho : o = .next (finish s0 s)) : s.lnk.tx = [] := by
  rw [ho] at h
  simp only [endsBare, Bool.and_eq_true, List.isEmpty_iff, Bool.not_eq_true'] at h
  obtain ⟨⟨⟨hports, htx⟩, hlatch⟩, hpend⟩ := h
  have hend : follow s0 s = effectsRun s := follow_unpended hlatch hpend
  have hlnk : (effectsRun s).lnk = s.lnk := LinksStay.effectsRun s (by rw [← hend]; exact hports)
  rw [← hlnk, ← hend]
  exact htx

/-- A device without ports in power-on reset whose FAB island is clocked, with latch 0 set, an agent and a transaction of its. -/
def bareState (a : Nat) (t : Trk) : State :=
  { State.reset.setReg Ad.ISL_LATCH 1 with
    isl := { State.reset.isl with phase := .porst }
    lnk := { lnkFresh with ports := [], agents := [⟨a, 0, 0, true, none, false⟩] }
    ha := { haFresh with trks := [t] } }

/-- A transaction of an agent on line 3 of tenant 0. -/
def bareTrk (a : Nat) (k : ReqKind) (ph : TrkPh) (rd : RdSt) : Trk :=
  ⟨5, ⟨0, 0, ⟨k, 1, a, 0, 7, 0, false, 0, 3, 9, 0, 0⟩, none, false, false, false, false⟩, ph, 0, 3, 0, [], rd, false⟩

/-! ### A WriteConditional that fails -/

/-- The ID whose bit of HA_UNRESP, read beyond the register's eight words, is the lowest bit of HA_RACE_COUNT of WC_FAIL. -/
def wcFailId : Nat := 32 * 18

/-- The agent's WriteConditional heads the queue of its line, and the agent holds no reservation. -/
def wcFailTrk : Trk := bareTrk wcFailId .writeConditional .line .none

/-- The agent reads as responsive, until its failure is counted. -/
theorem wcFailId_unresp : unresp (bareState wcFailId wcFailTrk) wcFailId = false ∧
    unresp (haCount (bareState wcFailId wcFailTrk) 2) wcFailId = true := by decide +kernel

/-- So its Ack is discarded as that to an unresponsive agent. -/
theorem wcFail_endsBare : endsBare (exec (.lineActivate 0 3 0) (bareState wcFailId wcFailTrk)) = true := by decide +kernel

/-- Refutes O33: a WriteConditional that meets every condition of the first clause is not answered, for the statement lets its agent's ID be
any number, and this one's reads as declared unresponsive once HA_RACE_COUNT of WC_FAIL counts 1. -/
theorem not_failedWriteConditionalWritesNothing : ¬ Obligations.FailedWriteConditionalWritesNothing := by
  unfold Obligations.FailedWriteConditionalWritesNothing
  intro h
  obtain ⟨hfails, -⟩ := h (bareState wcFailId wcFailTrk) 0 3 wcFailTrk ⟨wcFailId, 0, 0, true, none, false⟩ (by decide +kernel)
    (by decide +kernel) (by decide +kernel) nofun rfl rfl (by decide +kernel) wcFailId_unresp.1
  obtain ⟨u, hexec, -, -, -, -, -, htx, -⟩ := hfails nofun nofun
  rw [tx_nil_of_endsBare wcFail_endsBare hexec] at htx
  cases htx

/-! ### A read of a line that no agent holds -/

/-- The ID whose bit of HA_UNRESP, read beyond the register's eight words, is that of counter 0 in PCU_OVF. -/
def overflowId : Nat := 32 * 0x220070

/-- The agent's ReadShared waits for its DRAM data alone. -/
def overflowTrk : Trk := bareTrk overflowId .readShared .active (.pend 2)

/-- Its read has been issued, and counter 0, which counts new directory entries (event 0x20), stands at its maximum. -/
def overflowState : State :=
  { setDrc { bareState overflowId overflowTrk with tmm := { State.reset.tmm with nch := 8 } } 0
      (fun d => { d with mode := .ready, issued := [⟨2, false, .tenant 0, 3, some 5⟩] }) with
    pcu := { State.reset.pcu with on := [⟨0, 0x20, false, true, 0, false⟩], cnt := [(0, 2 ^ 48 - 1)] } }

/-- The agent reads as responsive, until its line's new entry is counted and the counter wraps. -/
theorem overflowId_unresp : unresp overflowState overflowId = false ∧ unresp (pcu 0x20 0 1 overflowState) overflowId = true := by
  decide +kernel

/-- So its Data is discarded as that to an unresponsive agent. -/
theorem overflow_endsBare : endsBare (exec (.dramReadReturn 5 0) overflowState) = true := by decide +kernel

/-- Refutes O34: a ReadShared that meets every condition gets no Data, for the statement lets its agent's ID be any number, and this one's
reads as declared unresponsive once a performance counter of new directory entries wraps. -/
theorem not_readOfUncachedLineGrantsE : ¬ Obligations.ReadOfUncachedLineGrantsE := by
  unfold Obligations.ReadOfUncachedLineGrantsE
  intro h
  obtain ⟨u, hexec, htx, -⟩ := h overflowState 5 0 ⟨2, false, .tenant 0, 3, some 5⟩ overflowTrk ⟨overflowId, 0, 0, true, none, false⟩
    (by decide +kernel) (by decide +kernel) rfl (by decide +kernel) rfl rfl rfl rfl (.inl rfl) (by decide +kernel) overflowId_unresp.1
    (by decide +kernel) rfl (by decide +kernel) (by decide +kernel) (by decide +kernel)
  rw [tx_nil_of_endsBare overflow_endsBare hexec] at htx
  cases htx

end Sys2Proof.Machine
end

section
/-!
PROOF. A command of the TMM that begins (R299): what the commands read stands in it as before the write, and each command's own operation.
-/
namespace Sys2Proof.Machine

/-! ### What a command that begins leaves to be read -/

/-- Of the registers TMM_CMD and TMM_CMD_STATUS alone differ, and beyond registers, staged copies and parity errors the command in
progress. -/
structure TmmBegun (s v : State) : Prop where
  regs : RegsBut [Ad.TMM_CMD, Ad.TMM_CMD_STATUS] s v
  rest : v = { s with regs := v.regs, staged := v.staged, parErr := v.parErr, tmm := { s.tmm with cmd := v.tmm.cmd } }

/-- The state in which a command runs: OP shown, the command in progress with its arguments. -/
def tmmBegin (s : State) (op t : Nat) : State :=
  setCmd (s.setFld Ad.TMM_CMD_STATUS 15 8 op)
    (some ⟨op, t, s.fld Ad.TMM_CMD_ARG_0 21 0, s.fld Ad.TMM_CMD_ARG_1 22 0, s.fld Ad.TMM_CMD_ARG_0 21 0, false⟩)

namespace TmmBegun

theorem trans {s t u : State} (h1 : TmmBegun s t) (h2 : TmmBegun t u) : TmmBegun s u :=
  ⟨h1.regs.trans h2.regs, by rw [h2.rest, h1.rest]⟩

theorem of_written {v : Word} {s b : State} (h : Written Ad.TMM_CMD v s b) : TmmBegun s b := by
  refine ⟨h.regsBut (by decide), ?_⟩
  obtain ⟨-, -, -, -, hb⟩ := h
  rw [hb]

theorem tmmBegin (s : State) (op t : Nat) : TmmBegun s (tmmBegin s op t) :=
  ⟨RegsBut.setReg s _ (by decide), rfl⟩

theorem setCmd (s : State) (c : Option TmmCmd) : TmmBegun s (setCmd s c) := ⟨.refl _ s, rfl⟩

section
variable {s v : State} (h : TmmBegun s v)
include h

theorem ha : v.ha = s.ha := by rw [h.rest]
theorem flt : v.flt = s.flt := by rw [h.rest]
theorem tbl : v.tbl = s.tbl := by rw [h.rest]
theorem free : v.free = s.free := by rw [h.rest]
theorem nch : v.tmm.nch = s.tmm.nch := by rw [h.rest]
theorem pages : v.tmm.pages = s.tmm.pages := by rw [h.rest]
theorem slots : v.tmm.slots = s.tmm.slots := by rw [h.rest]
theorem bad : v.tmm.bad = s.tmm.bad := by rw [h.rest]

theorem contained (u : Nat) : contained v u = contained s u := by simp only [Machine.contained, h.flt]

/-- A field of any register but the command's own two reads as before. -/
theorem fld {k : Nat} (hk : k ∉ [Ad.TMM_CMD, Ad.TMM_CMD_STATUS]) (hi lo : Nat) : v.fld k hi lo = s.fld k hi lo :=
  congrArg (bf · hi lo) (h.regs k hk)

/-- So every register of a tenant's descriptor reads as before. -/
theorem reg_descriptor {k : Nat} (hk : 0x410000 ≤ k) : v.reg k = s.reg k := by
  refine h.regs k (fun hm => ?_)
  simp only [List.mem_cons, List.not_mem_nil, or_false, Ad.TMM_CMD, Ad.TMM_CMD_STATUS] at hm
  omega

theorem fld_descriptor {k : Nat} (hk : 0x410000 ≤ k) (hi lo : Nat) : v.fld k hi lo = s.fld k hi lo :=
  congrArg (bf · hi lo) (h.reg_descriptor hk)

theorem dscCtrl (t : Nat) : v.reg (Ad.DSC_CTRL t) = s.reg (Ad.DSC_CTRL t) := h.reg_descriptor (by simp only [Ad.DSC_CTRL]; omega)

theorem tenantState (t : Nat) : tenantState v t = tenantState s t := congrArg (bf · 2 0) (h.dscCtrl t)
theorem activeSlot (t : Nat) : activeSlot v t = activeSlot s t := congrArg (bf · 4 4) (h.dscCtrl t)
theorem slotState (t slot : Nat) : slotState v t slot = slotState s t slot :=
  h.fld_descriptor (by simp only [Ad.SLOT_CTRL]; omega) 1 0
theorem plain (t : Nat) : v.fld (Ad.DSC_PLAIN t) 17 0 = s.fld (Ad.DSC_PLAIN t) 17 0 := h.fld_descriptor (by simp only [Ad.DSC_PLAIN]; omega) 17 0
theorem largeLo (t : Nat) : v.fld (Ad.DSC_LARGE_LO t) 16 0 = s.fld (Ad.DSC_LARGE_LO t) 16 0 :=
  h.fld_descriptor (by simp only [Ad.DSC_LARGE_LO]; omega) 16 0
theorem largeHi (t : Nat) : v.fld (Ad.DSC_LARGE_HI t) 16 0 = s.fld (Ad.DSC_LARGE_HI t) 16 0 :=
  h.fld_descriptor (by simp only [Ad.DSC_LARGE_HI]; omega) 16 0
theorem imgBase (t : Nat) : v.fld (Ad.DSC_IMG_BASE t) 16 0 = s.fld (Ad.DSC_IMG_BASE t) 16 0 :=
  h.fld_descriptor (by simp only [Ad.DSC_IMG_BASE]; omega) 16 0
theorem imgPages (t : Nat) : v.fld (Ad.DSC_IMG_PAGES t) 16 0 = s.fld (Ad.DSC_IMG_PAGES t) 16 0 :=
  h.fld_descriptor (by simp only [Ad.DSC_IMG_PAGES]; omega) 16 0
theorem slotPages (t slot : Nat) : v.fld (Ad.SLOT_NPAGES t slot) 16 0 = s.fld (Ad.SLOT_NPAGES t slot) 16 0 :=
  h.fld_descriptor (by simp only [Ad.SLOT_NPAGES]; omega) 16 0

theorem inLarge (t page : Nat) : inLarge v t page = inLarge s t page := by simp only [Machine.inLarge, h.largeLo, h.largeHi]
theorem inImage (t line : Nat) : inImage v t line = inImage s t line := by
  rw [Machine.inImage, imgRange, h.imgBase, h.imgPages]
  rfl
theorem rangeOk (t first count : Nat) : rangeOk v t first count = rangeOk s t first count := by
  simp only [Machine.rangeOk, h.plain, h.inLarge]
theorem rangeImage (t first count : Nat) : rangeImage v t first count = rangeImage s t first count := by
  simp only [Machine.rangeImage, h.imgBase, h.imgPages]
theorem rangeKeys (t first count : Nat) : rangeKeys v t first count = rangeKeys s t first count := by
  simp only [Machine.rangeKeys, pageKey, h.inImage, h.inLarge, h.fld_descriptor (k := Ad.DSC_CTRL t) (by simp only [Ad.DSC_CTRL]; omega)]
theorem unread (key : Nat) : unread v key = unread s key := by simp only [Machine.unread, h.bad]
theorem ptRegion : ptRegion v = ptRegion s := by simp only [Machine.ptRegion, tblBody, h.tbl]
theorem newRoot : newRoot v = newRoot s := by simp only [Machine.newRoot, h.ptRegion, h.free]

theorem pg (key : Nat) : pg v key = pg s key := by
  have hd : pgDef v = pgDef s := by
    funext k
    have hst : ∀ t slot, v.fld (Ad.SLOT_CTRL t slot) 1 0 = s.fld (Ad.SLOT_CTRL t slot) 1 0 := h.slotState
    simp only [pgDef, h.inImage, h.inLarge, hst, h.imgBase, h.slotPages, h.nch]
  rw [Machine.pg, hd, h.pages]
  rfl

theorem ptFits (more : Nat) : ptFits v more = ptFits s more := by
  have hst : ∀ t, v.fld (Ad.DSC_CTRL t) 2 0 = s.fld (Ad.DSC_CTRL t) 2 0 := h.tenantState
  have hused : ptUsed v = ptUsed s := by simp only [ptUsed, h.pages, h.slots, h.nch, hst]
  rw [Machine.ptFits, hused, h.ptRegion]
  rfl

end
end TmmBegun

/-! ### Each command's own operation -/

/-- A write of TMM_CMD that reaches it while no command is in progress writes it, and the command begins. -/
theorem rowWrite_tmmCmd_idle {s : State} {src : Src} {op t : Nat} (ht : Takes s src Ad.TMM_CMD) (hc : s.tmm.cmd = none) (hop : op < 256)
    (htn : t < 1024) : ∃ b, Written Ad.TMM_CMD (setBf (setBf (s.reg Ad.TMM_CMD) 25 16 t) 7 0 op) s b ∧
      rowWrite s src Ad.TMM_CMD (tmmWord op t) = tmmCmd b op t := by
  obtain ⟨b, hb, hw⟩ := regWrite_tmmCmd_idle src op t hc
  rw [tmmCmdWord, Nat.mod_eq_of_lt hop, Nat.mod_eq_of_lt htn] at hb
  rw [Nat.mod_eq_of_lt hop, Nat.mod_eq_of_lt htn] at hw
  exact ⟨b, hb, (rowWrite_takes _ ht).trans hw⟩

section
variable {s : State} {t : Nat} (hc : s.tmm.cmd = none)
include hc

theorem tmmCmd_badOp {op : Nat} (h : 12 < op) : tmmCmd s op t = tmmEnd (tmmBegin s op t) 1 := by
  have h0 : op ≠ 0 := by omega
  simp [tmmCmd, tmmBegin, hc, h, h0]

theorem tmmCmd_disabled {op : Nat} (h0 : op ≠ 0) (h12 : op ≤ 12) (hn : s.tmm.nch = 0) :
    tmmCmd s op t = tmmEnd (tmmBegin s op t) 2 := by
  simp [tmmCmd, tmmBegin, hc, hn, h0, Nat.not_lt.mpr h12]

/-- A fetching command or FLIP while the TMM is contained (Table 19-3). -/
theorem tmmCmd_contained {op : Nat} (hf : op = 7 ∨ op = 8 ∨ op = 10 ∨ op = 11) (hn : s.tmm.nch ≠ 0) (hk : contained s 24 = true) :
    tmmCmd s op t = tmmEnd (tmmBegin s op t) 7 := by
  have h0 : op ≠ 0 := by omega
  have h12 : ¬12 < op := by omega
  have hk' : contained (tmmBegin s op t) 24 = true := hk
  simp [tmmCmd, tmmBegin, hc, hn, h0, h12, hk, hf]

variable (hn : s.tmm.nch ≠ 0)
include hn

theorem tmmCmd_create : tmmCmd s 1 t = tmmCreate (tmmBegin s 1 t) t := by simp [tmmCmd, tmmBegin, hc, hn]

theorem tmmCmd_release : tmmCmd s 2 t = tmmRelease (tmmBegin s 2 t) t := by simp [tmmCmd, tmmBegin, hc, hn]

theorem tmmCmd_map : tmmCmd s 3 t =
    tmmMap (tmmBegin s 3 t) t (s.fld Ad.TMM_CMD_ARG_0 21 0) (s.fld Ad.TMM_CMD_ARG_1 22 0) := by simp [tmmCmd, tmmBegin, hc, hn]

theorem tmmCmd_range {op : Nat} (h : op = 4 ∨ op = 5) : tmmCmd s op t =
    tmmRangeCmd (tmmBegin s op t) op t (s.fld Ad.TMM_CMD_ARG_0 21 0) (s.fld Ad.TMM_CMD_ARG_1 22 0) := by
  rcases h with rfl | rfl <;> simp [tmmCmd, tmmBegin, hc, hn]

theorem tmmCmd_unpin : tmmCmd s 6 t =
    tmmUnpin (tmmBegin s 6 t) t (s.fld Ad.TMM_CMD_ARG_0 21 0) (s.fld Ad.TMM_CMD_ARG_1 22 0) := by simp [tmmCmd, tmmBegin, hc, hn]

theorem tmmCmd_unloadSlot : tmmCmd s 9 t = tmmUnload (tmmBegin s 9 t) t (s.fld Ad.TMM_CMD_ARG_0 21 0 % 2) := by
  simp [tmmCmd, tmmBegin, hc, hn]

theorem tmmCmd_unbind : tmmCmd s 12 t = tmmUnbind (tmmBegin s 12 t) t (s.fld Ad.TMM_CMD_ARG_0 21 0 % 256) := by
  simp [tmmCmd, tmmBegin, hc, hn]

variable (hk : contained s 24 = false)
include hk

theorem tmmCmd_loadSlot : tmmCmd s 7 t = tmmLoad (tmmBegin s 7 t) t (s.fld Ad.TMM_CMD_ARG_0 21 0 % 2) := by
  simp [tmmCmd, tmmBegin, hc, hn, hk]

theorem tmmCmd_prefetch : tmmCmd s 8 t = tmmCmdStep (tmmPrefetch (tmmBegin s 8 t) t (s.fld Ad.TMM_CMD_ARG_0 21 0 % 2)) := by
  simp [tmmCmd, tmmBegin, hc, hn, hk]

theorem tmmCmd_flip : tmmCmd s 10 t = tmmFlip (tmmBegin s 10 t) t := by simp [tmmCmd, tmmBegin, hc, hn, hk]

theorem tmmCmd_refetch : tmmCmd s 11 t = tmmRefetch (tmmBegin s 11 t) t (s.fld Ad.TMM_CMD_ARG_0 21 0 % 2) := by
  simp [tmmCmd, tmmBegin, hc, hn, hk]

end

end Sys2Proof.Machine
end

section
/-!
PROOF. Commands of the TMM that are refused (R299, Tables 8-2 and 19-3): each ends at once, and touches its own registers and those that
its events reach.
-/
namespace Sys2Proof.Machine

/-! ### A tenant or slot not in the state that the command needs -/

section
variable {s : State} {t slot : Nat}

theorem tmmCreate_notFree (h : tenantState s t ≠ 0) : tmmCreate s t = tmmEnd s 2 := if_pos h
theorem tmmRelease_notLive (h : tenantState s t ≠ 1) : tmmRelease s t = tmmEnd s 2 := if_pos (.inl h)
theorem tmmMap_notLive (first count : Nat) (h : tenantState s t ≠ 1) : tmmMap s t first count = tmmEnd s 2 := if_pos h
theorem tmmRangeCmd_notLive (op first count : Nat) (h : tenantState s t ≠ 1) : tmmRangeCmd s op t first count = tmmEnd s 2 := if_pos h
theorem tmmUnpin_notLive (first count : Nat) (h : tenantState s t ≠ 1) : tmmUnpin s t first count = tmmEnd s 2 := if_pos h
theorem tmmUnbind_notLive (a : Nat) (h : tenantState s t ≠ 1) : tmmUnbind s t a = tmmEnd s 2 := if_pos h
theorem tmmLoad_refused (h : tenantState s t ≠ 1 ∨ (slotState s t slot ≠ 0 ∧ slotState s t slot ≠ 3)) :
    tmmLoad s t slot = tmmEnd s 2 := if_pos h
theorem tmmUnload_active (h : slot = activeSlot s t) : tmmUnload s t slot = tmmEnd s 2 := if_pos h
theorem tmmRefetch_notReady (h : slotState s t slot ≠ 2) : tmmRefetch s t slot = tmmEnd s 2 := if_pos h

/-- A PREFETCH that is refused has no progress to make. -/
theorem tmmPrefetch_notReady (h : slotState s t slot ≠ 2) : tmmCmdStep (tmmPrefetch s t slot) = tmmEnd s 2 := by
  have hend : tmmPrefetch s t slot = tmmEnd s 2 := if_pos h
  have hcmd : (tmmEnd s 2).tmm.cmd = none := by rw [tmmEnd, (TmmRefused.tmmEvt _ 1).rest]; rfl
  rw [hend, tmmCmdStep, hcmd]

theorem tmmFlip_notLive (he : s.flt.esc = none) (h : tenantState s t ≠ 1) : tmmFlip s t = tmmEnd s 2 := by
  simp [tmmFlip, he, h]

end

/-- The command's tenant or slot is not in the state that Table 8-1 asks for. -/
def TmmWrongState (s : State) (op t : Nat) : Prop :=
  let slot := s.fld Ad.TMM_CMD_ARG_0 21 0 % 2
  (op = 1 ∧ tenantState s t ≠ 0) ∨ ((op = 2 ∨ op = 3 ∨ op = 4 ∨ op = 5 ∨ op = 6 ∨ op = 7 ∨ op = 10 ∨ op = 12) ∧ tenantState s t ≠ 1) ∨
    (op = 7 ∧ (slotState s t slot = 1 ∨ slotState s t slot = 2)) ∨ ((op = 8 ∨ op = 11) ∧ slotState s t slot ≠ 2) ∨
    (op = 9 ∧ slot = activeSlot s t)

theorem TmmWrongState.of_begun {s b : State} {op t : Nat} (h : TmmBegun s b) (hw : TmmWrongState s op t) : TmmWrongState b op t := by
  simpa only [TmmWrongState, h.tenantState, h.slotState, h.activeSlot, h.fld (k := Ad.TMM_CMD_ARG_0) (by decide)] using hw

/-- Such a command ends with RESULT 2. -/
theorem tmmCmd_wrongState {s : State} {op t : Nat} (hc : s.tmm.cmd = none) (hn : s.tmm.nch ≠ 0) (hk : contained s 24 = false)
    (he : s.flt.esc = none) (hw : TmmWrongState s op t) : tmmCmd s op t = tmmEnd (tmmBegin s op t) 2 := by
  have hb : TmmBegun s (tmmBegin s op t) := .tmmBegin s op t
  obtain ⟨rfl, hten⟩ | ⟨hop, hten⟩ | ⟨rfl, hslot⟩ | ⟨hop, hslot⟩ | ⟨rfl, hslot⟩ := hw
  · rw [tmmCmd_create hc hn, tmmCreate_notFree (by rwa [hb.tenantState])]
  · rw [← hb.tenantState] at hten
    rcases hop with rfl | rfl | rfl | rfl | rfl | rfl | rfl | rfl
    · rw [tmmCmd_release hc hn, tmmRelease_notLive hten]
    · rw [tmmCmd_map hc hn, tmmMap_notLive _ _ hten]
    · rw [tmmCmd_range hc hn (.inl rfl), tmmRangeCmd_notLive _ _ _ hten]
    · rw [tmmCmd_range hc hn (.inr rfl), tmmRangeCmd_notLive _ _ _ hten]
    · rw [tmmCmd_unpin hc hn, tmmUnpin_notLive _ _ hten]
    · rw [tmmCmd_loadSlot hc hn hk, tmmLoad_refused (.inl hten)]
    · rw [tmmCmd_flip hc hn hk, tmmFlip_notLive (by rw [hb.flt, he]) hten]
    · rw [tmmCmd_unbind hc hn, tmmUnbind_notLive _ hten]
  · rw [← hb.slotState] at hslot
    rw [tmmCmd_loadSlot hc hn hk, tmmLoad_refused (.inr (by omega))]
  · rw [← hb.slotState] at hslot
    rcases hop with rfl | rfl
    · rw [tmmCmd_prefetch hc hn hk, tmmPrefetch_notReady hslot]
    · rw [tmmCmd_refetch hc hn hk, tmmRefetch_notReady hslot]
  · rw [tmmCmd_unloadSlot hc hn, tmmUnload_active (by rw [hb.activeSlot]; exact hslot)]

/-! ### The obligation -/

/-- The commands of Table 8-1 with their OPs. -/
def tmmOps (src : Src) (t : Nat) : List (Instr × Nat) :=
  [(.create src t, 1), (.release src t, 2), (.map src t, 3), (.unmap src t, 4), (.pin src t, 5), (.unpin src t, 6), (.loadSlot src t, 7),
    (.prefetch src t, 8), (.unloadSlot src t, 9), (.flip src t, 10), (.refetch src t, 11), (.unbind src t, 12)]

/-- Each is the write of its OP to TMM_CMD. -/
theorem exec_tmmOp {src : Src} {t op : Nat} {c : Instr} (h : (c, op) ∈ tmmOps src t) (s : State) :
    (op ≠ 0 ∧ op ≤ 12) ∧ exec c s = .next (finish s (rowWrite s src Ad.TMM_CMD (tmmWord op t))) := by
  simp only [tmmOps, List.mem_cons, Prod.mk.injEq, List.not_mem_nil, or_false] at h
  rcases h with ⟨rfl, rfl⟩ | ⟨rfl, rfl⟩ | ⟨rfl, rfl⟩ | ⟨rfl, rfl⟩ | ⟨rfl, rfl⟩ | ⟨rfl, rfl⟩ | ⟨rfl, rfl⟩ | ⟨rfl, rfl⟩ | ⟨rfl, rfl⟩ |
    ⟨rfl, rfl⟩ | ⟨rfl, rfl⟩ | ⟨rfl, rfl⟩ <;> exact ⟨by decide, rfl⟩

/-- A write of TMM_CMD while a command is in progress reaches TMM_EVT and the event controller's registers. -/
theorem rowWrite_tmmCmd_busy {s : State} {src : Src} (w : Word) (ht : Takes s src Ad.TMM_CMD) (hc : s.tmm.cmd.isSome = true) :
    let u := rowWrite s src Ad.TMM_CMD w
    RegsBut (Ad.TMM_EVT :: evcKeys) s u ∧ TmmRefused s u := by
  intro u
  have hw : Written Ad.TMM_CMD ((tmmEvt s 2).reg Ad.TMM_CMD) (tmmEvt s 2) u := by
    rw [show u = _ from rowWrite_takes w ht]
    exact regWrite_tmmCmd_busy src w hc
  refine ⟨fun k hk => ?_, (TmmRefused.tmmEvt s 2).trans (.of_written hw)⟩
  rw [← sqEvt_regsBut s Ad.TMM_EVT 2 k hk]
  obtain ⟨hself, hother, -⟩ := hw
  by_cases h : k = Ad.TMM_CMD
  · rw [h, hself]; rfl
  · exact hother k h

/-- Settles O38: a write while a command is in progress leaves an event alone, and a command that is refused ends where it begins. -/
theorem refusedTmmCommandsChangeNothing : Obligations.RefusedTmmCommandsChangeNothing := by
  unfold Obligations.RefusedTmmCommandsChangeNothing
  intro s src t op c htn ht hop slot
  obtain ⟨⟨h0, h12⟩, hexec⟩ := exec_tmmOp hop s
  refine ⟨fun hbusy => ?_, fun hc r hr => ?_⟩
  · obtain ⟨hregs, href⟩ := rowWrite_tmmCmd_busy (tmmWord op t) ht hbusy
    exact ⟨_, hexec, by rw [href.rest], by rw [href.rest], by rw [href.rest], hregs.mono (by decide)⟩
  · obtain ⟨b, hb, hw⟩ := rowWrite_tmmCmd_idle (op := op) ht hc (by omega) htn
    have hsb : TmmBegun s b := .of_written hb
    have hbc : b.tmm.cmd = none := by rw [(TmmRefused.of_written hb).rest, hc]
    have hr256 : r < 256 := by omega
    have hend : tmmCmd b op t = tmmEnd (tmmBegin b op t) r := by
      rcases hr with ⟨hn, rfl⟩ | ⟨hn, hk, hf, rfl⟩ | ⟨hn, hk, rfl, he, hw⟩
      · exact tmmCmd_disabled hbc h0 h12 (by rw [hsb.nch, hn])
      · exact tmmCmd_contained hbc hf (by rwa [hsb.nch]) (by rwa [hsb.contained])
      · exact tmmCmd_wrongState hbc (by rwa [hsb.nch]) (by rwa [hsb.contained]) (by rwa [hsb.flt]) (.of_begun hsb hw)
    obtain ⟨hbu, hres⟩ := tmmEnd_refused op r _ hbc hr256
    have href : TmmRefused s (tmmEnd (tmmBegin b op t) r) := (TmmRefused.of_written hb).trans hbu
    rw [hexec, hw, hend]
    exact ⟨_, rfl, hres, by rw [href.rest], by rw [href.rest], by rw [href.rest], href.regs.mono (by decide)⟩

end Sys2Proof.Machine
end

section
/-!
PROOF. What each command of the TMM does where nothing refuses it (Table 8-1): its conditions are judged on the state before the write.
-/
namespace Sys2Proof.Machine

/-! ### A command that is taken -/

/-- The write of a command has reached TMM_CMD while none was in progress: `b` has the register written, and the command runs from
there. -/
structure TmmTaken (s : State) (c : Instr) (op t : Nat) (b : State) : Prop where
  written : Written Ad.TMM_CMD (setBf (setBf (s.reg Ad.TMM_CMD) 25 16 t) 7 0 op) s b
  runs : exec c s = .next (finish s (tmmCmd b op t))
  idle : b.tmm.cmd = none
  enabled : s.tmm.nch ≠ 0 → b.tmm.nch ≠ 0
  free : contained s 24 = false → contained b 24 = false
  arg0 : b.fld Ad.TMM_CMD_ARG_0 21 0 = s.fld Ad.TMM_CMD_ARG_0 21 0
  arg1 : b.fld Ad.TMM_CMD_ARG_1 22 0 = s.fld Ad.TMM_CMD_ARG_1 22 0
  begun : TmmBegun s (tmmBegin b op t)
  shown : tmmBegin b op t = setCmd (b.setFld Ad.TMM_CMD_STATUS 15 8 op)
    (some ⟨op, t, s.fld Ad.TMM_CMD_ARG_0 21 0, s.fld Ad.TMM_CMD_ARG_1 22 0, s.fld Ad.TMM_CMD_ARG_0 21 0, false⟩)

theorem tmmTaken {s : State} {src : Src} {c : Instr} {op t : Nat} (ht : Takes s src Ad.TMM_CMD) (hc : s.tmm.cmd = none) (hop : op < 256)
    (htn : t < 1024) (hexec : exec c s = .next (finish s (rowWrite s src Ad.TMM_CMD (tmmWord op t)))) : ∃ b, TmmTaken s c op t b := by
  obtain ⟨b, hb, hw⟩ := rowWrite_tmmCmd_idle ht hc hop htn
  have hsb : TmmBegun s b := .of_written hb
  have h0 : b.fld Ad.TMM_CMD_ARG_0 21 0 = s.fld Ad.TMM_CMD_ARG_0 21 0 := hsb.fld (by decide) 21 0
  have h1 : b.fld Ad.TMM_CMD_ARG_1 22 0 = s.fld Ad.TMM_CMD_ARG_1 22 0 := hsb.fld (by decide) 22 0
  refine ⟨b, hb, by rw [hexec, hw], by rw [(TmmRefused.of_written hb).rest, hc], fun h => by rwa [hsb.nch],
    fun h => by rwa [hsb.contained], h0, h1, hsb.trans (.tmmBegin b op t), by rw [tmmBegin, h0, h1]⟩

/-- A command of Table 8-1. -/
theorem tmmOp_taken {s : State} {src : Src} {c : Instr} {op t : Nat} (ht : Takes s src Ad.TMM_CMD) (hc : s.tmm.cmd = none)
    (htn : t < 1024) (h : (c, op) ∈ tmmOps src t) : ∃ b, TmmTaken s c op t b := by
  obtain ⟨⟨-, h12⟩, hexec⟩ := exec_tmmOp h s
  exact tmmTaken ht hc (by omega) htn hexec

/-- A command is what it runs as. -/
theorem TmmTaken.exec_eq {s b u : State} {c : Instr} {op t : Nat} (h : TmmTaken s c op t b) (hu : tmmCmd b op t = u) :
    exec c s = .next (finish s u) := by rw [h.runs, hu]

theorem pad128_length (l : List Byte) : (pad128 l).length = 128 := by
  rw [pad128, List.length_take, List.length_append, List.length_replicate]
  omega

/-! ### The commands, begun from a state `s` and run on `v` -/

namespace TmmBegun
section
variable {s v : State} (h : TmmBegun s v) {t : Nat}
include h

theorem create (hfree : Machine.tenantState s t = 0) (h1 : 1 ≤ s.fld (Ad.DSC_PLAIN t) 17 0) (h2 : s.fld (Ad.DSC_PLAIN t) 17 0 ≤ 131072)
    (h3 : s.fld (Ad.DSC_LARGE_LO t) 16 0 ≤ s.fld (Ad.DSC_LARGE_HI t) 16 0)
    (h4 : s.fld (Ad.DSC_LARGE_LO t) 16 0 < s.fld (Ad.DSC_LARGE_HI t) 16 0 → s.fld (Ad.DSC_LARGE_HI t) 16 0 ≤ s.fld (Ad.DSC_PLAIN t) 17 0)
    (h5 : s.fld (Ad.DSC_IMG_PAGES t) 16 0 ≤ 65536)
    (h6 : 0 < s.fld (Ad.DSC_IMG_PAGES t) 16 0 →
      s.fld (Ad.DSC_IMG_BASE t) 16 0 * 32 + s.fld (Ad.DSC_IMG_PAGES t) 16 0 ≤ s.fld (Ad.DSC_PLAIN t) 17 0 * 32)
    (h7 : overlaps (s.fld (Ad.DSC_LARGE_LO t) 16 0 * 32) ((s.fld (Ad.DSC_LARGE_HI t) 16 0 - s.fld (Ad.DSC_LARGE_LO t) 16 0) * 32)
      (s.fld (Ad.DSC_IMG_BASE t) 16 0 * 32) (s.fld (Ad.DSC_IMG_PAGES t) 16 0) = false)
    (hfits : Machine.ptFits s 2048 = true) :
    tmmCreate v t = tmmEnd (((v.setFld (Ad.DSC_CTRL t) 2 0 1).setReg (Ad.DSC_PT_ROOT t) (w32 (Machine.newRoot s))).fresh) 0 := by
  rw [← h.tenantState] at hfree
  rw [← h.ptFits] at hfits
  simp only [← h.plain, ← h.largeLo, ← h.largeHi, ← h.imgBase, ← h.imgPages] at h1 h2 h3 h4 h5 h6 h7
  unfold tmmCreate
  dsimp only
  rw [if_neg (by simp [hfree]), if_neg ?_, if_neg (by simp [hfits]), h.newRoot]
  rintro (hbad | hbad | hbad | ⟨hlt, hbad⟩ | hbad | ⟨hlt, hbad⟩ | hbad)
  · omega
  · omega
  · omega
  · have := h4 hlt; omega
  · omega
  · have := h6 hlt; omega
  · rw [h7] at hbad; cases hbad

theorem release (hlive : Machine.tenantState s t = 1) (h0 : t ≠ 0) : tmmRelease v t =
    sweepStart ((s.ha.trks.filter (fun q => (q.ph == .walk || q.ph == .page) && q.r.m.tenant == t)).foldl (fun s q => tmmRetry s q 4)
      (v.setFld (Ad.DSC_CTRL t) 2 0 2)) (.release t) := by
  rw [← h.tenantState] at hlive
  unfold tmmRelease
  rw [if_neg (by simp [hlive, h0]), ← h.ha]
  rfl

theorem map {a0 a1 : Nat} (hlive : Machine.tenantState s t = 1) (hok : Machine.rangeOk s t a0 a1 = true)
    (himg : Machine.rangeImage s t a0 a1 = false) : tmmMap v t a0 a1 =
      let s1 := ((Machine.rangeKeys s t a0 a1).filter (fun k => (Machine.pg s k).st == .unbacked && !Machine.unread s k)).foldl
        (fun s k => changePg s k (fun e => { e with st := .blank, large := Machine.inLarge s t (keyPage k) })) v
      if Machine.ptFits s1 0 then tmmEnd s1 0 else tmmEnd v 4 := by
  unfold tmmMap
  rw [h.tenantState, h.rangeOk, h.rangeImage, h.rangeKeys, if_neg (by simp [hlive]), if_neg (by simp [hok, himg])]
  simp only [h.pg, h.unread]

theorem unpin {a0 a1 : Nat} (hlive : Machine.tenantState s t = 1) (hok : Machine.rangeOk s t a0 a1 = true)
    (himg : Machine.rangeImage s t a0 a1 = false) : tmmUnpin v t a0 a1 =
      tmmEnd (((Machine.rangeKeys s t a0 a1).filter (fun k => (Machine.pg s k).st == .pinned)).foldl
        (fun s k => changePg s k (fun (e : PageE) => { e with st := .resident })) v) 0 := by
  unfold tmmUnpin
  rw [h.tenantState, h.rangeOk, h.rangeImage, h.rangeKeys, if_neg (by simp [hlive]), if_neg (by simp [hok, himg])]
  simp only [h.pg]

/-- UNMAP and PIN begin with the first page of their range. -/
theorem range {op a0 a1 : Nat} (hlive : Machine.tenantState s t = 1) (hok : Machine.rangeOk s t a0 a1 = true)
    (himg : op = 4 → Machine.rangeImage s t a0 a1 = false) :
    tmmRangeCmd v op t a0 a1 = tmmCmdStep (Machine.setCmd v (some ⟨op, t, a0, a1, a0, false⟩)) := by
  unfold tmmRangeCmd
  rw [h.tenantState, h.rangeOk, h.rangeImage, if_neg (by simp [hlive]), if_neg]
  rintro (hbad | ⟨hop, hbad⟩)
  · simp [hok] at hbad
  · simp [himg hop] at hbad

theorem loadSlot {slot : Nat} (hlive : Machine.tenantState s t = 1) (hst : Machine.slotState s t slot = 0 ∨ Machine.slotState s t slot = 3) :
    tmmLoad v t slot = fetchNew ((v.setFld (Ad.SLOT_CTRL t slot) 1 0 1).setFld (Ad.SLOT_CTRL t slot) 23 16 0) t slot (.manifest t slot)
      true 0 1 := by
  unfold tmmLoad
  rw [h.tenantState, h.slotState, if_neg]
  rintro (hbad | ⟨hbad0, hbad3⟩)
  · exact hbad hlive
  · exact hst.elim hbad0 hbad3

/-- A flip's own operation: the image range stalled, the old slot abandoned, its sweep started. -/
theorem flip {old : Nat} (hold : Machine.activeSlot s t = old) (hlive : Machine.tenantState s t = 1) (hesc : s.flt.esc = none)
    (hready : Machine.slotState s t (1 - old) = 2) :
    let G (s' : State) : State := sweepStart (abandonSlot { s' with tmm := { s'.tmm with stall := some t } } t old) (.flip t old)
    (bit (s.reg (Ad.DSC_CTRL t)) 8 = false → tmmFlip v t = G v) ∧
      (bit (s.reg (Ad.DSC_CTRL t)) 8 = true → ∃ p, p.length = 128 ∧
        ((evsOffer v 2 p none).2 ≠ .busy → tmmFlip v t = G (evsOffer v 2 p none).1)) := by
  subst hold
  have hesc' : v.flt.esc.isSome = false := by rw [h.flt, hesc]; rfl
  rw [← h.tenantState] at hlive
  rw [← h.activeSlot, ← h.slotState] at hready
  rw [← h.dscCtrl, ← h.activeSlot]
  unfold tmmFlip
  dsimp only
  rw [if_neg (by simp [hesc']), if_neg (by simp [hlive]), if_neg (by simp [hready])]
  refine ⟨fun hatt => if_neg (by simp [hatt]), fun hatt => ?_⟩
  rw [if_pos hatt]
  generalize hp : pad128 _ = p
  refine ⟨p, by rw [← hp, pad128_length], fun hbusy => ?_⟩
  split
  · rename_i he
    rw [he] at hbusy
    exact absurd rfl hbusy
  · rename_i he
    rw [he]

theorem unbind {a : Nat} (hlive : Machine.tenantState s t = 1) (hlock : locked s 0 = false) :
    tmmUnbind v t a = sweepStart { v with tmm := { v.tmm with unbinding := some (t, a) } } (.unbind t a) := by
  have hlock' : locked v 0 = false := by rw [locked, h.regs _ (by decide)]; exact hlock
  unfold tmmUnbind
  rw [h.tenantState, if_neg (by simp [hlive]), if_neg (by simp [hlock'])]

/-- UNLOAD_SLOT leaves nothing of the slot's image. -/
theorem unloadSlot {slot : Nat} (hslot : slot ≠ Machine.activeSlot s t) : ∃ u : State,
    tmmUnload v t slot = tmmEnd (u.setFld (Ad.SLOT_CTRL t slot) 1 0 0) 0 ∧ (∀ x, x ∈ u.tmm.slots → ¬(x.t = t ∧ x.slot = slot)) ∧
      ∀ e, e ∈ u.tmm.pages → ¬(keyTenant e.1 = t ∧ e.1 % 2 = slot ∧ Machine.inImage s t (keyPage e.1 * 1024) = true) := by
  refine ⟨_, if_neg (by rwa [h.activeSlot]), fun x hx => ?_, fun e he => ?_⟩
  · have := (List.mem_filter.mp hx).2
    rintro ⟨rfl, rfl⟩
    simp at this
  · have := (List.mem_filter.mp he).2
    rintro ⟨rfl, rfl, himg⟩
    rw [← h.inImage] at himg
    simp [himg] at this

end
end TmmBegun

/-- PREFETCH of a READY slot goes on to its first step. -/
theorem tmmPrefetch_step {s : State} {t slot a0 a1 : Nat} (hready : slotState s t slot = 2) (hc : s.tmm.cmd = some ⟨8, t, a0, a1, a0, false⟩) :
    tmmCmdStep (tmmPrefetch s t slot) = prefetchStep (tmmPrefetch s t slot) := by
  have hcmd : (tmmPrefetch s t slot).tmm.cmd = some ⟨8, t, a0, a1, a0, false⟩ := by
    unfold tmmPrefetch
    rw [if_neg (by simp [hready])]
    exact hc
  rw [tmmCmdStep, hcmd]
  rfl

/-! ### The obligation -/

/-- Settles O35: the write is taken, and each command's conditions hold of the state it runs from as of that before the write. -/
theorem tmmCommandsAct : Obligations.TmmCommandsAct := by
  unfold Obligations.TmmCommandsAct
  intro s src t op htn ht hc a0 a1 slot B C
  have taken {c : Instr} {op : Nat} (h : (c, op) ∈ tmmOps src t) : ∃ b, TmmTaken s c op t b := tmmOp_taken ht hc htn h
  refine ⟨fun h12 h256 => ?_, fun hn => ⟨fun hfree => ?_, fun hlive => ⟨fun h0 => ?_, fun hok => ⟨fun himg => ⟨?_, ?_, ?_⟩, ?_⟩,
    fun hk hslot => ?_, fun hk hesc hready => ?_, fun hlock => ?_⟩, fun hk hready => ⟨?_, ?_⟩, fun hslot => ?_⟩⟩
  · obtain ⟨b, hb⟩ := tmmTaken (c := .tmmBadOp src op t) ht hc h256 htn rfl
    exact ⟨b, hb.written, hb.exec_eq (by rw [tmmCmd_badOp hb.idle h12, hb.shown])⟩
  · intro plain lo hi ib ip h1 h2 h3 h4 h5 h6 h7 hfits
    obtain ⟨b, hb⟩ := taken (c := .create src t) (op := 1) (by simp [tmmOps])
    exact ⟨b, hb.written, hb.exec_eq (by
      rw [tmmCmd_create hb.idle (hb.enabled hn), hb.begun.create hfree h1 h2 h3 h4 h5 h6 h7 hfits, hb.shown])⟩
  · obtain ⟨b, hb⟩ := taken (c := .release src t) (op := 2) (by simp [tmmOps])
    exact ⟨b, hb.written, hb.exec_eq (by rw [tmmCmd_release hb.idle (hb.enabled hn), hb.begun.release hlive h0, hb.shown])⟩
  · obtain ⟨b, hb⟩ := taken (c := .map src t) (op := 3) (by simp [tmmOps])
    exact ⟨b, hb.written, hb.exec_eq (by
      rw [tmmCmd_map hb.idle (hb.enabled hn), hb.arg0, hb.arg1, hb.begun.map hlive hok himg, hb.shown])⟩
  · obtain ⟨b, hb⟩ := taken (c := .unmap src t) (op := 4) (by simp [tmmOps])
    exact ⟨b, hb.written, hb.exec_eq (by
      rw [tmmCmd_range hb.idle (hb.enabled hn) (.inl rfl), hb.arg0, hb.arg1, hb.begun.range hlive hok (fun _ => himg), hb.shown]; rfl)⟩
  · obtain ⟨b, hb⟩ := taken (c := .unpin src t) (op := 6) (by simp [tmmOps])
    exact ⟨b, hb.written, hb.exec_eq (by
      rw [tmmCmd_unpin hb.idle (hb.enabled hn), hb.arg0, hb.arg1, hb.begun.unpin hlive hok himg, hb.shown])⟩
  · obtain ⟨b, hb⟩ := taken (c := .pin src t) (op := 5) (by simp [tmmOps])
    exact ⟨b, hb.written, hb.exec_eq (by
      rw [tmmCmd_range hb.idle (hb.enabled hn) (.inr rfl), hb.arg0, hb.arg1, hb.begun.range hlive hok (fun h => absurd h (by decide)), hb.shown]; rfl)⟩
  · obtain ⟨b, hb⟩ := taken (c := .loadSlot src t) (op := 7) (by simp [tmmOps])
    exact ⟨b, hb.written, hb.exec_eq (by
      rw [tmmCmd_loadSlot hb.idle (hb.enabled hn) (hb.free hk), hb.arg0, hb.begun.loadSlot hlive hslot, hb.shown])⟩
  · obtain ⟨b, hb⟩ := taken (c := .flip src t) (op := 10) (by simp [tmmOps])
    obtain ⟨hplain, hatt⟩ := hb.begun.flip rfl hlive hesc hready
    have hrun : tmmCmd b 10 t = tmmFlip (tmmBegin b 10 t) t := tmmCmd_flip hb.idle (hb.enabled hn) (hb.free hk)
    refine ⟨fun h8 => ⟨b, hb.written, hb.exec_eq (by rw [hrun, hplain h8, hb.shown])⟩, fun h8 => ?_⟩
    obtain ⟨p, hp, hoffer⟩ := hatt h8
    rw [hb.shown] at hoffer hrun
    exact ⟨b, p, hb.written, hp, fun hbusy => hb.exec_eq (hrun.trans (hoffer hbusy))⟩
  · obtain ⟨b, hb⟩ := taken (c := .unbind src t) (op := 12) (by simp [tmmOps])
    exact ⟨b, hb.written, hb.exec_eq (by
      rw [tmmCmd_unbind hb.idle (hb.enabled hn), hb.arg0, hb.begun.unbind hlive hlock, hb.shown])⟩
  · obtain ⟨b, hb⟩ := taken (c := .prefetch src t) (op := 8) (by simp [tmmOps])
    exact ⟨b, hb.written, hb.exec_eq (by
      rw [tmmCmd_prefetch hb.idle (hb.enabled hn) (hb.free hk), hb.arg0, tmmPrefetch_step (by rwa [hb.begun.slotState]) rfl, hb.shown])⟩
  · obtain ⟨b, hb⟩ := taken (c := .refetch src t) (op := 11) (by simp [tmmOps])
    exact ⟨b, hb.written, hb.exec_eq (by rw [tmmCmd_refetch hb.idle (hb.enabled hn) (hb.free hk), hb.arg0, hb.shown])⟩
  · obtain ⟨b, hb⟩ := taken (c := .unloadSlot src t) (op := 9) (by simp [tmmOps])
    obtain ⟨u, hu, hslots, hpages⟩ := hb.begun.unloadSlot hslot
    exact ⟨b, u, hb.written, hb.exec_eq (by rw [tmmCmd_unloadSlot hb.idle (hb.enabled hn), hb.arg0, hu]), hslots, hpages⟩

end Sys2Proof.Machine
end

section
/-!
PROOF. A blank fill (R305): what the TMM's writes leave in DRAM, and where the page stands afterwards.
-/
namespace Sys2Proof.Machine

/-! ### What reports and counts leave of the TMM and of DRAM -/

theorem tmm_of_maskRep {s t : State} (h : maskRep t = maskRep s) : t.tmm = s.tmm := by rw [eq_of_maskRep h]

@[simp] theorem inc_tmm (s : State) (k : Nat) : (s.inc k).tmm = s.tmm := tmm_of_maskRep (maskRep_inc s k)
@[simp] theorem pcu_tmm (ev q k : Nat) (s : State) : (pcu ev q k s).tmm = s.tmm := tmm_of_maskRep (maskRep_pcu ev q k s)

/-- What a read of DRAM goes by: the lines written, the channels' trainings and their interleaving. -/
structure DramStays (s t : State) : Prop where
  dram : t.dram = s.dram
  drc : t.drc = s.drc
  nch : t.tmm.nch = s.tmm.nch

namespace DramStays

theorem trans {s t u : State} (h1 : DramStays s t) (h2 : DramStays t u) : DramStays s u :=
  ⟨h2.dram.trans h1.dram, h2.drc.trans h1.drc, h2.nch.trans h1.nch⟩

theorem of_maskRep {s t : State} (h : maskRep t = maskRep s) : DramStays s t := by
  rw [eq_of_maskRep h]
  exact ⟨rfl, rfl, rfl⟩

theorem pcu (ev q k : Nat) (s : State) : DramStays s (pcu ev q k s) := of_maskRep (maskRep_pcu ev q k s)
theorem overhead (s : State) (n : Nat) : DramStays s (overhead s n) := of_maskRep (maskRep_pcu ..)
theorem tmmCount (s : State) (i : Nat) : DramStays s (tmmCount s i) := of_maskRep (maskRep_inc ..)
theorem changePg (s : State) (key : Nat) (f : PageE → PageE) : DramStays s (changePg s key f) := ⟨rfl, rfl, rfl⟩
theorem jobDrop (s : State) (key : Nat) : DramStays s (jobDrop s key) := ⟨rfl, rfl, rfl⟩

theorem chanOf {s t : State} (h : DramStays s t) (a : Nat) : chanOf t a = chanOf s a := by rw [Machine.chanOf, h.nch]; rfl

theorem drcUp {s t : State} (h : DramStays s t) (c : Nat) : drcUp t c = drcUp s c := by
  simp only [Machine.drcUp, drcCh, h.drc]

theorem dramGet {s t : State} (h : DramStays s t) (a : Nat) : dramGet t a = dramGet s a := by
  have hdef : dramDef t = dramDef s := by
    funext b
    simp only [dramDef, drcCh, h.drc, h.chanOf]
  rw [Machine.dramGet, hdef, h.dram]
  rfl

end DramStays

/-! ### Lines written by the TMM -/

theorem dramPut_tmm (s : State) (a : Nat) (l : DLine) : (dramPut s a l).tmm = s.tmm := by
  unfold dramPut
  split <;> rfl

theorem dramPut_drc (s : State) (a : Nat) (l : DLine) : (dramPut s a l).drc = s.drc := by
  unfold dramPut
  split <;> rfl

theorem drcUp_dramPut (s : State) (a b : Nat) (l : DLine) :
    drcUp (dramPut s a l) (chanOf (dramPut s a l) b) = drcUp s (chanOf s b) := by
  simp only [drcUp, drcCh, chanOf, dramPut_tmm, dramPut_drc]

theorem tmmWrite_cons (s : State) (x : Nat × DLine) (l : List (Nat × DLine)) :
    tmmWrite s (x :: l) = tmmWrite (pcu 0x39 (chanOf s x.1) 1 (dramPut s x.1 x.2)) l := rfl


/-- A line that is not written reads as before. -/
theorem dramGet_tmmWrite_other {l : List (Nat × DLine)} {a : Nat} (h : ∀ x, x ∈ l → x.1 ≠ a) (s : State) :
    dramGet (tmmWrite s l) a = dramGet s a := by
  induction l generalizing s with
  | nil => rfl
  | cons x l ih =>
    rw [tmmWrite_cons, ih (fun y hy => h y (List.mem_cons_of_mem _ hy)), (DramStays.pcu ..).dramGet,
      dramGet_put_ne _ (h x (List.mem_cons_self ..)).symm]

/-- A line of a serving channel reads what every write of it writes. -/
theorem dramGet_tmmWrite_mem {l : List (Nat × DLine)} {a : Nat} {v : DLine} (hv : ∀ x, x ∈ l → x.1 = a → x.2 = v)
    (ha : ∃ x, x ∈ l ∧ x.1 = a) {s : State} (hup : drcUp s (chanOf s a) = true) : dramGet (tmmWrite s l) a = v := by
  induction l generalizing s with
  | nil => simp at ha
  | cons x l ih =>
    have hpcu : DramStays (dramPut s x.1 x.2) (pcu 0x39 (chanOf s x.1) 1 (dramPut s x.1 x.2)) := .pcu ..
    rw [tmmWrite_cons]
    by_cases hlater : ∃ y, y ∈ l ∧ y.1 = a
    · refine ih (fun y hy => hv y (List.mem_cons_of_mem _ hy)) hlater ?_
      rw [hpcu.chanOf, hpcu.drcUp, drcUp_dramPut, hup]
    · have hx : x.1 = a := by
        obtain ⟨y, hy, rfl⟩ := ha
        rcases List.mem_cons.mp hy with rfl | hy
        · rfl
        · exact absurd ⟨y, hy, rfl⟩ hlater
      rw [dramGet_tmmWrite_other (fun y hy e => hlater ⟨y, hy, e⟩), hpcu.dramGet, ← hv x (List.mem_cons_self ..) hx, ← hx,
        dramGet_put_self _ (by rwa [hx])]

/-! ### Where a page stands after its entry has changed -/

/-- A store reads back what is written, whatever its default, unless that was the default it was written under. -/
theorem stGet_set_of_ne {α : Type} [DecidableEq α] (d e : Nat → α) (m : Store α) {k : Nat} {v : α} (h : v ≠ d k) :
    stGet e (stSet d m k v) k = v := by
  rw [stSet, if_neg h]
  exact stGet_ins_self e _ k v (stDrop_ne m k)

/-- An unlisted page has no frame, is not folded, and has no failed verification. -/
theorem pgDef_st (s : State) (key : Nat) :
    (pgDef s key).st = .imagePending ∨ (pgDef s key).st = .blank ∨ (pgDef s key).st = .unbacked := by
  unfold pgDef
  dsimp only
  split
  · split
    · split
      · exact .inl rfl
      · exact .inr (.inl rfl)
    · exact .inr (.inr rfl)
  · split
    · exact .inr (.inl rfl)
    · exact .inr (.inr rfl)

/-- An entry changed to RESIDENT reads so in every state that has the same entries. -/
theorem pg_changePg_resident {s u : State} {key : Nat} {f : PageE → PageE} (hst : (f (pg s key)).st = .resident)
    (hu : u.tmm.pages = (changePg s key f).tmm.pages) : pg u key = f (pg s key) := by
  rw [pg, hu]
  refine stGet_set_of_ne (pgDef s) (pgDef u) s.tmm.pages (fun e => ?_)
  rw [e] at hst
  rcases pgDef_st s key with h | h | h <;> rw [h] at hst <;> cases hst

/-! ### The end of a fill -/

/-- The frame of a fill, written with zeros. -/
def zeroed (s : State) (key f : Nat) : State :=
  tmmWrite s ((pageLines f ((pg s key).nf * 1024)).map (fun a => (a, ⟨0, 0⟩)))

/-- The page's entry after its fill. -/
def filledEntry (s : State) (key f : Nat) (e : PageE) : PageE :=
  { e with st := .resident, frame := f, pool := tenantPool s (keyTenant key), wr := false, cold := 0 }

/-- The page mapped to its frame, its job over. -/
def filledPage (s : State) (key f : Nat) : State :=
  changePg (jobDrop (overhead (zeroed s key f) ((pg s key).nf * 1024)) key) key (filledEntry s key f)

/-- The state that a blank fill of frame `f` leaves before the requests that wait go on. -/
def filled (s : State) (key f : Nat) : State := pcu 0x2A (keyTenant key) 1 (tmmCount (filledPage s key f) 5)

theorem fillDone_job {s : State} {key x f : Nat} {d lb : Bool} (hj : jobOf s key = some ⟨x, .fill, some f, d, lb⟩) :
    fillDone s key = wakePage (filled s key f) key := by
  unfold fillDone
  rw [hj]
  rfl

/-- After the frame's lines are written, a fill reaches none. -/
theorem filled_dram (s : State) (key f : Nat) : DramStays (zeroed s key f) (filled s key f) :=
  ((((DramStays.overhead _ _).trans (.jobDrop _ key)).trans (.changePg _ key _)).trans (.tmmCount _ 5)).trans (.pcu ..)

theorem filled_tmm (s : State) (key f : Nat) : (filled s key f).tmm = (filledPage s key f).tmm := by
  simp only [filled, tmmCount, pcu_tmm, inc_tmm]

theorem mem_zeroes {f n : Nat} {y : Nat × DLine} :
    y ∈ (pageLines f n).map (fun a => (a, (⟨0, 0⟩ : DLine))) ↔ ∃ i, i < n ∧ y = (f * 1024 + i, ⟨0, 0⟩) := by
  simp [pageLines, eq_comm]

theorem dramGet_zeroed_frame {s : State} {key f i : Nat} (hi : i < (pg s key).nf * 1024)
    (hup : drcUp s (chanOf s (f * 1024 + i)) = true) : dramGet (zeroed s key f) (f * 1024 + i) = ⟨0, 0⟩ := by
  refine dramGet_tmmWrite_mem (fun y hy _ => ?_) ⟨_, mem_zeroes.mpr ⟨i, hi, rfl⟩, rfl⟩ hup
  obtain ⟨j, -, rfl⟩ := mem_zeroes.mp hy
  rfl

theorem dramGet_zeroed_other {s : State} {key f a : Nat} (ha : ∀ i, i < (pg s key).nf * 1024 → a ≠ f * 1024 + i) :
    dramGet (zeroed s key f) a = dramGet s a := by
  refine dramGet_tmmWrite_other (fun y hy => ?_) s
  obtain ⟨j, hj, rfl⟩ := mem_zeroes.mp hy
  exact (ha j hj).symm

/-- Settles O39: every line that the fill writes is zero and stays so until the page is mapped, and it writes no line beyond the frame. -/
theorem filledFrameIsZero : Obligations.FilledFrameIsZero := by
  unfold Obligations.FilledFrameIsZero
  intro s key x f d lb hclk hj hup
  have hpg := pg_changePg_resident (f := filledEntry s key f) rfl (congrArg TmmSt.pages (filled_tmm s key f))
  refine ⟨filled s key f, next_onIsl hclk (fillDone_job hj), fun i hi => ?_, by rw [hpg]; rfl, by rw [hpg]; rfl, ?_, fun a ha => ?_⟩
  · rw [(filled_dram s key f).dramGet, dramGet_zeroed_frame hi (hup i hi)]
  · rintro ⟨p, hp⟩
    rw [filled_tmm] at hp
    simpa using (List.mem_filter.mp hp).2
  · rw [(filled_dram s key f).dramGet, dramGet_zeroed_other ha]

end Sys2Proof.Machine
end

section
/-!
PROOF. What leaves the TMM's state as it is: reports and offers, requests of agent 0's engines, passes, the analog blocks, and words and
tables taken over by a strobe.
-/
namespace Sys2Proof.Machine

theorem foldl_tmm {α : Type} {f : State → α → State} (hf : ∀ s x, (f s x).tmm = s.tmm) (l : List α) (s : State) :
    (l.foldl f s).tmm = s.tmm :=
  List.foldlRecOn (motive := fun (u : State) => u.tmm = s.tmm) l f rfl (fun u hu x _ => (hf u x).trans hu)

theorem ite_tmm {s t u : State} {p : Prop} [Decidable p] (ht : t.tmm = s.tmm) (hu : u.tmm = s.tmm) : (if p then t else u).tmm = s.tmm := by
  split
  · exact ht
  · exact hu

/-! ### Reports and offers -/

@[simp] theorem sqEvt_tmm (s : State) (k bits : Nat) : (sqEvt s k bits).tmm = s.tmm := tmm_of_maskRep (maskRep_sqEvt s k bits)
@[simp] theorem evcSet_tmm (s : State) (src info : Nat) : (evcSet s src info).tmm = s.tmm := tmm_of_maskRep (maskRep_evcSet s src info)
@[simp] theorem raise_tmm (s : State) (c info : Nat) : (raise s c info).tmm = s.tmm := tmm_of_maskRep (maskRep_raise s c info)
@[simp] theorem startIsl_tmm (s : State) (i : Nat) : (startIsl s i).tmm = s.tmm := tmm_of_maskRep (maskRep_startIsl s i)
@[simp] theorem evsPush_tmm (s : State) (h : Bool) (typ : Nat) (p : List Byte) (log : Option Nat) :
    (evsPush s h typ p log).tmm = s.tmm := tmm_of_maskRep (maskRep_evsPush s h typ p log)
@[simp] theorem fltRecorded_tmm (s : State) (n : Nat) : (fltRecorded s n).tmm = s.tmm := tmm_of_maskRep (maskRep_fltRecorded s n)

theorem evsOffer_tmm {s t : State} {typ : Nat} {p : List Byte} {log : Option Nat} {r : OfferRes} (h : evsOffer s typ p log = (t, r)) :
    t.tmm = s.tmm := by
  have := tmm_of_maskRep (maskRep_evsOffer s typ p log)
  rwa [h] at this

@[simp] theorem fltReoffer_tmm (s : State) : (fltReoffer s).tmm = s.tmm := by
  have hloop (n : Nat) (s : State) : (fltOfferLoop n s).tmm = s.tmm := by
    induction n generalizing s with
    | zero => rfl
    | succ n ih =>
      unfold fltOfferLoop
      split
      · rfl
      · split <;> rename_i e <;> have h := evsOffer_tmm e
        · rw [ih, fltRecorded_tmm, ← h]
        · rw [ih, ← h]
        · exact h
  exact hloop _ s

theorem heldLoop_tmm (n : Nat) (s : State) : (heldLoop n s).tmm = s.tmm := by
  induction n generalizing s with
  | zero => rfl
  | succ n ih =>
    unfold heldLoop
    split
    · rfl
    · split
      · rfl
      · rw [ih]
        split <;> simp

@[simp] theorem evsFreed_tmm (s : State) : (evsFreed s).tmm = s.tmm := by
  have hhead (u : State) (hu : u.tmm = s.tmm) : (if u.running 31 then heldLoop u.evs.held.length u else u).tmm = s.tmm :=
    ite_tmm ((heldLoop_tmm _ u).trans hu) hu
  unfold evsFreed
  apply hhead
  split
  · rfl
  · split
    · rfl
    · exact evsPush_tmm ..

@[simp] theorem cvuRestart_tmm (s : State) : (cvuRestart s).tmm = s.tmm :=
  foldl_tmm (fun s n => by split <;> simp [cvuFlag, setCvu]) _ s

/-! ### Engines of agent 0, and passes -/

@[simp] theorem tagReq_tmm (m : ReqMsg) (s : State) : (tagReq m s).tmm = s.tmm := by
  simp [tagReq, tagItem, setTag, apply_ite State.tmm]

@[simp] theorem ag0Req_tmm (s : State) (w : Ag0Who) (k : ReqKind) (tenant line : Nat) (peek : Bool) (d : Line) (mask : BitVec 64) :
    (ag0Req s w k tenant line peek d mask).tmm = s.tmm := by
  simp [ag0Req, apply_ite State.tmm]

@[simp] theorem linkCut_tmm (s : State) (p : Nat) : (linkCut s p).tmm = s.tmm := by
  simp [linkCut, apply_ite State.tmm]

@[simp] theorem pasRecompute_tmm (s : State) : (pasRecompute s).tmm = s.tmm := by
  simp [pasRecompute, pasCut, foldl_tmm linkCut_tmm, apply_ite State.tmm]

/-! ### The acquisition -/

theorem acqIssue_tmm (n : Nat) (s : State) : (acqIssue n s).tmm = s.tmm := by
  induction n generalizing s with
  | zero => rfl
  | succ n ih =>
    unfold acqIssue
    split
    · rfl
    · split
      · rfl
      · dsimp only
        rw [ih]
        split <;> simp [setRing]

@[simp] theorem ringFlush_tmm (s : State) (n : Nat) : (ringFlush s n).tmm = s.tmm := by
  unfold ringFlush ringOut
  dsimp only
  split
  · rfl
  · exact acqIssue_tmm 16 _

@[simp] theorem iadcCancel_tmm (s : State) : (iadcCancel s).tmm = s.tmm := by
  unfold iadcCancel
  split <;> rfl

@[simp] theorem acqContain_tmm (s : State) : (acqContain s).tmm = s.tmm := by
  simp [acqContain, foldl_tmm ringFlush_tmm]

@[simp] theorem acqAnaStart_tmm (s : State) : (acqAnaStart s).tmm = s.tmm := rfl

@[simp] theorem refStrobe_tmm (s : State) : (refStrobe s).tmm = s.tmm := by
  simp [refStrobe, refTaint, acqEvt, apply_ite State.tmm]

/-! ### DAC channels -/

theorem dacTakes_tmm (s : State) (n : Nat) : (dacTakes s n).tmm = s.tmm := rfl
theorem dacOut_tmm (s : State) (n code : Nat) (span flt hiz : Bool) : (dacOut s n code span flt hiz).tmm = s.tmm := setReg_tmm ..

@[simp] theorem dacFault_tmm (s : State) (n : Nat) : (dacFault s n).tmm = s.tmm := by
  unfold dacFault
  dsimp only
  rw [dacTakes_tmm]
  exact ite_tmm (dacOut_tmm ..) (dacOut_tmm ..)

@[simp] theorem faultLoads_tmm (s : State) (l : List Nat) : (faultLoads s l).tmm = s.tmm := by
  simp [faultLoads, dacEvt, foldl_tmm dacFault_tmm, apply_ite State.tmm]

@[simp] theorem groupLoad_tmm (s : State) (src : Nat) (sel : Option Nat) : (groupLoad s src sel).tmm = s.tmm := by
  have hload (s : State) (n : Nat) : (dacLoad s n).tmm = s.tmm := ite_tmm rfl (by rw [dacTakes_tmm, dacOut_tmm])
  refine foldl_tmm (fun s n => ?_) _ s
  dsimp only
  split
  · exact hload s n
  · rfl

@[simp] theorem dacCfgStrobe_tmm (old : List Word) (s : State) : (dacCfgStrobe old s).tmm = s.tmm := by
  unfold dacCfgStrobe
  extract_lets s1
  have h1 : s1.tmm = s.tmm := by
    refine foldl_tmm (fun s n => ?_) _ s
    dsimp only
    split <;> rfl
  exact ite_tmm ((sqEvt_tmm ..).trans h1) h1

/-! ### Lathes -/

@[simp] theorem setLth_tmm (s : State) (n : Nat) (f : LthSt → LthSt) : (setLth s n f).tmm = s.tmm := rfl
@[simp] theorem lthEvt_tmm (s : State) (n b : Nat) : (lthEvt s n b).tmm = s.tmm := sqEvt_tmm ..

@[simp] theorem resFlush_tmm (s : State) (n : Nat) : (resFlush s n).tmm = s.tmm := by
  unfold resFlush
  dsimp only
  split
  · rfl
  · rw [ag0Req_tmm, setLth_tmm]

@[simp] theorem resPut_tmm (s : State) (n i : Nat) (b : List Byte) : (resPut s n i b).tmm = s.tmm := by
  unfold resPut
  split
  · simp [apply_ite State.tmm]
  · exact foldl_tmm (fun s w => setReg_tmm s _ _) _ s

@[simp] theorem toSafe_tmm (s : State) (n : Nat) : (toSafe s n).tmm = s.tmm := by
  have hstart (dest : Nat) (why : TransFor) : (transStart s n dest why).tmm = s.tmm := by
    unfold transStart
    dsimp only
    split <;> simp
  simp [toSafe, hstart, apply_ite State.tmm]

@[simp] theorem abortRaise_tmm (s : State) (n causes : Nat) : (abortRaise s n causes).tmm = s.tmm := by
  simp [abortRaise, apply_ite State.tmm]

@[simp] theorem lthAbortAs_tmm (load : Bool) (s : State) (n causes : Nat) : (lthAbortAs load s n causes).tmm = s.tmm := by
  unfold lthAbortAs
  extract_lets l s1 s2 going s3 s4 s5 s6 s7
  have h2 : s2.tmm = s.tmm := by simp only [s2, s1, apply_ite State.tmm, iadcCancel_tmm, faultLoads_tmm, ite_self]
  have h3 : s3.tmm = s.tmm := by
    simp only [s3, apply_ite State.tmm, resFlush_tmm, resPut_tmm, fresh_tmm, h2, ite_self]
  have h7 : s7.tmm = s.tmm := by
    rw [← h3]
    simp only [s7, s6, s5, pcu_tmm, lthEvt_tmm, inc_tmm]
    rfl
  exact ite_tmm rfl (by rw [abortRaise_tmm, toSafe_tmm, h7])

@[simp] theorem lthTblStrobe_tmm (s : State) (n : Nat) (r c : Bool) : (lthTblStrobe s n r c).tmm = s.tmm := by
  unfold lthTblStrobe
  dsimp only
  split <;> rfl

/-! ### Containments and escalations -/

@[simp] theorem dacContain_tmm (s : State) (n : Nat) : (dacContain s n).tmm = s.tmm := by
  simp [dacContain, cmdAbort, lthAbort, apply_ite State.tmm]

@[simp] theorem escApply_tmm (s : State) : (escApply s).tmm = s.tmm := by
  have hlth : (lthEscalate s).tmm = s.tmm := foldl_tmm (fun _ _ => ite_tmm (setFld_tmm ..) (ite_tmm rfl (lthAbortAs_tmm ..))) _ s
  rw [escApply, faultAll, faultLoads_tmm, hlth]

@[simp] theorem escalate_tmm (s : State) : (escalate s).tmm = s.tmm := by
  simp [escalate, apply_ite State.tmm]

@[simp] theorem anaFirst_tmm (s : State) : (anaFirst s).tmm = s.tmm := by
  simp [anaFirst, apply_ite State.tmm]

/-! ### Timebase, motion and the core's wake -/

@[simp] theorem tbApplied_tmm (old s : State) : (tbApplied old s).tmm = s.tmm := by
  simp [tbApplied, tbReclass, motEval, apply_ite State.tmm]

@[simp] theorem timecmpMatch_tmm (s : State) : (timecmpMatch s).tmm = s.tmm := by
  simp [timecmpMatch, wfiWake, apply_ite State.tmm]

/-! ### Words and tables taken over -/

theorem copyWord_tmm (s : State) (w : Nat × Word) : (copyWord s w).tmm = s.tmm := by
  simp [copyWord, parReport, parFresh, apply_ite State.tmm]

theorem tblHook_tmm (s : State) (k : Nat) : (tblHook s k).tmm = s.tmm := by
  simp [tblHook, acqTblStrobe, apply_ite State.tmm]

theorem tblActivates_tmm (l : List Nat) (x : State × Nat) : (l.foldl tblActivate x).1.tmm = x.1.tmm := by
  refine List.foldlRecOn (motive := fun (y : State × Nat) => y.1.tmm = x.1.tmm) l _ rfl (fun y hy k _ => Eq.trans ?_ hy)
  unfold tblActivate
  dsimp only
  split
  · rfl
  · split
    · rfl
    · rw [tblHook_tmm]
      rfl

end Sys2Proof.Machine
end

section
/-!
PROOF. What follows a command of a device without ports in power-on reset leaves the pages' entries as they are: a fold that parking breaks
off changes the TMM's jobs alone, and only the containment of a port, of which there is none, reaches further.
-/
namespace Sys2Proof.Machine

/-! ### Ports and strobes -/

theorem hubReq_tmm (s : State) (p mask : Nat) : (hubReq s p mask).tmm = s.tmm := rfl

theorem reconfDone_tmm (s : State) (p : Nat) : (reconfDone s p).tmm = s.tmm := linkCut_tmm ..

theorem reconfTry_tmm (s : State) (p : Nat) : (reconfTry s p).tmm = s.tmm := ite_tmm (reconfDone_tmm s p) rfl

theorem reconfCheck_tmm (s : State) (p : Nat) : (reconfCheck s p).tmm = s.tmm := by
  unfold reconfCheck
  extract_lets n s1
  have h1 : s1.tmm = s.tmm := by rw [reconfTry_tmm, reconfTry_tmm]
  exact ite_tmm ((reconfDone_tmm ..).trans h1) h1

theorem portConfig_tmm (s : State) (p : Nat) : (portConfig s p).tmm = s.tmm := by
  have happly (s : State) : (cfgApply s p).tmm = s.tmm :=
    ite_tmm (ite_tmm (reconfDone_tmm s p) rfl) (ite_tmm rfl (ite_tmm (reconfCheck_tmm ..) (hubReq_tmm ..)))
  exact (happly _).trans (ite_tmm (sqEvt_tmm ..) rfl)

theorem setPort_tmm (s : State) (p : Nat) (f : PortSt → PortSt) : (setPort s p f).tmm = s.tmm := rfl
theorem lpiEnter_tmm (s : State) (p : Nat) : (lpiEnter s p).tmm = s.tmm := ite_tmm (setPort_tmm ..) rfl
theorem parkEnter_tmm (s : State) (p : Nat) : (parkEnter s p).tmm = s.tmm := ite_tmm (setPort_tmm ..) rfl

theorem eachPort_tmm {f : State → Nat → State} (hf : ∀ s p, (f s p).tmm = s.tmm) (s : State) : (eachPort f s).tmm = s.tmm :=
  foldl_tmm hf _ s

theorem grpHook_tmm (old : State) (g isl : Nat) (s : State) : (grpHook old g isl s).tmm = s.tmm := by
  unfold grpHook
  refine ite_tmm (portConfig_tmm s _) (ite_tmm (tbApplied_tmm ..) (ite_tmm ?_ rfl))
  extract_lets s1 s2 s3
  have h1 : s1.tmm = s.tmm := ite_tmm rfl (refStrobe_tmm s)
  have h2 : s2.tmm = s.tmm := ite_tmm (t := setAcq s1 _) h1 h1
  exact (groupLoad_tmm ..).trans (ite_tmm ((dacCfgStrobe_tmm ..).trans h2) rfl)

theorem applyIsl_tmm (s : State) (g isl : Nat) : (applyIsl s g isl).tmm = s.tmm := by
  unfold applyIsl
  extract_lets w left s1 act s2 t2 s3
  have hact : act.1.tmm = s.tmm := (tblActivates_tmm _ (s1, 0)).trans (foldl_tmm copyWord_tmm w s)
  have h2 : s2.tmm = s.tmm := ite_tmm hact ((sqEvt_tmm ..).trans hact)
  exact (grpHook_tmm s g isl s3).trans (ite_tmm h2 h2)

theorem grpAfter_tmm (s : State) (g : Nat) : (grpAfter s g).tmm = s.tmm := by
  have hpend (s : State) : (pendCheck s g).tmm = s.tmm := ite_tmm rfl (setFld_tmm ..)
  exact (hpend _).trans (ite_tmm (pasRecompute_tmm s) rfl)

theorem heldApply_tmm (s : State) (isl : Nat) : (heldApply s isl).tmm = s.tmm := by
  unfold heldApply
  refine foldl_tmm (fun u h => ?_) _ s
  extract_lets i u1
  rw [grpAfter_tmm, applyIsl_tmm]

theorem updDue_tmm (s : State) : (updDue s).tmm = s.tmm := by
  have hstrobe (g : Nat) (s : State) (isl : Nat) : (strobeIsl g s isl).tmm = s.tmm := ite_tmm (applyIsl_tmm s g isl) (ite_tmm rfl rfl)
  have hstrobes (l : List Nat) (s : State) : (updStrobes l s).tmm = s.tmm :=
    foldl_tmm (fun s g => (grpAfter_tmm _ g).trans (foldl_tmm (hstrobe g) _ s)) l s
  unfold updDue
  split
  · exact ite_tmm (hstrobes ..) rfl
  · rfl

/-! ### Valleys -/

/-- The entries of the pages are the same. -/
def PagesStay (s t : State) : Prop := t.tmm.pages = s.tmm.pages

namespace PagesStay

theorem of_tmm {s t : State} (h : t.tmm = s.tmm) : PagesStay s t := congrArg TmmSt.pages h

theorem refl (s : State) : PagesStay s s := rfl

theorem trans {s t u : State} (h1 : PagesStay s t) (h2 : PagesStay t u) : PagesStay s u := Eq.trans h2 h1

theorem ite {s t u : State} {p : Prop} [Decidable p] (ht : PagesStay s t) (hu : PagesStay s u) : PagesStay s (if p then t else u) := by
  split
  · exact ht
  · exact hu

theorem foldl {α : Type} {f : State → α → State} (hf : ∀ s x, PagesStay s (f s x)) (l : List α) (s : State) : PagesStay s (l.foldl f s) :=
  List.foldlRecOn (motive := fun u => PagesStay s u) l f (refl s) (fun u hu x _ => hu.trans (hf u x))

theorem exitBegin (s : State) (d : Nat) : PagesStay s (exitBegin s d) := .of_tmm rfl

theorem foldAbort (s : State) (key : Nat) : PagesStay s (foldAbort s key) := by
  unfold Machine.foldAbort
  split
  · exact ite (Eq.refl s.tmm.pages) (refl s)
  · exact refl s

theorem parkBegin (s : State) (goal : Nat) : PagesStay s (parkBegin s goal) := by
  have hvalley : PagesStay s (vStage s .park goal) := refl s
  exact (hvalley.trans (foldl foldAbort _ _)).trans (.of_tmm (eachPort_tmm parkEnter_tmm _))

theorem wakeAs (s : State) (d src : Nat) (keep cut : Bool) : PagesStay s (wakeAs s d src keep cut) := by
  unfold Machine.wakeAs
  extract_lets note c s1 g
  have hnote : (note s).tmm = s.tmm := ite_tmm rfl rfl
  have h1 : s1.tmm = s.tmm := ite_tmm hnote rfl
  split
  case h_1 | h_2 | h_8 => exact ite (.of_tmm hnote) (refl s)
  case h_3 | h_4 | h_5 => exact ite (.of_tmm h1) (ite (.of_tmm h1) (ite (.trans (.of_tmm h1) (parkBegin s1 g)) (.of_tmm h1)))
  case h_6 | h_7 => exact ite (refl s) (ite (.of_tmm hnote) (.of_tmm hnote))

theorem wake (s : State) (b : Nat) : PagesStay s (wake s b) := by
  unfold Machine.wake
  extract_lets auto i s1 s2
  have h1 : s1.tmm = s.tmm := ite_tmm rfl rfl
  have h2 : PagesStay s s2 := .trans (.of_tmm h1) (wakeAs s1 _ b auto true)
  exact ite (refl s) (ite h2 h2)

theorem keptAct (s : State) : PagesStay s (keptAct s) := by
  have hlatch (s : State) : PagesStay s (latchWakes s) :=
    foldl (fun s b => ite (wakeAs s (wakeDepth s b) b false false) (refl s)) _ s
  have hentry (s : State) (v : Nat) : PagesStay s (entryStart s v) := by
    unfold entryStart
    extract_lets s1 i s2 s3
    have h3 : s3.tmm = s.tmm := ite_tmm (eachPort_tmm lpiEnter_tmm (vStage s2 .toDale 1))
      (ite_tmm (evcSet_tmm (vStage s2 .gbDrain 3) 24 0) (evcSet_tmm (vStage s2 .waitRc v) 24 0))
    exact .trans (.of_tmm h3) (hlatch s3)
  have htarget (s : State) (v : Nat) : PagesStay s (targetAct s v) := ite (refl s) (ite (hentry s v) (exitBegin _ v))
  unfold Machine.keptAct
  split
  · exact refl s
  · exact ite (refl s) (htarget (vTarget _ _) _)

end PagesStay

/-! ### The consequences of a command -/

theorem islStarted_tmm (s : State) (isl : Nat) : (islStarted s isl).tmm = s.tmm := by
  have h := heldApply_tmm s isl
  refine ite_tmm ?_ (ite_tmm ((cvuRestart_tmm _).trans h) (ite_tmm ?_ h))
  · rw [acqAnaStart_tmm, anaFirst_tmm, h]
  · rw [fltReoffer_tmm, evsFreed_tmm, h]

theorem containApply_tmm {s : State} (hs : s.lnk.ports = []) (u : Nat) : (containApply s u).tmm = s.tmm := by
  have hport : portContain s u = s := if_pos (.inl (by rw [portOf, hs]; rfl))
  unfold containApply
  rw [hport]
  exact ite_tmm rfl (ite_tmm (pasRecompute_tmm s) (ite_tmm (ite_tmm (acqContain_tmm s) rfl)
    (ite_tmm (ite_tmm (dacContain_tmm ..) rfl) (ite_tmm (ite_tmm (lthAbortAs_tmm ..) rfl) rfl))))

theorem effectApply_pages {s : State} (hs : s.lnk.ports = []) (e : Effect) : PagesStay s (effectApply s e) := by
  cases e with
  | contain u => exact .of_tmm (containApply_tmm hs u)
  | escalate => exact .of_tmm (escalate_tmm s)
  | wake b => exact .wake s b
  | started isl => exact .of_tmm (islStarted_tmm s isl)
  | jump => exact .of_tmm ((timecmpMatch_tmm _).trans (updDue_tmm s))
  | daleWake => exact .ite (.wakeAs s 0 0xFE false true) (.refl s)
  | keptTarget => exact .keptAct s

/-- No effect takes a port away, so a device that ends without ports had none at any of them. -/
theorem effectsRun_pages (s : State) (h : (effectsRun s).lnk.ports = []) : PagesStay s (effectsRun s) := by
  have hloop (n : Nat) (s : State) : LinksStay s (effectLoop n s) ∧ ((effectLoop n s).lnk.ports = [] → PagesStay s (effectLoop n s)) := by
    induction n generalizing s with
    | zero => exact ⟨.refl s, fun _ => .refl s⟩
    | succ n ih =>
      unfold effectLoop
      split
      · exact ⟨.refl s, fun _ => .refl s⟩
      · rename_i e rest _
        obtain ⟨hlnk, hpages⟩ := ih (effectApply { s with effects := rest } e)
        have hstep := LinksStay.effectApply { s with effects := rest } e
        refine ⟨(hstep.trans hlnk).of_same rfl, fun hend => ?_⟩
        have hs : ({ s with effects := rest } : State).lnk.ports = [] := (hstep.trans hlnk).ports_nil hend
        exact (effectApply_pages hs e).trans (hpages hend)
  exact (hloop 512 s).2 h

end Sys2Proof.Machine
end

section
/-!
PROOF. Why a fold need not fold its page where tenants and counters are any numbers: tenants are 0 to 1023 and performance counters 0 to 31,
but a state may hold a page of another tenant and another counter, and DSC_FOLDQ as the model reads it for such a tenant can lie where the
overflow of such a counter is reported, beyond the two words of PCU_OVF. A counter of overhead work that wraps as the fold's reads are
counted then changes the quota before it is tested. The statement names the state before the command's consequences by what holds of it
alone, so the witness is of a device without ports in power-on reset, in which a page folded before them is still folded after them.
-/
namespace Sys2Proof.Machine

/-! ### Folded pages -/

/-- An entry is read from the list, whatever the default, or is the default. -/
theorem stGet_cases {α : Type} (m : Store α) (k : Nat) : (∀ d, stGet d m k = d k) ∨ ∃ e, e ∈ m ∧ ∀ d, stGet d m k = e.2 := by
  induction m with
  | nil => exact .inl fun _ => rfl
  | cons x m ih =>
    by_cases hx : x.1 = k
    · exact .inr ⟨x, List.mem_cons_self .., fun d => if_pos hx⟩
    · have hskip (d : Nat → α) : stGet d (x :: m) k = stGet d m k := if_neg hx
      simp only [hskip]
      exact ih.imp id (fun ⟨e, he, h⟩ => ⟨e, List.mem_cons_of_mem _ he, h⟩)

theorem pgDef_not_folded (s : State) (key : Nat) : (pgDef s key).st ≠ .folded := by
  rcases pgDef_st s key with h | h | h <;> rw [h] <;> decide

/-- A folded page is listed. -/
theorem pg_folded_mem {s : State} {key : Nat} (h : (pg s key).st = .folded) :
    ∃ e, e ∈ s.tmm.pages ∧ e.2.st = .folded ∧ ∀ d, stGet d s.tmm.pages key = e.2 := by
  rcases stGet_cases s.tmm.pages key with hd | ⟨e, he, hd⟩
  · rw [pg, hd] at h
    exact absurd h (pgDef_not_folded s key)
  · rw [pg, hd] at h
    exact ⟨e, he, h, hd⟩

theorem pg_folded_of_pages {s t : State} {key : Nat} (h : PagesStay s t) (hs : (pg s key).st = .folded) : (pg t key).st = .folded := by
  obtain ⟨e, -, hst, hd⟩ := pg_folded_mem hs
  rw [pg, h, hd, hst]

/-- A change of an entry that keeps its state keeps folded pages folded. -/
theorem pg_folded_setPg {s : State} {k key : Nat} {f : PageE → PageE} (hf : (f (pg s k)).st = (pg s k).st)
    (hs : (pg s key).st = .folded) : (pg (setPg s k f) key).st = .folded := by
  have h : (stGet (pgDef s) (setPg s k f).tmm.pages key).st = .folded := by
    by_cases hk : key = k
    · rw [hk, pg_set_self, hf, ← hk, hs]
    · rw [setPg, stGet_set_ne _ _ _ hk]
      exact hs
  exact pg_folded_of_pages (s := setPg s k f) rfl h

/-- Pages that are folded stay so. -/
def FoldedStay (key : Nat) (s t : State) : Prop := (pg s key).st = .folded → (pg t key).st = .folded

namespace FoldedStay

variable {key : Nat}

theorem of_pages {s t : State} (h : PagesStay s t) : FoldedStay key s t := pg_folded_of_pages h

theorem of_tmm {s t : State} (h : t.tmm = s.tmm) : FoldedStay key s t := of_pages (.of_tmm h)

theorem refl (s : State) : FoldedStay key s s := id

theorem trans {s t u : State} (h1 : FoldedStay key s t) (h2 : FoldedStay key t u) : FoldedStay key s u := fun h => h2 (h1 h)

theorem ite {s t u : State} {p : Prop} [Decidable p] (ht : FoldedStay key s t) (hu : FoldedStay key s u) :
    FoldedStay key s (if p then t else u) := by
  split
  · exact ht
  · exact hu

end FoldedStay

/-! ### Requests that meet a page -/

theorem ag0Answer_tmm (s : State) (r : Ag0Rsp) : (ag0Answer s r).tmm = s.tmm := by
  have hinstall (line : Nat) : (rcInstall s line r).tmm = s.tmm := by
    unfold rcInstall
    split
    · rfl
    · rfl
    · split <;> rfl
    · rfl
  unfold ag0Answer
  dsimp only
  split
  · exact ite_tmm (hinstall _) rfl
  · rfl
  · exact ite_tmm rfl rfl
  · rfl

theorem freeOwed_tmm (s : State) (t : Trk) : (freeOwed s t).tmm = s.tmm := by
  have hcredit (s : State) (port cls : Nat) : (reqCredit s port cls).tmm = s.tmm := ite_tmm rfl rfl
  exact ite_tmm ((ite_tmm (hcredit ..) rfl : (freeReq s t.r.port t.r.m t.r.dat).tmm = _).trans (hcredit ..)) rfl

theorem sendTo_tmm (s : State) (a : Nat) (m : OutMsg) : (sendTo s a m).tmm = s.tmm := by
  unfold sendTo
  split <;> rfl

theorem haRespond_tmm (s : State) (t : Trk) (k : RspKind) (st code : Nat) (line : Line) : (haRespond s t k st code line).tmm = s.tmm := by
  have hfree : (freeOwed (if k = .retry then pcu 0x18 t.r.m.src 1 s else s) t).tmm = s.tmm := by
    rw [freeOwed_tmm]
    exact ite_tmm (pcu_tmm ..) rfl
  unfold haRespond
  dsimp only
  split
  · exact (ag0Answer_tmm ..).trans hfree
  · exact ite_tmm hfree ((sendTo_tmm ..).trans hfree)

theorem tmmPoison_tmm (s : State) (t : Trk) (code : Nat) : (tmmPoison s t code).tmm = s.tmm :=
  ite_tmm (haRespond_tmm ..) (haRespond_tmm ..)

theorem wcFail_tmm (s : State) (t : Trk) : (wcFail s t).tmm = s.tmm := by
  unfold wcFail
  split <;> exact (haRespond_tmm ..).trans (inc_tmm ..)

theorem joinLine_tmm (s : State) (t : Trk) (key pa : Nat) : (joinLine s t key pa).tmm = s.tmm :=
  (ite_tmm (pcu_tmm ..) rfl : (if lineActive s pa then pcu 0x17 t.r.m.tenant 1 s else s).tmm = s.tmm)

theorem poisonMade_tmm (s : State) (cause tenant line agent : Nat) : (poisonMade s cause tenant line agent).tmm = s.tmm := by
  have hevt : (pcu 0x19 agent 1 (sqEvt (s.inc Ad.HA_POISON_COUNT) Ad.HA_EVT 2)).tmm = s.tmm := by simp
  unfold poisonMade
  dsimp only
  split
  · exact hevt
  · rw [setReg_tmm, setReg_tmm, hevt]

theorem pageAccess_folded (key : Nat) (s : State) (t : Trk) : FoldedStay key s (pageAccess s t) := by
  have hwait (u : State) (k : Nat) : FoldedStay key u (waitPage u t k) := .of_tmm rfl
  unfold pageAccess
  extract_lets m k e s1 s2
  refine .ite (.of_tmm (haRespond_tmm ..)) (.ite (.ite (.of_tmm (wcFail_tmm s t)) (hwait s k)) (.ite (.of_tmm (wcFail_tmm s t))
    (.ite (.of_tmm (tmmPoison_tmm ..)) ?_)))
  split
  · exact .of_tmm ((haRespond_tmm ..).trans (sqEvt_tmm ..))
  · exact (FoldedStay.of_pages (.foldAbort s k)).trans (.ite (hwait _ k) (.of_tmm (joinLine_tmm ..)))
  · exact .ite (hwait s k) (.of_tmm (joinLine_tmm ..))
  · refine .ite ?_ ?_
    · have hseen : FoldedStay key s s2 := .ite (.refl s)
        (.trans (fun h => pg_folded_setPg rfl h) (.of_tmm ((raise_tmm ..).trans (sqEvt_tmm ..))))
      exact hseen.trans (.trans (.ite (.of_tmm (poisonMade_tmm ..)) (.refl s2)) (.of_tmm (tmmPoison_tmm ..)))
    · split
      · exact .of_pages rfl
      · split
        · exact .of_pages rfl
        · exact hwait s k

theorem wakePage_folded (key k : Nat) (s : State) : FoldedStay key s (wakePage s k) :=
  List.foldlRecOn (motive := fun u => FoldedStay key s u) _ _ (.refl s)
    (fun u hu t _ => hu.trans (.trans (.of_tmm rfl) (pageAccess_folded key (joinTick u) t)))

/-! ### A fold whose quota changes under it -/

/-- The command has left a device without ports and folded pages, in which latch 0 is set and its source is not pending. -/
def endsUnfolded : Host.Outcome State Fault Refusal → Bool
  | .next t => t.lnk.ports.isEmpty && bit (t.reg Ad.ISL_LATCH) 0 && !bit (t.reg (Ad.EVC_PEND 0)) 0 && t.tmm.pages.all (fun e => e.2.st != .folded)
  | _ => false

/-- Before the consequences of such a command, whatever they are, no page was folded either. -/
theorem not_folded_of_endsUnfolded {s0 s : State} {o : Host.Outcome State Fault Refusal} (h : endsUnfolded o = true)
    (ho : o = .next (finish s0 s)) (key : Nat) : (pg s key).st ≠ .folded := by
  rw [ho] at h
  simp only [endsUnfolded, Bool.and_eq_true, List.isEmpty_iff, Bool.not_eq_true', List.all_eq_true, bne_iff_ne] at h
  obtain ⟨⟨⟨hports, hlatch⟩, hpend⟩, hnone⟩ := h
  have hend : follow s0 s = effectsRun s := follow_unpended hlatch hpend
  have hpages : (effectsRun s).tmm.pages = s.tmm.pages := effectsRun_pages s (by rw [← hend]; exact hports)
  intro hst
  obtain ⟨e, he, hfolded, -⟩ := pg_folded_mem hst
  refine hnone e ?_ hfolded
  rw [← hpages, ← hend] at he
  exact he

/-- A page of tenant 30466, whose DSC_FOLDQ lies where a fourth word of PCU_OVF would. -/
def quotaKey : Nat := 30466 * 2 ^ 23

/-- One pool, with frames 0 to 15 and 64 chunks from chunk 65536. -/
def quotaPools : List Byte :=
  toBytesLE 4 0 ++ toBytesLE 4 16 ++ List.replicate 24 0 ++ toBytesLE 4 3 ++ toBytesLE 4 16 ++ toBytesLE 4 64 ++ toBytesLE 4 0x10000 ++
    toBytesLE 4 64 ++ List.replicate 492 0

/-- A device without ports in power-on reset whose FAB island is clocked, with latch 0 set and a fold in progress: its sweep is complete,
chunks are free and the quota suffices. Counter 48, which counts overhead work (event 0x3D), stands at its maximum. -/
def quotaState : State :=
  { (State.reset.setReg Ad.ISL_LATCH 1).setReg (Ad.DSC_FOLDQ 30466) 0x03000000 with
    isl := { State.reset.isl with phase := .porst }
    lnk := { lnkFresh with ports := [] }
    ha := { haFresh with sweeps := [⟨4, .page quotaKey, some []⟩] }
    tbl := { tblFresh with active := [⟨9, 1, quotaPools⟩] }
    pcu := { State.reset.pcu with on := [⟨48, 0x3D, false, true, 0, false⟩], cnt := [(48, 2 ^ 48 - 1)] }
    tmm := { State.reset.tmm with pages := [(quotaKey, ⟨.resident, false, false, false, false, false, 0, 0, 0, 0, [], 0⟩)],
                                  jobs := [⟨quotaKey, .fold, none, false, false⟩] } }

/-- The counter wraps once the fold's reads are counted, and the bit that it sets leaves a quota of 1 chunk: two find no room. -/
theorem quota_endsUnfolded : endsUnfolded (exec (.foldJobDone quotaKey 2) quotaState) = true := by decide +kernel

/-- Refutes O36: a fold that meets every condition of its clause leaves the page RESIDENT, for the statement lets its tenant be any number,
and the quota of this one is read where the overflow of counter 48 is reported. -/
theorem not_tmmEventsAct : ¬ Obligations.TmmEventsAct := by
  unfold Obligations.TmmEventsAct
  intro h
  obtain ⟨-, -, hevents⟩ := h quotaState .cp false 0 0 quotaKey 2 0 0
  obtain ⟨-, -, -, -, -, -, hfold, -⟩ := hevents (by decide +kernel)
  obtain ⟨u, hexec, hst, -⟩ := hfold quotaKey none false false ⟨4, .page quotaKey, some []⟩ 0x10000 (by decide +kernel)
    (by decide +kernel) (by decide) (by decide +kernel) (by decide +kernel)
  exact not_folded_of_endsUnfolded quota_endsUnfolded hexec quotaKey (wakePage_folded quotaKey quotaKey u hst)

end Sys2Proof.Machine
end

section
/-!
PROOF. Which registers the reports of events and faults reach: none of the blocks between the islands and the evidence store, but the
event register that is named; and no raised bit is lost.
-/
namespace Sys2Proof.Machine

/-- The keys of the links, the home agent, the TMM, the passes, the channels, the record core, the Chisel and the time base. -/
abbrev BlockKey (k : Nat) : Prop := 0x200000 ≤ k ∧ k < 0x800000

theorem not_blockKey_fltLog (i j : Nat) : ¬ BlockKey (Ad.FLT_LOG i j) := by simp only [BlockKey, Ad.FLT_LOG]; omega
theorem not_blockKey_fltCnt (i : Nat) : ¬ BlockKey (Ad.FLT_CNT i) := by simp only [BlockKey, Ad.FLT_CNT]; omega

theorem reg_ite {s t : State} {p : Prop} [Decidable p] {k : Nat} {v : Word} (hs : s.reg k = v) (ht : t.reg k = v) :
    (if p then s else t).reg k = v := by
  split
  · exact hs
  · exact ht

theorem foldl_reg {α : Type} {f : State → α → State} {k : Nat} (hf : ∀ s x, (f s x).reg k = s.reg k) (l : List α) (s : State) :
    (l.foldl f s).reg k = s.reg k :=
  List.foldlRecOn (motive := fun (u : State) => u.reg k = s.reg k) l f rfl (fun u hu x _ => (hf u x).trans hu)

theorem startIsl_reg (s : State) (i k : Nat) : (startIsl s i).reg k = s.reg k := reg_ite rfl rfl

theorem fltContain_reg (s : State) (u k : Nat) : (fltContain s u).reg k = s.reg k := reg_ite rfl (reg_ite rfl rfl)

/-- Containment and escalation reach no register. -/
theorem raiseActed_reg (s : State) (c info k : Nat) : (raiseActed s c info).reg k = (raiseCounted s c).reg k := by
  have hcontained : (raiseContained s c info).reg k = (raiseCounted s c).reg k :=
    reg_ite rfl (foldl_reg (fun s u => fltContain_reg s u k) _ _)
  exact reg_ite hcontained hcontained

section
variable {k : Nat} (hk : BlockKey k) (s : State)
include hk

/-! ### Events, wakes and offers -/

theorem evcSet_blockReg (src info : Nat) : (evcSet s src info).reg k = s.reg k :=
  evcSet_regsBut s src info k (fun h => by have := evcKeys_ge h; obtain ⟨-, hhi⟩ := hk; omega)

/-- An event reaches the register that it is an event of. -/
theorem sqEvt_blockReg {j : Nat} (bits : Nat) (hj : k ≠ j) : (sqEvt s j bits).reg k = s.reg k :=
  sqEvt_regsBut s j bits k (fun h => by
    rcases List.mem_cons.mp h with h | h
    · exact hj h
    · have := evcKeys_ge h; obtain ⟨-, hhi⟩ := hk; omega)

/-- What reports an event leaves its register as the event's bits do. -/
theorem sqEvt_blockReg_self (bits : Nat) : (sqEvt s k bits).reg k = (sqBits s k bits).reg k := by
  unfold sqEvt
  dsimp only
  split
  · exact evcSet_blockReg hk _ _ _
  · rfl

/-- A register outside the blocks is written. -/
theorem setReg_blockReg {j : Nat} (v : Word) (hj : ¬ BlockKey j) : (s.setReg j v).reg k = s.reg k :=
  reg_setReg_ne s v (fun h => hj (h ▸ hk))

theorem sqBits_blockReg {j : Nat} (bits : Nat) (hj : ¬ BlockKey j) : (sqBits s j bits).reg k = s.reg k := setReg_blockReg hk s _ hj

theorem setLatch_blockReg (b : Nat) : (setLatch s b).reg k = s.reg k := by
  have hset (j src info : Nat) (hj : ¬ BlockKey j) : (evcSet (sqBits s j (2 ^ b)) src info).reg k = s.reg k :=
    (evcSet_blockReg hk _ src info).trans (sqBits_blockReg hk s _ hj)
  have hovf (p : Prop) [Decidable p] (info : Nat) :
      (if p then sqBits s Ad.ISL_LATCH_OVF (2 ^ b) else evcSet (sqBits s Ad.ISL_LATCH_OVF (2 ^ b)) 27 info).reg k = s.reg k :=
    reg_ite (sqBits_blockReg hk s _ (by decide)) (hset _ _ _ (by decide))
  unfold setLatch
  exact reg_ite rfl (reg_ite (reg_ite (hovf _ _) (hovf _ _)) (hset _ _ _ (by decide)))

theorem evsOffer_blockReg (typ : Nat) (p : List Byte) (log : Option Nat) : (evsOffer s typ p log).1.reg k = s.reg k := by
  obtain ⟨-, hhi⟩ := id hk
  have hstart : (startIsl (startIsl s 31) 30).reg k = s.reg k := (startIsl_reg _ 30 k).trans (startIsl_reg s 31 k)
  unfold evsOffer
  split
  · exact setLatch_blockReg hk _ 23
  · dsimp only
    split
    · rw [pcu_reg _ _ _ _ (by simp only [Ad.PCU_OVF]; omega), State.inc]
      exact reg_ite hstart ((setReg_blockReg hk _ _ (by decide)).trans hstart)
    · exact (sqEvt_blockReg hk _ _ (by simp only [Ad.EVS_EVT]; omega)).trans hstart

/-! ### Faults -/

theorem fltRecorded_blockReg (n : Nat) : (fltRecorded s n).reg k = s.reg k :=
  reg_ite (setReg_blockReg hk s _ (not_blockKey_fltLog _ _)) rfl

theorem fltOffer_blockReg (p : List Byte) (n : Nat) : (fltOffer s p n).reg k = s.reg k := by
  unfold fltOffer
  split
  · have h := evsOffer_blockReg hk s 6 p (some n)
    split <;> rename_i e <;> rw [e] at h
    · exact (fltRecorded_blockReg hk _ n).trans h
    · exact h
    · exact h
  · obtain ⟨-, hhi⟩ := id hk
    exact reg_ite rfl (sqEvt_blockReg hk s _ (by simp only [Ad.FLT_EVT]; omega))

theorem fltLog_blockReg (c act info : Nat) : (fltLog s c act info).reg k = s.reg k := by
  obtain ⟨-, hhi⟩ := id hk
  unfold fltLog
  dsimp only
  rw [setReg_blockReg hk _ _ (by decide)]
  iterate 4 rw [setReg_blockReg hk _ _ (not_blockKey_fltLog _ _)]
  exact reg_ite (sqEvt_blockReg hk s _ (by simp only [Ad.FLT_EVT]; omega)) rfl

theorem fltLevel_blockReg (before : Word) : (fltLevel before s).reg k = s.reg k := reg_ite (evcSet_blockReg hk s _ _) rfl

theorem raiseActed_blockReg (c info : Nat) : (raiseActed s c info).reg k = s.reg k := by
  have hraised : (if c < 24 then sqBits s Ad.FLT_RAISED_0 (2 ^ c) else sqBits s Ad.FLT_RAISED_1 (2 ^ (c - 24))).reg k = s.reg k :=
    reg_ite (sqBits_blockReg hk s _ (by decide)) (sqBits_blockReg hk s _ (by decide))
  exact (raiseActed_reg s c info k).trans ((setReg_blockReg hk _ _ (not_blockKey_fltCnt _)).trans hraised)

/-- A raise reaches no register of a block. -/
theorem raise_blockReg (c info : Nat) : (raise s c info).reg k = s.reg k := by
  unfold raise
  extract_lets before s1 cnt s2 f2 s3 act s4 began f4 s5 wrapped num s6 s7
  have h5 : s5.reg k = s.reg k := raiseActed_blockReg hk s c info
  have h6 : s6.reg k = s.reg k :=
    (fltLevel_blockReg hk _ _).trans ((evcSet_blockReg hk _ _ _).trans ((fltLog_blockReg hk _ _ _ _).trans h5))
  have h7 : s7.reg k = s.reg k := reg_ite ((setLatch_blockReg hk _ _).trans h6) h6
  exact reg_ite ((fltOffer_blockReg hk _ _ _).trans h7) h7

/-- Nor does a lock violation. -/
theorem lockViol_blockReg (causes src key : Nat) : (lockViol s causes src key).reg k = s.reg k := by
  obtain ⟨-, hhi⟩ := id hk
  unfold lockViol
  dsimp only
  rw [fltLevel_blockReg hk, raise_blockReg hk, setReg_blockReg hk _ _ (by decide),
    sqEvt_blockReg hk _ _ (by simp only [Ad.FLT_LOCKVIOL]; omega)]

end

/-- A raise sets the bit of its class, and no raised bit is lost. -/
theorem raise_raised (s : State) {c b : Nat} (info : Nat) (hc : c < 24) (hb : b < 24)
    (h : b = c ∨ bit (s.reg Ad.FLT_RAISED_0) b = true) : bit ((raise s c info).reg Ad.FLT_RAISED_0) b = true := by
  refine (raise_faultKept s c info).raised b hb ?_
  rw [raiseActed_reg]
  rcases h with rfl | h
  · exact raiseCounted_raised s hc
  · rw [raiseCounted_reg s hc (by simp only [Ad.FLT_RAISED_0, Ad.FLT_CNT]; omega)]
    exact (FaultKept.sqBits s _ _).raised b hb h

end Sys2Proof.Machine
end

section
/-!
PROOF. A channel's events (R341, R345 to R350, R374): what a recomputation leaves of DRAM and the registers, the channel that an event
changes, and a channel that fails.
-/
namespace Sys2Proof.Machine

/-! ### What a recomputation leaves (R349) -/

/-- DRAM and its channels are as they were, of the blocks' registers PAS_EVT alone differs, and no raised bit is lost. -/
structure Recomputed (s t : State) : Prop where
  dram : DramStays s t
  regs : ∀ k, BlockKey k → k ≠ Ad.PAS_EVT → t.reg k = s.reg k
  raised : ∀ b, b < 24 → bit (s.reg Ad.FLT_RAISED_0) b = true → bit (t.reg Ad.FLT_RAISED_0) b = true

namespace Recomputed

theorem refl (s : State) : Recomputed s s := ⟨⟨rfl, rfl, rfl⟩, fun _ _ _ => rfl, fun _ _ h => h⟩

theorem trans {s t u : State} (h1 : Recomputed s t) (h2 : Recomputed t u) : Recomputed s u :=
  ⟨h1.dram.trans h2.dram, fun k hk hp => (h2.regs k hk hp).trans (h1.regs k hk hp), fun b hb h => h2.raised b hb (h1.raised b hb h)⟩

theorem ite {s t u : State} {p : Prop} [Decidable p] (ht : Recomputed s t) (hu : Recomputed s u) : Recomputed s (if p then t else u) := by
  split
  · exact ht
  · exact hu

theorem setPas (s : State) (p : PasSt) : Recomputed s { s with pas := p } := ⟨⟨rfl, rfl, rfl⟩, fun _ _ _ => rfl, fun _ _ h => h⟩

theorem pasEvt (s : State) (bits : Nat) : Recomputed s (sqEvt s Ad.PAS_EVT bits) :=
  ⟨.of_maskRep (maskRep_sqEvt ..), fun _ hk hp => sqEvt_blockReg hk s bits hp, (FaultKept.sqEvt s _ _).raised⟩

theorem raise (s : State) {c : Nat} (info : Nat) (hc : c < 24) : Recomputed s (raise s c info) :=
  ⟨.of_maskRep (maskRep_raise ..), fun _ hk _ => raise_blockReg hk s c info, fun _ hb h => raise_raised s info hc hb (.inr h)⟩

theorem pasCut (s : State) : Recomputed s (pasCut s) :=
  ite (((setPas s _).trans (pasEvt _ _)).trans (raise _ _ (by decide))) (setPas s _)

theorem linkCut (s : State) (p : Nat) : Recomputed s (linkCut s p) :=
  ite (setPas s _) (ite (setPas s _) ((setPas s _).trans (pasEvt _ _)))

theorem pasRecompute (s : State) : Recomputed s (pasRecompute s) := by
  unfold Machine.pasRecompute
  extract_lets u big p s1 s2
  have h1 : Recomputed s s1 :=
    ite (ite (setPas s _) (((setPas s _).trans (pasEvt _ _)).trans (raise _ _ (by decide))))
      (ite (ite (setPas s _) ((setPas s _).trans (pasEvt _ _))) (refl s))
  have h2 : Recomputed s s2 := ite (h1.trans (pasCut s1)) h1
  exact List.foldlRecOn (motive := fun v => Recomputed s v) _ _ h2 (fun v hv p _ => hv.trans (linkCut v p))

end Recomputed

/-! ### The channel that an event changes -/

/-- A channel that is not as untrained as one that is missing is there. -/
theorem chan_lt_of_mode {s : State} {c : Nat} (h : (drcCh s c).mode ≠ .untrained) : c < s.drc.length := by
  by_contra hn
  exact h (by rw [drcCh, List.getD_eq_default _ _ (by omega)]; rfl)

theorem mode_ne_untrained_of_drcUp {s : State} {c : Nat} (h : drcUp s c = true) : (drcCh s c).mode ≠ .untrained := by
  intro e
  simp [drcUp, e] at h

theorem drcCh_setDrc_self {s : State} {c : Nat} (f : DrcCh → DrcCh) (h : c < s.drc.length) : drcCh (setDrc s c f) c = f (drcCh s c) := by
  simp [drcCh, setDrc, upd, List.getD_eq_getElem?_getD, h]

/-- An event at a channel that is up occurs. -/
theorem onChan_up {s : State} {c : Nat} (f : State → State) (h : ChanUp s c) : onChan c f s = f s := by
  rw [onChan, if_pos h.1, onIsl_clocked f h.2]

/-- A command that is an event at a channel that is up ends where the event leaves the state. -/
theorem next_onChan {s u : State} {c : Nat} {f : State → State} (h : ChanUp s c) (hf : f s = u) :
    (Host.Outcome.next (finish s (onChan c f s)) : Host.Outcome State Fault Refusal) = .next (finish s u) := by
  rw [onChan_up f h, hf]

theorem nChans_le (s : State) : nChans s ≤ 8 := by
  unfold nChans
  split <;> decide

/-! ### A channel that fails (R374) -/

theorem drcTrainDone_failed {s : State} {c : Nat} (mib : Nat) (h : (drcCh s c).mode = .training) : drcTrainDone s c false mib = drcFail s c := by
  simp [drcTrainDone, h]

theorem drcRecal_failed {s : State} {c : Nat} (h : drcUp s c = true) : drcRecal s c false = drcFail s c := by simp [drcRecal, h]

/-- The channel FAILED, before it is reported. -/
def chanFailed (s : State) (c : Nat) : State := setDrc s c (fun d => { d with mode := .failed })

/-- What a failure reports changes neither DRAM nor a channel. -/
theorem drcFail_dram (s : State) (c : Nat) : DramStays (chanFailed s c) (drcFail s c) :=
  (DramStays.of_maskRep (by rw [maskRep_raise, drcEvt, maskRep_sqEvt]; rfl)).trans (Recomputed.pasRecompute _).dram

theorem drcFail_drcCh_self {s : State} {c : Nat} (h : c < s.drc.length) : (drcCh (drcFail s c) c).mode = .failed := by
  rw [drcCh, (drcFail_dram s c).drc, ← drcCh, chanFailed, drcCh_setDrc_self _ h]

theorem drcFail_drcCh_ne {s : State} {c d : Nat} (h : d ≠ c) : drcCh (drcFail s c) d = drcCh s d := by
  rw [drcCh, (drcFail_dram s c).drc, ← drcCh, chanFailed, drcCh_set_ne _ _ h]

/-- FAIL of DRC_EVT is set, and stays set through the raise and the recomputation. -/
theorem drcFail_evt (s : State) {c : Nat} (hc : c < 8) : bit ((drcFail s c).reg (Ad.DRC_EVT c)) 3 = true := by
  have hk : BlockKey (Ad.DRC_EVT c) := by simp only [BlockKey, Ad.DRC_EVT]; omega
  rw [drcFail, (Recomputed.pasRecompute _).regs _ hk (by simp only [Ad.DRC_EVT, Ad.PAS_EVT]; omega), raise_blockReg hk, drcEvt,
    sqEvt_blockReg_self hk, reg_sqBits, if_pos rfl, bit_setBf_other _ _ (.inl (by decide)), bit_or]
  exact Bool.or_eq_true_iff.mpr (.inr rfl)

/-- Settles O42: a failure is the channel's mode and what it reports, and a channel that is FAILED serves no line. -/
theorem failedChannelServesNothing : Obligations.FailedChannelServesNothing := by
  unfold Obligations.FailedChannelServesNothing
  intro s c mib i hup hi
  have hexec : exec i s = .next (finish s (drcFail s c)) := by
    rcases hi with ⟨rfl, hm⟩ | ⟨rfl, hu⟩
    · exact next_onChan hup (drcTrainDone_failed mib hm)
    · exact next_onChan hup (drcRecal_failed hu)
  have hlen : c < s.drc.length := by
    rcases hi with ⟨-, hm⟩ | ⟨-, hu⟩
    · exact chan_lt_of_mode (by rw [hm]; decide)
    · exact chan_lt_of_mode (mode_ne_untrained_of_drcUp hu)
  have hmode := drcFail_drcCh_self hlen
  have hdown : drcUp (drcFail s c) c = false := by rw [drcUp, hmode]; rfl
  refine ⟨_, hexec, hmode, fun d hd => drcFail_drcCh_ne hd, drcFail_evt s (Nat.lt_of_lt_of_le hup.1 (nChans_le s)), ?_, ?_,
    (drcFail_dram s c).dram, fun l d hl => ?_, fun t b ht => ?_⟩
  · exact (Recomputed.pasRecompute _).raised 19 (by decide) (raise_raised _ _ (by decide) (by decide) (.inl rfl))
  · rw [chanCap, drcCounts, hdown]; rfl
  · rw [dramPut, hl, hdown]; rfl
  · rw [haRead, ht, hdown]; rfl

end Sys2Proof.Machine
end

section
/-!
PROOF. Writes of the registers of chapter 9: PAS_CMD, DRC_CTRL and DRC_SCRUB take every word, and their commands act on what it leaves.
-/
namespace Sys2Proof.Machine

/-! ### A word that is staged -/

/-- An SH field's copy takes its bits of the word. -/
theorem fldWrite_sh (s : State) (src : Src) (w : Word) (a : WAcc) (name : String) (dom rst : Nat) (cond : FCond) {hi lo : Nat} (h : hi < 32)
    (h2 : lo ≤ hi) : fldWrite s src false 4294967295#32 w a ⟨hi, lo, name, .sh, dom, cond, rst⟩ =
      { a with stg := setBf a.stg hi lo (bf w hi lo), took := true } := by
  simp only [fldWrite, fmask_and_all, if_neg (fmask_ne_zero h h2), merge_eq_setBf _ _]

/-- A write that meets no lock touches registers, staged copies, parity errors and what the strobes have to do, and no more. -/
theorem fieldsWrite_staged {s : State} {src : Src} {key : Nat} {r : RegRow} {ix : List Nat} {mask w : Word}
    (hc : (fieldsAcc s src key r mask w).causes = 0) :
    let x := fieldsWrite s src key r ix false 0 mask w
    x.2 = fieldsAcc s src key r mask w ∧ x.1.stg key = (fieldsAcc s src key r mask w).stg ∧
      x.1 = { s with regs := x.1.regs, staged := x.1.staged, parErr := x.1.parErr, tbl := x.1.tbl } := by
  have hm : mask &&& ~~~(0 : Word) = mask := by rw [show ~~~(0 : Word) = BitVec.allOnes 32 from rfl, BitVec.and_allOnes]
  have hj : fieldsJudge s src key r false 0 mask w = fieldsAcc s src key r mask w := by
    unfold fieldsJudge fieldsAcc
    simp only [hm, true_or, if_true]
  intro x
  obtain ⟨l, hpar, -⟩ := parWritten_shape s key r mask
  have hx : x.1 = if (fieldsAcc s src key r mask w).took then
      pendSet (({ s with parErr := l } : State).setReg key (fieldsAcc s src key r mask w).reg |>.setStg key (fieldsAcc s src key r mask w).stg)
        r.grp (rowIsland r ix)
      else ({ s with parErr := l } : State).setReg key (fieldsAcc s src key r mask w).reg |>.setStg key (fieldsAcc s src key r mask w).stg := by
    simp only [x, fieldsWrite, hj, hm, hpar, hc, if_true]
  refine ⟨hj, ?_, ?_⟩ <;> rw [hx] <;> split
  · exact (stg_setStg ..).trans (if_pos rfl)
  · exact (stg_setStg ..).trans (if_pos rfl)
  · rfl
  · rfl

/-! ### The registers of chapter 9 -/

/-- The keys of the pass scheduler's and the channels' registers. -/
def SchedKey (k : Nat) : Prop := 0x500000 ≤ k ∧ k < 0x600000

theorem schedKey_pasCmd : SchedKey Ad.PAS_CMD := ⟨by decide, by decide⟩
theorem schedKey_drcCtrl {c : Nat} (hc : c < 8) : SchedKey (Ad.DRC_CTRL c) := by constructor <;> (simp only [Ad.DRC_CTRL]; omega)
theorem schedKey_drcScrub {c : Nat} (hc : c < 8) : SchedKey (Ad.DRC_SCRUB c) := by constructor <;> (simp only [Ad.DRC_SCRUB]; omega)

namespace SchedKey
section
variable {k : Nat} (h : SchedKey k)
include h

theorem ne_of_lt {j : Nat} (hj : j < 0x500000) : k ≠ j := by obtain ⟨hlo, -⟩ := h; omega
theorem ne_of_ge {j : Nat} (hj : 0x600000 ≤ j) : k ≠ j := by obtain ⟨-, hhi⟩ := h; omega

theorem inArr_above {base : Nat} (stride count : Nat) (hb : 0x600000 ≤ base) : inArr k base stride count = none :=
  if_neg (fun hk => by obtain ⟨-, hhi⟩ := h; omega)

theorem ownWrite (s : State) (src : Src) (w : Word) : ownWrite s src k (-1) w = none := by
  obtain ⟨hlo, hhi⟩ := id h
  unfold Machine.ownWrite
  rw [h.inArr_above _ _ (by decide), h.inArr_above _ _ (by decide), h.inArr_above _ _ (by decide), h.inArr_above _ _ (by decide)]
  simp only [Ad.ISL_RC_CTRL, Ad.ACQ_TDAC]
  repeat rw [if_neg (by omega)]

theorem lthRamKey : lthRamKey k = false := by
  obtain ⟨hlo, hhi⟩ := h
  simp only [Machine.lthRamKey, decide_eq_false_iff_not]
  omega

theorem lthIgnores (s : State) : lthIgnores s k = false := by
  have hg : lthGuardKey k = false := by
    obtain ⟨hlo, hhi⟩ := h
    simp only [lthGuardKey, Bool.and_eq_false_iff, decide_eq_false_iff_not]
    omega
  simp [Machine.lthIgnores, hg, h.lthRamKey]

theorem writeIgnored (s : State) : writeIgnored s k = s := by
  obtain ⟨hlo, hhi⟩ := id h
  unfold Machine.writeIgnored
  rw [h.lthIgnores]
  simp only [Ad.TMM_CMD, Ad.OTP_CMD, Bool.false_eq_true, if_false]
  repeat rw [if_neg (by omega)]

theorem writeGate (s : State) (w : Word) : writeGate s k w = 0 := by
  obtain ⟨hlo, hhi⟩ := id h
  have ho : otpKey k = false := by
    simp only [otpKey, Bool.or_eq_false_iff, beq_eq_false_iff_ne, decide_eq_false_iff_not, Ad.OTP_CMD, Ad.OTP_KEYPOL, Ad.OTP_STAGE]
    omega
  unfold Machine.writeGate
  rw [h.lthIgnores, ho, h.inArr_above _ _ (by decide), h.inArr_above _ _ (by decide), h.inArr_above _ _ (by decide)]
  simp only [Ad.TMM_CMD, Ad.EVC_MASK, Ad.EVC_ROUTE, Bool.false_eq_true, if_false]
  repeat rw [if_neg (by omega)]

/-- Of these registers only PAS_CMD has a consequence beside its command fields. -/
theorem regHook (hne : k ≠ Ad.PAS_CMD) (mask w : Word) (s0 s : State) : regHook k mask w s0 s = s := by
  unfold Machine.regHook
  rw [h.lthRamKey, h.inArr_above _ _ (by decide), h.inArr_above _ _ (by decide), h.inArr_above _ _ (by decide), h.inArr_above _ _ (by decide),
    if_neg (h.ne_of_ge (by decide)), if_neg (h.ne_of_lt (by decide)), if_neg (h.ne_of_lt (by decide)), if_neg hne]
  simp only [Bool.false_eq_true, if_false]
  repeat rw [if_neg (h.ne_of_ge (by decide))]

theorem cpOnly : cpOnly k = false := by
  obtain ⟨hlo, hhi⟩ := h
  simp only [Machine.cpOnly, List.contains_cons, List.contains_nil, Bool.or_eq_false_iff, beq_eq_false_iff_ne, decide_eq_false_iff_not, and_true,
    Ad.FLT_CTRL, Ad.FLT_RELEASE_0, Ad.FLT_RELEASE_1, Ad.FLT_CFG, Ad.EVC_IRQ_CFG, Ad.EVC_ROUTE]
  omega

theorem cmdSeq (l : List (Nat × Nat)) : cmdSeq k l = l := if_neg (h.ne_of_ge (by decide))

/-- A write that stages nothing, meets no lock and finds the word `v` there: what PAS_CMD sets off follows, then the commands. -/
theorem rowWrite {s : State} {src : Src} {w v : Word} {r : RegRow} {ix : List Nat} {l : List (Nat × Nat)} (ht : Takes s src k)
    (hr : regAt k = some (r, ix)) (hacc : fieldsAcc s src k r (-1) w = ⟨v, s.stg k, l, 0, false, false⟩) :
    ∃ b, Written k v s b ∧ rowWrite s src k w = l.foldl (regCmd k) (Machine.regHook k (-1) w s b) := by
  have htab : ¬(0xF10000 ≤ k ∧ k < 0xF50000) := by obtain ⟨-, hhi⟩ := h; omega
  obtain ⟨b, hb, hw⟩ := regWrite_common hr (.inr h.cpOnly) htab (h.ownWrite s src w) (h.writeGate s w) (h.writeIgnored s)
    (by rw [hacc]) (by rw [hacc]) (by rw [hacc]) (by rw [hacc]) (by rw [hacc])
  exact ⟨b, hb, by rw [rowWrite_takes _ ht, hw, h.cmdSeq]⟩

end
end SchedKey

/-! ### PAS_CMD -/

/-- The row of PAS_CMD in the register index. -/
def pasCmdRow : RegRow :=
  ⟨"PAS_CMD", 0x500000, [], 3, 0, 8, false, [⟨15, 8, "PASS", .rw, 16, .none, 0⟩, ⟨7, 0, "OP", .rw, 16, .none, 0⟩]⟩

theorem regAt_pasCmd : regAt Ad.PAS_CMD = some (pasCmdRow, []) := by decide +kernel

/-- The word that a write of PAS_CMD leaves there. -/
def pasCmdWord (old : Word) (op pass : Nat) : Word := setBf (setBf old 15 8 pass) 7 0 op

theorem fieldsAcc_pasCmd (s : State) (src : Src) (op pass : Nat) :
    fieldsAcc s src Ad.PAS_CMD pasCmdRow (-1) (pasWord op pass) =
      ⟨pasCmdWord (s.reg Ad.PAS_CMD) (op % 256) (pass % 256), s.stg Ad.PAS_CMD, [], 0, false, false⟩ := by
  have hp : bf (pasWord op pass) 15 8 = pass % 256 := by
    rw [pasWord, bf_w32 _ (by decide)]
    omega
  have ho : bf (pasWord op pass) 7 0 = op % 256 := by
    rw [pasWord, bf_w32 _ (by decide)]
    omega
  have hall : (-1 : Word) = 4294967295#32 := rfl
  simp only [fieldsAcc, pasCmdRow, List.foldl_cons, List.foldl_nil, hall]
  rw [fldWrite_rw _ _ _ _ _ _ _ _ (by decide) (by decide), fldWrite_rw _ _ _ _ _ _ _ _ (by decide) (by decide), hp, ho]
  rfl

/-- A write of PAS_CMD writes the register, and the command runs. -/
theorem rowWrite_pasCmd {s : State} {src : Src} (op pass : Nat) (ht : Takes s src Ad.PAS_CMD) :
    ∃ b, Written Ad.PAS_CMD (pasCmdWord (s.reg Ad.PAS_CMD) (op % 256) (pass % 256)) s b ∧
      rowWrite s src Ad.PAS_CMD (pasWord op pass) = pasCmd b (op % 256) (pass % 256) := by
  obtain ⟨b, hb, hw⟩ := schedKey_pasCmd.rowWrite ht regAt_pasCmd (fieldsAcc_pasCmd s src op pass)
  have hop : b.fld Ad.PAS_CMD 7 0 = op % 256 := by
    rw [State.fld, hb.1, pasCmdWord, bf_setBf_self _ _ (by decide)]
    omega
  have hpass : b.fld Ad.PAS_CMD 15 8 = pass % 256 := by
    rw [State.fld, hb.1, pasCmdWord, bf_setBf_other _ _ (.inr (by decide)), bf_setBf_self _ _ (by decide)]
    omega
  have hhook (w : Word) : regHook Ad.PAS_CMD (-1) w s b = pasCmd b (b.fld Ad.PAS_CMD 7 0) (b.fld Ad.PAS_CMD 15 8) := rfl
  exact ⟨b, hb, by rw [hw, hhook, hop, hpass]; rfl⟩

/-! ### DRC_CTRL and DRC_SCRUB -/

/-- The row of DRC_CTRL in the register index. -/
def drcCtrlRow : RegRow := ⟨"DRC_CTRL", 0x580004, [(8, 0x1000)], 5, 1, 8, false, [⟨0, 0, "TRAIN", .cmd, 16, .none, 0⟩]⟩

/-- The row of DRC_SCRUB in the register index. -/
def drcScrubRow : RegRow :=
  ⟨"DRC_SCRUB", 0x580010, [(8, 0x1000)], 5, 1, 0, false,
    [⟨31, 16, "CE_LIMIT", .sh, 16, .none, 0x40⟩, ⟨8, 8, "ACCEL", .cmd, 16, .none, 0⟩, ⟨7, 0, "PERIOD", .sh, 16, .none, 0x18⟩]⟩

theorem regAt_drcCtrl {c : Nat} (hc : c < 8) : regAt (Ad.DRC_CTRL c) = some (drcCtrlRow, [c]) :=
  (by decide +kernel : ∀ c < 8, regAt (Ad.DRC_CTRL c) = some (drcCtrlRow, [c])) c hc

theorem regAt_drcScrub {c : Nat} (hc : c < 8) : regAt (Ad.DRC_SCRUB c) = some (drcScrubRow, [c]) :=
  (by decide +kernel : ∀ c < 8, regAt (Ad.DRC_SCRUB c) = some (drcScrubRow, [c])) c hc

/-- A command of a channel's register is looked for among the registers of the ports, the Lathes and the channels. -/
theorem SchedKey.regCmd {k : Nat} (h : SchedKey k) (s : State) (x : Nat × Nat) :
    regCmd k s x = (inArr k (Ad.DRC_CTRL 0) 0x1000 8).elim ((inArr k (Ad.DRC_SCRUB 0) 0x1000 8).elim s (drcAccel s)) (drcTrain s) := by
  have hlinks : inArr k (Ad.LNK_CMD 0) 0x10000 16 = none := if_neg (by obtain ⟨hlo, hhi⟩ := h; simp only [Ad.LNK_CMD]; omega)
  unfold Machine.regCmd
  rw [hlinks, h.inArr_above _ _ (by decide), h.inArr_above (base := Ad.PCU_BW_CFG 0) _ _ (by decide)]
  repeat rw [if_neg (h.ne_of_ge (by decide))]
  cases inArr k (Ad.DRC_CTRL 0) 0x1000 8 with
  | some c => rfl
  | none => cases inArr k (Ad.DRC_SCRUB 0) 0x1000 8 <;> rfl

theorem regCmd_drcCtrl {c : Nat} (hc : c < 8) (s : State) (x : Nat × Nat) : regCmd (Ad.DRC_CTRL c) s x = drcTrain s c := by
  have hctrl : inArr (Ad.DRC_CTRL c) (Ad.DRC_CTRL 0) 0x1000 8 = some c := by
    have hd : Ad.DRC_CTRL c - Ad.DRC_CTRL 0 = 0x1000 * c := by simp only [Ad.DRC_CTRL]; omega
    rw [inArr, hd, if_pos (by simp only [Ad.DRC_CTRL]; omega), Nat.mul_div_cancel_left _ (by decide)]
  rw [(schedKey_drcCtrl hc).regCmd, hctrl, Option.elim_some]

theorem regCmd_drcScrub {c : Nat} (hc : c < 8) (s : State) (x : Nat × Nat) : regCmd (Ad.DRC_SCRUB c) s x = drcAccel s c := by
  have hctrl : inArr (Ad.DRC_SCRUB c) (Ad.DRC_CTRL 0) 0x1000 8 = none := if_neg (by simp only [Ad.DRC_SCRUB, Ad.DRC_CTRL]; omega)
  have hscrub : inArr (Ad.DRC_SCRUB c) (Ad.DRC_SCRUB 0) 0x1000 8 = some c := by
    have hd : Ad.DRC_SCRUB c - Ad.DRC_SCRUB 0 = 0x1000 * c := by simp only [Ad.DRC_SCRUB]; omega
    rw [inArr, hd, if_pos (by simp only [Ad.DRC_SCRUB]; omega), Nat.mul_div_cancel_left _ (by decide)]
  rw [(schedKey_drcScrub hc).regCmd, hctrl, hscrub, Option.elim_none, Option.elim_some]

/-- TRAIN written to DRC_CTRL leaves the register as it reads and starts a training. -/
theorem rowWrite_drcCtrl {s : State} {src : Src} {c : Nat} (hc : c < 8) (ht : Takes s src (Ad.DRC_CTRL c)) :
    ∃ b, Written (Ad.DRC_CTRL c) (s.reg (Ad.DRC_CTRL c)) s b ∧ rowWrite s src (Ad.DRC_CTRL c) 1 = drcTrain b c := by
  have hk := schedKey_drcCtrl hc
  have hacc : fieldsAcc s src (Ad.DRC_CTRL c) drcCtrlRow (-1) 1 =
      ⟨s.reg (Ad.DRC_CTRL c), s.stg (Ad.DRC_CTRL c), [(0, 1)], 0, false, false⟩ := by
    have hall : (-1 : Word) = 4294967295#32 := rfl
    simp only [fieldsAcc, drcCtrlRow, List.foldl_cons, List.foldl_nil, hall]
    rw [fldWrite_cmd _ _ _ _ _ _ _ _ (by decide) (by decide)]
    rfl
  obtain ⟨b, hb, hw⟩ := hk.rowWrite ht (regAt_drcCtrl hc) hacc
  refine ⟨b, hb, ?_⟩
  rw [hw, hk.regHook (by simp only [Ad.DRC_CTRL, Ad.PAS_CMD]; omega), List.foldl_cons, List.foldl_nil, regCmd_drcCtrl hc]

theorem bf_mod_self (w : Word) (hi lo : Nat) : bf w hi lo % 2 ^ (hi + 1 - lo) = bf w hi lo := Nat.mod_mod _ _

/-- A word with ACCEL set, written to DRC_SCRUB, stages CE_LIMIT and PERIOD and starts the accelerated hour. -/
theorem rowWrite_drcScrub {s : State} {src : Src} {c : Nat} (w : Word) (hc : c < 8) (ht : Takes s src (Ad.DRC_SCRUB c)) :
    ∃ b, rowWrite s src (Ad.DRC_SCRUB c) (setBit w 8 true) = drcAccel b c ∧ bf (b.stg (Ad.DRC_SCRUB c)) 31 16 = bf w 31 16 ∧
      bf (b.stg (Ad.DRC_SCRUB c)) 7 0 = bf w 7 0 ∧
      b = { s with regs := b.regs, staged := b.staged, parErr := b.parErr, tbl := b.tbl } := by
  have hk := schedKey_drcScrub hc
  have haccel : bf (setBit w 8 true) 8 8 = 1 := bf_setBf_self w 1 (by decide)
  have hlim : bf (setBit w 8 true) 31 16 = bf w 31 16 := bf_setBf_other w 1 (.inr (by decide))
  have hper : bf (setBit w 8 true) 7 0 = bf w 7 0 := bf_setBf_other w 1 (.inl (by decide))
  have hacc : fieldsAcc s src (Ad.DRC_SCRUB c) drcScrubRow (-1) (setBit w 8 true) =
      ⟨s.reg (Ad.DRC_SCRUB c), setBf (setBf (s.stg (Ad.DRC_SCRUB c)) 31 16 (bf w 31 16)) 7 0 (bf w 7 0), [(8, 1)], 0, false, true⟩ := by
    have hall : (-1 : Word) = 4294967295#32 := rfl
    simp only [fieldsAcc, drcScrubRow, List.foldl_cons, List.foldl_nil, hall]
    rw [fldWrite_sh _ _ _ _ _ _ _ _ (by decide) (by decide), fldWrite_cmd _ _ _ _ _ _ _ _ (by decide) (by decide),
      fldWrite_sh _ _ _ _ _ _ _ _ (by decide) (by decide), haccel, hlim, hper]
    rfl
  obtain ⟨hx, hstg, hrest⟩ := fieldsWrite_staged (s := s) (src := src) (key := Ad.DRC_SCRUB c) (r := drcScrubRow) (ix := [c]) (mask := -1)
    (w := setBit w 8 true) (by rw [hacc])
  have htab : ¬(0xF10000 ≤ Ad.DRC_SCRUB c ∧ Ad.DRC_SCRUB c < 0xF50000) := by simp only [Ad.DRC_SCRUB]; omega
  rw [hacc] at hx hstg
  refine ⟨_, ?_, ?_, ?_, hrest⟩
  · rw [rowWrite_takes _ ht, regWrite_listed (regAt_drcScrub hc) (.inr hk.cpOnly) htab (hk.ownWrite s src _), hk.writeGate, hk.writeIgnored,
      hx, hk.regHook (by simp only [Ad.DRC_SCRUB, Ad.PAS_CMD]; omega), hk.cmdSeq, List.foldl_cons, List.foldl_nil, regCmd_drcScrub hc]
  · rw [hstg, bf_setBf_other _ _ (.inr (by decide)), bf_setBf_self _ _ (by decide), bf_mod_self]
  · rw [hstg, bf_setBf_self _ _ (by decide), bf_mod_self]

end Sys2Proof.Machine
end

section
/-!
PROOF. The pass commands (R357): what they are judged by, which GRANT is admitted, and the passes as they stand after it.
-/
namespace Sys2Proof.Machine

/-! ### What a pass command is judged by -/

/-- Two states that a pass command finds alike: PAS_CMD apart, the same registers, and what capacities and policies are read from. -/
structure PassAlike (s t : State) : Prop where
  reg : ∀ k, k ≠ Ad.PAS_CMD → t.reg k = s.reg k
  tbl : t.tbl = s.tbl
  flt : t.flt = s.flt
  lnk : t.lnk = s.lnk
  tmm : t.tmm = s.tmm
  drc : t.drc = s.drc
  pas : t.pas = s.pas
  variant : t.variant = s.variant

/-- The 256 passes are read from PAS_PASS alone. -/
theorem passAt_congr {s t : State} {n : Nat} (h : n < 256 → t.reg (Ad.PAS_PASS n) = s.reg (Ad.PAS_PASS n)) : passAt t n = passAt s n := by
  by_cases hn : n < 256
  · simp only [passAt, h hn]
  · simp only [passAt, hn, false_and, if_false]

theorem passAt_tenant_lt {s : State} {n : Nat} {p : Pass} (h : passAt s n = some p) : p.tenant < 1024 := by
  unfold passAt at h
  dsimp only at h
  split at h
  · cases h; exact Nat.mod_lt _ (by decide)
  · cases h

namespace PassAlike

theorem of_written {v : Word} {s b : State} (h : Written Ad.PAS_CMD v s b) : PassAlike s b := by
  obtain ⟨-, hreg, -, -, hb⟩ := h
  constructor
  · exact hreg
  all_goals rw [hb]

theorem symm {s t : State} (h : PassAlike s t) : PassAlike t s :=
  ⟨fun k hk => (h.reg k hk).symm, h.tbl.symm, h.flt.symm, h.lnk.symm, h.tmm.symm, h.drc.symm, h.pas.symm, h.variant.symm⟩

section
variable {s t : State} (h : PassAlike s t)
include h

theorem arg : t.reg Ad.PAS_CMD_ARG = s.reg Ad.PAS_CMD_ARG := h.reg _ (by decide)

theorem passAt (n : Nat) : passAt t n = passAt s n := passAt_congr (fun _ => h.reg _ (by simp only [Ad.PAS_PASS, Ad.PAS_CMD]; omega))

theorem passes : passes t = passes s := by simp only [Machine.passes, funext h.passAt]

theorem passTotal (f : Pass → Bool) : passTotal t f = passTotal s f := by simp only [Machine.passTotal, h.passes]

theorem locked (d : Nat) : locked t d = locked s d := congrArg (bit · d) (h.reg _ (by decide))

theorem tenantLive {n : Nat} (hn : n < 1024) : tenantLive t n = tenantLive s n :=
  congrArg (fun w => decide (bf w 2 0 = 1)) (h.reg (Ad.DSC_CTRL n) (by simp only [Ad.DSC_CTRL, Ad.PAS_CMD]; omega))

theorem pol16 (o dflt : Nat) : pol16 t o dflt = pol16 s o dflt := by simp only [Machine.pol16, tblBody, h.tbl]

theorem portCap (p : Nat) : portCap t p = portCap s p := by simp only [Machine.portCap, h.lnk]

theorem drcLevel (c : Nat) : drcLevel t c = drcLevel s c := by
  have hthr (hi lo : Nat) : t.fld (Ad.DRC_THROTTLE c) hi lo = s.fld (Ad.DRC_THROTTLE c) hi lo :=
    congrArg (bf · hi lo) (h.reg _ (by simp only [Ad.DRC_THROTTLE, Ad.PAS_CMD]; omega))
  rw [Machine.drcLevel, drcCh, contained, h.drc, h.flt, hthr, hthr]
  rfl

theorem chanCap (c : Nat) : chanCap t c = chanCap s c := by
  rw [Machine.chanCap, drcCounts, drcUp, drcCh, h.drc, h.tmm, h.drcLevel]
  rfl

theorem cDer : cDer t = cDer s := by simp only [Machine.cDer, funext h.chanCap]

theorem passArgOk (p : Pass) : passArgOk t p = passArgOk s p := by
  rw [Machine.passArgOk, nPorts, isG2B, h.variant]
  rfl

theorem passCeiling (p : Pass) : passCeiling t p = passCeiling s p := by simp only [Machine.passCeiling, ceiling, tblBody, h.tbl]

theorem passFits (p : Pass) (add : Nat) : passFits t p add = passFits s p add := by
  rw [Machine.passFits, lTotal, uTotal, gTotal, h.passTotal, h.passTotal, h.passTotal, h.pol16, h.pol16, h.portCap, h.cDer]
  rfl

end
end PassAlike

/-! ### The end of a pass command -/

/-- A command's end reaches its status and PAS_EVT alone of the blocks' registers. -/
theorem pasEnd_blockReg (s : State) (r : Nat) {k : Nat} (hk : BlockKey k) (hst : k ≠ Ad.PAS_CMD_STATUS) (hevt : k ≠ Ad.PAS_EVT) :
    (pasEnd s r).reg k = s.reg k := by
  rw [pasEnd, sqEvt_blockReg hk _ _ hevt, reg_setFld, if_neg hst]

theorem blockKey_pasPass {n : Nat} (hn : n < 256) : BlockKey (Ad.PAS_PASS n) := by simp only [BlockKey, Ad.PAS_PASS]; omega

theorem pasEnd_passAt (s : State) (r n : Nat) : passAt (pasEnd s r) n = passAt s n :=
  passAt_congr fun hn => pasEnd_blockReg s r (blockKey_pasPass hn) (by simp only [Ad.PAS_PASS, Ad.PAS_CMD_STATUS]; omega)
    (by simp only [Ad.PAS_PASS, Ad.PAS_EVT]; omega)

/-- PAS_CMD_STATUS after a command: its RESULT, and PASS as it was. -/
theorem pasEnd_status (s : State) {r : Nat} (hr : r < 256) :
    (pasEnd s r).fld Ad.PAS_CMD_STATUS 23 16 = r ∧ (pasEnd s r).fld Ad.PAS_CMD_STATUS 7 0 = s.fld Ad.PAS_CMD_STATUS 7 0 := by
  have hreg : (pasEnd s r).reg Ad.PAS_CMD_STATUS = (s.setFld Ad.PAS_CMD_STATUS 23 16 r).reg Ad.PAS_CMD_STATUS :=
    sqEvt_blockReg (by decide) _ _ (by decide)
  constructor
  · rw [State.fld, hreg, ← State.fld, fld_setFld_self _ _ _ (by decide)]
    exact Nat.mod_eq_of_lt hr
  · rw [State.fld, hreg, ← State.fld, fld_setFld_other _ _ _ (.inl (by decide))]

/-! ### Which GRANT is admitted -/

/-- The pass that PAS_CMD_ARG asks for. -/
def grantArg (s : State) : Pass :=
  let a := s.reg Ad.PAS_CMD_ARG
  ⟨0, bf a 11 10, bf a 14 12, bf a 19 16, bf a 9 0, bf a 31 20⟩

/-- A pass of the same kind: the tenant's L pass at the port, or its DRAM pass (R352). -/
def samePass (p q : Pass) : Bool := q.tenant == p.tenant && (if p.cls = 2 then q.cls == 2 && q.port == p.port else q.cls != 2)

theorem samePass_any {l : List Pass} {p : Pass} : l.any (samePass p) = false ↔
    ∀ q, q ∈ l → q.tenant = p.tenant → if p.cls = 2 then ¬(q.cls = 2 ∧ q.port = p.port) else q.cls = 2 := by
  simp only [List.any_eq_false, samePass, Bool.and_eq_true, beq_iff_eq, not_and]
  refine forall_congr' fun q => imp_congr_right fun _ => imp_congr_right fun _ => ?_
  split <;> simp

/-- Every condition of R357 holds of the pass asked for, and entry `n` is the one that it takes. -/
structure GrantAdmitted (s : State) (n : Nat) : Prop where
  arg : passArgOk s (grantArg s) = true
  unlocked : locked s 2 = false
  live : tenantLive s (grantArg s).tenant = true
  alone : (passes s).any (samePass (grantArg s)) = false
  entry : (List.range 256).find? (fun n => (passAt s n).isNone) = some n
  room : (grantArg s).cls = 0 → ((passes s).filter (fun q => q.cls == 0)).length < 32
  ceiling : passCeiling s (grantArg s) = true
  calm : s.pas.oc = false
  fits : passFits s (grantArg s) (grantArg s).units = true

theorem grantArg_tenant_lt (s : State) : (grantArg s).tenant < 1024 := Nat.mod_lt _ (by decide)

theorem PassAlike.grantArg {s t : State} (h : PassAlike s t) : Machine.grantArg t = Machine.grantArg s := by
  simp only [Machine.grantArg, h.arg]

theorem GrantAdmitted.of_alike {s t : State} {n : Nat} (h : PassAlike s t) (ha : GrantAdmitted s n) : GrantAdmitted t n := by
  have harg := h.grantArg
  constructor
  · rw [harg, h.passArgOk, ha.arg]
  · rw [h.locked, ha.unlocked]
  · rw [harg, h.tenantLive (grantArg_tenant_lt s), ha.live]
  · rw [harg, h.passes, ha.alone]
  · simpa only [h.passAt] using ha.entry
  · rw [harg, h.passes]; exact ha.room
  · rw [harg, h.passCeiling, ha.ceiling]
  · rw [h.pas, ha.calm]
  · rw [harg, h.passFits, ha.fits]

/-- The pass granted: the port counts for an L pass only. -/
def grantPass (s : State) : Pass := { grantArg s with port := if (grantArg s).cls = 2 then (grantArg s).port else 0 }

/-- The state that an admitted GRANT of entry `n` leaves. -/
def passGranted (s : State) (n : Nat) : State :=
  pasEnd ((s.setReg (Ad.PAS_PASS n) (passWord (grantPass s))).setFld Ad.PAS_CMD_STATUS 7 0 n) 0

theorem pasGrant_admitted {s : State} {n : Nat} (h : GrantAdmitted s n) : pasGrant s = passGranted s n := by
  have hroom : ¬((grantArg s).cls = 0 ∧ 32 ≤ ((passes s).filter (fun q => q.cls == 0)).length) := fun ⟨hcls, hfull⟩ => by
    have := h.room hcls
    omega
  unfold pasGrant
  extract_lets a p same
  have hp : p = grantArg s := rfl
  have hsame : (passes s).any same = false := h.alone
  rw [hp, hsame, if_neg (by simp [h.arg]), if_neg (by simp [h.unlocked]), if_neg (by simp [h.live]), h.entry]
  dsimp only
  rw [if_neg hroom, if_neg (by simp [h.ceiling]), if_neg (by simp [h.calm]), if_neg (by simp [h.fits])]
  rfl

/-- A GRANT is admitted, or it ends with a RESULT other than OK and no pass written. -/
theorem pasGrant_cases (s : State) : (∃ n, GrantAdmitted s n) ∨
    ∃ t r, pasGrant s = pasEnd t r ∧ r ≠ 0 ∧ r < 256 ∧ ∀ k, BlockKey k → t.reg k = s.reg k := by
  have refused {u : State} (r : Nat) (hu : u = pasEnd s r) (h0 : r ≠ 0) (hr : r < 256) : ∃ t r, u = pasEnd t r ∧ r ≠ 0 ∧ r < 256 ∧
      ∀ k, BlockKey k → t.reg k = s.reg k := ⟨s, r, hu, h0, hr, fun _ _ => rfl⟩
  unfold pasGrant
  extract_lets a p same
  split
  · exact .inr (refused 2 rfl (by decide) (by decide))
  rename_i harg
  split
  · exact .inr ⟨_, 8, rfl, by decide, by decide, fun k hk => lockViol_blockReg hk s _ _ _⟩
  rename_i hlock
  split
  · exact .inr (refused 3 rfl (by decide) (by decide))
  rename_i hlive
  split
  · exact .inr (refused 6 rfl (by decide) (by decide))
  rename_i n hentry
  split
  · exact .inr (refused 6 rfl (by decide) (by decide))
  rename_i hroom
  split
  · exact .inr (refused 4 rfl (by decide) (by decide))
  rename_i hceil
  split
  · exact .inr (refused 7 rfl (by decide) (by decide))
  rename_i hoc
  split
  · exact .inr (refused 5 rfl (by decide) (by decide))
  rename_i hfits
  simp only [Bool.not_eq_true', Bool.not_eq_false, Bool.not_eq_true, Bool.or_eq_true, not_or] at harg hlock hlive hceil hoc hfits
  exact .inl ⟨n, harg, hlock, hlive.1, hlive.2, hentry, fun hcls => by
    by_contra hfull
    exact hroom ⟨hcls, by omega⟩, hceil, hoc, hfits⟩

theorem GrantAdmitted.entry_free {s : State} {n : Nat} (h : GrantAdmitted s n) : n < 256 ∧ passAt s n = none := by
  have hmem := List.mem_of_find?_eq_some h.entry
  have hfree := List.find?_some h.entry
  exact ⟨List.mem_range.mp hmem, Option.isNone_iff_eq_none.mp hfree⟩

/-- CLASS and UNITS lie within Table 9-3. -/
theorem GrantAdmitted.units {s : State} {n : Nat} (h : GrantAdmitted s n) : 1 ≤ (grantArg s).units ∧ (grantArg s).cls < 3 := by
  have harg := h.arg
  simp only [passArgOk, Bool.and_eq_true, decide_eq_true_eq] at harg
  obtain ⟨⟨⟨hcls, hunits⟩, -⟩, -⟩ := harg
  exact ⟨hunits, hcls⟩

section
variable {s : State} {n : Nat} (h : GrantAdmitted s n) {q : Pass} (hq : q ∈ passes s) (hten : q.tenant = (grantArg s).tenant)
include h hq hten

/-- A tenant that is granted a U or G pass holds none but L passes. -/
theorem GrantAdmitted.dram_alone (h2 : (grantArg s).cls ≠ 2) : q.cls = 2 := by
  have hkind := samePass_any.mp h.alone q hq hten
  rwa [if_neg h2] at hkind

/-- A tenant that is granted an L pass holds none at the port. -/
theorem GrantAdmitted.link_alone (h2 : (grantArg s).cls = 2) : ¬(q.cls = 2 ∧ q.port = (grantArg s).port) := by
  have hkind := samePass_any.mp h.alone q hq hten
  rwa [if_pos h2] at hkind

end

/-! ### The passes after a GRANT -/

/-- A pass read back from its word. -/
theorem passAt_passWord {s : State} {n : Nat} {p : Pass} (hn : n < 256) (hw : s.reg (Ad.PAS_PASS n) = passWord p) (hcls : p.cls < 4)
    (hrank : p.rank < 8) (hport : p.port < 16) (hten : p.tenant < 1024) (hunits : p.units < 4096) :
    passAt s n = some { p with n := n } := by
  have hvalid : bit (passWord p) 31 = true := by
    rw [passWord, bit_w32, Nat.testBit_eq_decide_div_mod_eq]
    simp only [Bool.and_eq_true, decide_eq_true_eq]
    omega
  have hb (hi lo v : Nat) (hhi : hi < 32) (hv : (2 ^ 31 + p.cls * 2 ^ 29 + p.rank * 2 ^ 26 + p.port * 2 ^ 22 + p.tenant * 2 ^ 12 +
      p.units) / 2 ^ lo % 2 ^ (hi + 1 - lo) = v) : bf (passWord p) hi lo = v := by rw [passWord, bf_w32 _ hhi, hv]
  unfold passAt
  dsimp only
  rw [hw, if_pos ⟨hn, hvalid⟩, hb 30 29 p.cls (by decide) (by omega), hb 28 26 p.rank (by decide) (by omega),
    hb 25 22 p.port (by decide) (by omega), hb 21 12 p.tenant (by decide) (by omega), hb 11 0 p.units (by decide) (by omega)]

/-- A pass added at a free entry joins the list of passes. -/
theorem passes_add {s u : State} {n : Nat} {p : Pass} (hn : n < 256) (hfree : passAt s n = none) (hself : passAt u n = some p)
    (hother : ∀ m, m ≠ n → passAt u m = passAt s m) : (passes u).Perm (p :: passes s) := by
  have hperm : (List.range 256).Perm (n :: (List.range 256).erase n) := List.perm_cons_erase (List.mem_range.mpr hn)
  have hrest : ((List.range 256).erase n).filterMap (passAt u) = ((List.range 256).erase n).filterMap (passAt s) :=
    List.filterMap_congr fun m hm => hother m ((List.nodup_range.mem_erase_iff.mp hm).1)
  have hu : (passes u).Perm (p :: ((List.range 256).erase n).filterMap (passAt s)) := by
    have h := hperm.filterMap (passAt u)
    rwa [List.filterMap_cons_some hself, hrest] at h
  have hs : (passes s).Perm (((List.range 256).erase n).filterMap (passAt s)) := by
    have h := hperm.filterMap (passAt s)
    rwa [List.filterMap_cons_none hfree] at h
  exact hu.trans (hs.symm.cons p)

/-- And adds its units to the totals that count it. -/
theorem passTotal_add {s u : State} {p : Pass} (h : (passes u).Perm (p :: passes s)) (f : Pass → Bool) :
    passTotal u f = (if f p then p.units * 100 else 0) + passTotal s f := by
  have hsum := ((h.filter f).map (fun q => q.units * 100)).sum_eq
  unfold passTotal
  rw [hsum, List.filter_cons]
  split
  · rw [List.map_cons, List.sum_cons]
  · rw [Nat.zero_add]

theorem PassAlike.grantPass {s t : State} (h : PassAlike s t) : Machine.grantPass t = Machine.grantPass s := by
  rw [Machine.grantPass, h.grantArg]
  rfl

theorem passGranted_status (s : State) {n : Nat} (hn : n < 256) :
    (passGranted s n).fld Ad.PAS_CMD_STATUS 23 16 = 0 ∧ (passGranted s n).fld Ad.PAS_CMD_STATUS 7 0 = n := by
  obtain ⟨hres, hpass⟩ := pasEnd_status ((s.setReg (Ad.PAS_PASS n) (passWord (grantPass s))).setFld Ad.PAS_CMD_STATUS 7 0 n) (r := 0) (by decide)
  refine ⟨hres, hpass.trans ?_⟩
  rw [fld_setFld_self _ _ _ (by decide)]
  exact Nat.mod_eq_of_lt hn

theorem passGranted_passAt_other (s : State) {m n : Nat} (h : m ≠ n) : passAt (passGranted s n) m = passAt s m := by
  rw [passGranted, pasEnd_passAt]
  refine passAt_congr fun _ => ?_
  rw [reg_setFld, if_neg (by simp only [Ad.PAS_PASS, Ad.PAS_CMD_STATUS]; omega), reg_setReg_ne _ _ (by simp only [Ad.PAS_PASS]; omega)]

theorem passGranted_passAt_self (s : State) {n : Nat} (hn : n < 256) : passAt (passGranted s n) n = some { grantPass s with n := n } := by
  have hport : (grantPass s).port < 16 := by
    have : (grantArg s).port < 16 := Nat.mod_lt _ (by decide)
    unfold grantPass
    dsimp only
    split <;> omega
  have hcls : (grantPass s).cls < 4 := Nat.mod_lt _ (by decide)
  have hrank : (grantPass s).rank < 8 := Nat.mod_lt _ (by decide)
  have hunits : (grantPass s).units < 4096 := Nat.mod_lt _ (by decide)
  rw [passGranted, pasEnd_passAt]
  refine passAt_passWord hn ?_ hcls hrank hport (grantArg_tenant_lt s) hunits
  rw [reg_setFld, if_neg (by simp only [Ad.PAS_PASS, Ad.PAS_CMD_STATUS]; omega), reg_setReg_self]

/-! ### The obligation -/

/-- What R357 asks of the totals of an admitted pass, once it is counted in them. -/
theorem granted_within_commit {s u : State} {n : Nat} (h : GrantAdmitted s n)
    (hperm : (passes u).Perm ({ grantPass s with n := n } :: passes s)) :
    ((grantArg s).cls ≠ 2 → (uTotal u + gTotal u) * 1000 ≤ pol16 s 0 720 * cDer s) ∧
      ((grantArg s).cls = 2 → lTotal u (grantPass s).port * 1000 ≤ pol16 s 4 720 * portCap s (grantPass s).port) := by
  obtain ⟨-, hcls⟩ := h.units
  have hfits := h.fits
  have hl := passTotal_add hperm (fun q => q.cls == 2 && q.port == (grantPass s).port)
  have hu := passTotal_add hperm (fun q => q.cls == 0)
  have hg := passTotal_add hperm (fun q => q.cls == 1)
  constructor
  · intro h2
    rw [passFits, if_neg h2, decide_eq_true_eq] at hfits
    have hone : uTotal u + gTotal u = uTotal s + gTotal s + 100 * (grantArg s).units := by
      have hkind : (grantArg s).cls = 0 ∨ (grantArg s).cls = 1 := by omega
      rw [uTotal, gTotal, hu, hg]
      rcases hkind with hc | hc <;> simp [grantPass, hc, uTotal, gTotal] <;> omega
    rwa [hone]
  · intro h2
    have hport : (grantPass s).port = (grantArg s).port := if_pos h2
    rw [passFits, if_pos h2, decide_eq_true_eq, ← hport] at hfits
    have hone : lTotal u (grantPass s).port = lTotal s (grantPass s).port + 100 * (grantArg s).units := by
      rw [lTotal, hl, if_pos (by simp [grantPass, h2])]
      simp only [grantPass, lTotal]
      omega
    rwa [hone]

/-- Settles O41: a GRANT that is not admitted writes no pass, and one that is adds its pass to the totals that its admission was judged
by. -/
theorem grantsStayWithinTheCommitLimit : Obligations.GrantsStayWithinTheCommitLimit := by
  unfold Obligations.GrantsStayWithinTheCommitLimit
  intro s src pass ht
  obtain ⟨b, hb, hw⟩ := rowWrite_pasCmd 1 pass ht
  have hexec : exec (.grant src pass) s = .next (finish s (pasGrant b)) := congrArg (fun u => Host.Outcome.next (finish s u)) hw
  have halike : PassAlike s b := .of_written hb
  refine ⟨_, hexec, ?_⟩
  rcases pasGrant_cases b with ⟨n, hadm⟩ | ⟨t, r, hend, h0, hr, hregs⟩
  · right
    have hs : GrantAdmitted s n := hadm.of_alike halike.symm
    obtain ⟨hn, hfree⟩ := hs.entry_free
    obtain ⟨hres, hpass⟩ := passGranted_status b hn
    have harg : grantPass b = grantPass s := halike.grantPass
    have hself : passAt (passGranted b n) n = some { grantPass s with n := n } := by rw [passGranted_passAt_self b hn, harg]
    have hother (m : Nat) (hm : m ≠ n) : passAt (passGranted b n) m = passAt s m := by rw [passGranted_passAt_other b hm, halike.passAt]
    obtain ⟨hdram, hlink⟩ := granted_within_commit hs (passes_add hn hfree hself hother)
    obtain ⟨hunits, -⟩ := hs.units
    rw [pasGrant_admitted hadm]
    refine ⟨hres, n, { grantPass s with n := n }, hn, hpass, hfree, hself, hother, hunits, hs.live, hs.unlocked, hs.calm,
      fun h2 => ⟨fun q hq hq2 hten => hq2 (hs.dram_alone hq hten h2), hdram h2⟩,
      fun h2 => ⟨fun q hq hq2 hport hten => hs.link_alone hq hten h2 ⟨hq2, hport.trans (if_pos h2)⟩, hlink h2⟩⟩
  · left
    rw [hend]
    refine ⟨fun n => ?_, by rw [(pasEnd_status t hr).1]; exact h0⟩
    rw [pasEnd_passAt, ← halike.passAt]
    exact passAt_congr fun hn => hregs _ (blockKey_pasPass hn)

end Sys2Proof.Machine
end

section
/-!
PROOF. What the pass commands and the channels' events do where they act (R345 to R350, R357, R358, R370, R374).
-/
namespace Sys2Proof.Machine

/-! ### MODIFY, REVOKE and the undefined OPs -/

/-- A pass with the units and the rank that PAS_CMD_ARG asks for. -/
def modifyArg (s : State) (p : Pass) : Pass := { p with units := bf (s.reg Ad.PAS_CMD_ARG) 31 20, rank := bf (s.reg Ad.PAS_CMD_ARG) 14 12 }

theorem PassAlike.modifyArg {s t : State} (h : PassAlike s t) (p : Pass) : modifyArg t p = Machine.modifyArg s p := by
  simp only [Machine.modifyArg, h.arg]

/-- A MODIFY that raises units or rank is judged by the lock and the ceiling, one that raises units by the commit limit too; one that
raises neither is not (R353, R357). -/
structure ModifyAdmitted (s : State) (p : Pass) : Prop where
  arg : passArgOk s (modifyArg s p) = true
  raises : p.units < (modifyArg s p).units ∨ p.rank < (modifyArg s p).rank → locked s 2 = false ∧ passCeiling s (modifyArg s p) = true
  grows : p.units < (modifyArg s p).units → s.pas.oc = false ∧ passFits s (modifyArg s p) ((modifyArg s p).units - p.units) = true

theorem ModifyAdmitted.of_alike {s t : State} {p : Pass} (h : PassAlike s t) (ha : ModifyAdmitted s p) : ModifyAdmitted t p := by
  constructor
  · rw [h.modifyArg, h.passArgOk, ha.arg]
  · rw [h.modifyArg, h.locked, h.passCeiling]; exact ha.raises
  · rw [h.modifyArg, h.passFits, h.pas]; exact ha.grows

theorem pasModify_admitted {s : State} {n : Nat} {p : Pass} (hp : passAt s n = some p) (hlive : tenantLive s p.tenant = true)
    (h : ModifyAdmitted s p) : pasModify s n = pasEnd (pasRecompute (s.setReg (Ad.PAS_PASS n) (passWord (modifyArg s p)))) 0 := by
  unfold pasModify
  rw [hp]
  dsimp -zeta only
  extract_lets a units rank q up raises s1
  have hraises : raises = true → locked s 2 = false ∧ passCeiling s q = true := fun hr => by
    rw [Bool.or_eq_true, decide_eq_true_eq, decide_eq_true_eq] at hr
    exact h.raises hr
  have hup : up = true → s.pas.oc = false ∧ passFits s p (units - p.units) = true := fun hu => h.grows (of_decide_eq_true hu)
  rw [if_neg (by simp [show passArgOk s q = true from h.arg]), if_neg fun hbad => ?lock, if_neg (by simp [hlive]), if_neg fun hbad => ?ceil,
    if_neg fun hbad => ?calm, if_neg fun hbad => ?fits]
  · rfl
  case lock =>
    obtain ⟨hlock, hr⟩ := Bool.and_eq_true_iff.mp hbad
    rw [(hraises hr).1] at hlock
    cases hlock
  case ceil =>
    obtain ⟨hr, hceil⟩ := Bool.and_eq_true_iff.mp hbad
    rw [(hraises hr).2] at hceil
    cases hceil
  case calm =>
    obtain ⟨hu, hoc⟩ := Bool.and_eq_true_iff.mp hbad
    rw [(hup hu).1] at hoc
    cases hoc
  case fits =>
    obtain ⟨hu, hfits⟩ := Bool.and_eq_true_iff.mp hbad
    rw [(hup hu).2] at hfits
    cases hfits

theorem pasRevoke_live {s : State} {n : Nat} {p : Pass} (hp : passAt s n = some p) (hlive : tenantLive s p.tenant = true) :
    pasRevoke s n = pasEnd (pasRecompute (s.setReg (Ad.PAS_PASS n) 0)) 0 := by
  unfold pasRevoke
  rw [hp]
  exact if_neg (by simp [hlive])

theorem pasCmd_badOp (s : State) {op : Nat} (n : Nat) (h : 3 < op) : pasCmd s op n = pasEnd s 1 := by
  unfold pasCmd
  repeat rw [if_neg (by omega)]

/-! ### The writes of PAS_CMD -/

section
variable {s : State} {src : Src} {pass : Nat} (ht : Takes s src Ad.PAS_CMD) (hpass : pass < 256)
include ht hpass

/-- A command whose OP and PASS fit their fields runs on a state that it finds like the one before the write. -/
theorem exec_pasOp {c : Instr} {op : Nat} (hop : op < 256)
    (hexec : exec c s = .next (finish s (rowWrite s src Ad.PAS_CMD (pasWord op pass)))) :
    ∃ b, Written Ad.PAS_CMD (pasCmdWord (s.reg Ad.PAS_CMD) op pass) s b ∧ PassAlike s b ∧
      exec c s = .next (finish s (pasCmd b op pass)) := by
  obtain ⟨b, hb, hw⟩ := rowWrite_pasCmd op pass ht
  rw [Nat.mod_eq_of_lt hop, Nat.mod_eq_of_lt hpass] at hb hw
  exact ⟨b, hb, .of_written hb, by rw [hexec, hw]⟩

theorem exec_grant {n : Nat} (h : GrantAdmitted s n) : ∃ b, Written Ad.PAS_CMD (pasCmdWord (s.reg Ad.PAS_CMD) 1 pass) s b ∧
    exec (.grant src pass) s = .next (finish s (pasEnd ((b.setReg (Ad.PAS_PASS n) (passWord (grantPass s))).setFld
      Ad.PAS_CMD_STATUS 7 0 n) 0)) := by
  obtain ⟨b, hb, halike, hrun⟩ := exec_pasOp ht hpass (c := .grant src pass) (op := 1) (by decide) rfl
  have hgrant : pasCmd b 1 pass = passGranted b n := pasGrant_admitted (h.of_alike halike)
  exact ⟨b, hb, by rw [hrun, hgrant, passGranted, halike.grantPass]⟩

section
variable {p : Pass} (hp : passAt s pass = some p) (hlive : tenantLive s p.tenant = true)
include hp hlive

theorem exec_modify (h : ModifyAdmitted s p) : ∃ b, Written Ad.PAS_CMD (pasCmdWord (s.reg Ad.PAS_CMD) 2 pass) s b ∧
    exec (.modify src pass) s = .next (finish s (pasEnd (pasRecompute (b.setReg (Ad.PAS_PASS pass) (passWord (modifyArg s p)))) 0)) := by
  obtain ⟨b, hb, halike, hrun⟩ := exec_pasOp ht hpass (c := .modify src pass) (op := 2) (by decide) rfl
  have hmodify : pasCmd b 2 pass = pasEnd (pasRecompute (b.setReg (Ad.PAS_PASS pass) (passWord (modifyArg b p)))) 0 :=
    pasModify_admitted ((halike.passAt pass).trans hp) ((halike.tenantLive (passAt_tenant_lt hp)).trans hlive) (h.of_alike halike)
  exact ⟨b, hb, by rw [hrun, hmodify, halike.modifyArg]⟩

theorem exec_revoke : ∃ b, Written Ad.PAS_CMD (pasCmdWord (s.reg Ad.PAS_CMD) 3 pass) s b ∧
    exec (.revoke src pass) s = .next (finish s (pasEnd (pasRecompute (b.setReg (Ad.PAS_PASS pass) 0)) 0)) := by
  obtain ⟨b, hb, halike, hrun⟩ := exec_pasOp ht hpass (c := .revoke src pass) (op := 3) (by decide) rfl
  have hrevoke : pasCmd b 3 pass = pasEnd (pasRecompute (b.setReg (Ad.PAS_PASS pass) 0)) 0 :=
    pasRevoke_live ((halike.passAt pass).trans hp) ((halike.tenantLive (passAt_tenant_lt hp)).trans hlive)
  exact ⟨b, hb, by rw [hrun, hrevoke]⟩

end

theorem exec_pasBadOp {op : Nat} (h3 : 3 < op) (hop : op < 256) : ∃ b, Written Ad.PAS_CMD (pasCmdWord (s.reg Ad.PAS_CMD) op pass) s b ∧
    exec (.pasBadOp src op pass) s = .next (finish s (pasEnd b 1)) := by
  obtain ⟨b, hb, -, hrun⟩ := exec_pasOp ht hpass (c := .pasBadOp src op pass) hop rfl
  exact ⟨b, hb, by rw [hrun, pasCmd_badOp b pass h3]⟩

end

/-! ### Training and the accelerated hour -/

/-- Channel `c` in training: what it takes is read from `s`, and `b` is `s` with DRC_CTRL written. -/
def drcTrainBegun (s b : State) (c : Nat) : State :=
  pasRecompute (setDrc { b with dram := s.dram.filter (fun e => chanOf s e.1 != c) } c (fun (d : DrcCh) => { d with
    mode := .training, bin := if s.fld (Ad.DRC_CFG c) 1 0 = 3 then 0 else s.fld (Ad.DRC_CFG c) 1 0,
    refAll := bit (s.reg (Ad.DRC_CFG c)) 2, epoch := d.epoch + 1, q := d.q.filter (fun x => !x.write), corr := [],
    scrubq := [], refDue := 0, drain := false }))

/-- TRAIN of a channel that is not in training. -/
theorem drcTrain_written {s b : State} {c : Nat} {v : Word} (hb : Written (Ad.DRC_CTRL c) v s b) (hc : c < nChans s)
    (hm : (drcCh s c).mode ≠ .training) : drcTrain b c = drcTrainBegun s b c := by
  obtain ⟨-, hreg, -, -, hrest⟩ := hb
  have hcfg : b.reg (Ad.DRC_CFG c) = s.reg (Ad.DRC_CFG c) := hreg _ (by simp only [Ad.DRC_CFG, Ad.DRC_CTRL]; omega)
  have hdram : b.dram = s.dram := by rw [hrest]
  have hchan : chanOf b = chanOf s := by rw [hrest]; rfl
  have hnew : ¬(nChans b ≤ c ∨ (drcCh b c).mode = .training) := by
    have hn : nChans b = nChans s := by rw [hrest]; rfl
    have hch : drcCh b c = drcCh s c := by rw [hrest]; rfl
    rw [hn, hch]
    rintro (h | h)
    · omega
    · exact hm h
  unfold drcTrain
  rw [if_neg hnew, State.fld, hcfg, hdram, hchan]
  rfl

theorem drcAccel_present {s : State} {c : Nat} (hc : c < nChans s) :
    drcAccel s c = pasRecompute (drcEvt (setDrc s c (fun (d : DrcCh) => { d with accel := true })) c 2) := if_neg (by omega)

/-- TRAIN written to DRC_CTRL (Table 9-17). -/
theorem exec_train {s : State} {src : Src} {c : Nat} (hc : c < nChans s) (ht : Takes s src (Ad.DRC_CTRL c)) (hm : (drcCh s c).mode ≠ .training) :
    ∃ b, Written (Ad.DRC_CTRL c) (s.reg (Ad.DRC_CTRL c)) s b ∧ exec (.train src c) s = .next (finish s (drcTrainBegun s b c)) := by
  have hc8 : c < 8 := Nat.lt_of_lt_of_le hc (nChans_le s)
  obtain ⟨b, hb, hw⟩ := rowWrite_drcCtrl hc8 ht
  have hexec : exec (.train src c) s = .next (finish s (rowWrite s src (Ad.DRC_CTRL (c % 8)) 1)) := rfl
  exact ⟨b, hb, by rw [hexec, Nat.mod_eq_of_lt hc8, hw, drcTrain_written hb hc hm]⟩

/-- ACCEL written to DRC_SCRUB, with the fields that it stages (Table 9-17). -/
theorem exec_accel {s : State} {src : Src} {c : Nat} (w : Word) (hc : c < nChans s) (ht : Takes s src (Ad.DRC_SCRUB c)) :
    ∃ b, exec (.accel src c w) s =
        .next (finish s (pasRecompute (drcEvt (setDrc b c (fun (d : DrcCh) => { d with accel := true })) c 2))) ∧ b.drc = s.drc ∧ b.dram = s.dram ∧
      bf (b.stg (Ad.DRC_SCRUB c)) 31 16 = bf w 31 16 ∧ bf (b.stg (Ad.DRC_SCRUB c)) 7 0 = bf w 7 0 := by
  have hc8 : c < 8 := Nat.lt_of_lt_of_le hc (nChans_le s)
  obtain ⟨b, hw, hlim, hper, hrest⟩ := rowWrite_drcScrub w hc8 ht
  have hexec : exec (.accel src c w) s = .next (finish s (rowWrite s src (Ad.DRC_SCRUB (c % 8)) (setBit w 8 true))) := rfl
  have hcb : c < nChans b := by rw [hrest]; exact hc
  exact ⟨b, by rw [hexec, Nat.mod_eq_of_lt hc8, hw, drcAccel_present hcb], by rw [hrest], by rw [hrest], hlim, hper⟩

/-! ### A channel's events -/

section
variable {s : State} {c : Nat}

theorem drcTrainDone_ready (mib : Nat) (h : (drcCh s c).mode = .training) : drcTrainDone s c true mib =
    pasRecompute ((setDrc s c (fun (d : DrcCh) => { d with mode := .ready, patrol := 0 })).setFld (Ad.DRC_CAP c) 15 0
      (min mib 16384 * 31 / 32)) := by
  simp [drcTrainDone, h]

theorem drcAccelEnd_on (h : (drcCh s c).accel = true) :
    drcAccelEnd s c = pasRecompute (setDrc s c (fun (d : DrcCh) => { d with accel := false })) := if_pos h

theorem drcRecal_ok : drcRecal s c true = s := if_neg (by simp)

theorem drcCorrect_cons {l : Nat} {t : List Nat} (h : (drcCh s c).corr = l :: t) (hup : drcUp s c = true) :
    drcCorrect s c = pcu 0x39 c 1 (overhead (setDrc s c (fun (d : DrcCh) => { d with corr := t })) 1) := by
  rw [drcCorrect, h]
  exact if_pos hup

section
variable (h : (drcCh s c).mode = .ready)
include h

theorem drcPoll_ready (rate : Nat) (hot : Bool) :
    drcPoll s c rate hot = pasRecompute
      (if hot && !(drcCh s c).hot then raise (drcEvt (setDrc s c (fun (d : DrcCh) => { d with ref := min rate 2, hot := hot })) c 4) 18 c
        else setDrc s c (fun (d : DrcCh) => { d with ref := min rate 2, hot := hot })) := if_neg (by simp [h])

theorem drcRefreshDue_ready : drcRefreshDue s c = setDrc s c (fun (d : DrcCh) => { d with refDue := d.refDue + 1 }) := if_pos h

/-- A refresh that can be postponed no further goes before every command (R348). -/
theorem drcIssue_must (hdue : 0 < (drcCh s c).refDue) :
    drcIssue s c true = pcu 0x3A c 1 (setDrc s c (fun (d : DrcCh) => { d with refDue := d.refDue - 1 })) := by
  unfold drcIssue
  rw [if_neg (by simp [h]), if_pos (by simp [hdue])]

theorem drcPatrol_latent {l : Nat} {t : List Nat} (hq : (drcCh s c).scrubq = l :: t) : drcPatrol s c 0 =
    pcu 0x38 c 1 (overhead (setDrc s c (fun (d : DrcCh) => { d with scrubq := t })) 1) := by
  unfold drcPatrol
  rw [if_neg (by simp [h])]
  simp [hq]

theorem drcPatrol_next (hq : (drcCh s c).scrubq = []) : drcPatrol s c 0 =
    pcu 0x38 c 1 (overhead (setDrc s c (fun (d : DrcCh) =>
      { d with patrol := (d.patrol + 1) % max 1 (s.fld (Ad.DRC_CAP c) 15 0 * 16384) })) 1) := by
  unfold drcPatrol
  rw [if_neg (by simp [h])]
  simp [hq]

end

/-! ### The queue of a channel that takes a command (R358) -/

/-- An update that changes a channel's queue by `g`, under which an empty queue stays empty. -/
theorem drcCh_setDrc_q {f : DrcCh → DrcCh} (g : List DrcCmd → List DrcCmd) (hg : g [] = []) (hf : ∀ d, (f d).q = g d.q) :
    (drcCh (setDrc s c f) c).q = g (drcCh s c).q := by
  by_cases hlt : c < s.drc.length
  · rw [drcCh_setDrc_self f hlt, hf]
  · have hoff (t : State) (h : ¬ c < t.drc.length) : (drcCh t c).q = [] := by
      rw [drcCh, List.getD_eq_default _ _ (by omega)]; rfl
    rw [hoff s hlt, hoff _ (by simpa [setDrc, upd] using hlt), hg]

theorem drcCh_pcu (ev q k : Nat) : drcCh (pcu ev q k s) c = drcCh s c := by rw [drcCh, (DramStays.pcu ev q k s).drc]; rfl

theorem drcCh_drcDrain_q : (drcCh (drcDrain s c) c).q = (drcCh s c).q := drcCh_setDrc_q id rfl (fun _ => rfl)

/-- The command taken leaves the queue. -/
theorem drcIssue_taken {x : DrcCmd} (h : (drcCh s c).mode = .ready) (hx : drcNext (drcDrain s c) c = some x) :
    ∀ y, y ∈ (drcCh (drcIssue s c false) c).q → y.n ≠ x.n := by
  unfold drcIssue
  rw [if_neg (by simp [h]), if_neg (by simp)]
  extract_lets s0
  rw [hx]
  dsimp -zeta only
  extract_lets sr s1 s2 s3
  have h2 : (drcCh s2 c).q = (drcCh s1 c).q.filter (fun y => y.n != x.n) := drcCh_setDrc_q _ rfl (fun _ => rfl)
  have h3 : (drcCh s3 c).q = (drcCh s2 c).q := drcCh_drcDrain_q
  have hissued : (drcCh (setDrc s3 c (fun (d : DrcCh) => { d with issued := d.issued ++ [x] })) c).q = (drcCh s3 c).q :=
    drcCh_setDrc_q id rfl (fun _ => rfl)
  have hgone : ∀ y, y ∈ (drcCh s3 c).q → y.n ≠ x.n := fun y hy => by
    rw [h3, h2, List.mem_filter, bne_iff_ne] at hy
    exact hy.2
  split
  · rwa [drcCh_pcu]
  · split
    · rwa [drcCh_pcu, hissued]
    · rwa [drcCh_pcu]

end

/-! ### The obligation -/

/-- Settles O40: a pass command is judged on a state like the one before its write, and a channel's event is judged by the channel. -/
theorem passAndDramCommandsAct : Obligations.PassAndDramCommandsAct := by
  unfold Obligations.PassAndDramCommandsAct
  intro s src pass op c mib rate hot w
  refine ⟨fun ht hpass => ?passes, fun hc ht hm => exec_train hc ht hm, fun hc ht => exec_accel w hc ht, fun hup => ?events⟩
  case passes =>
    intro B a
    refine ⟨?_, fun p hp hlive => ⟨?_, exec_revoke ht hpass hp hlive⟩, exec_pasBadOp ht hpass⟩
    · intro p n harg hlock hlive halone hentry hroom hceil hcalm hfits
      exact exec_grant ht hpass ⟨harg, hlock, hlive, samePass_any.mpr halone, hentry, hroom, hceil, hcalm, hfits⟩
    · intro q harg hraises hgrows
      exact exec_modify ht hpass hp hlive ⟨harg, hraises, hgrows⟩
  case events =>
    refine ⟨fun hm => ⟨next_onChan hup (drcTrainDone_ready mib hm), next_onChan hup (drcTrainDone_failed mib hm)⟩,
      fun hm => ⟨next_onChan hup (drcPoll_ready hm rate hot), next_onChan hup (drcRefreshDue_ready hm),
        fun hdue => next_onChan hup (drcIssue_must hm hdue), fun x hx => ⟨_, next_onChan hup rfl, drcIssue_taken hm hx⟩,
        fun l t hq => next_onChan hup (drcPatrol_latent hm hq), fun hq => next_onChan hup (drcPatrol_next hm hq)⟩,
      fun l t hq hu => next_onChan hup (drcCorrect_cons hq hu), next_onChan hup rfl, fun ha => next_onChan hup (drcAccelEnd_on ha),
      next_onChan hup drcRecal_ok, fun hu => next_onChan hup (drcRecal_failed hu)⟩

end Sys2Proof.Machine
end

section
/-!
PROOF. How the record core begins an instruction: random tagging touches the PCU alone (R645, R646), so that the instruction in progress
finds registers, memories and caches as they were.
-/
namespace Sys2Proof.Machine

/-! ### Random tagging -/

/-- The registers that random tagging changes. -/
def tagKeys : List Nat := [Ad.PCU_TAG_SEED, Ad.PCU_TAG_SKIP]

/-- Of the state only what random tagging changes differs: its registers and the PCU. -/
structure Tagged (s t : State) : Prop where
  regs : RegsBut tagKeys s t
  rest : t = { s with regs := t.regs, pcu := t.pcu }

namespace Tagged

theorem refl (s : State) : Tagged s s := ⟨.refl _ s, rfl⟩

theorem trans {s t u : State} (h1 : Tagged s t) (h2 : Tagged t u) : Tagged s u :=
  ⟨h1.regs.trans h2.regs, by rw [h2.rest, h1.rest]⟩

theorem ite {s t u : State} {p : Prop} [Decidable p] (ht : Tagged s t) (hu : Tagged s u) : Tagged s (if p then t else u) := by
  split
  · exact ht
  · exact hu

theorem setTag (s : State) (ha : Bool) (t : TagSt) : Tagged s (setTag s ha t) := ⟨.refl _ s, rfl⟩

theorem setSeed (s : State) (v : Word) : Tagged s (s.setReg Ad.PCU_TAG_SEED v) := ⟨.setReg s v (by decide), rfl⟩

theorem incSkip (s : State) : Tagged s (s.inc Ad.PCU_TAG_SKIP) := by
  refine ⟨inc_regsBut s (by decide), ?_⟩
  unfold State.inc
  split <;> rfl

/-- An item is no item, is tagged, waits, or advances the countdown. -/
theorem tagItem (ha : Bool) (kind flags id : Nat) (s : State) : Tagged s (tagItem ha kind flags id s) :=
  .ite (.refl s) (.ite (.ite (((setSeed s _).trans (.setTag _ ha _)).trans (.incSkip _)) ((setSeed s _).trans (.setTag _ ha _)))
    (.ite (.refl s) (.ite ((Tagged.setTag s ha _).trans (.incSkip _)) (.setTag s ha _))))

end Tagged

/-- While the record core's items are not sampled an item changes nothing. -/
theorem tagItem_off {s : State} (kind flags id : Nat) (h : bit (s.reg Ad.PCU_TAG_CFG) 30 = false) : tagItem false kind flags id s = s := by
  simp [tagItem, h]

/-! ### An instruction in progress -/

/-- `B` is `s` with the instruction `op` in progress, tagged where it is eligible. -/
structure Begun (op : RvOp) (s B : State) : Prop where
  regs : RegsBut tagKeys s B
  rest : B = { s with regs := B.regs, pcu := B.pcu, rc := { s.rc with cur := some op, dev := none, sbWait := false } }

theorem rvBegin_free {s : State} (op : RvOp) (h : rcFree s = true) : ∃ flags, rvBegin s op =
    setRc (tagItem false 1 flags s.rc.pc.toNat s) (fun c => { c with cur := some op, dev := none, sbWait := false }) :=
  ⟨_, if_neg (by simp [h])⟩

theorem rvBegin_begun {s : State} (op : RvOp) (h : rcFree s = true) : Begun op s (rvBegin s op) := by
  obtain ⟨flags, hB⟩ := rvBegin_free op h
  obtain ⟨hregs, hrest⟩ := Tagged.tagItem false 1 flags s.rc.pc.toNat s
  rw [hB]
  refine ⟨hregs, ?_⟩
  generalize tagItem false 1 flags s.rc.pc.toNat s = t at hrest
  rw [hrest]
  rfl

theorem rvRun_free {s : State} (op : RvOp) (h : rcFree s = true) : rvRun s op = rcTry false (rvBegin s op) := if_pos h

namespace Begun
section
variable {op : RvOp} {s B : State} (h : Begun op s B)
include h

theorem rc : B.rc = { s.rc with cur := some op, dev := none, sbWait := false } := by rw [h.rest]
theorem cur : B.rc.cur = some op := by rw [h.rc]
theorem dev : B.rc.dev = none := by rw [h.rc]
theorem pc : B.rc.pc = s.rc.pc := by rw [h.rc]
theorem sb : B.rc.sb = s.rc.sb := by rw [h.rc]
theorem dc : B.rc.dc = s.rc.dc := by rw [h.rc]
theorem x : B.rc.x = s.rc.x := by rw [h.rc]
theorem mach : B.rc.mach = s.rc.mach := by rw [h.rc]
theorem resv : B.rc.resv = s.rc.resv := by rw [h.rc]
theorem heldSnp : B.rc.heldSnp = s.rc.heldSnp := by rw [h.rc]
theorem fills : B.rc.fills = s.rc.fills := by rw [h.rc]
theorem flushing : B.rc.flushing = s.rc.flushing := by rw [h.rc]
theorem tcm : B.tcm = s.tcm := by rw [h.rest]
theorem ha : B.ha = s.ha := by rw [h.rest]

/-- The record core's own registers read as before. -/
theorem reg {k : Nat} (hk : k < 0x680000) : B.reg k = s.reg k := by
  have hge : ∀ j ∈ tagKeys, 0x680000 ≤ j := by decide
  exact h.regs k (fun hm => absurd (hge k hm) (by omega))

theorem rx (r : Nat) : rx B r = rx s r := by simp only [Machine.rx, h.x]

/-! #### What an access asks of the state -/

theorem dataMach : dataMach B = dataMach s := by rw [Machine.dataMach, h.rc]; rfl

theorem pmpOk (m : Bool) (a n perm : Nat) : pmpOk B m a n perm = pmpOk s m a n perm := by
  simp only [Machine.pmpOk, pmpGranule, pmpRange, h.rc]

theorem rgnBase {n : Nat} (hn : n < 16) : B.reg (Ad.RCC_RGN_BASE n) = s.reg (Ad.RCC_RGN_BASE n) :=
  h.reg (by simp only [Ad.RCC_RGN_BASE]; omega)

theorem rgnLimit {n : Nat} (hn : n < 16) : B.reg (Ad.RCC_RGN_LIMIT n) = s.reg (Ad.RCC_RGN_LIMIT n) :=
  h.reg (by simp only [Ad.RCC_RGN_LIMIT]; omega)

theorem rgnOf (a : Nat) : rgnOf B a = rgnOf s a := by
  have hfind : (List.range 16).find? (fun n => bit (B.reg (Ad.RCC_RGN_BASE n)) 0
        && decide (B.fld (Ad.RCC_RGN_BASE n) 31 12 ≤ a / 4096 ∧ a / 4096 ≤ B.fld (Ad.RCC_RGN_LIMIT n) 31 12)) =
      (List.range 16).find? (fun n => bit (s.reg (Ad.RCC_RGN_BASE n)) 0
        && decide (s.fld (Ad.RCC_RGN_BASE n) 31 12 ≤ a / 4096 ∧ a / 4096 ≤ s.fld (Ad.RCC_RGN_LIMIT n) 31 12)) :=
    List.find?_congr (fun n hn => by
      rw [State.fld, State.fld, h.rgnBase (List.mem_range.mp hn), h.rgnLimit (List.mem_range.mp hn)]
      rfl)
  unfold Machine.rgnOf
  rw [hfind]
  split
  · rfl
  · rename_i n hn
    rw [h.rgnBase (List.mem_range.mp (List.mem_of_find?_eq_some hn))]

theorem memKind (a : Nat) : memKind B a = memKind s a := by simp only [Machine.memKind, h.rgnOf]

theorem depth : B.depth = s.depth := congrArg (bf · 5 4) (h.regs Ad.CP_VALLEY (by decide))

theorem winOff : winOff B = winOff s := by
  rw [Machine.winOff, h.depth, h.regs Ad.TMM_CTRL (by decide), h.regs Ad.ISL_RC_CTRL (by decide)]
  rfl

theorem granule (a : Nat) : granule B a = granule s a := by simp only [Machine.granule, h.rgnOf]

theorem atomCheck (a : Nat) (load write : Bool) : atomCheck B a load write = atomCheck s a load write := by
  simp only [Machine.atomCheck, h.memKind, h.dataMach, h.pmpOk, h.winOff]

/-! #### What an access finds -/

theorem tcmBad (a n : Nat) : tcmBad B a n = tcmBad s a n := by rw [Machine.tcmBad, h.rc]; rfl

theorem tcmRead (a n : Nat) : tcmRead B a n = tcmRead s a n := by rw [Machine.tcmRead, h.tcm]; rfl

theorem rcLine (line : Nat) : rcLine B line = rcLine s line := by rw [Machine.rcLine, h.dc]; rfl

/-- A load that has just begun waits for no store but those it overlaps. -/
theorem loadFwd (a n : Nat) : loadFwd B a n = sbFwd s a n := by
  have hmode : modeS B = modeS s := by rw [modeS, h.reg (by decide)]; rfl
  have hbyte : sbByte B = sbByte s := funext (fun a => by rw [sbByte, h.sb]; rfl)
  have hwait : B.rc.sbWait = false := by rw [h.rc]
  rw [Machine.loadFwd, hwait, if_neg (by simp), sbFwd, hbyte, hmode]
  rfl

end
end Begun

/-! ### The store buffer drains first -/

theorem drainAll_nil {s : State} (h : s.rc.sb = []) : drainAll s = s := by
  simp [drainAll, drainLoop, h]

theorem drainedThen_nil {s : State} (f : State → State) (h : s.rc.sb = []) : drainedThen s f = f s := by
  simp [drainedThen, drainAll_nil h, h]

/-! ### What is in progress, tried -/

section
variable {s : State} (ret : Bool)

theorem rcTry_load {w rd rs1 ecc : Nat} {sg c : Bool} {imm : Int} (h : s.rc.cur = some (.load w sg rd rs1 imm c ecc)) :
    rcTry ret s = tryLoad s w sg rd rs1 imm c ecc ret := by
  simp only [rcTry, h]

theorem rcTry_store {w rs1 rs2 : Nat} {c : Bool} {imm : Int} (h : s.rc.cur = some (.store w rs1 rs2 imm c)) :
    rcTry ret s = tryStore s w rs1 rs2 imm c := by
  simp only [rcTry, h]

theorem rcTry_lr {rd rs1 ecc : Nat} (h : s.rc.cur = some (.lr rd rs1 ecc)) : rcTry ret s = tryLr s rd rs1 ecc := by
  simp only [rcTry, h]

theorem rcTry_sc {rd rs1 rs2 : Nat} {sp : Bool} (h : s.rc.cur = some (.sc rd rs1 rs2 sp)) : rcTry ret s = trySc s rd rs1 rs2 sp := by
  simp only [rcTry, h]

theorem rcTry_amo {f : AmoFn} {rd rs1 rs2 ecc : Nat} (h : s.rc.cur = some (.amo f rd rs1 rs2 ecc)) :
    rcTry ret s = tryAmo s f rd rs1 rs2 ecc := by
  simp only [rcTry, h]

theorem rcTry_fetch {wide : Bool} {ecc : Nat} (h : s.rc.cur = some (.fetch wide ecc)) : rcTry ret s = tryFetch s wide ecc := by
  simp only [rcTry, h]

variable (hsb : s.rc.sb = [])
include hsb

theorem rcTry_fence (h : s.rc.cur = some .fence) : rcTry ret s = retire s 4 := by
  simp only [rcTry, h, drainedThen_nil _ hsb]

theorem rcTry_fenceI (h : s.rc.cur = some .fenceI) : rcTry ret s = retire (setRc s (fun c => { c with ic := [] })) 4 := by
  simp only [rcTry, h, drainedThen_nil _ hsb]

theorem rcTry_mret (h : s.rc.cur = some .mret) : rcTry ret s = mretDo s := by
  simp only [rcTry, h, drainedThen_nil _ hsb]

theorem rcTry_wfi (h : s.rc.cur = some .wfi) : rcTry ret s = wfiDo s := by
  simp only [rcTry, h, drainedThen_nil _ hsb]

theorem rcTry_icStore {key : Nat} {w : Word} (h : s.rc.cur = some (.icStore key w)) :
    rcTry ret s = setRc (regWrite s .rc key none w).1 (fun c => { c with cur := none }) := by
  simp only [rcTry, h, drainedThen_nil _ hsb]

theorem rcTry_trap {cause : Nat} {tval epc : Word} (h : s.rc.cur = some (.trap cause tval epc)) :
    rcTry ret s = trapEnter s cause tval epc := by
  simp only [rcTry, h, drainedThen_nil _ hsb]

end

/-- A command that runs an instruction at once ends where that instruction leaves the state. -/
theorem next_run {s u : State} {op : RvOp} {f : State → State} (hclk : Clocked s 29) (hfree : rcFree s = true) (hf : f s = rvRun s op)
    (hu : rcTry false (rvBegin s op) = u) :
    (Host.Outcome.next (finish s (onIsl 29 f s)) : Host.Outcome State Fault Refusal) = .next (finish s u) :=
  next_onIsl hclk (hf.trans ((rvRun_free op hfree).trans hu))

/-! ### Integer instructions where the core may begin one -/

/-- A jump or branch that was mispredicted counts, and squashes the CX instructions behind it (R436). -/
def mispredicted (s : State) : Option Squash → State
  | none => s
  | some q => cxSquash (pcu 0x4A 0 1 s) q

/-- The length of an instruction, compressed or not. -/
def rvLen (c : Bool) : Nat := if c then 2 else 4

/-- The state in which an integer instruction acts: its item tagged where it is sampled. -/
def rvTagged (s : State) : State := tagItem false 1 0 s.rc.pc.toNat s

section
variable {s : State} (h : rcFree s = true) (c : Bool) (miss : Option Squash)
include h

theorem rvAlu_lui (rd u : Nat) : rvAlu s (.lui rd u) c miss = retire (setX (rvTagged s) rd (w32 (u * 4096))) (rvLen c) :=
  if_neg (by simp [h])

theorem rvAlu_auipc (rd u : Nat) :
    rvAlu s (.auipc rd u) c miss = retire (setX (rvTagged s) rd (s.rc.pc + w32 (u * 4096))) (rvLen c) :=
  if_neg (by simp [h])

theorem rvAlu_imm (f : AluFn) (rd rs1 : Nat) (v : Int) :
    rvAlu s (.imm f rd rs1 v) c miss = retire (setX (rvTagged s) rd (aluOp f (rx s rs1) (immW v))) (rvLen c) :=
  if_neg (by simp [h])

theorem rvAlu_reg (f : AluFn) (rd rs1 rs2 : Nat) :
    rvAlu s (.reg f rd rs1 rs2) c miss = retire (setX (rvTagged s) rd (aluOp f (rx s rs1) (rx s rs2))) (rvLen c) :=
  if_neg (by simp [h])

theorem rvAlu_jal (rd : Nat) (off : Int) : rvAlu s (.jal rd off) c miss =
    retireTo (mispredicted (setX (rvTagged s) rd (s.rc.pc + w32 (rvLen c))) miss) (s.rc.pc + immW off) :=
  (if_neg (by simp [h])).trans (by cases miss <;> rfl)

theorem rvAlu_jalr (rd rs1 : Nat) (off : Int) : rvAlu s (.jalr rd rs1 off) c miss =
    retireTo (mispredicted (setX (rvTagged s) rd (s.rc.pc + w32 (rvLen c))) miss) ((rx s rs1 + immW off) &&& ~~~(1 : Word)) :=
  (if_neg (by simp [h])).trans (by cases miss <;> rfl)

theorem rvAlu_branch (f : BrFn) (rs1 rs2 : Nat) (off : Int) : rvAlu s (.branch f rs1 rs2 off) c miss =
    retireTo (mispredicted (rvTagged s) miss) (if brOp f (rx s rs1) (rx s rs2) then s.rc.pc + immW off else s.rc.pc + w32 (rvLen c)) :=
  (if_neg (by simp [h])).trans (by cases miss <;> rfl)

theorem rvMulDiv_free (f : MulFn) (rd rs1 rs2 : Nat) :
    rvMulDiv s f rd rs1 rs2 = retire (setX (rvTagged s) rd (mulOp f (rx s rs1) (rx s rs2))) 4 :=
  if_neg (by simp [h])

end

end Sys2Proof.Machine
end

section
/-!
PROOF. What an instruction and a trap leave of a quiet device: the record core changes, and nothing follows (R377, R378, R394, R397, R398).
-/
namespace Sys2Proof.Machine

/-! ### The record core in a quiet device -/

theorem pcu_uncounted {s : State} (ev q k : Nat) (h : s.pcu.on = []) : pcu ev q k s = s := by
  simp [pcu, h]

theorem rcFree_cur {s : State} (h : rcFree s = true) : s.rc.cur = none := by
  simp only [rcFree, Bool.and_eq_true, Option.isNone_iff_eq_none] at h
  obtain ⟨-, hcur⟩ := h
  exact hcur

theorem rcFree_wfi {s : State} (h : rcFree s = true) : s.rc.wfi = false := by
  simp only [rcFree, rcLive, Bool.and_eq_true, Bool.not_eq_true'] at h
  obtain ⟨⟨⟨⟨-, hwfi⟩, -⟩, -⟩, -⟩ := h
  exact hwfi

/-- What a quiet device says of the blocks that an instruction of the record core may meet. -/
structure QuietCore (s : State) : Prop where
  effects : s.effects = []
  run : s.isl.phase = .run
  ha : haBusy s = false
  tmm : tmmBusy s = false
  chz : s.chz.q = []
  rc : rcBusy s = false
  uncounted : s.pcu.on = []

theorem quietCore {s : State} (h : Quiet s = true) : QuietCore s := by
  simp only [Quiet, Bool.and_eq_true, Bool.not_eq_true', List.isEmpty_iff, beq_iff_eq] at h
  obtain ⟨⟨⟨⟨⟨⟨⟨⟨⟨⟨⟨⟨⟨heff, hrun⟩, hha⟩, htmm⟩, hchz⟩, hrc⟩, -⟩, -⟩, -⟩, -⟩, -⟩, hon⟩, -⟩, -⟩ := h
  exact ⟨heff, hrun, hha, htmm, hchz, hrc, hon⟩

/-- Of the record core and Chisel only what they have in hand counts. -/
theorem quiet_of_rcBusy {s : State} {c : RcSt} {z : ChzSt} (h : Quiet s = true) (hz : z.q = s.chz.q)
    (hb : rcBusy { s with rc := c, chz := z } = false) : Quiet { s with rc := c, chz := z } = true := by
  simp only [Quiet, Bool.and_eq_true, Bool.not_eq_true'] at h ⊢
  obtain ⟨⟨⟨⟨⟨⟨⟨⟨⟨⟨⟨⟨⟨heff, hrun⟩, hha⟩, htmm⟩, hchz⟩, -⟩, hacq⟩, hlth⟩, hval⟩, hcp⟩, htap⟩, hon⟩, hisl⟩, hlev⟩ := h
  rw [← hz] at hchz
  exact ⟨⟨⟨⟨⟨⟨⟨⟨⟨⟨⟨⟨⟨heff, hrun⟩, hha⟩, htmm⟩, hchz⟩, hb⟩, hacq⟩, hlth⟩, hval⟩, hcp⟩, htap⟩, hon⟩, hisl⟩, hlev⟩

/-- A core out of WFI, with no instruction in progress and its memory side as it was, leaves the device quiet. -/
theorem quiet_core {s : State} {c : RcSt} {z : ChzSt} (h : Quiet s = true) (hz : z.q = s.chz.q) (hcur : c.cur = none) (hwfi : c.wfi = false)
    (hfl : c.flushing = s.rc.flushing) (hout : c.ewaOut = s.rc.ewaOut) (hsb : c.sb = s.rc.sb) :
    Quiet { s with rc := c, chz := z } = true := by
  have hrc := (quietCore h).rc
  simp only [rcBusy, Bool.or_eq_false_iff] at hrc
  obtain ⟨⟨⟨⟨⟨-, hflush⟩, hewa⟩, hsent⟩, hcon⟩, -⟩ := hrc
  refine quiet_of_rcBusy h hz ?_
  simp only [rcBusy, hcur, hwfi, hfl, hout, hsb, Option.isSome_none, Bool.false_and, Bool.false_or, Bool.or_false, Bool.or_eq_false_iff]
  exact ⟨⟨⟨hflush, hewa⟩, hsent⟩, hcon⟩

/-- A command that is an event of the record core's island ends where the event leaves the state, if that is quiet. -/
theorem next_core {s u : State} {f : State → State} (hclk : Clocked s 29) (hf : f s = u) (hq : Quiet u = true) (hp : u.pending = s.pending)
    (hv : u.variant = s.variant) :
    (Host.Outcome.next (finish s (onIsl 29 f s)) : Host.Outcome State Fault Refusal) = .next u := by
  rw [next_onIsl hclk hf, finish_quiet hq hp hv]

/-! ### Integer instructions -/

/-- Where an integer instruction leaves the device: x register `d` (none for 0), the pc, the retirement count, and Chisel's state `z`. -/
def stepped (s : State) (d : Nat) (v pc : Word) (z : ChzSt) : State :=
  { s with
    chz := z
    rc := { s.rc with
      x := if d = 0 then s.rc.x else upd s.rc.x d (fun _ => v), pc := pc, dev := none, sbWait := false, step1 := false,
      instret := if bit s.rc.mcountinhibit 2 then s.rc.instret else (s.rc.instret + 1) % 2 ^ 64 } }

/-- Chisel after the squash that a misprediction brought: the issue numbers of what was squashed are consumed (R436). -/
def squashed (z : ChzSt) : Option Squash → ChzSt
  | none => z
  | some q => { z with nextNo := (z.nextNo + min q.n 4) % 65536 }

/-- A squash of CX instructions that had read nothing, into an empty queue, leaves their issue numbers alone. -/
theorem cxSquash_unread {s : State} {q : Squash} (hq : s.chz.q = []) (hon : s.pcu.on = []) (hl : q.lines = []) :
    cxSquash s q = { s with chz := squashed s.chz (some q) } := by
  simp [cxSquash, squashed, pcu_uncounted, hon, hq, hl]

theorem mispredicted_unread {s : State} {miss : Option Squash} (hq : s.chz.q = []) (hon : s.pcu.on = [])
    (hl : ∀ q, miss = some q → q.lines = []) : mispredicted s miss = { s with chz := squashed s.chz miss } := by
  cases miss with
  | none => rfl
  | some q => rw [mispredicted, pcu_uncounted _ _ _ hon, cxSquash_unread hq hon (hl q rfl)]

@[simp] theorem setX_pcu (s : State) (r : Nat) (v : Word) : (setX s r v).pcu = s.pcu := by unfold setX; split <;> rfl
@[simp] theorem setX_chz (s : State) (r : Nat) (v : Word) : (setX s r v).chz = s.chz := by unfold setX; split <;> rfl
@[simp] theorem setX_pc (s : State) (r : Nat) (v : Word) : (setX s r v).rc.pc = s.rc.pc := by unfold setX; split <;> rfl

/-- A retirement that no counter counts. -/
theorem retireTo_uncounted {s : State} (pc : Word) (hon : s.pcu.on = []) :
    retireTo s pc = { s with rc := { s.rc with
      pc := pc, cur := none, dev := none, sbWait := false, step1 := false,
      instret := if bit s.rc.mcountinhibit 2 then s.rc.instret else (s.rc.instret + 1) % 2 ^ 64 } } :=
  pcu_uncounted _ _ _ hon

/-- x register `d` written, Chisel's state replaced, and the instruction retired. -/
theorem retireTo_setX {s : State} (d : Nat) (v pc : Word) (z : ChzSt) (hcur : s.rc.cur = none) (hon : s.pcu.on = []) :
    retireTo { setX s d v with chz := z } pc = stepped s d v pc z := by
  unfold setX stepped
  split <;> simp [retireTo_uncounted, setRc, hcur, hon]

section
variable {s : State} (hq : Quiet s = true) (hclk : Clocked s 29) (hfree : rcFree s = true)
include hq hclk hfree

/-- An event of the record core that leaves the device there ends there. -/
theorem next_stepped {f : State → State} {d : Nat} {v pc : Word} (miss : Option Squash) (hf : f s = stepped s d v pc (squashed s.chz miss)) :
    (Host.Outcome.next (finish s (onIsl 29 f s)) : Host.Outcome State Fault Refusal) = .next (stepped s d v pc (squashed s.chz miss)) := by
  have hquiet : Quiet (stepped s d v pc (squashed s.chz miss)) = true :=
    quiet_core hq (by cases miss <;> rfl) (rcFree_cur hfree) (rcFree_wfi hfree) rfl rfl rfl
  exact next_core hclk hf hquiet rfl rfl

variable (htag : bit (s.reg Ad.PCU_TAG_CFG) 30 = false)
include htag

/-- A jump or branch, mispredicted or not. -/
theorem next_jump {f : State → State} {d : Nat} {v pc : Word} {miss : Option Squash} (hl : ∀ q, miss = some q → q.lines = [])
    (hf : f s = retireTo (mispredicted (setX (rvTagged s) d v) miss) pc) :
    (Host.Outcome.next (finish s (onIsl 29 f s)) : Host.Outcome State Fault Refusal) = .next (stepped s d v pc (squashed s.chz miss)) := by
  obtain ⟨-, -, -, -, hchz, -, hon⟩ := quietCore hq
  refine next_stepped hq hclk hfree miss (hf.trans ?_)
  rw [rvTagged, tagItem_off _ _ _ htag, mispredicted_unread (by simpa using hchz) (by simpa using hon) hl, setX_chz]
  exact retireTo_setX d v pc _ (rcFree_cur hfree) hon

/-- An instruction that writes its result and goes on behind itself. -/
theorem next_retire {f : State → State} {d n : Nat} {v : Word} (hf : f s = retire (setX (rvTagged s) d v) n) :
    (Host.Outcome.next (finish s (onIsl 29 f s)) : Host.Outcome State Fault Refusal) = .next (stepped s d v (s.rc.pc + w32 n) s.chz) := by
  have hpc : (setX (rvTagged s) d v).rc.pc = s.rc.pc := by rw [setX_pc, rvTagged, tagItem_off _ _ _ htag]
  rw [retire, hpc] at hf
  exact next_jump hq hclk hfree htag (miss := none) nofun hf

end

/-- Settles O46: each of the instructions writes its result, squashes what a misprediction issued, and retires; a quiet device stays
so. -/
theorem integerInstructionsTouchRdAndPc : Obligations.IntegerInstructionsTouchRdAndPc := by
  unfold Obligations.IntegerInstructionsTouchRdAndPc
  intro s rd rs1 rs2 off v c miss hq hclk hfree htag hlines k Z R
  have hZ : Z = squashed s.chz miss := by cases miss <;> rfl
  have hR (d : Nat) (x pc : Word) (z : ChzSt) : { R d x pc with chz := z } = stepped s d x pc z := rfl
  rw [hR, hR, hZ]
  refine ⟨fun f => next_retire hq hclk hfree htag (rvAlu_reg hfree c miss f rd rs1 rs2),
    fun f => next_retire hq hclk hfree htag (rvAlu_imm hfree c miss f rd rs1 v),
    fun f => next_retire hq hclk hfree htag (rvMulDiv_free hfree f rd rs1 rs2),
    next_jump hq hclk hfree htag hlines (rvAlu_jal hfree c miss rd off),
    next_jump hq hclk hfree htag hlines (rvAlu_jalr hfree c miss rd rs1 off), fun f => ?_⟩
  rw [hR]
  exact next_jump hq hclk hfree htag hlines (d := 0) (rvAlu_branch hfree c miss f rs1 rs2 off)

end Sys2Proof.Machine
end

section
/-!
PROOF. A trap and MRET in a quiet device (R394, R397, R398): the trap is taken as soon as the core goes on, and nothing follows.
-/
namespace Sys2Proof.Machine

/-! ### An instruction in hand -/

/-- The record core with an instruction in hand, and nothing else changed. -/
def inHand (s : State) (op : RvOp) : State := { s with rc := { s.rc with cur := some op, dev := none, sbWait := false } }

theorem rvBegin_untagged {s : State} (op : RvOp) (h : rcFree s = true) (htag : bit (s.reg Ad.PCU_TAG_CFG) 30 = false) :
    rvBegin s op = inHand s op := by
  obtain ⟨flags, hB⟩ := rvBegin_free op h
  rw [hB, tagItem_off _ _ _ htag]
  rfl

/-! ### Traps -/

/-- Where a trap of an exception leaves the device (steps 3 to 5 of R398). -/
def trapped (s : State) (cause : Nat) (tval : Word) : State :=
  { s with rc := { s.rc with
      mepc := s.rc.pc &&& ~~~(1 : Word), mcause := w32 cause, mtval := tval,
      mstatus := setBf (setBf (setBf s.rc.mstatus 7 7 (bf s.rc.mstatus 3 3)) 3 3 0) 12 11 (if s.rc.mach then 3 else 0), mach := true,
      pc := s.rc.mtvec &&& ~~~(127 : Word), resv := none, dev := none, sbWait := false, step1 := false } }

/-- The handler of an exception is at BASE, whatever the mode of mtvec (R397). -/
theorem trapEnter_exception {s : State} {cause : Nat} (tval epc : Word) (hc : cause < 2 ^ 31) (hon : s.pcu.on = []) :
    trapEnter s cause tval epc = { s with rc := { s.rc with
      cur := none, dev := none, step1 := false, wfi := false, resv := none, mepc := epc &&& ~~~(1 : Word), mcause := w32 cause, mtval := tval,
      mstatus := setBf (setBf (setBf s.rc.mstatus 7 7 (bf s.rc.mstatus 3 3)) 3 3 0) 12 11 (if s.rc.mach then 3 else 0), mach := true,
      pc := s.rc.mtvec &&& ~~~(127 : Word) } } := by
  have hcount : pcu 0x4F 0 1 (loseRsv s) = loseRsv s := pcu_uncounted _ _ _ hon
  rw [trapEnter, hcount]
  dsimp only [setRc]
  split
  · omega
  · rw [add_zero]
    rfl

section
variable {s : State} (hq : Quiet s = true) (hfree : rcFree s = true)
include hq hfree

theorem trapped_quiet (cause : Nat) (tval : Word) : Quiet (trapped s cause tval) = true :=
  quiet_core (z := s.chz) hq rfl (rcFree_cur hfree) (rcFree_wfi hfree) rfl rfl rfl

variable (hsb : s.rc.sb = []) (htag : bit (s.reg Ad.PCU_TAG_CFG) 30 = false)
include hsb htag

/-- The trap of an exception is taken as soon as it is tried. -/
theorem rcTry_trapped {cause : Nat} (tval : Word) (hc : cause < 2 ^ 31) :
    rcTry false (rvBegin s (.trap cause tval s.rc.pc)) = trapped s cause tval := by
  obtain ⟨-, -, -, -, -, -, hon⟩ := quietCore hq
  rw [rvBegin_untagged _ hfree htag, rcTry_trap (s := inHand s _) false hsb rfl,
    trapEnter_exception (s := inHand s _) tval _ hc hon]
  simp only [trapped, inHand, rcFree_cur hfree, rcFree_wfi hfree]

end

/-! ### One round of progress -/

theorem blocksGo_of_quiet {s : State} (h : Quiet s = true) : blocksGo s = s := by
  simp only [Quiet, Bool.and_eq_true, Bool.not_eq_true'] at h
  obtain ⟨⟨⟨⟨⟨⟨⟨⟨⟨⟨⟨⟨⟨-, -⟩, hha⟩, htmm⟩, hchz⟩, hrc⟩, hacq⟩, hlth⟩, hval⟩, hcp⟩, htap⟩, -⟩, -⟩, -⟩ := h
  exact blocksGo_quiet hha htmm hchz hrc hacq hlth hval hcp htap

/-- Where one round of the blocks' own progress reaches a quiet state, a command ends there. -/
theorem finish_progress {s u v : State} (heff : u.effects = []) (hrun : u.isl.phase = .run) (hgo : blocksGo u = v) (hv : Quiet v = true)
    (hp : v.pending = s.pending) (hvar : v.variant = s.variant) : finish s u = v := by
  have hveff : v.effects = [] := (quietCore hv).effects
  have hgoes : goOn 3 (effectsRun u) = goOn 3 (effectsRun v) := by
    rw [effectsRun_nil heff, effectsRun_nil hveff, goOn_quiet 3 hveff (blocksGo_of_quiet hv)]
    show goOn 2 (effectsRun (blocksGo u)) = v
    rw [hgo, effectsRun_nil hveff, goOn_quiet 2 hveff (blocksGo_of_quiet hv)]
  have hfollow : follow s u = follow s v := by
    unfold follow
    dsimp only
    rw [hgoes, effectsRun_nil heff, effectsRun_nil hveff, hrun, (quietCore hv).run]
  rw [← finish_quiet (s0 := s) hv hp hvar, finish, hfollow, finish]

/-- Where only the record core has something in hand, and what it does leaves the device quiet, that is all that the blocks do. -/
theorem blocksGo_core {u : State} (hha : haBusy u = false) (htmm : tmmBusy u = false) (hchz : u.chz.q = []) (hrc : rcBusy u = true)
    (hv : Quiet (rcProgress u) = true) : blocksGo u = rcProgress u := by
  simp only [Quiet, Bool.and_eq_true, Bool.not_eq_true', Option.isNone_iff_eq_none] at hv
  obtain ⟨⟨⟨⟨⟨⟨⟨⟨⟨⟨⟨⟨⟨-, -⟩, -⟩, -⟩, -⟩, -⟩, hacq⟩, hlth⟩, hval⟩, hcp⟩, htap⟩, -⟩, -⟩, -⟩ := hv
  simp [blocksGo, hha, htmm, hchz, hrc, hacq, hlth, hval, hcp, htap]

/-! ### A trap that has fallen due -/

section
variable {s : State} (hq : Quiet s = true) (hclk : Clocked s 29) (hfree : rcFree s = true) (hsb : s.rc.sb = [])
  (htag : bit (s.reg Ad.PCU_TAG_CFG) 30 = false)
include hq hclk hfree hsb htag

/-- A core whose memory side is at rest goes on with the trap that is due alone. -/
theorem rcProgress_trapped {cause : Nat} (tval : Word) (hc : cause < 2 ^ 31) :
    rcProgress (rvBegin s (.trap cause tval s.rc.pc)) = trapped s cause tval := by
  have hrc := (quietCore hq).rc
  simp only [rcBusy, Bool.or_eq_false_iff, Bool.not_eq_false', List.isEmpty_iff] at hrc
  obtain ⟨⟨⟨⟨⟨-, hflush⟩, hewa⟩, -⟩, hcon⟩, -⟩ := hrc
  have htry := rcTry_trapped hq hfree hsb htag tval hc
  rw [rvBegin_untagged _ hfree htag] at htry ⊢
  have hrest : flushStep (ewaPoll (sbPoll (inHand s (.trap cause tval s.rc.pc)))) = inHand s (.trap cause tval s.rc.pc) := by
    simp [inHand, sbPoll, ewaPoll, flushStep, hsb, hewa, hflush]
  have hdrain : rcDrainHeld (trapped s cause tval) = trapped s cause tval := by
    have hfree25 : contained (trapped s cause tval) 25 = false := hcon
    simp [rcDrainHeld, hfree25]
  have hwake : wfiWake (trapped s cause tval) = trapped s cause tval := by
    have hwfi : (trapped s cause tval).rc.wfi = false := rcFree_wfi (s := s) hfree
    simp [wfiWake, hwfi]
  have hclkd : ¬((!(inHand s (.trap cause tval s.rc.pc)).running 29 || stalled (inHand s (.trap cause tval s.rc.pc)) 29) = true) := by
    obtain ⟨hrun, hstall⟩ := hclk
    simpa using ⟨hrun, hstall⟩
  rw [rcProgress, if_neg hclkd, hrest, htry, hdrain, hwake]

/-- A trap that has fallen due is taken before anything else happens. -/
theorem finish_trapBegun {cause : Nat} (tval : Word) (hc : cause < 2 ^ 31) :
    finish s (rvBegin s (.trap cause tval s.rc.pc)) = trapped s cause tval := by
  obtain ⟨heff, hrun, hha, htmm, hchz, -, -⟩ := quietCore hq
  have hquiet := trapped_quiet hq hfree cause tval
  have hgo := rcProgress_trapped hq hclk hfree hsb htag tval hc
  rw [rvBegin_untagged _ hfree htag] at hgo ⊢
  have hblocks : blocksGo (inHand s (.trap cause tval s.rc.pc)) = trapped s cause tval :=
    (blocksGo_core (u := inHand s _) hha htmm hchz rfl (by rw [hgo]; exact hquiet)).trans hgo
  exact finish_progress (u := inHand s _) heff hrun hblocks hquiet rfl rfl

/-- ECALL, EBREAK and an encoding that is none begin their trap, which is then taken. -/
theorem next_trapBegun {f : State → State} {cause : Nat} {tval : Word} (hc : cause < 2 ^ 31)
    (hf : f s = rvBegin s (.trap cause tval s.rc.pc)) :
    (Host.Outcome.next (finish s (onIsl 29 f s)) : Host.Outcome State Fault Refusal) = .next (trapped s cause tval) := by
  rw [next_onIsl hclk hf, finish_trapBegun hq hclk hfree hsb htag tval hc]

/-- MRET and WFI where they are illegal take their trap at once. -/
theorem next_trapRun {f : State → State} {cause : Nat} {tval : Word} (hc : cause < 2 ^ 31)
    (hf : f s = rvRun s (.trap cause tval s.rc.pc)) :
    (Host.Outcome.next (finish s (onIsl 29 f s)) : Host.Outcome State Fault Refusal) = .next (trapped s cause tval) :=
  next_core hclk (by rw [hf, rvRun_free _ hfree, rcTry_trapped hq hfree hsb htag tval hc]) (trapped_quiet hq hfree cause tval) rfl rfl

end

/-! ### MRET -/

/-- What MRET makes of mstatus: MIE from MPIE, MPIE 1, MPP user, and MPRV 0 on a return to user mode. -/
def mretStatus (m : Word) : Word :=
  let m1 := setBf (setBf (setBf m 3 3 (bf m 7 7)) 7 7 1) 12 11 0
  if bf m 12 11 = 3 then m1 else setBf m1 17 17 0

/-- Where MRET in machine mode leaves the device. -/
def returned (s : State) : State :=
  { s with rc := { s.rc with
      mstatus := mretStatus s.rc.mstatus, mach := bf s.rc.mstatus 12 11 == 3, pc := s.rc.mepc, resv := none, dev := none, sbWait := false,
      step1 := false, instret := if bit s.rc.mcountinhibit 2 then s.rc.instret else (s.rc.instret + 1) % 2 ^ 64 } }

theorem mretDo_uncounted {s : State} (hon : s.pcu.on = []) : mretDo s = { s with rc := { s.rc with
      mstatus := mretStatus s.rc.mstatus, mach := bf s.rc.mstatus 12 11 == 3, pc := s.rc.mepc, resv := none, cur := none, dev := none,
      sbWait := false, step1 := false, instret := if bit s.rc.mcountinhibit 2 then s.rc.instret else (s.rc.instret + 1) % 2 ^ 64 } } :=
  retireTo_uncounted _ hon

/-- MRET where it is legal, the store buffer empty. -/
theorem rvRun_mret {s : State} (hq : Quiet s = true) (hfree : rcFree s = true) (hsb : s.rc.sb = [])
    (htag : bit (s.reg Ad.PCU_TAG_CFG) 30 = false) : rvRun s .mret = returned s := by
  obtain ⟨-, -, -, -, -, -, hon⟩ := quietCore hq
  rw [rvRun_free _ hfree, rvBegin_untagged _ hfree htag, rcTry_mret (s := inHand s _) false hsb rfl,
    mretDo_uncounted (s := inHand s _) hon]
  simp only [returned, inHand, rcFree_cur hfree]
  rfl

/-- Settles O47: each of the traps is that of an exception at the pc, which a quiet device takes and is quiet again, and so is MRET's
return. -/
theorem trapEntryAndReturn : Obligations.TrapEntryAndReturn := by
  unfold Obligations.TrapEntryAndReturn
  intro s hq hclk hfree hsb _ htag m T
  refine ⟨next_trapBegun hq hclk hfree hsb htag (by split <;> omega) rfl, next_trapBegun hq hclk hfree hsb htag (by omega) rfl,
    fun bits hbits => next_trapBegun hq hclk hfree hsb htag (by omega) (if_neg (by simp [hbits])),
    fun hu => ⟨next_trapRun hq hclk hfree hsb htag (by omega) (if_neg (by simp [hu])),
      fun htw => next_trapRun hq hclk hfree hsb htag (by omega) (if_pos (by rw [hu]; exact htw))⟩,
    fun hm => next_core hclk (u := returned s) ?_ ?_ rfl rfl⟩
  · exact (if_pos hm).trans (rvRun_mret hq hfree hsb htag)
  · exact quiet_core (z := s.chz) hq rfl (rcFree_cur hfree) (rcFree_wfi hfree) rfl rfl rfl

end Sys2Proof.Machine
end

section
/-!
PROOF. What the integer, system and CSR instructions of the record core do where it may begin one (R377 to R380, R392, R396 to R398).
-/
namespace Sys2Proof.Machine

/-! ### CSRs -/

/-- What a CSR instruction writes, of the old value and its operand. -/
def csrNew (f : CsrFn) (old w : Word) : Word :=
  match f with
  | .rw => w
  | .rs => old ||| w
  | .rc => old &&& ~~~w

/-- A CSR that exists, is open to the mode, and is not read-only where it is written. -/
theorem rvCsr_open {s : State} {f : CsrFn} {n src : Nat} (imm : Bool) (rd : Nat) (hfree : rcFree s = true) (hr : csrReadable s n = true)
    (hw : n < 3072 ∨ (f ≠ .rw ∧ src % 32 = 0)) :
    let s1 := csrCapture (rvTagged s) n
    let old := csrValue s1 n
    rvCsr s f imm n rd src = setX (if f = .rw ∨ src % 32 ≠ 0 then
      csrWrite (retire s1 4) n (csrNew f old (if imm then w32 (src % 32) else rx s src)) else retire s1 4) rd old := by
  have hclosed : ¬((!csrReadable s n || ((f == .rw || src % 32 != 0) && decide (3072 ≤ n))) = true) := by
    rcases hw with hlt | ⟨hf, hsrc⟩
    · simp [hr, hlt]
    · simp [hr, hf, hsrc]
  refine (if_neg (by simp [hfree])).trans ((if_neg hclosed).trans ?_)
  cases f
  · rfl
  · by_cases h : src % 32 = 0 <;> simp [h, rvTagged, csrNew]
  · by_cases h : src % 32 = 0 <;> simp [h, rvTagged, csrNew]

/-! ### Fetches that are refused -/

/-- No half-word is fetched there: PMP refuses it, or it is neither TCM nor cacheable (R380). -/
def FetchRefused (s : State) (a : Nat) : Prop := pmpOk s s.rc.mach a 2 2 = false ∨ (memKind s a ≠ .tcm ∧ memKind s a ≠ .cached)

theorem fetchHalf_refused {s : State} {a : Nat} (ecc : Nat) (h : FetchRefused s a) : fetchHalf s a ecc = (trapHere s 1 (w32 a), false) := by
  unfold fetchHalf
  dsimp only
  split
  · rfl
  · rename_i hok
    have hkind : memKind s a ≠ .tcm ∧ memKind s a ≠ .cached := h.resolve_left (by simpa using hok)
    split
    · rename_i hk
      exact absurd hk hkind.1
    · rename_i hk
      exact absurd hk hkind.2
    · rfl

theorem fetchHalf_tcm {s : State} {a : Nat} (h : ¬FetchRefused s a) (hk : memKind s a = .tcm) (hb : tcmBad s a 2 = none) :
    fetchHalf s a 0 = (s, true) := by
  have hok : pmpOk s s.rc.mach a 2 2 = true := by simpa using fun hp => h (.inl hp)
  simp [fetchHalf, hok, hk, tcmCheck, hb]

theorem tryFetch_refused {s : State} (wide : Bool) (ecc : Nat) (h : FetchRefused s s.rc.pc.toNat) :
    tryFetch s wide ecc = trapHere s 1 s.rc.pc := by
  have hpc : w32 s.rc.pc.toNat = s.rc.pc := BitVec.ofNat_toNat ..
  simp only [tryFetch, fetchHalf_refused ecc h, hpc]

theorem tryFetch_refused_second {s : State} (h : fetchHalf s s.rc.pc.toNat 0 = (s, true))
    (h2 : FetchRefused s ((s.rc.pc.toNat + 2) % 2 ^ 32)) :
    tryFetch s true 0 = trapHere s 1 (w32 ((s.rc.pc.toNat + 2) % 2 ^ 32)) := by
  unfold tryFetch
  dsimp only
  rw [h]
  dsimp only
  rw [if_neg (by decide), fetchHalf_refused 0 h2]

theorem Begun.fetchRefused {op : RvOp} {s B : State} (h : Begun op s B) {a : Nat} : FetchRefused B a ↔ FetchRefused s a := by
  rw [FetchRefused, FetchRefused, h.mach, h.pmpOk, h.memKind]

/-! ### Interrupts -/

theorem rvInterrupt_due {s : State} {b : Nat} (sq : Squash) (hb : irqFirst s = some b) (hfw : fwRuns s = true) (hcon : contained s 25 = false)
    (hh : s.rc.halted = false) (hon : irqOn s = true) (hy : curYields s = true) :
    rvInterrupt s sq = trapDue (setRc (cxSquash s sq) (fun c => { c with wfi := false })) (2 ^ 31 + b) 0 s.rc.pc := by
  simp [rvInterrupt, hb, hfw, hcon, hh, hon, hy]

/-! ### The obligation -/

section
variable {s : State} (hclk : Clocked s 29) (hfree : rcFree s = true)
include hclk hfree

/-- FENCE, FENCE.I, MRET and WFI where they are legal, the store buffer empty. -/
theorem next_drained (hsb : s.rc.sb = []) :
    exec .fence s = .next (finish s (retire (rvBegin s .fence) 4)) ∧
    exec .fenceI s = .next (finish s (retire (setRc (rvBegin s .fenceI) (fun c => { c with ic := [] })) 4)) ∧
    (s.rc.mach = true → exec .mret s = .next (finish s (mretDo (rvBegin s .mret)))) ∧
    (s.rc.mach = true ∨ bit s.rc.mstatus 21 = false → exec .wfi s = .next (finish s (wfiDo (rvBegin s .wfi)))) := by
  have hB (op : RvOp) := rvBegin_begun op hfree
  have hBsb (op : RvOp) : (rvBegin s op).rc.sb = [] := (hB op).sb.trans hsb
  refine ⟨next_run hclk hfree rfl (rcTry_fence _ (hBsb _) (hB _).cur), next_run hclk hfree rfl (rcTry_fenceI _ (hBsb _) (hB _).cur),
    fun hm => next_run hclk hfree (if_pos hm) (rcTry_mret _ (hBsb _) (hB _).cur),
    fun hw => next_run hclk hfree (if_neg ?_) (rcTry_wfi _ (hBsb _) (hB _).cur)⟩
  rcases hw with h | h <;> simp [h]

end

/-- Settles O43: each instruction by its own equation, a refused fetch by the half-word that is refused, and the interrupt that is due. -/
theorem coreInstructionsAct : Obligations.CoreInstructionsAct := by
  unfold Obligations.CoreInstructionsAct
  intro s rd rs1 rs2 n ecc u off v c imm wide miss sq bits hclk
  refine ⟨fun hfree => ?_, fun b hb hfw hcon hh hon hy => next_onIsl hclk (rvInterrupt_due sq hb hfw hcon hh hon hy)⟩
  intro T k next J
  have hJ : J = (mispredicted · miss) := by cases miss <;> rfl
  rw [hJ]
  refine ⟨next_onIsl hclk (rvAlu_lui hfree c miss rd u), next_onIsl hclk (rvAlu_auipc hfree c miss rd u),
    next_onIsl hclk (rvAlu_jal hfree c miss rd off), next_onIsl hclk (rvAlu_jalr hfree c miss rd rs1 off),
    fun f => next_onIsl hclk (rvAlu_branch hfree c miss f rs1 rs2 off),
    fun f => ⟨next_onIsl hclk (rvAlu_imm hfree c miss f rd rs1 v), next_onIsl hclk (rvAlu_reg hfree c miss f rd rs1 rs2)⟩,
    fun f => next_onIsl hclk (rvMulDiv_free hfree f rd rs1 rs2),
    fun f hr hw => next_onIsl hclk (rvCsr_open imm rd hfree hr hw), next_drained hclk hfree, next_onIsl hclk rfl, next_onIsl hclk rfl,
    fun hbits => next_onIsl hclk (if_neg (by simp [hbits])), fun h => ?_, fun h1 hk hbad h2 => ?_⟩
  · have hB := rvBegin_begun (.fetch wide ecc) hfree
    rw [← hB.pc] at h ⊢
    exact next_run hclk hfree rfl ((rcTry_fetch _ hB.cur).trans (tryFetch_refused wide ecc (hB.fetchRefused.mpr h)))
  · have hB := rvBegin_begun (.fetch true 0) hfree
    rw [← hB.pc] at h1 hk hbad h2 ⊢
    have hhalf := fetchHalf_tcm (s := rvBegin s (.fetch true 0)) (fun h => h1 (hB.fetchRefused.mp h)) ((hB.memKind _).trans hk) ((hB.tcmBad _ _).trans hbad)
    exact next_run hclk hfree rfl ((rcTry_fetch _ hB.cur).trans (tryFetch_refused_second hhalf (hB.fetchRefused.mpr h2)))

end Sys2Proof.Machine
end

section
/-!
PROOF. The record core's accesses where they act (R380 to R395): loads, stores and atomics of TCM, of held lines and of IC space.
-/
namespace Sys2Proof.Machine

/-! ### Lines and TCM words that may be read -/

/-- A held line without poison, in E or M where that is asked for, is what an access finds. -/
theorem lineFor_held {s : State} {a : Nat} {l : RcLine} {own : Bool} (cause ev : Nat) (ret : Bool) (hfill : winLine a ∉ s.rc.fills)
    (hl : rcLine s (winLine a) = some l) (hpoison : l.poison = none) (hwb : l.wb = false) (hown : own = true → l.st = 2 ∨ l.st = 3) :
    lineFor s a cause ev own ret = .have_ l s := by
  have hst : ¬(own = true ∧ l.st ≠ 2 ∧ l.st ≠ 3) := fun ⟨ho, h2, h3⟩ => (hown ho).elim h2 h3
  simp [lineFor, hfill, hl, hpoison, hwb, hst]

theorem tcmCheck_good {s : State} {a n : Nat} (h : tcmBad s a n = none) : tcmCheck s a n 0 = (s, true) := by
  simp [tcmCheck, h]

/-! ### Loads -/

section
variable {s : State} {a w rd rs1 : Nat} {imm : Int} (sg c ret : Bool) (ha : (rx s rs1 + immW imm).toNat = a) (hdev : s.rc.dev = none)
  (hpmp : pmpOk s (dataMach s) a w 0 = true) (hal : a % w = 0)
include ha hdev hpmp hal

theorem tryLoad_tcm (hk : memKind s a = .tcm) (hfwd : loadFwd s a w = .clear) (hbad : tcmBad s a w = none) :
    tryLoad s w sg rd rs1 imm c 0 ret = retire (setX s rd (loadExt w sg (ofBytesLE (tcmRead s a w)))) (rvLen c) := by
  simp [tryLoad, ha, hdev, hpmp, hk, hal, hfwd, tcmCheck_good hbad, rvLen]

theorem tryLoad_line {l : RcLine} (hk : memKind s a = .cached) (hwin : winOff s = false) (hfl : s.rc.flushing = false)
    (hfwd : loadFwd s a w = .clear) (hfill : winLine a ∉ s.rc.fills) (hl : rcLine s (winLine a) = some l) (hpoison : l.poison = none)
    (hwb : l.wb = false) :
    tryLoad s w sg rd rs1 imm c 0 ret = retire (setX s rd (loadExt w sg (lineNum l.data (a % 64) w))) (rvLen c) := by
  have hline := lineFor_held (own := false) 5 0x4B ret hfill hl hpoison hwb nofun
  simp [tryLoad, ha, hdev, hpmp, hk, hal, hwin, winWaits, hfl, hfwd, hline, rvLen]

theorem tryLoad_forwarded {v : Nat} (hk : memKind s a = .cached) (hwin : winOff s = false) (hfl : s.rc.flushing = false)
    (hfwd : loadFwd s a w = .hit v) : tryLoad s w sg rd rs1 imm c 0 ret = retire (setX s rd (loadExt w sg v)) (rvLen c) := by
  simp [tryLoad, ha, hdev, hpmp, hk, hal, hwin, winWaits, hfl, hfwd, rvLen]

theorem tryLoad_ic {t : State} {v : Word} (hk : memKind s a = .ic) (hw : w = 4) (hsb : s.rc.sb = [])
    (hic : icLoad s (a - 0xC0000000) = .done t v) :
    tryLoad s w sg rd rs1 imm c 0 ret = retire (setX t rd (loadExt w sg v.toNat)) (rvLen c) := by
  subst hw
  simp [tryLoad, ha, hdev, hpmp, hk, hal, drainAll_nil hsb, hsb, hic, rvLen]

end

/-! ### Stores -/

/-- A store buffer with an entry free takes a store. -/
theorem sbPut_free {s : State} (a n v kind : Nat) (ewa : Bool) (h : s.rc.sb.length < 8) : ∃ t, sbPut s a n v kind ewa = some t := by
  unfold sbPut
  dsimp only
  split
  · exact ⟨_, rfl⟩
  · exact ⟨_, if_neg (by omega)⟩

section
variable {s : State} {a w rs1 rs2 : Nat} {imm : Int} (c : Bool) (ha : (rx s rs1 + immW imm).toNat = a) (hdev : s.rc.dev = none)
  (hpmp : pmpOk s (dataMach s) a w 1 = true) (hal : a % w = 0)
include ha hdev hpmp hal

theorem tryStore_tcm {t : State} (hk : memKind s a = .tcm) (hput : sbPut s a w (rx s rs2).toNat 0 false = some t) :
    tryStore s w rs1 rs2 imm c = retire t (rvLen c) := by
  simp [tryStore, ha, hdev, hpmp, hk, hal, hput, rvLen]

theorem tryStore_cached {t : State} (hk : memKind s a = .cached) (hwin : winOff s = false) (hfl : s.rc.flushing = false)
    (hput : sbPut s a w (rx s rs2).toNat 1 false = some t) : tryStore s w rs1 rs2 imm c = retire t (rvLen c) := by
  simp [tryStore, ha, hdev, hpmp, hk, hal, hwin, winWaits, hfl, hput, rvLen]

theorem tryStore_ic {t : State} {x : Word} (hk : memKind s a = .ic) (hw : w = 4) (hsb : s.rc.sb = [])
    (hic : icStore s .rc (a - 0xC0000000) (w32 (rx s rs2).toNat) = .done t x) : tryStore s w rs1 rs2 imm c = retire t (rvLen c) := by
  subst hw
  simp [tryStore, ha, hdev, hpmp, hk, hal, drainAll_nil hsb, hsb, hic, rvLen]

end

/-! ### Atomics -/

/-- The word that an atomic works on can be read: in TCM without an error, or in a line held in E or M without poison. -/
def AtomWord (s : State) (a : Nat) (v : Word) : Prop :=
  (inTcm a = true ∧ tcmBad s a 4 = none ∧ v = w32 (ofBytesLE (tcmRead s a 4))) ∨
    (inTcm a = false ∧ s.rc.flushing = false ∧ ¬ winLine a ∈ s.rc.fills ∧ ∃ l, rcLine s (winLine a) = some l ∧ l.poison = none ∧
      l.wb = false ∧ (l.st = 2 ∨ l.st = 3) ∧ v = w32 (lineNum l.data (a % 64) 4))

theorem atomWord_found {s : State} {a : Nat} {v : Word} (cause : Nat) (f : State → Word → State) (h : AtomWord s a v) :
    atomWord s a cause 0 f = f s v := by
  rcases h with ⟨htcm, hbad, rfl⟩ | ⟨htcm, hfl, hfill, l, hl, hpoison, hwb, hst, rfl⟩
  · simp [atomWord, htcm, tcmCheck_good hbad]
  · have hline := lineFor_held (own := true) cause 0x4B true hfill hl hpoison hwb (fun _ => hst)
    simp [atomWord, htcm, winWaits, hfl, hline]

theorem Begun.atomWord {op : RvOp} {s B : State} (h : Begun op s B) {a : Nat} {v : Word} : AtomWord B a v ↔ AtomWord s a v := by
  simp only [AtomWord, h.tcmBad, h.tcmRead, h.flushing, h.fills, h.rcLine]

section
variable {s : State} {a rs1 : Nat} (ha : (rx s rs1).toNat = a)
include ha

/-- An atomic that may not reach its address begins its trap. -/
theorem tryLr_refused (rd ecc : Nat) (hc : atomCheck s a true false ≠ 0) :
    tryLr s rd rs1 ecc = trapHere s (atomCheck s a true false) (w32 a) := by
  simp [tryLr, ha, hc]

theorem trySc_refused (rd rs2 : Nat) (sp : Bool) (hc : atomCheck s a false false ≠ 0) :
    trySc s rd rs1 rs2 sp = trapHere s (atomCheck s a false false) (w32 a) := by
  simp [trySc, ha, hc]

theorem tryAmo_refused (f : AmoFn) (rd rs2 ecc : Nat) (hc : atomCheck s a false true ≠ 0) :
    tryAmo s f rd rs1 rs2 ecc = trapHere s (atomCheck s a false true) (w32 a) := by
  simp [tryAmo, ha, hc]

variable (hsb : s.rc.sb = [])
include hsb

/-- LR returns its word and reserves its granule, the snoops that an earlier one delayed answered. -/
theorem tryLr_reserves {v : Word} (rd : Nat) (hc : atomCheck s a true false = 0) (hv : AtomWord (releaseHold s) a v) :
    tryLr s rd rs1 0 = retire (setX (setRc (releaseHold s) (fun c =>
      { c with resv := some (granule (releaseHold s) a), lrHold := some (granule (releaseHold s) a) })) rd v) 4 := by
  simp [tryLr, ha, hc, drainAll_nil hsb, hsb, atomWord_found _ _ hv]

/-- SC with the reservation of its granule stores its word and writes 0. -/
theorem trySc_stores {v : Word} (rd rs2 : Nat) (hc : atomCheck s a false false = 0) (hr : s.rc.resv = some (granule s a))
    (hv : AtomWord s a v) :
    trySc s rd rs1 rs2 false = retire (setX (releaseHold (loseRsv (atomPut s a (rx s rs2)))) rd 0) 4 := by
  rcases hv with ⟨htcm, -, -⟩ | ⟨htcm, hfl, hfill, l, hl, hpoison, hwb, hst, -⟩
  · simp [trySc, ha, hc, drainAll_nil hsb, hsb, hr, htcm]
  · have hline := lineFor_held (own := true) 7 0x4B true hfill hl hpoison hwb (fun _ => hst)
    simp [trySc, ha, hc, drainAll_nil hsb, hsb, hr, htcm, winWaits, hfl, hline]

/-- SC without the reservation of its granule stores nothing and writes 1. -/
theorem trySc_fails (rd rs2 : Nat) (hc : atomCheck s a false false = 0) (hr : s.rc.resv ≠ some (granule s a)) :
    trySc s rd rs1 rs2 false = pcu 0x50 0 1 (retire (setX (releaseHold (loseRsv s)) rd 1) 4) := by
  simp [trySc, ha, hc, drainAll_nil hsb, hsb, hr]

/-- An AMO stores its result and returns the old word. -/
theorem tryAmo_stores {v : Word} (f : AmoFn) (rd rs2 : Nat) (hc : atomCheck s a false true = 0) (hv : AtomWord s a v) :
    tryAmo s f rd rs1 rs2 0 = retire (setX (atomPut s a (amoOp f v (rx s rs2))) rd v) 4 := by
  simp [tryAmo, ha, hc, drainAll_nil hsb, hsb, atomWord_found _ _ hv]

end

end Sys2Proof.Machine
end

section
/-!
PROOF. Atomics that do not reach their word (R393, R394): an SC without its reservation, and the traps of an address that is out of reach.
-/
namespace Sys2Proof.Machine

/-! ### What a count, a retirement and a register write leave -/

@[simp] theorem pcu_rc (ev q k : Nat) (s : State) : (pcu ev q k s).rc = s.rc := by rw [eq_of_maskRep (maskRep_pcu ev q k s)]
@[simp] theorem pcu_tcm (ev q k : Nat) (s : State) : (pcu ev q k s).tcm = s.tcm := by rw [eq_of_maskRep (maskRep_pcu ev q k s)]
@[simp] theorem pcu_ha (ev q k : Nat) (s : State) : (pcu ev q k s).ha = s.ha := by rw [eq_of_maskRep (maskRep_pcu ev q k s)]

@[simp] theorem retireTo_tcm (s : State) (pc : Word) : (retireTo s pc).tcm = s.tcm := pcu_tcm ..
@[simp] theorem retireTo_ha (s : State) (pc : Word) : (retireTo s pc).ha = s.ha := pcu_ha ..
@[simp] theorem retireTo_rc (s : State) (pc : Word) : (retireTo s pc).rc = { s.rc with
    pc := pc, cur := none, dev := none, sbWait := false, step1 := false,
    instret := if bit s.rc.mcountinhibit 2 then s.rc.instret else (s.rc.instret + 1) % 2 ^ 64 } := pcu_rc ..

@[simp] theorem setX_tcm (s : State) (r : Nat) (v : Word) : (setX s r v).tcm = s.tcm := by unfold setX; split <;> rfl
@[simp] theorem setX_ha (s : State) (r : Nat) (v : Word) : (setX s r v).ha = s.ha := by unfold setX; split <;> rfl
@[simp] theorem setX_dc (s : State) (r : Nat) (v : Word) : (setX s r v).rc.dc = s.rc.dc := by unfold setX; split <;> rfl
@[simp] theorem setX_sb (s : State) (r : Nat) (v : Word) : (setX s r v).rc.sb = s.rc.sb := by unfold setX; split <;> rfl
@[simp] theorem setX_resv (s : State) (r : Nat) (v : Word) : (setX s r v).rc.resv = s.rc.resv := by unfold setX; split <;> rfl

theorem rx_congr {s t : State} (h : t.rc.x = s.rc.x) (r : Nat) : rx t r = rx s r := by simp only [rx, h]

/-- An x register that there is, x0 apart, reads back what is written. -/
theorem rx_setX_self {s : State} {r : Nat} (v : Word) (h : r ≠ 0) (hr : r < s.rc.x.length) : rx (setX s r v) r = v := by
  simp [rx, setX, setRc, upd, h, hr, List.getD_eq_getElem?_getD]

theorem rx_setX_ne {s : State} {r d : Nat} (v : Word) (h : r ≠ d) : rx (setX s d v) r = rx s r := by
  unfold setX
  split
  · rfl
  · simp [rx, setRc, upd, List.getD_eq_getElem?_getD, List.getElem?_modify_ne _ _ h.symm]

theorem releaseHold_none {s : State} (h : s.rc.heldSnp = []) : releaseHold s = setRc s (fun c => { c with lrHold := none, heldSnp := [] }) := by
  simp [releaseHold, h]

/-! ### SC without the reservation -/

/-- Where a failing SC leaves the device, no snoop being delayed. -/
def scFailed (s : State) (rd : Nat) : State := pcu 0x50 0 1 (retire (setX (releaseHold (loseRsv s)) rd 1) 4)

section
variable {s : State} (hheld : s.rc.heldSnp = []) (rd : Nat)
include hheld

theorem scFailed_memory : (scFailed s rd).tcm = s.tcm ∧ (scFailed s rd).rc.dc = s.rc.dc ∧ (scFailed s rd).rc.sb = s.rc.sb ∧
    (scFailed s rd).ha = s.ha ∧ (scFailed s rd).rc.resv = none := by
  rw [scFailed, releaseHold_none (s := loseRsv s) hheld]
  simp [retire, setRc, loseRsv]

theorem scFailed_pc : (scFailed s rd).rc.pc = s.rc.pc + 4 := by
  rw [scFailed, releaseHold_none (s := loseRsv s) hheld]
  simp [retire, setRc, loseRsv, w32]

theorem scFailed_rx (r : Nat) : rx (scFailed s rd) r = rx (setX s rd 1) r := by
  refine rx_congr ?_ r
  rw [scFailed, releaseHold_none (s := loseRsv s) hheld]
  unfold setX
  split <;> simp [retire, setRc, loseRsv]

end

/-! ### An address out of reach -/

/-- An address that no atomic reaches: misaligned, or neither TCM nor in a cacheable region of a usable window (R393). -/
def OutOfReach (s : State) (a : Nat) : Prop := a % 4 ≠ 0 ∨ (memKind s a ≠ .tcm ∧ (memKind s a ≠ .cached ∨ winOff s = true))

/-- Its cause (Table 10-7): misaligned of its kind, or else access fault of its kind. -/
theorem atomCheck_outOfReach {s : State} {a : Nat} (load write : Bool) (h : OutOfReach s a) : atomCheck s a load write =
    if load then (if a % 4 ≠ 0 then 4 else 5) else (if a % 4 ≠ 0 then 6 else 7) := by
  by_cases hal : a % 4 = 0
  · obtain ⟨htcm, hwin⟩ := h.resolve_left (not_not_intro hal)
    have hcached : ¬(memKind s a = .cached ∧ winOff s = false) := fun ⟨hk, ho⟩ => hwin.elim (fun hne => hne hk) (by simp [ho])
    simp [atomCheck, hal, htcm, hcached]
  · simp [atomCheck, hal]

/-- A trap that falls due touches the instruction in hand alone. -/
theorem Begun.trapHere {op : RvOp} {s B : State} (h : Begun op s B) (cause : Nat) (tval : Word) :
    let u := trapHere B cause tval
    u.rc.cur = some (.trap cause tval s.rc.pc) ∧ u.rc.x = s.rc.x ∧ u.rc.pc = s.rc.pc ∧ u.tcm = s.tcm ∧ u.rc.dc = s.rc.dc ∧
      u.rc.resv = s.rc.resv := by
  simp [Machine.trapHere, trapDue, setRc, h.rc, h.tcm]

/-- LR, SC and AMO at an address out of reach begin the trap of their kind. -/
theorem exec_atomic_outOfReach {s : State} {rd rs1 rs2 a x : Nat} {f : AmoFn} {c : Instr} (hclk : Clocked s 29) (hfree : rcFree s = true)
    (ha : (rx s rs1).toNat = a) (h : OutOfReach s a)
    (hc : (c, x) ∈ ([(.lr rd rs1 0, if a % 4 ≠ 0 then 4 else 5), (.sc rd rs1 rs2 false, if a % 4 ≠ 0 then 6 else 7),
      (.amo f rd rs1 rs2 0, if a % 4 ≠ 0 then 6 else 7)] : List (Instr × Nat))) :
    ∃ op B, Begun op s B ∧ exec c s = .next (finish s (trapHere B x (w32 a))) := by
  have hB (op : RvOp) := rvBegin_begun op hfree
  have haB (op : RvOp) : (rx (rvBegin s op) rs1).toNat = a := by rw [(hB op).rx, ha]
  have hcause (op : RvOp) (load write : Bool) := ((hB op).atomCheck a load write).trans (atomCheck_outOfReach load write h)
  have hne (p q : Nat) (hp : p ≠ 0) (hq : q ≠ 0) : (if a % 4 ≠ 0 then p else q) ≠ 0 := by split <;> assumption
  simp only [List.mem_cons, List.not_mem_nil, or_false, Prod.mk.injEq] at hc
  rcases hc with ⟨rfl, rfl⟩ | ⟨rfl, rfl⟩ | ⟨rfl, rfl⟩
  · have hx := hcause (.lr rd rs1 0) true false
    exact ⟨_, _, hB _, next_run hclk hfree rfl ((rcTry_lr _ (hB _).cur).trans
      (by rw [tryLr_refused (haB _) rd 0 (by rw [hx]; exact hne 4 5 (by decide) (by decide)), hx]; rfl))⟩
  · have hx := hcause (.sc rd rs1 rs2 false) false false
    exact ⟨_, _, hB _, next_run hclk hfree rfl ((rcTry_sc _ (hB _).cur).trans
      (by rw [trySc_refused (haB _) rd rs2 false (by rw [hx]; exact hne 6 7 (by decide) (by decide)), hx]; rfl))⟩
  · have hx := hcause (.amo f rd rs1 rs2 0) false true
    exact ⟨_, _, hB _, next_run hclk hfree rfl ((rcTry_amo _ (hB _).cur).trans
      (by rw [tryAmo_refused (haB _) f rd rs2 0 (by rw [hx]; exact hne 6 7 (by decide) (by decide)), hx]; rfl))⟩

/-- Settles O48: an SC without its reservation fails on the state it begins in, and an address out of reach begins a trap before any
access. -/
theorem atomicsAreGuarded : Obligations.AtomicsAreGuarded := by
  unfold Obligations.AtomicsAreGuarded
  intro s rd rs1 rs2 f hclk hfree hsb a
  refine ⟨fun hc hr hheld => ?_, fun h c x hx => ?_⟩
  · have hB := rvBegin_begun (.sc rd rs1 rs2 false) hfree
    have hexec := next_run hclk hfree (op := .sc rd rs1 rs2 false) (f := fun s => rvRun s (.sc rd rs1 rs2 false)) rfl ((rcTry_sc _ hB.cur).trans
      (trySc_fails (congrArg BitVec.toNat (hB.rx rs1)) (hB.sb.trans hsb) rd rs2 ((hB.atomCheck ..).trans hc) (by rwa [hB.resv, hB.granule])))
    have hBheld := hB.heldSnp.trans hheld
    obtain ⟨htcm, hdc, hbuf, hha, hresv⟩ := scFailed_memory hBheld rd
    refine ⟨_, hexec, htcm.trans hB.tcm, hdc.trans hB.dc, hbuf.trans (hB.sb.trans hsb), hha.trans hB.ha, hresv,
      (scFailed_pc hBheld rd).trans (by rw [hB.pc]), fun hrd hlt => ?_, fun r hr => ?_⟩
    · exact (scFailed_rx hBheld rd rd).trans (rx_setX_self 1 hrd (by rwa [hB.x]))
    · exact (scFailed_rx hBheld rd r).trans ((rx_setX_ne 1 hr).trans (hB.rx r))
  · obtain ⟨op, B, hB, hexec⟩ := exec_atomic_outOfReach hclk hfree rfl h hx
    exact ⟨_, hexec, hB.trapHere x (w32 a)⟩

end Sys2Proof.Machine
end

section
/-!
PROOF. Writes of the record core's registers RCC_CTRL, RCC_BOOT_CTRL and RCC_CACHE_CMD (R390, R392, R404, R410, R411): the register takes the
word, and its command acts on what that leaves.
-/
namespace Sys2Proof.Machine

theorem bf_bit (w : Word) (b : Nat) : bf w b b = b2n (bit w b) := by
  simp only [bf, bit, b2n, Nat.testBit_eq_decide_div_mod_eq, Nat.shiftRight_eq_div_pow]
  have hpow : b + 1 - b = 1 := by omega
  rw [hpow, pow_one]
  split
  · rename_i h
    simpa using h
  · rename_i h
    simp only [decide_eq_true_eq] at h
    omega

/-- The registers of the record core that the control port's commands write. -/
def RccKey (k : Nat) : Prop := k = Ad.RCC_CTRL ∨ k = Ad.RCC_BOOT_CTRL ∨ k = Ad.RCC_CACHE_CMD

/-- Such a register has no write of its own, no gate and no consequence beside its command fields. -/
theorem RccKey.regWrite {k : Nat} (h : RccKey k) {s : State} {src : Src} {w v : Word} {r : RegRow} {ix : List Nat} {l : List (Nat × Nat)}
    (hr : regAt k = some (r, ix)) (hacc : fieldsAcc s src k r (-1) w = ⟨v, s.stg k, l, 0, false, false⟩) :
    ∃ b, Written k v s b ∧ (regWrite s src k none w).1 = l.foldl (regCmd k) b := by
  have hhook (b : State) : regHook k (-1) w s b = b := by rcases h with rfl | rfl | rfl <;> rfl
  have hseq : cmdSeq k l = l := by rcases h with rfl | rfl | rfl <;> rfl
  obtain ⟨b, hb, hw⟩ := regWrite_common hr (src := src) (w := w) (s := s) (v := v) (l := l)
    (.inr (by rcases h with rfl | rfl | rfl <;> decide)) (by rcases h with rfl | rfl | rfl <;> decide)
    (by rcases h with rfl | rfl | rfl <;> rfl) (by rcases h with rfl | rfl | rfl <;> rfl) (by rcases h with rfl | rfl | rfl <;> rfl)
    (by rw [hacc]) (by rw [hacc]) (by rw [hacc]) (by rw [hacc]) (by rw [hacc])
  exact ⟨b, hb, by rw [hw, hhook, hseq]⟩

/-! ### RCC_CTRL -/

/-- The row of RCC_CTRL in the register index. -/
def rccCtrlRow : RegRow :=
  ⟨"RCC_CTRL", 0x600000, [], 29, 0, 8, false, [⟨1, 1, "RGN_LOCK", .wo, 16, .none, 0⟩, ⟨0, 0, "ORDER", .rw, 16, .none, 1⟩]⟩

theorem regAt_rccCtrl : regAt Ad.RCC_CTRL = some (rccCtrlRow, []) := by decide +kernel

/-- The word that a write of RCC_CTRL leaves there: RGN_LOCK is never cleared. -/
def rccCtrlWord (old : Word) (order lock : Bool) : Word := setBf (if lock then setBf old 1 1 1 else old) 0 0 (b2n order)

theorem fieldsAcc_rccCtrl {s : State} (src : Src) (order : Bool) {lock : Bool} (h : lock = true ∨ bit (s.reg Ad.RCC_CTRL) 1 = false) :
    fieldsAcc s src Ad.RCC_CTRL rccCtrlRow (-1) (w32 (b2n order + 2 * b2n lock)) =
      ⟨rccCtrlWord (s.reg Ad.RCC_CTRL) order lock, s.stg Ad.RCC_CTRL, [], 0, false, false⟩ := by
  have hord : bf (w32 (b2n order + 2 * b2n lock)) 0 0 = b2n order := by cases order <;> cases lock <;> decide
  have hlock : bf (w32 (b2n order + 2 * b2n lock)) 1 1 = b2n lock := by cases order <;> cases lock <;> decide
  have hold := bf_bit (s.reg Ad.RCC_CTRL) 1
  have hwo : fldWrite s src false (-1) (w32 (b2n order + 2 * b2n lock)) ⟨s.reg Ad.RCC_CTRL, s.stg Ad.RCC_CTRL, [], 0, false, false⟩
      ⟨1, 1, "RGN_LOCK", .wo, 16, .none, 0⟩ =
      ⟨if lock then setBf (s.reg Ad.RCC_CTRL) 1 1 1 else s.reg Ad.RCC_CTRL, s.stg Ad.RCC_CTRL, [], 0, false, false⟩ := by
    rw [fldWrite_wo _ _ _ _ rfl (by decide) (by decide)]
    dsimp only
    rw [hlock, hold]
    cases lock with
    | false => rw [h.resolve_left (by decide)]; rfl
    | true =>
      cases hb : bit (s.reg Ad.RCC_CTRL) 1 with
      | false => rfl
      | true =>
        have hset : setBf (s.reg Ad.RCC_CTRL) 1 1 1 = s.reg Ad.RCC_CTRL := by
          have hheld := setBf_bf (s.reg Ad.RCC_CTRL) 1 1
          rwa [hold, hb] at hheld
        rw [if_pos rfl, if_pos rfl, hset]
  have hall : (-1 : Word) = 4294967295#32 := rfl
  rw [hall] at hwo ⊢
  simp only [fieldsAcc, rccCtrlRow, List.foldl_cons, List.foldl_nil, hwo]
  rw [fldWrite_rw _ _ _ _ _ _ _ _ (by decide) (by decide), hord]
  rfl

theorem regWrite_rccCtrl {s : State} (src : Src) (order : Bool) {lock : Bool} (h : lock = true ∨ bit (s.reg Ad.RCC_CTRL) 1 = false) :
    Written Ad.RCC_CTRL (rccCtrlWord (s.reg Ad.RCC_CTRL) order lock) s
      (regWrite s src Ad.RCC_CTRL none (w32 (b2n order + 2 * b2n lock))).1 := by
  obtain ⟨b, hb, hw⟩ := RccKey.regWrite (.inl rfl) regAt_rccCtrl (fieldsAcc_rccCtrl src order h)
  rw [hw]
  exact hb

/-! ### RCC_CACHE_CMD -/

/-- The row of RCC_CACHE_CMD in the register index. -/
def rccCacheCmdRow : RegRow :=
  ⟨"RCC_CACHE_CMD", 0x600050, [], 29, 0, 8, false,
    [⟨8, 8, "BUSY", .lv, 16, .none, 0⟩, ⟨1, 1, "IINV", .cmd, 16, .none, 0⟩, ⟨0, 0, "DFLUSH", .cmd, 16, .none, 0⟩]⟩

theorem regAt_rccCacheCmd : regAt Ad.RCC_CACHE_CMD = some (rccCacheCmdRow, []) := by decide +kernel

/-- DFLUSH is bit 0 of RCC_CACHE_CMD and IINV bit 1. -/
theorem fieldsAcc_rccCacheCmd (s : State) (src : Src) {lo : Nat} (hlo : lo < 2) :
    fieldsAcc s src Ad.RCC_CACHE_CMD rccCacheCmdRow (-1) (w32 (2 ^ lo)) =
      ⟨s.reg Ad.RCC_CACHE_CMD, s.stg Ad.RCC_CACHE_CMD, [(lo, 1)], 0, false, false⟩ := by
  have hall : (-1 : Word) = 4294967295#32 := rfl
  simp only [fieldsAcc, rccCacheCmdRow, List.foldl_cons, List.foldl_nil, hall]
  rw [fldWrite_lv, fldWrite_cmd _ _ _ _ _ _ _ _ (by decide) (by decide), fldWrite_cmd _ _ _ _ _ _ _ _ (by decide) (by decide)]
  interval_cases lo <;> rfl

theorem rowWrite_rccCacheCmd {s : State} {src : Src} {lo : Nat} (hlo : lo < 2) (ht : Takes s src Ad.RCC_CACHE_CMD) :
    ∃ b, Written Ad.RCC_CACHE_CMD (s.reg Ad.RCC_CACHE_CMD) s b ∧
      rowWrite s src Ad.RCC_CACHE_CMD (w32 (2 ^ lo)) = if lo = 0 then dflush b else iinv b := by
  obtain ⟨b, hb, hw⟩ := RccKey.regWrite (.inr (.inr rfl)) regAt_rccCacheCmd (fieldsAcc_rccCacheCmd s src hlo)
  exact ⟨b, hb, (rowWrite_takes _ ht).trans hw⟩

/-! ### RCC_BOOT_CTRL -/

/-- The row of RCC_BOOT_CTRL in the register index. -/
def rccBootCtrlRow : RegRow :=
  ⟨"RCC_BOOT_CTRL", 0x600010, [], 29, 0, 8, false, [⟨1, 1, "SRC", .rw, 16, .none, 0⟩, ⟨0, 0, "RETRY", .cmd, 16, .none, 0⟩]⟩

theorem regAt_rccBootCtrl : regAt Ad.RCC_BOOT_CTRL = some (rccBootCtrlRow, []) := by decide +kernel

theorem fieldsAcc_rccBootCtrl (s : State) (src : Src) (spi : Bool) :
    fieldsAcc s src Ad.RCC_BOOT_CTRL rccBootCtrlRow (-1) (w32 (1 + 2 * b2n spi)) =
      ⟨setBf (s.reg Ad.RCC_BOOT_CTRL) 1 1 (b2n spi), s.stg Ad.RCC_BOOT_CTRL, [(0, 1)], 0, false, false⟩ := by
  have hsrc : bf (w32 (1 + 2 * b2n spi)) 1 1 = b2n spi := by cases spi <;> decide
  have hretry : bf (w32 (1 + 2 * b2n spi)) 0 0 = 1 := by cases spi <;> decide
  have hall : (-1 : Word) = 4294967295#32 := rfl
  simp only [fieldsAcc, rccBootCtrlRow, List.foldl_cons, List.foldl_nil, hall]
  rw [fldWrite_rw _ _ _ _ _ _ _ _ (by decide) (by decide), fldWrite_cmd _ _ _ _ _ _ _ _ (by decide) (by decide), hsrc, hretry]
  rfl

/-- RETRY with its source writes the register and begins the boot again where it had stopped (R404). -/
theorem rowWrite_rccBootCtrl {s : State} {src : Src} (spi : Bool) (ht : Takes s src Ad.RCC_BOOT_CTRL) (hst : bootStage s = 2 ∨ bootStage s = 3) :
    ∃ b, Written Ad.RCC_BOOT_CTRL (setBf (s.reg Ad.RCC_BOOT_CTRL) 1 1 (b2n spi)) s b ∧
      rowWrite s src Ad.RCC_BOOT_CTRL (w32 (1 + 2 * b2n spi)) = bootBegin b := by
  obtain ⟨b, hb, hw⟩ := RccKey.regWrite (.inr (.inl rfl)) regAt_rccBootCtrl (fieldsAcc_rccBootCtrl s src spi)
  obtain ⟨-, hother, -, -, -⟩ := id hb
  have hstage : bootStage b = bootStage s := congrArg (bf · 2 0) (hother Ad.RCC_BOOT_STATUS (by decide))
  have hretry : bootRetry b = bootBegin b := if_pos (by rwa [hstage])
  exact ⟨b, hb, (rowWrite_takes _ ht).trans (hw.trans hretry)⟩

end Sys2Proof.Machine
end

section
/-!
PROOF. What the record core's memory instructions, its store buffer, its caches and its control register do where they act (R380 to R395,
R407 to R412).
-/
namespace Sys2Proof.Machine

/-! ### Events of the store buffer, of a fill, of WFI and of a flush -/

theorem sbDrainCmd_may {s : State} {k : Nat} {e : SbEnt} (he : s.rc.sb[k]? = some e) (hm : sbMay s e = true) : sbDrainCmd s k = sbDrain s e := by
  simp [sbDrainCmd, he, hm]

theorem loadFillReturn_load {s : State} {w rd rs1 ecc : Nat} {sg c : Bool} {imm : Int} (h : s.rc.cur = some (.load w sg rd rs1 imm c ecc)) :
    loadFillReturn s = rcTry true s := by
  simp only [loadFillReturn, h]

theorem timecmpMatch_wakes {s : State} (hm : bit (rcMip s) 7 = true) (hfw : fwRuns s = true) (hwfi : s.rc.wfi = true)
    (hdue : rcIrqDue s = true) : timecmpMatch s = setRc s (fun c => { c with wfi := false }) := by
  simp [timecmpMatch, wfiWake, hm, hfw, hwfi, hdue]

/-! ### Instructions -/

section
variable {s : State} {w rd rs1 : Nat} {imm : Int} (signed c : Bool) (hclk : Clocked s 29) (hfree : rcFree s = true) (hal : (rx s rs1 + immW imm).toNat % w = 0)
include hclk hfree hal

/-- Loads of TCM, of a held line, of a buffered store and of an IC register. -/
theorem exec_load (hpmp : pmpOk s (dataMach s) (rx s rs1 + immW imm).toNat w 0 = true) :
    let a := (rx s rs1 + immW imm).toNat
    let B := rvBegin s (.load w signed rd rs1 imm c 0)
    let L (v : Nat) : State := retire (setX B rd (loadExt w signed v)) (rvLen c)
    (memKind s a = .tcm → sbFwd s a w = .clear → tcmBad s a w = none →
      exec (.rvLoad w signed rd rs1 imm c 0) s = .next (finish s (L (ofBytesLE (tcmRead s a w))))) ∧
    (memKind s a = .cached → winOff s = false → s.rc.flushing = false → ¬ winLine a ∈ s.rc.fills →
      (∀ l, rcLine s (winLine a) = some l → l.poison = none → l.wb = false → sbFwd s a w = .clear →
        exec (.rvLoad w signed rd rs1 imm c 0) s = .next (finish s (L (lineNum l.data (a % 64) w)))) ∧
      (∀ v, sbFwd s a w = .hit v → exec (.rvLoad w signed rd rs1 imm c 0) s = .next (finish s (L v)))) ∧
    (memKind s a = .ic → w = 4 → s.rc.sb = [] → ∀ t v, icLoad B (a - 0xC0000000) = .done t v →
      exec (.rvLoad w signed rd rs1 imm c 0) s = .next (finish s (retire (setX t rd (loadExt w signed v.toNat)) (rvLen c)))) := by
  intro a B L
  have hB : Begun (.load w signed rd rs1 imm c 0) s B := rvBegin_begun _ hfree
  have ha : (rx B rs1 + immW imm).toNat = a := by rw [hB.rx]
  have hp : pmpOk B (dataMach B) a w 0 = true := by rw [hB.dataMach, hB.pmpOk]; exact hpmp
  have hexec {u : State} (h : tryLoad B w signed rd rs1 imm c 0 false = u) :
      exec (.rvLoad w signed rd rs1 imm c 0) s = .next (finish s u) := next_run hclk hfree rfl ((rcTry_load _ hB.cur).trans h)
  refine ⟨fun hk hfwd hbad => ?_, fun hk hwin hfl hfill => ⟨fun l hl hpoison hwb hfwd => ?_, fun v hfwd => ?_⟩, fun hk hw hsb t v hic => ?_⟩
  · rw [← hB.tcmRead]
    exact hexec (tryLoad_tcm signed c false ha hB.dev hp hal ((hB.memKind a).trans hk) ((hB.loadFwd a w).trans hfwd) ((hB.tcmBad a w).trans hbad))
  · exact hexec (tryLoad_line signed c false ha hB.dev hp hal ((hB.memKind a).trans hk) (hB.winOff.trans hwin) (hB.flushing.trans hfl)
      ((hB.loadFwd a w).trans hfwd) (by rwa [hB.fills]) ((hB.rcLine _).trans hl) hpoison hwb)
  · exact hexec (tryLoad_forwarded signed c false ha hB.dev hp hal ((hB.memKind a).trans hk) (hB.winOff.trans hwin) (hB.flushing.trans hfl)
      ((hB.loadFwd a w).trans hfwd))
  · exact hexec (tryLoad_ic signed c false ha hB.dev hp hal ((hB.memKind a).trans hk) hw (hB.sb.trans hsb) hic)

/-- Stores to TCM and to a cacheable region, which enter the store buffer, and to an IC register, for which it is empty. -/
theorem exec_store (rs2 : Nat) (hpmp : pmpOk s (dataMach s) (rx s rs1 + immW imm).toNat w 1 = true) :
    let a := (rx s rs1 + immW imm).toNat
    let v := (rx s rs2).toNat
    let B := rvBegin s (.store w rs1 rs2 imm c)
    (s.rc.sb.length < 8 →
      (memKind s a = .tcm → ∃ t, sbPut B a w v 0 false = some t ∧
        exec (.rvStore w rs1 rs2 imm c) s = .next (finish s (retire t (rvLen c)))) ∧
      (memKind s a = .cached → winOff s = false → s.rc.flushing = false → ∃ t, sbPut B a w v 1 false = some t ∧
        exec (.rvStore w rs1 rs2 imm c) s = .next (finish s (retire t (rvLen c))))) ∧
    (memKind s a = .ic → w = 4 → s.rc.sb = [] → ∀ t x, icStore B .rc (a - 0xC0000000) (w32 v) = .done t x →
      exec (.rvStore w rs1 rs2 imm c) s = .next (finish s (retire t (rvLen c)))) := by
  intro a v B
  have hB : Begun (.store w rs1 rs2 imm c) s B := rvBegin_begun _ hfree
  have ha : (rx B rs1 + immW imm).toNat = a := by rw [hB.rx]
  have hv : (rx B rs2).toNat = v := by rw [hB.rx]
  have hp : pmpOk B (dataMach B) a w 1 = true := by rw [hB.dataMach, hB.pmpOk]; exact hpmp
  have hexec {u : State} (h : tryStore B w rs1 rs2 imm c = u) :
      exec (.rvStore w rs1 rs2 imm c) s = .next (finish s u) := next_run hclk hfree rfl ((rcTry_store _ hB.cur).trans h)
  rw [← hv]
  refine ⟨fun hlen => ⟨fun hk => ?_, fun hk hwin hfl => ?_⟩, fun hk hw hsb t x hic => ?_⟩
  · obtain ⟨t, ht⟩ := sbPut_free (s := B) a w (rx B rs2).toNat 0 false (by rwa [hB.sb])
    exact ⟨t, ht, hexec (tryStore_tcm c ha hB.dev hp hal ((hB.memKind a).trans hk) ht)⟩
  · obtain ⟨t, ht⟩ := sbPut_free (s := B) a w (rx B rs2).toNat 1 false (by rwa [hB.sb])
    exact ⟨t, ht, hexec (tryStore_cached c ha hB.dev hp hal ((hB.memKind a).trans hk) (hB.winOff.trans hwin) (hB.flushing.trans hfl) ht)⟩
  · exact hexec (tryStore_ic c ha hB.dev hp hal ((hB.memKind a).trans hk) hw (hB.sb.trans hsb) hic)

end

section
variable {s : State} {rs1 : Nat} {v : Word} (rd rs2 : Nat) (hclk : Clocked s 29) (hfree : rcFree s = true) (hsb : s.rc.sb = [])
include hclk hfree hsb

/-- LR, SC with the reservation and AMO, where their word can be read. -/
theorem exec_atomic : let a := (rx s rs1).toNat
    let B := releaseHold (rvBegin s (.lr rd rs1 0))
    (atomCheck s a true false = 0 → AtomWord B a v →
      exec (.lr rd rs1 0) s = .next (finish s (retire (setX (setRc B (fun (c : RcSt) =>
        { c with resv := some (granule B a), lrHold := some (granule B a) })) rd v) 4))) ∧
    (atomCheck s a false false = 0 → s.rc.resv = some (granule s a) → AtomWord s a v →
      exec (.sc rd rs1 rs2 false) s = .next (finish s (retire (setX (releaseHold (loseRsv
        (atomPut (rvBegin s (.sc rd rs1 rs2 false)) a (rx s rs2)))) rd 0) 4))) ∧
    (∀ f, atomCheck s a false true = 0 → AtomWord s a v → exec (.amo f rd rs1 rs2 0) s = .next (finish s
      (retire (setX (atomPut (rvBegin s (.amo f rd rs1 rs2 0)) a (amoOp f v (rx s rs2))) rd v) 4))) := by
  intro a B
  have hB (op : RvOp) := rvBegin_begun op hfree
  have ha (op : RvOp) : (rx (rvBegin s op) rs1).toNat = a := by rw [(hB op).rx]
  have hBsb (op : RvOp) : (rvBegin s op).rc.sb = [] := (hB op).sb.trans hsb
  refine ⟨fun hc hv => ?_, fun hc hr hv => ?_, fun f hc hv => ?_⟩
  · exact next_run hclk hfree rfl ((rcTry_lr _ (hB _).cur).trans (tryLr_reserves (ha _) (hBsb _) rd (((hB _).atomCheck ..).trans hc) hv))
  · have hstore := trySc_stores (ha (.sc rd rs1 rs2 false)) (hBsb _) rd rs2 (((hB _).atomCheck ..).trans hc)
      (by rwa [(hB _).resv, (hB _).granule]) ((hB _).atomWord.mpr hv)
    rw [(hB _).rx] at hstore
    exact next_run hclk hfree rfl ((rcTry_sc _ (hB _).cur).trans hstore)
  · have hstore := tryAmo_stores (ha (.amo f rd rs1 rs2 0)) (hBsb _) f rd rs2 (((hB _).atomCheck ..).trans hc) ((hB _).atomWord.mpr hv)
    rw [(hB _).rx] at hstore
    exact next_run hclk hfree rfl ((rcTry_amo _ (hB _).cur).trans hstore)

end

/-! ### Writes of RCC_CTRL -/

/-- A write of RCC_CTRL by the control port or by debug. -/
theorem orderWrite_row {s : State} {src : Src} (order : Bool) {lock : Bool} (hsrc : src ≠ .rc) (ht : Takes s src Ad.RCC_CTRL)
    (h : lock = true ∨ bit (s.reg Ad.RCC_CTRL) 1 = false) :
    ∃ b, Written Ad.RCC_CTRL (rccCtrlWord (s.reg Ad.RCC_CTRL) order lock) s b ∧ orderWrite s src (w32 (b2n order + 2 * b2n lock)) = b := by
  have hrow : orderWrite s src (w32 (b2n order + 2 * b2n lock)) = rowWrite s src Ad.RCC_CTRL (w32 (b2n order + 2 * b2n lock)) := by
    cases src with
    | rc => exact absurd rfl hsrc
    | cp => rfl
    | dbg => rfl
  exact ⟨_, regWrite_rccCtrl src order h, hrow.trans (rowWrite_takes _ ht)⟩

/-- A write of RCC_CTRL by the record core itself, its store buffer empty. -/
theorem orderWrite_rc {s : State} (order : Bool) {lock : Bool} (hfree : rcFree s = true) (hsb : s.rc.sb = [])
    (h : lock = true ∨ bit (s.reg Ad.RCC_CTRL) 1 = false) :
    ∃ b, Written Ad.RCC_CTRL (rccCtrlWord (s.reg Ad.RCC_CTRL) order lock)
        (rvBegin s (.icStore Ad.RCC_CTRL (w32 (b2n order + 2 * b2n lock)))) b ∧
      orderWrite s .rc (w32 (b2n order + 2 * b2n lock)) = setRc b (fun c => { c with cur := none }) := by
  have hB := rvBegin_begun (.icStore Ad.RCC_CTRL (w32 (b2n order + 2 * b2n lock))) hfree
  have hreg := hB.reg (k := Ad.RCC_CTRL) (by decide)
  have hb := regWrite_rccCtrl (s := rvBegin s (.icStore Ad.RCC_CTRL (w32 (b2n order + 2 * b2n lock)))) .rc order (by rwa [hreg])
  rw [hreg] at hb
  exact ⟨_, hb, (rvRun_free _ hfree).trans (rcTry_icStore _ (hB.sb.trans hsb) hB.cur)⟩

/-- RGN_LOCK written 1 with an ORDER is a write of RCC_CTRL. -/
theorem rgnLockWrite_eq_orderWrite (s : State) (src : Src) (order : Bool) :
    exec (.rgnLockWrite src order) s = exec (.orderWrite src order true) s := by
  cases order <;> rfl

/-! ### The obligation -/

/-- Settles O44: the instructions act on the state in which they begin, the events on the state itself, and the writes on what the register
then reads. -/
theorem coreMemoryActs : Obligations.CoreMemoryActs := by
  unfold Obligations.CoreMemoryActs
  intro s src w rd rs1 rs2 k signed c order lock imm hclk
  refine ⟨fun hfree _ => ⟨fun hpmp hal => exec_load signed c hclk hfree hal hpmp, fun hpmp hal => exec_store c hclk hfree hal rs2 hpmp,
      fun v hsb => exec_atomic rd rs2 hclk hfree hsb⟩,
    fun e he hm => next_onIsl hclk (sbDrainCmd_may he hm), ?_, next_onIsl hclk rfl, next_onIsl hclk rfl,
    fun hm hfw hwfi hdue => next_onIsl hclk (timecmpMatch_wakes hm hfw hwfi hdue), fun hfl hdc => next_onIsl hclk (if_pos ⟨hfl, hdc⟩),
    fun ht => ⟨fun _ => ?_, ?_⟩, fun hsrc ht h => ?_, fun hsrc hfree hsb h => ?_⟩
  · rintro x hx ⟨w, g, rd, rs1, i, c, e, rfl⟩
    exact next_onIsl hclk (loadFillReturn_load hx)
  · obtain ⟨b, hb, hw⟩ := rowWrite_rccCacheCmd (lo := 0) (by decide) ht
    exact ⟨b, hb, congrArg (fun u => Host.Outcome.next (finish s u)) hw⟩
  · obtain ⟨b, hb, hw⟩ := rowWrite_rccCacheCmd (lo := 1) (by decide) ht
    exact ⟨b, hb, congrArg (fun u => Host.Outcome.next (finish s u)) hw⟩
  · obtain ⟨b, hb, hw⟩ := orderWrite_row order hsrc ht h
    have hO : exec (.orderWrite src order lock) s = .next (finish s b) := next_onIsl hclk hw
    exact ⟨b, hb, fun hl => by subst hl; rw [rgnLockWrite_eq_orderWrite, hO], hO⟩
  · subst hsrc
    obtain ⟨b, hb, hw⟩ := orderWrite_rc order hfree hsb h
    have hO : exec (.orderWrite .rc order lock) s = .next (finish s (setRc b (fun c => { c with cur := none }))) := next_onIsl hclk hw
    exact ⟨b, hb, fun hl => by subst hl; rw [rgnLockWrite_eq_orderWrite, hO], hO⟩

end Sys2Proof.Machine
end

section
/-!
PROOF. The boot of the record core (R402 to R404, R414, R704).
-/
namespace Sys2Proof.Machine

/-! ### BOOT_IMAGE_CHECK, by the first check of Table 10-9 that fails -/

theorem bootCheck_pass {s : State} {ok : Bool} (hboot : s.rc.boot ≠ 0) (hj : bootJudge s s.rc.boot ok = 0) :
    bootCheck s ok = bootPass s s.rc.boot := by
  simp [bootCheck, hboot, hj]

/-- Copy A fails: copy B is tried, unless it has no location. -/
theorem bootCheck_copyA {s : State} {ok : Bool} {r : Nat} (hboot : s.rc.boot = 1) (hj : bootJudge s 1 ok = r) (hr : r ≠ 0) :
    bootCheck s ok =
      if bootHasB s then setRc ((if 7 ≤ r then bootLoad s 1 else s).setFld Ad.RCC_BOOT_STATUS 23 16 r) (fun c => { c with boot := 2 })
      else bootFail ((if 7 ≤ r then bootLoad s 1 else s).setFld Ad.RCC_BOOT_STATUS 23 16 r) 1 := by
  simp [bootCheck, hboot, hj, hr]

/-- The last image fails: copy B, or the staging buffer. -/
theorem bootCheck_last {s : State} {ok : Bool} {r : Nat} (hboot : s.rc.boot = 2 ∨ s.rc.boot = 3) (hj : bootJudge s s.rc.boot ok = r)
    (hr : r ≠ 0) : bootCheck s ok = bootFail (if 7 ≤ r then bootLoad s s.rc.boot else s) r := by
  have h0 : s.rc.boot ≠ 0 := by omega
  have h1 : s.rc.boot ≠ 1 := by omega
  simp [bootCheck, h0, h1, hj, hr]

/-! ### A BOOT offer that was kept -/

theorem bootReenter_enters {s : State} {p : List Byte} (hp : s.evs.keptBoot = some p) (hroom : evsCount s < 64)
    (hgen : s.evs.mode ≠ .noGenesis) :
    bootReenter s = evsPush { s with evs := { s.evs with keptBoot := none } } false 1 p none := by
  have hwait : ¬(64 ≤ evsCount s ∨ s.evs.mode = .noGenesis) := fun h => h.elim (by omega) hgen
  simp only [bootReenter, hp, if_neg hwait]
  rfl

/-- Settles O45: BOOT_IMAGE_CHECK by the copy and by what the checks find, RETRY as the write of RCC_BOOT_CTRL, and the kept offer. -/
theorem bootCommandsAct : Obligations.BootCommandsAct := by
  unfold Obligations.BootCommandsAct
  intro s src ok spi
  refine ⟨fun hclk => ⟨fun hboot hj => next_onIsl hclk (bootCheck_pass hboot hj), fun r hboot hj hr => ⟨fun hB => ?_, fun hB => ?_⟩,
    fun r hboot hj hr => next_onIsl hclk (bootCheck_last hboot hj hr)⟩, fun ht hst => ?_,
    fun hclk p hp hroom hgen => next_onIsl hclk (bootReenter_enters hp hroom hgen)⟩
  · exact next_onIsl hclk ((bootCheck_copyA hboot hj hr).trans (if_pos hB))
  · exact next_onIsl hclk ((bootCheck_copyA hboot hj hr).trans (if_neg (by simp [hB])))
  · obtain ⟨b, hb, hw⟩ := rowWrite_rccBootCtrl spi ht hst
    exact ⟨b, hb, congrArg (fun u => Host.Outcome.next (finish s u)) hw⟩

end Sys2Proof.Machine
end

section
/-!
PROOF. The CX instructions where the record core may begin one, and the operations of Chisel's queue (R424 to R430, R434, R438 to R441,
R446).
-/
namespace Sys2Proof.Machine

/-! ### An on-demand island that starts -/

theorem startIsl_running {s : State} {i : Nat} (h : s.running i = true) : startIsl s i = s := if_pos h

@[simp] theorem startIsl_rc (s : State) (i : Nat) : (startIsl s i).rc = s.rc := by rw [eq_of_maskRep (maskRep_startIsl s i)]
@[simp] theorem startIsl_chz (s : State) (i : Nat) : (startIsl s i).chz = s.chz := by rw [eq_of_maskRep (maskRep_startIsl s i)]
@[simp] theorem startIsl_otp (s : State) (i : Nat) : (startIsl s i).otp = s.otp := by rw [eq_of_maskRep (maskRep_startIsl s i)]

theorem startIsl_pmpOk (s : State) (i : Nat) (m : Bool) (a n perm : Nat) : pmpOk (startIsl s i) m a n perm = pmpOk s m a n perm := by
  simp only [pmpOk, pmpGranule, pmpRange, startIsl_rc]

theorem startIsl_winOff (s : State) (i : Nat) : winOff (startIsl s i) = winOff s := by
  rw [winOff, State.depth, State.fld, startIsl_reg, startIsl_reg, startIsl_reg]
  rfl

/-! ### A CX instruction at issue -/

/-- The state in which a CX instruction is judged: it is in progress, and Chisel's island runs. -/
def cxIssued (s : State) (i : CxIn) : State := startIsl (rvBegin s (.cx i)) 30

section
variable {s : State} (hfree : rcFree s = true) (i : CxIn)
include hfree

theorem cxIssued_chz : (cxIssued s i).chz = s.chz := by rw [cxIssued, startIsl_chz, (rvBegin_begun _ hfree).rest]

theorem cxIssued_otp : (cxIssued s i).otp = s.otp := by rw [cxIssued, startIsl_otp, (rvBegin_begun _ hfree).rest]

theorem cxIssued_sb : (cxIssued s i).rc.sb = s.rc.sb := by rw [cxIssued, startIsl_rc, (rvBegin_begun _ hfree).sb]

theorem cxIssued_mach : (cxIssued s i).rc.mach = s.rc.mach := by rw [cxIssued, startIsl_rc, (rvBegin_begun _ hfree).mach]

theorem cxIssued_rx (r : Nat) : rx (cxIssued s i) r = rx s r := by
  rw [← (rvBegin_begun (.cx i) hfree).rx, rx, cxIssued, startIsl_rc, rx]

theorem cxLegal_issued (a b : Word) : cxLegal (cxIssued s i) i a b = cxLegal s i a b := by
  have hctrl : (cxIssued s i).reg Ad.CHZ_CTRL = s.reg Ad.CHZ_CTRL :=
    (startIsl_reg _ _ _).trans ((rvBegin_begun (.cx i) hfree).regs _ (by decide))
  rw [cxLegal, cxIssued_mach hfree, hctrl, cxLegal]

theorem cxMems_issued (a b : Nat) : cxMems (cxIssued s i) i a b = cxMems s i a b := by
  have halg (c : Nat) : cxAlg (cxIssued s i) c = cxAlg s c := by
    rw [cxAlg, hctx, cxIssued_chz hfree]
    rfl
  have hdec (c : Nat) : cxDec (cxIssued s i) c = cxDec s c := by
    rw [cxDec, gctx, cxIssued_chz hfree]
    rfl
  have hout (c : Nat) : cxOut (cxIssued s i) c = cxOut s c := by
    rw [cxOut, gctx, cxIssued_chz hfree]
    rfl
  rw [cxMems, halg, hdec, hout]
  rfl

theorem cxMemCheck_issued (m : CxMem) : cxMemCheck (cxIssued s i) m = cxMemCheck s m := by
  have hB := rvBegin_begun (.cx i) hfree
  have hpmp (m : Bool) (a n perm : Nat) : pmpOk (cxIssued s i) m a n perm = pmpOk s m a n perm :=
    (startIsl_pmpOk ..).trans (hB.pmpOk ..)
  have hwin : winOff (cxIssued s i) = winOff s := (startIsl_winOff ..).trans hB.winOff
  simp only [cxMemCheck, hpmp, hwin, cxIssued_mach hfree]

theorem cxStatus_issued (t : Word) : cxStatus (cxIssued s i) t = cxStatus s t := by
  simp only [cxStatus, cxIssued_chz hfree]

/-- A legal queued instruction whose operands pass their checks takes an entry, where one is free and no store waits. -/
theorem tryCx_queued {op : CxOp} (hl : cxLegal s i (rx s i.rs1) (rx s i.rs2) = true) (hop : cxOpOf i (rx s i.rs1) (rx s i.rs2) = some op)
    (hm : ∀ m, m ∈ cxMems s i (rx s i.rs1).toNat (rx s i.rs2).toNat → cxMemCheck s m = 0) (hsb : s.rc.sb = [])
    (hq : s.chz.q.length < 4) :
    tryCx (rvBegin s (.cx i)) i = cxQueue (cxIssued s i) i.rd op := by
  have hnone : (cxMems s i (rx s i.rs1).toNat (rx s i.rs2).toNat).find? (fun m => cxMemCheck s m != 0) = none :=
    List.find?_eq_none.mpr (fun m h => by simp [hm m h])
  have hsb' : (cxIssued s i).rc.sb = [] := (cxIssued_sb hfree i).trans hsb
  have hS : startIsl (rvBegin s (.cx i)) 30 = cxIssued s i := rfl
  simp only [tryCx, hS, cxIssued_rx hfree, cxLegal_issued hfree, cxMems_issued hfree, cxMemCheck_issued hfree, hl, hop, hnone,
    drainAll_nil hsb', ite_self]
  simp [hsb', cxIssued_chz hfree, hq]

/-- A legal instruction that is not queued is done at once. -/
theorem tryCx_now (hl : cxLegal s i (rx s i.rs1) (rx s i.rs2) = true) (hop : cxOpOf i (rx s i.rs1) (rx s i.rs2) = none) :
    tryCx (rvBegin s (.cx i)) i = cxNow (cxIssued s i) i (rx s i.rs1) := by
  have hS : startIsl (rvBegin s (.cx i)) 30 = cxIssued s i := rfl
  simp only [tryCx, hS, cxIssued_rx hfree, cxLegal_issued hfree, hl, hop]
  simp

end

/-- The rows of the queued instructions, each with its name in Table 11-2. -/
def cxQueuedRows (rd rs1 rs2 f3 : Nat) : List (Instr × CxName) :=
  [(.cxHinit rd rs1 rs2 f3, .hinit), (.cxHupd rd rs1 rs2 f3, .hupd), (.cxHfin rd rs1 rs2 f3, .hfin),
    (.cxGinit rd rs1 rs2 f3, .ginit), (.cxGaad rd rs1 rs2 f3, .gaad), (.cxGupd rd rs1 rs2 f3, .gupd), (.cxGout rd rs1 rs2 f3, .gout),
    (.cxGfin rd rs1 rs2 f3, .gfin), (.cxVerify rd rs1 rs2 f3, .verify), (.cxKdf rd rs1 rs2 f3, .kdf), (.cxSign rd rs1 rs2 f3, .sign),
    (.cxKset rd rs1 rs2 f3, .kset), (.cxKclr rd rs1 rs2 f3, .kclr), (.cxCinc rd rs1 rs2 f3, .cinc), (.cxCarve rd rs1 rs2 f3, .carve)]

theorem exec_cxQueuedRow {c : Instr} {n : CxName} {rd rs1 rs2 f3 : Nat} (h : (c, n) ∈ cxQueuedRows rd rs1 rs2 f3) (s : State) :
    exec c s = .next (finish s (onIsl 29 (fun s => cxRow s n rd rs1 rs2 f3) s)) := by
  have hall : ∀ x ∈ cxQueuedRows rd rs1 rs2 f3,
      exec x.1 s = .next (finish s (onIsl 29 (fun s => cxRow s x.2 rd rs1 rs2 f3) s)) := by
    simp only [cxQueuedRows, List.forall_mem_cons]
    exact ⟨rfl, rfl, rfl, rfl, rfl, rfl, rfl, rfl, rfl, rfl, rfl, rfl, rfl, rfl, rfl, List.forall_mem_nil _⟩
  exact hall (c, n) h

theorem rcTry_cx {s : State} (ret : Bool) {i : CxIn} (h : s.rc.cur = some (.cx i)) : rcTry ret s = tryCx s i := by
  simp only [rcTry, h]

/-- A CX row ends where its instruction leaves the state in which it begins. -/
theorem next_cxRow {s u : State} {n : CxName} {rd rs1 rs2 f3 : Nat} (hclk : Clocked s 29) (hfree : rcFree s = true)
    (h : tryCx (rvBegin s (.cx ⟨n, rd, rs1, rs2, f3⟩)) ⟨n, rd, rs1, rs2, f3⟩ = u) :
    (Host.Outcome.next (finish s (onIsl 29 (fun s => cxRow s n rd rs1 rs2 f3) s)) : Host.Outcome State Fault Refusal) =
      .next (finish s u) :=
  next_run hclk hfree rfl ((rcTry_cx false (rvBegin_begun _ hfree).cur).trans h)

/-! ### The start and the completion of an operation -/

section
variable {s : State} {no : Nat} {e : CxEnt}

/-- An entry that may start, with a sound key and a sound context, goes on to its checks and reads. -/
theorem cxStart_sound (hrun : s.running 30 = true) (he : s.chz.q.find? (fun e => e.no == no) = some e) (hr : cxReady s e = true) :
    cxStart s no false false = cxStart.read s e := by
  have hgo (ctx : Option Nat) (isInit : Bool) : cxStart.go false s e ctx isInit = cxStart.read s e := by
    cases ctx <;> rfl
  unfold cxStart
  simp only [he, hr, startIsl_running hrun, hgo, Bool.not_true, Bool.false_eq_true, if_false]
  split <;> rfl

/-- An operation other than a CARVE asks for the window lines of its operands where its checks pass. -/
theorem cxStart_read (hc : ∀ fw typ idx ad, e.op ≠ .carve fw typ idx ad) : cxStart.read s e =
    let lines := if cxPre s e.op = 0 then ((cxReads s e.op).flatMap opLines).eraseDups else []
    setChz (lines.foldl (fun s l =>
        ag0Req s (.chz e.no l) .readOnce 0 l ((rgnOf s (l * 64 + 0x20000000)).1 != .device) 0 0) s) (fun z => { z with
      q := z.q.map (fun (x : CxEnt) => if x.no = e.no then { x with phase := 1, want := lines, code := cxPre s e.op } else x) }) := by
  unfold cxStart.read
  split
  · rename_i fw typ idx ad hop
    exact absurd hop (hc fw typ idx ad)
  · rfl

theorem cxStart_carve {fw : Bool} {typ idx ad : Nat} (hop : e.op = .carve fw typ idx ad) :
    cxStart.read s e = carveStart (startIsl s 31) e fw typ idx ad := by
  simp only [cxStart.read, hop]

section
variable (he : s.chz.q.find? (fun e => e.no == no && e.phase == 1 && e.want.isEmpty) = some e)
  (hc : ∀ fw typ idx ad, e.op ≠ .carve fw typ idx ad)
include he hc

/-- An operation whose checks or reads have failed ends with the status they found. -/
theorem cxComplete_failed (lockBad : Bool) (hcode : e.code ≠ 0) : cxComplete s no lockBad = cxFinish s no e.code := by
  unfold cxComplete
  rw [he]
  dsimp only
  split
  · rename_i fw typ idx ad hop
    exact absurd hop (hc fw typ idx ad)
  · exact if_pos hcode

/-- An operation whose data have been read ends by what they decide. -/
theorem cxComplete_read (hcode : e.code = 0)
    (hbad : ∀ x, x ∈ cxReads s e.op → inTcm x.1 = true → tcmBad s x.1 x.2 = none) : cxComplete s no false =
      if (cxResult s e).1 ≠ 0 then cxFinish s no (cxResult s e).1 else cxWrite s e (cxResult s e).2 := by
  have hgood : (cxReads s e.op).any (fun x => inTcm x.1 && (tcmBad s x.1 x.2).isSome) = false :=
    List.any_eq_false.mpr (fun x hx => by
      by_cases ht : inTcm x.1 = true
      · simp [hbad x hx ht]
      · simp [ht])
  unfold cxComplete
  rw [he]
  dsimp only
  split
  · rename_i fw typ idx ad hop
    exact absurd hop (hc fw typ idx ad)
  · simp [hcode, hgood]

end
end

/-! ### What a program leaves of the flash -/

/-- A store whose bytes are those of another with bits cleared. -/
def BitsCleared (d : Nat → Byte) (m m' : Store Byte) : Prop := ∀ i, stGet d m' i &&& stGet d m i = stGet d m' i

theorem BitsCleared.refl (d : Nat → Byte) (m : Store Byte) : BitsCleared d m m := fun _ => BitVec.and_self

/-- Bytes masked with those of a store, written where these were read, only clear bits of it. -/
theorem BitsCleared.masked {d : Nat → Byte} {m m' : Store Byte} (h : BitsCleared d m m') (l : List Byte) (a n : Nat) :
    BitsCleared d m (memWrite d m' a (l.zipWith (· &&& ·) (memRead d m a n))) := by
  induction l generalizing m' a n with
  | nil => exact h
  | cons b l ih =>
    cases n with
    | zero => exact h
    | succ n =>
      refine ih (fun i => ?_) (a + 1) n
      by_cases hi : i = a
      · subst hi
        rw [stGet_set_self, BitVec.and_assoc, BitVec.and_self]
      · rw [stGet_set_ne d m' _ hi]
        exact h i

theorem length_memRead (d : Nat → Byte) (m : Store Byte) (a n : Nat) : (memRead d m a n).length = n := by
  induction n generalizing a with
  | zero => rfl
  | succ n ih => rw [memRead, List.length_cons, ih]

theorem take_flashRead (s : State) (cs a n : Nat) :
    (flashRead s cs a n).take (flashRoom a) = memRead flashDef s.flash (flashKey cs a) (min n (flashRoom a)) := by
  rcases Nat.le_total n (flashRoom a) with h | h
  · simp [flashRead, Nat.sub_eq_zero_of_le h, memRead, h, List.take_of_length_le, length_memRead]
  · rw [flashRead, List.take_left' (by rw [length_memRead, Nat.min_eq_right h])]

theorem drop_flashRead (s : State) (cs a n : Nat) :
    (flashRead s cs a n).drop (flashRoom a) = memRead flashDef s.flash (flashKey cs 0) (n - flashRoom a) := by
  rcases Nat.le_total n (flashRoom a) with h | h
  · simp [flashRead, Nat.sub_eq_zero_of_le h, memRead, h, List.drop_of_length_le, length_memRead]
  · rw [flashRead, List.drop_left' (by rw [length_memRead, Nat.min_eq_right h])]

/-- A page program only clears bits, past the end of its chip select too. -/
theorem flashProgram_bitsCleared (s : State) (cs a : Nat) (l : List Byte) :
    BitsCleared flashDef s.flash (flashProgram s cs a l).flash := by
  show BitsCleared flashDef s.flash (memWrite flashDef (memWrite flashDef s.flash _ (List.take ..)) _ (List.drop ..))
  rw [List.take_zipWith, List.drop_zipWith, take_flashRead, drop_flashRead]
  exact ((BitsCleared.refl flashDef s.flash).masked _ _ _).masked _ _ _

theorem slotProgram_bitsCleared (s : State) (seq : Nat) (l : List Byte) :
    BitsCleared flashDef s.flash (slotProgram s seq l).flash := by
  unfold slotProgram
  split
  · exact .refl _ _
  · exact flashProgram_bitsCleared s _ _ l

theorem flash_of_maskRep {s t : State} (h : maskRep t = maskRep s) : t.flash = s.flash := by rw [eq_of_maskRep h]

@[simp] theorem pcu_flash (ev q k : Nat) (s : State) : (pcu ev q k s).flash = s.flash := flash_of_maskRep (maskRep_pcu ev q k s)
@[simp] theorem sqEvt_flash (s : State) (k bits : Nat) : (sqEvt s k bits).flash = s.flash := flash_of_maskRep (maskRep_sqEvt s k bits)

theorem cvuTake_flash (s : State) (n : Nat) (l : List Byte) : (cvuTake s n l).flash = s.flash := by
  simp [cvuTake, cvuFlag, setCvu, apply_ite State.flash]

/-- The check units take the bytes, and the flash stays. -/
theorem cvuItem_flash (stream sel tenant : Nat) (l : List Byte) (s : State) : (cvuItem stream sel tenant l s).flash = s.flash := by
  refine List.foldlRecOn (motive := fun (u : State) => u.flash = s.flash) _ _ rfl (fun u hu n _ => ?_)
  split
  · split
    · exact (cvuTake_flash u n l).trans hu
    · exact hu
  · exact hu

/-! ### The end of a CARVE -/

/-- The state in which a program that did not complete is reported: some of the slot's bits are cleared, and the check units have taken
some of the bytes. -/
def carveTorn (s : State) (c : CarveSt) : State :=
  { cvuItem 3 0 0 (c.bytes.take (Config.freeNat (s.free + 256) % 257)) (slotProgram s c.seq (tornBytes s c.bytes)) with
    free := s.free + 257 }

theorem carveTorn_bitsCleared (s : State) (c : CarveSt) : BitsCleared flashDef s.flash (carveTorn s c).flash := by
  rw [carveTorn, cvuItem_flash]
  exact slotProgram_bitsCleared s _ _

section
variable {s : State} {c : CarveSt} (hc : s.chz.carve = some c)
include hc

/-- Signing ends with equal results, and the program of the slot begins. -/
theorem carveSigned_programs (hstep : c.step = 5) :
    let s1 := setChz s (fun (z : ChzSt) => { z with carve := some { c with
      step := 6, bytes := c.bytes ++ p256Sign (ofBytesBE (keySlot s 1).key) (sha256 c.bytes) } })
    carveSigned s false = pcu 0x5B 0 1 (pcu 0x63 0 1 (carveProgram
      ((s1.setReg Ad.CHZ_CARVE_SEQ_LO (w32 c.seq)).setReg Ad.CHZ_CARVE_SEQ_HI (w32 (c.seq / 2 ^ 32))) c.seq)) := by
  simp [carveSigned, hc, hstep]

variable (hstep : c.step = 6)
include hstep

theorem carveDone_confirms : carveDone s 0 = carveEnd (carveConfirm (setChz (cvuItem 3 0 0 c.bytes (slotProgram s c.seq c.bytes))
    (fun (z : ChzSt) => { z with carve := none })) c) c.no 0 0 := by
  simp [carveDone, hc, hstep]

theorem carveDone_reports {code : Nat} (hcode : code ≠ 0) :
    carveDone s code = carveFlash (carveEnd (carveTorn s c) c.no 0x0C code) c.seq code := by
  simp [carveDone, hc, hstep, hcode, carveTorn]

end

/-! ### The obligation -/

section
variable {s : State} {rd rs1 rs2 f3 : Nat} (hclk : Clocked s 29) (hfree : rcFree s = true)
include hclk hfree

/-- A queued instruction that passes its checks takes one of the four entries and writes its ticket to rd. -/
theorem exec_cxQueued {c : Instr} {n : CxName} {op : CxOp} (hrow : (c, n) ∈ cxQueuedRows rd rs1 rs2 f3) :
    let i : CxIn := ⟨n, rd, rs1, rs2, f3⟩
    cxLegal s i (rx s rs1) (rx s rs2) = true → cxOpOf i (rx s rs1) (rx s rs2) = some op →
    (∀ m, m ∈ cxMems s i (rx s rs1).toNat (rx s rs2).toNat → cxMemCheck s m = 0) → s.rc.sb = [] → s.chz.q.length < 4 →
    exec c s = .next (finish s (retire (setX (pcu 0x58 0 1 { cxIssued s i with chz := { s.chz with
      q := s.chz.q ++ [⟨s.chz.nextNo, op, 0, [], [], 0⟩], nextNo := (s.chz.nextNo + 1) % 65536 } }) rd
        (w32 (2 ^ 31 + s.chz.nextNo))) 4)) := by
  intro i hl hop hm hsb hq
  rw [exec_cxQueuedRow hrow, next_cxRow hclk hfree (tryCx_queued hfree i hl hop hm hsb hq), cxQueue, setChz, cxIssued_chz hfree]

end

/-- Settles O49: the instructions act on the state in which they are judged, an operation by its checks and by what its data decide, and the
end of a CARVE by its step. -/
theorem chiselCommandsAct : Obligations.ChiselCommandsAct := by
  unfold Obligations.ChiselCommandsAct
  intro s rd rs1 rs2 f3 no lockBad
  refine ⟨fun hclk hfree => ?_, fun hclk => ⟨fun e he hr => ?_, fun e he hc => ⟨fun hcode => ?_, fun hcode hbad => ?_⟩,
    fun c hc hstep hlock => ?_⟩, fun hclk c hc hstep => ⟨?_, carveTorn s c, ?_, carveTorn_bitsCleared s c⟩⟩
  · intro a b I B
    refine ⟨fun c n op hrow => exec_cxQueued hclk hfree hrow, fun hl hst => next_cxRow hclk hfree ?_, fun hl => next_cxRow hclk hfree ?_,
      fun hl => next_cxRow hclk hfree ?_, fun hl => next_cxRow hclk hfree (tryCx_now hfree _ hl rfl)⟩
    · rw [tryCx_now hfree (I .wait) hl rfl, cxNow, cxStatus_issued hfree]
      exact if_neg hst
    · rw [tryCx_now hfree (I .poll) hl rfl, cxNow, cxStatus_issued hfree]
      rfl
    · rw [tryCx_now hfree (I .crd) hl rfl, cxNow, cxIssued_otp hfree]
      rfl
  · have hs := cxStart_sound hclk.1 he hr
    exact ⟨fun fw typ idx ad hop => next_onIsl hclk (hs.trans (cxStart_carve hop)),
      fun hc => next_onIsl hclk (hs.trans (cxStart_read hc))⟩
  · exact next_onIsl hclk (cxComplete_failed he hc lockBad hcode)
  · have hread := cxComplete_read he hc hcode hbad
    exact ⟨fun h => next_onIsl hclk (hread.trans (if_pos h)), fun h => next_onIsl hclk (hread.trans (if_neg (by simp [h])))⟩
  · subst hlock
    exact next_onIsl hclk (carveSigned_programs hc hstep)
  · exact next_onIsl hclk (carveDone_confirms hc hstep)
  · exact next_onIsl hclk (carveDone_reports hc hstep (by decide))

end Sys2Proof.Machine
end

section
/-!
PROOF. Legal time never steps back, whatever an edge, a label or the restart scan shows (R452, R459 to R463, R471).
-/
namespace Sys2Proof.Machine

/-! ### What leaves the timebase as it is -/

theorem tb_of_maskRep {s t : State} (h : maskRep t = maskRep s) : t.tb = s.tb := by rw [eq_of_maskRep h]

@[simp] theorem inc_tb (s : State) (k : Nat) : (s.inc k).tb = s.tb := tb_of_maskRep (maskRep_inc s k)
@[simp] theorem sqEvt_tb (s : State) (k bits : Nat) : (sqEvt s k bits).tb = s.tb := tb_of_maskRep (maskRep_sqEvt s k bits)
@[simp] theorem setLatch_tb (s : State) (b : Nat) : (setLatch s b).tb = s.tb := tb_of_maskRep (maskRep_setLatch s b)
@[simp] theorem pcu_tb (ev q k : Nat) (s : State) : (pcu ev q k s).tb = s.tb := tb_of_maskRep (maskRep_pcu ev q k s)
@[simp] theorem raise_tb (s : State) (c info : Nat) : (raise s c info).tb = s.tb := tb_of_maskRep (maskRep_raise s c info)

theorem evsOffer_tb {s t : State} {typ : Nat} {p : List Byte} {log : Option Nat} {r : OfferRes} (h : evsOffer s typ p log = (t, r)) :
    t.tb = s.tb := by
  have := tb_of_maskRep (maskRep_evsOffer s typ p log)
  rwa [h] at this

@[simp] theorem motEval_tb (s : State) : (motEval s).tb = s.tb := by
  simp [motEval, apply_ite State.tb]

@[simp] theorem gnssSpeed_tb (s : State) (v : Nat) : (gnssSpeed s v).tb = s.tb := by
  unfold gnssSpeed
  extract_lets
  rw [motEval_tb, setMot_tb]

@[simp] theorem attachComplete_tb (s : State) (p : Nat) : (attachComplete s p).tb = s.tb := by
  unfold attachComplete
  split
  · rfl
  · simp [apply_ite State.tb, setPort]

@[simp] theorem creditsFree_tb (s : State) (p c : Nat) (head : Bool) : (creditsFree s p c head).tb = s.tb :=
  List.foldlRecOn (motive := fun (u : State) => u.tb = s.tb) _ _ rfl (fun _ hu _ _ => hu)

/-! ### What leaves legal time as it is -/

@[simp] theorem tbReclass_time (s : State) : (tbReclass s).tb.time = s.tb.time := by
  simp [tbReclass, apply_ite State.tb, apply_ite TbSt.time]

@[simp] theorem edgeClass_time (s : State) (c : Nat) : (edgeClass s c).tb.time = s.tb.time := by
  simp [edgeClass, apply_ite State.tb, apply_ite TbSt.time]

@[simp] theorem alarmFire_time (s : State) : (alarmFire s).tb.time = s.tb.time := by
  unfold alarmFire
  split
  · rfl
  · simp [apply_ite State.tb, apply_ite TbSt.time]

theorem stepOfferLoop_time (n : Nat) (s : State) : (stepOfferLoop n s).tb.time = s.tb.time := by
  induction n generalizing s with
  | zero => rfl
  | succ n ih =>
    unfold stepOfferLoop
    split
    · rfl
    · split <;> rename_i h
      · rw [evsOffer_tb h]
      · rw [ih, setTb_tb, evsOffer_tb h]

@[simp] theorem stepOffer_time (s : State) (p : List Byte) : (stepOffer s p).tb.time = s.tb.time := by
  unfold stepOffer
  dsimp only
  split
  · exact stepOfferLoop_time ..
  · rfl

@[simp] theorem setB0_time (s : State) (b c : Nat) : (setB0 s b c).tb.time = s.tb.time := rfl

@[simp] theorem servoAct_time (s : State) (e : Int) : (servoAct s e).tb.time = s.tb.time := by
  simp [servoAct, apply_ite State.tb]

/-- A forward step sets legal time. -/
@[simp] theorem tbStep_time (s : State) (t : Nat) (e : Int) (cause qb qa : Nat) : (tbStep s t e cause qb qa).tb.time = t % 2 ^ 64 := by
  simp [tbStep]

/-! ### An edge acted on -/

/-- Where an edge's action steps legal time, what is left of the offset is positive, so the step goes forward. -/
theorem edgeAct_time_le {s : State} {e : PpsEdge} {off : Int} (h : (s.tb.time : Int) + edgeLeft s e off < 2 ^ 64) :
    s.tb.time ≤ (edgeAct s e off).tb.time := by
  unfold edgeAct
  extract_lets left off1 new t s1
  split
  · rename_i hstep
    have hleft : 0 < left := by
      by_contra hneg
      simp only [off1] at hstep
      split at hstep <;> omega
    split
    · simp
    · rw [tbStep_time, Nat.mod_eq_of_lt (by omega)]
      omega
  · split <;> simp [t]

theorem edgeAccept_time_le {s : State} {e : PpsEdge} {off : Int} (h : (s.tb.time : Int) + edgeLeft s e off < 2 ^ 64) :
    s.tb.time ≤ (edgeAccept s e off).tb.time := by
  unfold edgeAccept
  extract_lets e1 t0 t s1
  rw [edgeClass_time, pcu_tb]
  split
  · exact le_rfl
  · exact edgeAct_time_le (s := s1) h

theorem edgeJudge_time_le {s : State} {e : PpsEdge}
    (h : ∀ sec, e.label = some sec → (s.tb.time : Int) + edgeLeft s e (e.offset sec) < 2 ^ 64) : s.tb.time ≤ (edgeJudge s e).tb.time := by
  unfold edgeJudge
  split
  · exact le_rfl
  · rename_i sec hsec
    extract_lets s1 t
    split
    · exact le_rfl
    · split
      · simp [s1, t]
      · split
        · exact edgeAccept_time_le (s := s1) (h sec hsec)
        · exact le_rfl

/-! ### PPS_IN -/

theorem sext_lt (k n : Nat) : sext k n < 2 ^ k := by
  have hn : ((n % 2 ^ k : Nat) : Int) < 2 ^ k := by exact_mod_cast Nat.mod_lt n (Nat.two_pow_pos k)
  unfold sext
  push_cast at hn ⊢
  split <;> omega

/-- An edge lies less than half a second behind the second nearest to it, unless its timestamp lies before legal time 0. -/
theorem offset_nearestSec_lt {e : PpsEdge} (h : -1000000000 < e.stamp) : e.offset (nearestSec e) < 1000000000 := by
  unfold PpsEdge.offset nearestSec
  omega

theorem edgeShift_time_moved (s : State) : (edgeShift s).tb.time = s.tb.time ∧ (edgeShift s).tb.moved = s.tb.moved := by
  unfold edgeShift
  split
  · exact ⟨rfl, rfl⟩
  · dsimp only
    split
    · exact ⟨rfl, rfl⟩
    · split <;> split <;> exact ⟨rfl, rfl⟩

/-- An edge just taken, which nothing has moved legal time since, and which carries no label or that of the nearest second. -/
theorem edgeTake_time_le {s : State} {e : PpsEdge} (hmoved : e.moved = s.tb.moved) (hstamp : -1000000000 < e.stamp)
    (hlabel : ∀ sec, e.label = some sec → sec = nearestSec e) (ht : s.tb.time + 10 ^ 9 < 2 ^ 64) : s.tb.time ≤ (edgeTake s e).tb.time := by
  unfold edgeTake
  extract_lets s1 t
  have h1 : s1.tb = s.tb := by
    dsimp only [s1]
    split
    · rfl
    · simp [apply_ite State.tb]
  have htime : t.time = s.tb.time := congrArg TbSt.time h1
  rw [← htime]
  refine edgeJudge_time_le (s := s1.setTb { t with edge := some e, restart := false }) (fun sec hsec => ?_)
  have hoff := offset_nearestSec_lt hstamp
  rw [hlabel sec hsec, edgeLeft, hmoved]
  simp only [setTb_tb, t, h1, sub_self]
  omega

theorem ppsTake_time_le {s : State} (ht : s.tb.time + 10 ^ 9 < 2 ^ 64) : s.tb.time ≤ (ppsInEdge.ppsTake s).tb.time := by
  unfold ppsInEdge.ppsTake
  extract_lets err comp e0 e
  have hcomp : comp < 2 ^ 16 := sext_lt 16 _
  have he : e = { e0 with label := e.label } := by
    dsimp only [e]
    split <;> rfl
  have hstamp : e.stamp = s.tb.time + err - comp := by rw [he]; rfl
  have herr : -4 ≤ err := le_max_left ..
  refine edgeTake_time_le (s := s.fresh) (congrArg PpsEdge.moved he) (by omega) (fun sec hsec => ?_) ht
  have hnear : nearestSec e = nearestSec e0 := by rw [he]; rfl
  rw [hnear]
  dsimp only [e] at hsec
  split at hsec
  · exact (Option.some.inj hsec).symm
  · cases hsec

theorem ppsInEdge_time_le (falling : Bool) (held : Nat) {s : State} (ht : s.tb.time + 10 ^ 9 < 2 ^ 64) :
    s.tb.time ≤ (ppsInEdge falling held s).tb.time := by
  have htake : s.tb.time ≤ (ppsInEdge.ppsTake (edgeShift s)).tb.time := by
    obtain ⟨htime, -⟩ := edgeShift_time_moved s
    rw [← htime] at ht ⊢
    exact ppsTake_time_le ht
  unfold ppsInEdge
  split
  · exact le_rfl
  · split
    · split
      · rw [inc_tb]
      · exact htake
    · exact htake

/-! ### Labels -/

/-- Legal time, and what corrections have moved it, are the same. -/
def TimeKept (s t : State) : Prop := t.tb.time = s.tb.time ∧ t.tb.moved = s.tb.moved

/-- A label put on an edge: of the offset that it shows, only what has not moved legal time since is acted on. -/
theorem relabel_time_le {s v : State} {e : PpsEdge} {sec : Nat} (byTod : Bool) (hv : TimeKept s v)
    (h : (s.tb.time : Int) + edgeLeft s e (e.offset sec) < 2 ^ 64) : s.tb.time ≤ (relabel v e sec byTod).tb.time := by
  obtain ⟨htime, hmoved⟩ := hv
  rw [edgeLeft, ← hmoved, ← htime] at h
  rw [← htime]
  unfold relabel
  extract_lets e1 v1
  split
  · rw [edgeClass_time]
    refine edgeAct_time_le (s := v1.setReg _ _) ?_
    show (v.tb.time : Int) + (edgeLeft v e (e.offset sec) - (v.tb.moved - v.tb.moved) / 2 ^ 32) < 2 ^ 64
    rwa [sub_self, Int.zero_ediv, sub_zero]
  · refine edgeJudge_time_le (s := v1) (fun sec' hsec => ?_)
    obtain rfl : sec = sec' := Option.some.inj hsec
    exact h

/-- The labels that a message may put on an edge keep legal time within its 64 bits. -/
def LabelsFit (s : State) (sec : Nat) : Prop :=
  ∀ e n, s.tb.edge = some e → n = sec ∨ n = nearestSec e → (s.tb.time : Int) + edgeLeft s e (e.offset n) < 2 ^ 64

theorem todDiffers_time_le {s : State} {sec : Nat} {e : PpsEdge} (h : LabelsFit s sec) (he : s.tb.edge = some e) :
    s.tb.time ≤ (todDiffers s e sec).tb.time := by
  have hsec := h e _ he (.inl rfl)
  unfold todDiffers
  extract_lets d n t s1
  have h1 : TimeKept s s1 := by simp [TimeKept, s1, t]
  split
  · exact relabel_time_le true ⟨rfl, rfl⟩ hsec
  · split
    · exact relabel_time_le true h1 hsec
    · split
      · exact relabel_time_le false h1 (h e _ he (.inr rfl))
      · exact h1.1.ge

theorem todLabel_time_le {s : State} {sec : Nat} (h : LabelsFit s sec) : s.tb.time ≤ (todLabel s sec).tb.time := by
  unfold todLabel
  split
  · rw [sqEvt_tb]
  · rename_i e he
    extract_lets c t s1
    have h1 : TimeKept s s1 := by
      dsimp only [s1]
      split <;> exact ⟨rfl, rfl⟩
    split
    · rw [sqEvt_tb]
    · split
      · exact le_rfl
      · split
        · exact todDiffers_time_le h he
        · split
          · exact relabel_time_le true (v := s1.setTb _) h1 (h e _ he (.inl rfl))
          · split
            · exact h1.1.ge
            · rw [sqEvt_tb]
              exact h1.1.ge

theorem timeOfDay_time_le {s : State} {m : TodMsg} (h : LabelsFit s (m.seconds % 2 ^ 40)) : s.tb.time ≤ (timeOfDay m s).tb.time := by
  unfold timeOfDay
  extract_lets k s1 s2
  have h2 : s2.tb = s.tb := by
    simp only [s2, apply_ite State.tb, gnssSpeed_tb]
    exact ite_self _
  split
  · rw [sqEvt_tb]
  · split
    · rw [← h2]
      exact todLabel_time_le (by unfold LabelsFit edgeLeft; rw [h2]; exact h)
    · rw [h2]

/-! ### The message's way to the timebase -/

/-- A TimeOfDay message that a port refuses leaves the timebase as it is; one that it takes is handed on, in a state in which the timebase is as
before. -/
theorem deliverMsg_tod (p : Nat) (s : State) (head : Bool) (m : TodMsg) :
    ∃ u, deliverMsg p s head (.tod m) = creditsFree u p m.mclass head ∧ (u.tb = s.tb ∨ ∃ v, v.tb = s.tb ∧ u = timeOfDay m v) := by
  unfold deliverMsg
  dsimp -zeta only [msgHead]
  extract_lets need q s0 s1
  have h1 : s1.tb = s.tb := by
    show s0.tb = s.tb
    dsimp only [s0]
    rw [apply_ite State.tb, attachComplete_tb, ite_self]
  split
  · exact ⟨_, rfl, .inl (by rw [raise_tb, sqEvt_tb, h1])⟩
  · split
    · exact ⟨_, rfl, .inl (by rw [raise_tb, sqEvt_tb, h1])⟩
    · split
      · exact ⟨_, rfl, .inl h1⟩
      · exact ⟨_, rfl, .inr ⟨s1, h1, rfl⟩⟩

theorem msgIn_tod_time_le {s : State} {m : TodMsg} (p : Nat) (h : LabelsFit s (m.seconds % 2 ^ 40)) :
    s.tb.time ≤ (msgIn s p (.tod m)).tb.time := by
  unfold msgIn
  split
  · obtain ⟨u, hu, hkept | ⟨v, hv, rfl⟩⟩ := deliverMsg_tod p s (dataHead (msgHead (.tod m)).1) m
    · rw [hu, creditsFree_tb, hkept]
    · rw [hu, creditsFree_tb, ← hv]
      exact timeOfDay_time_le (by unfold LabelsFit edgeLeft; rw [hv]; exact h)
  · exact le_rfl

/-- An event of an island, which acts or does not, keeps what both keep. -/
theorem onIsl_time_le {s : State} (i : Nat) {f : State → State} (h : s.tb.time ≤ (f s).tb.time) : s.tb.time ≤ (onIsl i f s).tb.time := by
  unfold onIsl
  split
  · exact h
  · exact le_rfl

/-! ### The obligation -/

/-- The floor step goes to a time later than the one passed. -/
theorem tbFloor_time {s : State} {t : Nat} (h : t + 1000 < 2 ^ 64) : s.tb.time ≤ (tbFloor s t).tb.time ∧ t < (tbFloor s t).tb.time := by
  unfold tbFloor
  split
  · omega
  · rw [tbStep_time, Nat.mod_eq_of_lt h]
    omega

/-- Settles O52: an edge just taken shows less than half a second, what a label shows is acted on less what has moved legal time since the edge,
and each is a step only where it is positive. -/
theorem legalTimeStepsOnlyForward : Obligations.LegalTimeStepsOnlyForward := by
  unfold Obligations.LegalTimeStepsOnlyForward
  refine ⟨fun s falling held ht => ⟨_, rfl, onIsl_time_le 1 (ppsInEdge_time_le falling held ht)⟩, fun s p m h => ⟨_, rfl, ?_⟩,
    fun s t => tbFloor_time⟩
  unfold onPort
  split
  · exact onIsl_time_le _ (msgIn_tod_time_le p h)
  · exact le_rfl

end Sys2Proof.Machine
end

section
/-!
PROOF. What leaves motion as it is: reports and offers, requests of agent 0's engines, passes, the analog blocks, and words and tables taken
over by a strobe.
-/
namespace Sys2Proof.Machine

theorem mot_of_maskRep {s t : State} (h : maskRep t = maskRep s) : t.mot = s.mot := by rw [eq_of_maskRep h]

theorem foldl_mot {α : Type} {f : State → α → State} (hf : ∀ s x, (f s x).mot = s.mot) (l : List α) (s : State) :
    (l.foldl f s).mot = s.mot :=
  List.foldlRecOn (motive := fun (u : State) => u.mot = s.mot) l f rfl (fun u hu x _ => (hf u x).trans hu)

theorem ite_mot {s t u : State} {p : Prop} [Decidable p] (ht : t.mot = s.mot) (hu : u.mot = s.mot) : (if p then t else u).mot = s.mot := by
  rw [apply_ite State.mot, ht, hu, ite_self]

/-! ### Reports and offers -/

@[simp] theorem inc_mot (s : State) (k : Nat) : (s.inc k).mot = s.mot := mot_of_maskRep (maskRep_inc s k)
@[simp] theorem pcu_mot (ev q k : Nat) (s : State) : (pcu ev q k s).mot = s.mot := mot_of_maskRep (maskRep_pcu ev q k s)
@[simp] theorem sqEvt_mot (s : State) (k bits : Nat) : (sqEvt s k bits).mot = s.mot := mot_of_maskRep (maskRep_sqEvt s k bits)
@[simp] theorem evcSet_mot (s : State) (src info : Nat) : (evcSet s src info).mot = s.mot := mot_of_maskRep (maskRep_evcSet s src info)
@[simp] theorem raise_mot (s : State) (c info : Nat) : (raise s c info).mot = s.mot := mot_of_maskRep (maskRep_raise s c info)
@[simp] theorem startIsl_mot (s : State) (i : Nat) : (startIsl s i).mot = s.mot := mot_of_maskRep (maskRep_startIsl s i)
@[simp] theorem evsPush_mot (s : State) (h : Bool) (typ : Nat) (p : List Byte) (log : Option Nat) :
    (evsPush s h typ p log).mot = s.mot := mot_of_maskRep (maskRep_evsPush s h typ p log)
@[simp] theorem fltRecorded_mot (s : State) (n : Nat) : (fltRecorded s n).mot = s.mot := mot_of_maskRep (maskRep_fltRecorded s n)

theorem evsOffer_mot {s t : State} {typ : Nat} {p : List Byte} {log : Option Nat} {r : OfferRes} (h : evsOffer s typ p log = (t, r)) :
    t.mot = s.mot := by
  have := mot_of_maskRep (maskRep_evsOffer s typ p log)
  rwa [h] at this

theorem fltOfferLoop_mot (n : Nat) (s : State) : (fltOfferLoop n s).mot = s.mot := by
  induction n generalizing s with
  | zero => rfl
  | succ n ih =>
    unfold fltOfferLoop
    split
    · rfl
    · split <;> rename_i e <;> have h := evsOffer_mot e
      · rw [ih, fltRecorded_mot, ← h]
      · rw [ih, ← h]
      · exact h

theorem heldLoop_mot (n : Nat) (s : State) : (heldLoop n s).mot = s.mot := by
  induction n generalizing s with
  | zero => rfl
  | succ n ih =>
    unfold heldLoop
    split
    · rfl
    · refine ite_mot rfl ((ih _).trans ?_)
      split <;> simp

@[simp] theorem evsFreed_mot (s : State) : (evsFreed s).mot = s.mot := by
  unfold evsFreed
  extract_lets t s1
  have h1 : s1.mot = s.mot := by
    dsimp only [s1]
    split
    · rfl
    · exact ite_mot rfl (evsPush_mot ..)
  exact ite_mot ((heldLoop_mot ..).trans h1) h1

@[simp] theorem cvuRestart_mot (s : State) : (cvuRestart s).mot = s.mot := by
  refine foldl_mot (fun s n => ?_) _ s
  exact ite_mot (sqEvt_mot ..) rfl

/-! ### Engines of agent 0, and passes -/

@[simp] theorem ag0Req_mot (s : State) (w : Ag0Who) (k : ReqKind) (tenant line : Nat) (peek : Bool) (d : Line) (mask : BitVec 64) :
    (ag0Req s w k tenant line peek d mask).mot = s.mot := by
  simp [ag0Req, tagReq, tagItem, setTag, apply_ite State.mot]

@[simp] theorem linkCut_mot (s : State) (p : Nat) : (linkCut s p).mot = s.mot := by
  simp [linkCut, apply_ite State.mot]

@[simp] theorem pasRecompute_mot (s : State) : (pasRecompute s).mot = s.mot := by
  simp [pasRecompute, pasCut, foldl_mot linkCut_mot, apply_ite State.mot]

/-! ### The acquisition and the DAC channels -/

theorem acqIssue_mot (n : Nat) (s : State) : (acqIssue n s).mot = s.mot := by
  induction n generalizing s with
  | zero => rfl
  | succ n ih =>
    unfold acqIssue
    split
    · rfl
    · exact ite_mot rfl ((ih _).trans (ite_mot ((evcSet_mot ..).trans (ag0Req_mot ..)) (ag0Req_mot ..)))

theorem ringFlush_mot (s : State) (n : Nat) : (ringFlush s n).mot = s.mot := ite_mot rfl (acqIssue_mot 16 _)

@[simp] theorem iadcCancel_mot (s : State) : (iadcCancel s).mot = s.mot := ite_mot rfl rfl

theorem acqContain_mot (s : State) : (acqContain s).mot = s.mot := by simp [acqContain, foldl_mot ringFlush_mot]

theorem refStrobe_mot (s : State) : (refStrobe s).mot = s.mot := by
  simp [refStrobe, refTaint, acqEvt, apply_ite State.mot]

theorem dacFault_mot (s : State) (n : Nat) : (dacFault s n).mot = s.mot := by
  unfold dacFault
  dsimp only [dacTakes, setDac]
  exact ite_mot (setReg_mot ..) (setReg_mot ..)

@[simp] theorem faultLoads_mot (s : State) (l : List Nat) : (faultLoads s l).mot = s.mot :=
  ite_mot rfl ((sqEvt_mot ..).trans (foldl_mot dacFault_mot l s))

theorem groupLoad_mot (s : State) (src : Nat) (sel : Option Nat) : (groupLoad s src sel).mot = s.mot := by
  refine foldl_mot (fun s n => ?_) _ s
  exact ite_mot (ite_mot rfl rfl) rfl

theorem dacCfgStrobe_mot (old : List Word) (s : State) : (dacCfgStrobe old s).mot = s.mot := by
  unfold dacCfgStrobe
  extract_lets s1
  have h1 : s1.mot = s.mot := by
    refine foldl_mot (fun s n => ?_) _ s
    exact ite_mot rfl rfl
  exact ite_mot ((sqEvt_mot ..).trans h1) h1

/-! ### Lathes -/

@[simp] theorem resFlush_mot (s : State) (n : Nat) : (resFlush s n).mot = s.mot := by
  unfold resFlush
  dsimp only
  split
  · rfl
  · exact ag0Req_mot ..

@[simp] theorem resPut_mot (s : State) (n i : Nat) (b : List Byte) : (resPut s n i b).mot = s.mot := by
  unfold resPut
  split
  · simp [setLth, apply_ite State.mot]
  · exact foldl_mot (fun s _ => setReg_mot s _ _) _ s

@[simp] theorem toSafe_mot (s : State) (n : Nat) : (toSafe s n).mot = s.mot := by
  refine ite_mot rfl (ite_mot rfl ?_)
  unfold transStart
  dsimp only
  split
  · exact sqEvt_mot ..
  · rfl

theorem lthAbortAs_mot (load : Bool) (s : State) (n causes : Nat) : (lthAbortAs load s n causes).mot = s.mot := by
  simp [lthAbortAs, abortRaise, lthTables, lthEvt, setLth, apply_ite State.mot]

theorem lthTblStrobe_mot (s : State) (n : Nat) (r c : Bool) : (lthTblStrobe s n r c).mot = s.mot := ite_mot rfl rfl

/-! ### Containments and escalations -/

theorem dacContain_mot (s : State) (n : Nat) : (dacContain s n).mot = s.mot := by
  simp [dacContain, cmdAbort, lthAbort, lthAbortAs_mot, apply_ite State.mot]

@[simp] theorem escApply_mot (s : State) : (escApply s).mot = s.mot := by
  have hlth : (lthEscalate s).mot = s.mot := foldl_mot (fun _ _ => ite_mot (setFld_mot ..) (ite_mot rfl (lthAbortAs_mot ..))) _ s
  rw [escApply, faultAll, faultLoads_mot, hlth]

theorem escalate_mot (s : State) : (escalate s).mot = s.mot := by
  simp [escalate, apply_ite State.mot]

theorem anaFirst_mot (s : State) : (anaFirst s).mot = s.mot := (faultLoads_mot ..).trans (ite_mot (escApply_mot s) rfl)

/-! ### Timebase, motion and the core's wake -/

@[simp] theorem tbReclass_mot (s : State) : (tbReclass s).mot = s.mot := by
  simp [tbReclass, apply_ite State.mot]

@[simp] theorem motEval_gnss (s : State) : (motEval s).mot.gnss = s.mot.gnss := by
  simp [motEval, apply_ite State.mot, apply_ite MotSt.gnss]

/-- An update of group 3 leaves of motion the speed of the last message. -/
theorem tbApplied_gnss (old s : State) : (tbApplied old s).mot.gnss = s.mot.gnss := by
  simp only [tbApplied, motEval_gnss, tbReclass_mot, apply_ite State.mot, apply_ite MotSt.gnss, setTb_mot, setMot_mot, ite_self]

theorem timecmpMatch_mot (s : State) : (timecmpMatch s).mot = s.mot := ite_mot (ite_mot rfl rfl) rfl

/-! ### Words and tables taken over -/

theorem copyWord_mot (s : State) (w : Nat × Word) : (copyWord s w).mot = s.mot := by
  simp [copyWord, parReport, parFresh, apply_ite State.mot]

theorem tblHook_mot (s : State) (k : Nat) : (tblHook s k).mot = s.mot := by
  simp [tblHook, acqTblStrobe, lthTblStrobe_mot, apply_ite State.mot]

theorem tblActivates_mot (l : List Nat) (x : State × Nat) : (l.foldl tblActivate x).1.mot = x.1.mot := by
  refine List.foldlRecOn (motive := fun (y : State × Nat) => y.1.mot = x.1.mot) l _ rfl (fun y hy k _ => Eq.trans ?_ hy)
  unfold tblActivate
  dsimp only
  split
  · rfl
  · split
    · rfl
    · exact tblHook_mot ..

end Sys2Proof.Machine
end

section
/-!
PROOF. In a device whose ports are all ACTIVE when a command has ended in power-on reset, what followed the command's own effect has left the
speed of the last TimeOfDay message as it was: of the consequences only the containment of a port reaches beyond registers, islands, links and the
analog blocks, and it leaves that port other than ACTIVE.
-/
namespace Sys2Proof.Machine

/-! ### Ports -/

theorem portOf_setPort_ne {s : State} {p q : Nat} (f : PortSt → PortSt) (h : q ≠ p) : portOf (setPort s p f) q = portOf s q := by
  simp [portOf, setPort, upd, List.getD_eq_getElem?_getD, Ne.symm h]

/-- No port becomes ACTIVE. -/
def NoneActivated (s t : State) : Prop := ∀ q, (portOf t q).mode = .active → (portOf s q).mode = .active

namespace NoneActivated

theorem refl (s : State) : NoneActivated s s := fun _ => id

theorem trans {s t u : State} (h1 : NoneActivated s t) (h2 : NoneActivated t u) : NoneActivated s u := fun q h => h1 q (h2 q h)

theorem of_lnk {s t : State} (h : t.lnk = s.lnk) : NoneActivated s t := fun q hq => by rwa [portOf_congr h] at hq

theorem ite {s t u : State} {p : Prop} [Decidable p] (ht : NoneActivated s t) (hu : NoneActivated s u) :
    NoneActivated s (if p then t else u) := by
  split
  · exact ht
  · exact hu

/-- A change of a port that leaves its mode, or takes it to one that is not ACTIVE. -/
theorem setPort {f : PortSt → PortSt} (s : State) (p : Nat) (hf : ∀ x, (f x).mode = .active → x.mode = .active := by exact fun _ => id) :
    NoneActivated s (setPort s p f) := fun q h => by
  by_cases hq : q = p
  · subst hq
    have hlt : q < s.lnk.ports.length := by
      rw [← setPort_ports_length s q f]
      exact port_lt_of_mode (by rw [h]; decide)
    rw [portOf_setPort_self f hlt] at h
    exact hf _ h
  · rwa [portOf_setPort_ne f hq] at h

theorem hubReq (s : State) (p mask : Nat) : NoneActivated s (hubReq s p mask) :=
  .trans (setPort s p) (setPort _ p)

theorem reconfDone (s : State) (p : Nat) : NoneActivated s (reconfDone s p) := by
  refine .trans (setPort s p (fun x h => ?_)) (.of_lnk (linkCut_lnk ..))
  simp only [portRestart] at h
  split at h
  · cases h
  · split at h <;> cases h

theorem reconfTry (s : State) (p : Nat) : NoneActivated s (reconfTry s p) := ite (reconfDone s p) (refl s)

theorem reconfCheck (s : State) (p : Nat) : NoneActivated s (reconfCheck s p) := by
  unfold Machine.reconfCheck
  extract_lets n s1
  have h1 : NoneActivated s s1 := (reconfTry s p).trans (reconfTry _ n)
  exact ite (h1.trans (reconfDone s1 n)) h1

theorem portConfig (s : State) (p : Nat) : NoneActivated s (portConfig s p) := by
  have happly (s : State) : NoneActivated s (cfgApply s p) := by
    unfold cfgApply
    extract_lets q en s1
    have h1 : NoneActivated s s1 := setPort s p
    exact ite (ite (reconfDone s p) h1) (ite (refl s) (ite (h1.trans (reconfCheck s1 p)) (h1.trans (hubReq s1 p _))))
  exact .trans (ite (.of_lnk (sqEvt_lnk ..)) (refl s)) (happly _)

end NoneActivated

/-- A port that has been contained is not ACTIVE. -/
theorem portContain_inactive (s : State) (p : Nat) : (portOf (portContain s p) p).mode ≠ .active := by
  unfold portContain
  split
  · rename_i h
    rcases h with h | h <;> rw [h] <;> decide
  · intro h
    unfold portDown at h
    have hdown := NoneActivated.reconfCheck _ p p h
    have hlt := port_lt_of_mode (by rw [hdown]; decide)
    rw [setPort_ports_length] at hlt
    rw [portOf_setPort_self _ hlt] at hdown
    cases hdown

theorem hubReq_mot (s : State) (p mask : Nat) : (hubReq s p mask).mot = s.mot := rfl

theorem reconfDone_mot (s : State) (p : Nat) : (reconfDone s p).mot = s.mot := linkCut_mot ..

theorem reconfTry_mot (s : State) (p : Nat) : (reconfTry s p).mot = s.mot := ite_mot (reconfDone_mot s p) rfl

theorem reconfCheck_mot (s : State) (p : Nat) : (reconfCheck s p).mot = s.mot := by
  unfold reconfCheck
  extract_lets n s1
  have h1 : s1.mot = s.mot := by rw [reconfTry_mot, reconfTry_mot]
  exact ite_mot ((reconfDone_mot ..).trans h1) h1

theorem portConfig_mot (s : State) (p : Nat) : (portConfig s p).mot = s.mot := by
  have happly (s : State) : (cfgApply s p).mot = s.mot :=
    ite_mot (ite_mot (reconfDone_mot s p) rfl) (ite_mot rfl (ite_mot (reconfCheck_mot ..) (hubReq_mot ..)))
  exact (happly _).trans (ite_mot (sqEvt_mot ..) rfl)

/-! ### The relation -/

/-- Every port is ACTIVE. -/
def AllActive (s : State) : Prop := ∀ p, p < 16 → (portOf s p).mode = .active

/-- Where every port is ACTIVE after, every port was before, and the speed of the last message is the same. -/
def SpeedStays (s t : State) : Prop := AllActive t → AllActive s ∧ t.mot.gnss = s.mot.gnss

namespace SpeedStays

theorem of_ports {s t : State} (hp : NoneActivated s t) (hg : t.mot.gnss = s.mot.gnss) : SpeedStays s t :=
  fun h => ⟨fun p hp16 => hp p (h p hp16), hg⟩

theorem of_lnk {s t : State} (hl : t.lnk = s.lnk) (hm : t.mot = s.mot) : SpeedStays s t := of_ports (.of_lnk hl) (congrArg MotSt.gnss hm)

theorem refl (s : State) : SpeedStays s s := of_lnk rfl rfl

theorem trans {s t u : State} (h1 : SpeedStays s t) (h2 : SpeedStays t u) : SpeedStays s u := fun hu => by
  obtain ⟨ht, hg2⟩ := h2 hu
  obtain ⟨hs, hg1⟩ := h1 ht
  exact ⟨hs, hg2.trans hg1⟩

theorem ite {s t u : State} {p : Prop} [Decidable p] (ht : SpeedStays s t) (hu : SpeedStays s u) : SpeedStays s (if p then t else u) := by
  split
  · exact ht
  · exact hu

theorem foldl {α : Type} {f : State → α → State} (hf : ∀ s x, SpeedStays s (f s x)) (l : List α) (s : State) : SpeedStays s (l.foldl f s) :=
  List.foldlRecOn (motive := fun u => SpeedStays s u) l f (refl s) (fun u hu x _ => hu.trans (hf u x))

/-! ### Strobes -/

theorem grpHook (old : State) (g isl : Nat) (s : State) : SpeedStays s (grpHook old g isl s) := by
  unfold Machine.grpHook
  refine ite (.of_ports (.portConfig s _) (congrArg MotSt.gnss (portConfig_mot s _)))
    (ite (.of_ports (.of_lnk (tbApplied_lnk ..)) (tbApplied_gnss ..)) (ite ?_ (refl s)))
  extract_lets s1 s2 s3
  have h1 : SpeedStays s s1 := ite (refl s) (.of_lnk (refStrobe_lnk s) (refStrobe_mot s))
  have h2 : SpeedStays s s2 := ite (h1.trans (.of_lnk rfl rfl)) h1
  have h3 : SpeedStays s s3 := ite (h2.trans (.of_lnk (dacCfgStrobe_lnk ..) (dacCfgStrobe_mot ..))) (refl s)
  exact h3.trans (.of_lnk (groupLoad_lnk ..) (groupLoad_mot ..))

theorem applyIsl (s : State) (g isl : Nat) : SpeedStays s (applyIsl s g isl) := by
  unfold Machine.applyIsl
  extract_lets w left s1 act s2 t2 s3
  have hact : SpeedStays s act.1 := .of_lnk ((tblActivates_lnk _ (s1, 0)).trans (foldl_lnk copyWord_lnk w s))
    ((tblActivates_mot _ (s1, 0)).trans (foldl_mot copyWord_mot w s))
  have h2 : SpeedStays s s2 := ite hact (hact.trans (.of_lnk (sqEvt_lnk ..) (sqEvt_mot ..)))
  have h3 : SpeedStays s s3 := ite h2 (h2.trans (.of_lnk rfl rfl))
  exact h3.trans (grpHook s g isl s3)

theorem grpAfter (s : State) (g : Nat) : SpeedStays s (grpAfter s g) := by
  have hpend (s : State) : SpeedStays s (pendCheck s g) := ite (refl s) (.of_lnk rfl rfl)
  exact .trans (ite (.of_lnk (pasRecompute_lnk s) (pasRecompute_mot s)) (refl s)) (hpend _)

theorem heldApply (s : State) (isl : Nat) : SpeedStays s (heldApply s isl) := by
  unfold Machine.heldApply
  refine foldl (fun u h => ?_) _ s
  extract_lets i u1
  have h1 : SpeedStays u u1 := .of_lnk rfl rfl
  exact (h1.trans (applyIsl u1 h.1 isl)).trans (grpAfter _ h.1)

theorem updDue (s : State) : SpeedStays s (updDue s) := by
  have hstrobe (g : Nat) (s : State) (isl : Nat) : SpeedStays s (strobeIsl g s isl) :=
    ite (applyIsl s g isl) (ite (refl s) (.of_lnk rfl rfl))
  have hstrobes (l : List Nat) (s : State) : SpeedStays s (updStrobes l s) :=
    foldl (fun s g => .trans (foldl (hstrobe g) _ s) (grpAfter _ g)) l s
  unfold Machine.updDue
  split
  · exact ite (.trans (.of_lnk rfl rfl) (hstrobes _ _)) (refl s)
  · exact refl s

/-! ### Valleys -/

theorem exitBegin (s : State) (d : Nat) : SpeedStays s (exitBegin s d) := .of_lnk rfl rfl

theorem parkBegin (s : State) (goal : Nat) : SpeedStays s (parkBegin s goal) := by
  have habort (s : State) (key : Nat) : SpeedStays s (foldAbort s key) := by
    unfold foldAbort
    split
    · exact ite (.of_lnk rfl rfl) (refl s)
    · exact refl s
  have hpark (s : State) (p : Nat) : SpeedStays s (parkEnter s p) := ite (.of_ports (.setPort s p) rfl) (refl s)
  have hvalley : SpeedStays s (vStage s .park goal) := .of_lnk rfl rfl
  exact (hvalley.trans (foldl habort _ _)).trans (foldl hpark _ _)

theorem wakeAs (s : State) (d src : Nat) (keep cut : Bool) : SpeedStays s (wakeAs s d src keep cut) := by
  unfold Machine.wakeAs
  extract_lets note c s1 g
  have hnote : SpeedStays s (note s) := ite (.of_lnk rfl rfl) (.of_lnk rfl rfl)
  have hstep {u v : State} (h : SpeedStays s u) (hl : v.lnk = u.lnk) (hm : v.mot = u.mot) : SpeedStays s v := h.trans (.of_lnk hl hm)
  have h1 : SpeedStays s s1 := ite hnote (refl s)
  split
  case h_1 | h_2 | h_8 => exact ite (hstep hnote rfl rfl) (refl s)
  case h_3 | h_4 | h_5 =>
    exact ite (hstep h1 rfl rfl) (ite (hstep h1 rfl rfl) (ite (h1.trans (parkBegin s1 g)) (hstep h1 rfl rfl)))
  case h_6 | h_7 => exact ite (refl s) (ite (hstep hnote rfl rfl) (hstep hnote rfl rfl))

theorem wake (s : State) (b : Nat) : SpeedStays s (wake s b) := by
  unfold Machine.wake
  extract_lets auto i s1 s2
  have h1 : SpeedStays s s1 := ite (refl s) (.of_lnk rfl rfl)
  have h2 : SpeedStays s s2 := h1.trans (wakeAs s1 _ b auto true)
  exact ite (refl s) (ite (h2.trans (.of_lnk rfl rfl)) h2)

theorem keptAct (s : State) : SpeedStays s (keptAct s) := by
  have hlatch (s : State) : SpeedStays s (latchWakes s) :=
    foldl (fun s b => ite (wakeAs s (wakeDepth s b) b false false) (refl s)) _ s
  have hlpi (s : State) (p : Nat) : SpeedStays s (lpiEnter s p) := ite (.of_ports (.setPort s p) rfl) (refl s)
  have hentry (s : State) (v : Nat) : SpeedStays s (entryStart s v) := by
    unfold entryStart
    extract_lets s1 i s2 s3
    have h2 (st : VStage) (goal : Nat) : SpeedStays s (vStage s2 st goal) := .of_lnk rfl rfl
    have h3 : SpeedStays s s3 := ite ((h2 .toDale 1).trans (foldl hlpi _ _))
      (ite ((h2 .gbDrain 3).trans (.of_lnk (evcSet_lnk ..) (evcSet_mot ..))) ((h2 .waitRc v).trans (.of_lnk (evcSet_lnk ..) (evcSet_mot ..))))
    exact h3.trans (hlatch s3)
  have htarget (s : State) (v : Nat) : SpeedStays s (targetAct s v) := ite (refl s) (ite (hentry s v) (.of_lnk rfl rfl))
  unfold Machine.keptAct
  split
  · exact refl s
  · exact ite (refl s) (.trans (.of_lnk rfl rfl) (htarget _ _))

/-! ### The consequences of a command -/

theorem islStarted (s : State) (isl : Nat) : SpeedStays s (islStarted s isl) := by
  refine (heldApply s isl).trans (ite (.of_lnk ?_ ?_) (ite (.of_lnk (cvuRestart_lnk _) (cvuRestart_mot _)) (ite (.of_lnk ?_ ?_) (refl _))))
  · rw [acqAnaStart_lnk, anaFirst_lnk]
  · exact anaFirst_mot _
  · rw [fltReoffer_lnk, evsFreed_lnk]
  · rw [fltReoffer, fltOfferLoop_mot, evsFreed_mot]

theorem containApply (s : State) (u : Nat) : SpeedStays s (containApply s u) := by
  unfold Machine.containApply
  split
  · rename_i hu
    exact fun h => absurd (h u hu) (portContain_inactive s u)
  · exact ite (.of_lnk (pasRecompute_lnk s) (pasRecompute_mot s)) (ite (ite (.of_lnk (acqContain_lnk s) (acqContain_mot s)) (refl s))
      (ite (ite (.of_lnk (dacContain_lnk ..) (dacContain_mot ..)) (refl s))
        (ite (ite (.of_lnk (lthAbortAs_lnk ..) (lthAbortAs_mot ..)) (refl s)) (refl s))))

theorem effectApply (s : State) (e : Effect) : SpeedStays s (effectApply s e) := by
  cases e with
  | contain u => exact containApply s u
  | escalate => exact .of_lnk (escalate_lnk s) (escalate_mot s)
  | wake b => exact wake s b
  | started isl => exact islStarted s isl
  | jump => exact (updDue s).trans (.of_lnk (timecmpMatch_lnk _) (timecmpMatch_mot _))
  | daleWake => exact ite (wakeAs s 0 0xFE false true) (refl s)
  | keptTarget => exact keptAct s

theorem effectsRun (s : State) : SpeedStays s (effectsRun s) := by
  have hloop (n : Nat) (s : State) : SpeedStays s (effectLoop n s) := by
    induction n generalizing s with
    | zero => exact refl s
    | succ n ih =>
      unfold effectLoop
      split
      · exact refl s
      · rename_i e rest _
        have htake : SpeedStays s { s with effects := rest } := .of_lnk rfl rfl
        exact (htake.trans (effectApply _ e)).trans (ih _)
  exact hloop 512 s

end SpeedStays

end Sys2Proof.Machine
end

section
/-!
PROOF. Why a TimeOfDay message that meets every condition need not be taken where agents' IDs are any numbers: no attach grants an ID above 254
(R187), but a state may hold one, and HA_UNRESP as the model reads it for such an ID can lie on the register that the message's own arrival sets.
The statement names the state before the command's consequences by what holds of it alone, so the witness is of a device in power-on reset whose
ports are all ACTIVE, in which the speed of the last message stays through those consequences.
-/
namespace Sys2Proof.Machine

/-- Tenant 0 is LIVE and may bring time, and the agent of that ID is bound to it. Every port is ACTIVE; port 0 has sent its GRANT and waits for
the attach to complete. The device is in power-on reset with the islands of the ports clocked and latch 0 set. -/
def strayTimeState : State :=
  { ((State.reset.setReg Ad.ISL_LATCH 1).setReg (Ad.DSC_CTRL 0) 0x401).setReg (Ad.DSC_BIND 0 (strayId / 32)) 1 with
    isl := { State.reset.isl with phase := .porst }
    lnk := { lnkFresh with
      ports := { portFresh .active 2 0 with attach := some ⟨0, [], 0, 0, false, true⟩ } :: List.replicate 15 (portFresh .active 2 0)
      agents := [⟨strayId, 0, 0, true, none, false⟩] } }

/-- The agent's first message, a TimeOfDay with a speed of 3 km/h. -/
def strayTod : TodMsg := ⟨5, strayId, 0, 0, 100, 0, 300, true, false⟩

theorem accepts_strayTod : Accepts strayTimeState 0 (.tod strayTod) := by decide +kernel

/-- The command has left every port ACTIVE, latch 0 set and its source not pending, and no speed of a message. -/
def endsSpeedless : Host.Outcome State Fault Refusal → Bool
  | .next t => (List.range 16).all (fun p => (portOf t p).mode == .active) && bit (t.reg Ad.ISL_LATCH) 0 && !bit (t.reg (Ad.EVC_PEND 0)) 0 &&
      t.mot.gnss == 0
  | _ => false

/-- Before the consequences of such a command, whatever they are, there was no speed either. -/
theorem gnss_of_endsSpeedless {s0 s : State} {o : Host.Outcome State Fault Refusal} (h : endsSpeedless o = true)
    (ho : o = .next (finish s0 s)) : s.mot.gnss = 0 := by
  rw [ho] at h
  simp only [endsSpeedless, Bool.and_eq_true, List.all_eq_true, List.mem_range, beq_iff_eq, Bool.not_eq_true'] at h
  obtain ⟨⟨⟨hports, hlatch⟩, hpend⟩, hgnss⟩ := h
  have hend : follow s0 s = effectsRun s := follow_unpended hlatch hpend
  have hactive : AllActive (effectsRun s) := by rw [← hend]; exact hports
  obtain ⟨-, hkept⟩ := SpeedStays.effectsRun s hactive
  rw [← hkept, ← hend]
  exact hgnss

/-- The message completes the attach, and with it is discarded as that of an unresponsive agent. -/
theorem strayTod_discarded : endsSpeedless (exec (.timeOfDay 0 strayTod) strayTimeState) = true := by decide +kernel

/-- Refutes O51: a TimeOfDay message of a LIVE tenant that may bring time, from an agent bound to it, is discarded, where the last clause has
its speed taken; the clause lets an agent's ID be any number, and this one's message completes the attach and thereby reads as unresponsive. -/
theorem not_timeAndMotionCommandsAct : ¬ Obligations.TimeAndMotionCommandsAct := by
  unfold Obligations.TimeAndMotionCommandsAct
  intro h
  obtain ⟨-, -, -, -, htod⟩ := h strayTimeState 0 0 strayTod .cp false
  obtain ⟨u, hexec, -, hlive⟩ := htod accepts_strayTod
  obtain ⟨-, hspeed⟩ := hlive ⟨by decide, by decide +kernel, by decide +kernel, by decide +kernel⟩
  have hnone := gnss_of_endsSpeedless strayTod_discarded hexec
  rw [hspeed rfl] at hnone
  exact absurd hnone (by decide)

end Sys2Proof.Machine
end

section
/-!
PROOF. The sectors that an evaluation of the evidence store may begin to erase (R510, R522): the newest sequence of a slot bounds every other of
its sequences, so a sector whose slots' newest sequences are acknowledged holds no record that is not.
-/
namespace Sys2Proof.Machine

/-! ### The sequences of a slot -/

/-- A sequence below the next one is at most the newest of its slot (R505). -/
theorem seqOfSlot_ge {s : State} {q : Nat} (hpos : 0 < evsSlots s) (hq : q < s.evs.next) :
    ∃ r, seqOfSlot s (q % evsSlots s) = some r ∧ q ≤ r := by
  have hdist : s.evs.next - 1 + evsSlots s - q % evsSlots s = s.evs.next - 1 - q + evsSlots s * (q / evsSlots s + 1) := by
    have hdiv := Nat.div_add_mod q (evsSlots s)
    have hlt := Nat.mod_lt q hpos
    rw [Nat.mul_add_one]
    omega
  have hle : (s.evs.next - 1 + evsSlots s - q % evsSlots s) % evsSlots s ≤ s.evs.next - 1 - q := by
    rw [hdist, Nat.add_mul_mod_self_left]
    exact Nat.mod_le ..
  refine ⟨s.evs.next - 1 - (s.evs.next - 1 + evsSlots s - q % evsSlots s) % evsSlots s, ?_, by omega⟩
  simp only [seqOfSlot, Nat.max_eq_right hpos]
  rw [if_neg (by omega), if_pos (by omega)]

/-- In an eligible sector every sequence below the next one is acknowledged. -/
theorem eraseOk_acknowledged {s : State} {q : Nat} (hpos : 0 < evsSlots s) (h : eraseOk s (q % evsSlots s / 16) = true)
    (hq : q < s.evs.next) : q ≤ s.evs.ack ∧ s.evs.ack ≠ 2 ^ 48 := by
  obtain ⟨r, hr, hqr⟩ := seqOfSlot_ge hpos hq
  have hmem : r ∈ (List.range 16).filterMap (fun i => seqOfSlot s (16 * (q % evsSlots s / 16) + i)) :=
    List.mem_filterMap.mpr ⟨q % evsSlots s % 16, List.mem_range.mpr (Nat.mod_lt _ (by decide)), by rw [Nat.div_add_mod, hr]⟩
  obtain ⟨hall, -⟩ := Bool.and_eq_true_iff.mp h
  obtain ⟨hle, hack⟩ := of_decide_eq_true (List.all_eq_true.mp hall r hmem)
  exact ⟨hqr.trans hle, hack⟩

/-! ### The evaluation -/

/-- The sector to erase is an eligible one of the partition, other than that of the next sequence's slot (R510). -/
theorem eraseCand_some {s : State} {c : Nat} (h : eraseCand s = some c) :
    16 * c + 15 < evsSlots s ∧ c ≠ s.evs.next % evsSlots s / 16 ∧ eraseOk s c = true := by
  cases hpart : evsPart s with
  | none => simp [eraseCand, hpart] at h
  | some part =>
    obtain ⟨b, cs, n⟩ := part
    simp only [eraseCand, hpart] at h
    simp only [evsSlots, hpart]
    have hlt : c < n := by
      obtain ⟨i, hi, rfl⟩ := List.mem_map.mp (List.mem_of_find?_eq_some h)
      exact Nat.mod_lt _ (Nat.zero_lt_of_lt (List.mem_range.mp hi))
    have hchosen := List.find?_some h
    simp only [Bool.and_eq_true, bne_iff_ne, Nat.max_eq_right (by omega : 1 ≤ 16 * n)] at hchosen
    obtain ⟨⟨hnext, -⟩, hok⟩ := hchosen
    exact ⟨by omega, hnext, hok⟩

/-- An evaluation leaves the store as it is, or begins to erase that sector while nothing stands against it (R507, R508, R522). -/
theorem eraseEval_cases (s : State) : eraseEval s = s ∨
    (s.evs.erasing = none ∧ s.evs.mode ≠ .scanning ∧ s.evs.mode ≠ .noGenesis ∧ s.evs.eraseOff = false ∧ contained s 27 = false ∧
      flashHold s = false) ∧ ∃ c, eraseCand s = some c ∧ eraseEval s = s.setEvs { s.evs with erasing := some (c, 0) } := by
  unfold eraseEval
  split
  · exact .inl rfl
  · rename_i hfree
    simp only [not_or, Bool.not_eq_true, Option.isSome_eq_false_iff, Option.isNone_iff_eq_none] at hfree
    obtain ⟨-, hscan, hgenesis, hnone, hoff, hcontained, hhold, -⟩ := hfree
    cases hc : eraseCand s with
    | none => exact .inl rfl
    | some c => exact .inr ⟨⟨hnone, hscan, hgenesis, hoff, hcontained, hhold⟩, c, rfl, rfl⟩

/-- An event of an island acts, or nothing occurs. -/
theorem onIsl_cases (i : Nat) (f : State → State) (s : State) : onIsl i f s = s ∨ onIsl i f s = f s := by
  unfold onIsl
  split
  · exact .inr rfl
  · exact .inl rfl

/-- Settles O54: an evaluation that begins an erase takes the sector of `eraseCand`, whose slots' newest sequences are acknowledged, and with
them all others. -/
theorem onlyAcknowledgedRecordsAreErased : Obligations.OnlyAcknowledgedRecordsAreErased := by
  unfold Obligations.OnlyAcknowledgedRecordsAreErased
  intro s hpos
  refine ⟨onIsl 31 eraseEval s, rfl, ?_⟩
  obtain hu | hu := onIsl_cases 31 eraseEval s <;> rw [hu]
  · exact ⟨rfl, fun h => absurd rfl h⟩
  · obtain hu | ⟨⟨hnone, hscan, hgenesis, hoff, hcontained, hhold⟩, c, hc, hu⟩ := eraseEval_cases s <;> rw [hu]
    · exact ⟨rfl, fun h => absurd rfl h⟩
    · obtain ⟨hin, hnext, hok⟩ := eraseCand_some hc
      refine ⟨rfl, fun _ => ⟨hnone, hscan, hgenesis, hoff, hcontained, hhold, c, rfl, hin, hnext, fun q hq hslot => ?_⟩⟩
      subst hslot
      exact eraseOk_acknowledged hpos hok hq

end Sys2Proof.Machine
end

section
/-!
PROOF. Why a doorbell need not be answered where agents' IDs are any numbers: no attach grants an ID above 254 (R187), but a state may hold one,
and HA_UNRESP as the model reads it for such an ID can lie on the register that the doorbell's own arrival sets.
-/
namespace Sys2Proof.Machine

/-- An ACTIVE port 0 whose attach waits for the agent's first message, with the evidence store in its restart scan. -/
def strayScan : State := { strayState with evs := evsResetSt none true }

/-- The agent's first message, a SUBMIT for tenant 0. -/
def strayDoor : DoorMsg := ⟨5, strayId, 0, 0, 0, 0x40, 0, 0⟩

/-- EVS_BUSY_COUNT, where a command has completed. -/
def busyAfter : Host.Outcome State Fault Refusal → Option Word
  | .next t => some (t.reg Ad.EVS_BUSY_COUNT)
  | _ => none

/-- The port takes the message, and the store scans as it arrives. -/
theorem accepts_strayDoor : Accepts strayScan 0 (.door strayDoor) ∧ (arrived strayScan 0 (.door strayDoor)).evs.mode = .scanning := by
  decide +kernel

/-- The message completes the attach, and with it is discarded as that of an unresponsive agent. -/
theorem strayDoor_discarded : busyAfter (exec (.doorbellSubmit 0 strayDoor) strayScan) = some 0 := by decide +kernel

/-- The refusal that the statement has it answered with is counted. -/
theorem strayDoor_refusal_counted :
    let A := arrived strayScan 0 (.door strayDoor)
    busyAfter (.next (finish strayScan (creditFree (refuse A strayDoor 1) 0 strayDoor.mclass))) = some 1 := by decide +kernel

/-- Refutes O53: a SUBMIT that an ACTIVE port takes during the restart scan is discarded, where the statement has it answered BUSY; the statement
lets an agent's ID be any number, and this one's message completes the attach and thereby reads as unresponsive. -/
theorem not_evidenceStoreCommandsAct : ¬ Obligations.EvidenceStoreCommandsAct := by
  unfold Obligations.EvidenceStoreCommandsAct
  intro h
  obtain ⟨⟨-, -, -, hscan, -⟩, -⟩ := h strayScan 0 0 0 0 0 strayDoor .cp 0 0 0 false
  obtain ⟨haccepts, hmode⟩ := accepts_strayDoor
  have hbusy := congrArg busyAfter (hscan (.doorbellSubmit 0 strayDoor) 0 (List.mem_cons_self ..) haccepts hmode)
  exact absurd ((strayDoor_discarded.symm.trans hbusy).trans strayDoor_refusal_counted) (by decide)

end Sys2Proof.Machine
end

section
/-!
PROOF. What a step is: the command at the front of the queue, whose effect ends as every command's does, or a cycle of the TB clock; and the
level sources, which are pending wherever a command or a cycle ends (R657).
-/
namespace Sys2Proof.Machine

/-- Every command is an effect of its own and the end of a command. -/
theorem exec_eq_finish (c : Instr) (s : State) : ∃ u, exec c s = .next (finish s u) := by
  cases c <;> exact ⟨_, rfl⟩

theorem step_front {s : State} {c : Instr} {rest : List Instr} (h : s.pending = c :: rest) : step s = exec c (s.withPending rest) := by
  simp only [step, h]

theorem step_idle {s : State} (h : s.pending = []) : step s = .next (tick s) := by
  simp only [step, h]

/-- Settles O1, by the step's definition. -/
theorem frontCommandRuns : Obligations.FrontCommandRuns := by
  unfold Obligations.FrontCommandRuns
  exact fun _ _ _ h => step_front h

/-- Settles O2: every command ends as `finish` does, which restores the queue and the variant. -/
theorem commandsCompleteAndKeepTheQueue : Obligations.CommandsCompleteAndKeepTheQueue := by
  unfold Obligations.CommandsCompleteAndKeepTheQueue
  intro c s
  obtain ⟨u, hu⟩ := exec_eq_finish c s
  exact ⟨_, hu, finish_pending s u, finish_variant s u⟩

/-- Settles O3: while PORST_N is low or the TCXO is awaited a cycle passes over the state. -/
theorem idleStepIsATick : Obligations.IdleStepIsATick := by
  unfold Obligations.IdleStepIsATick
  intro s h
  refine ⟨step_idle h, fun hphase => ?_⟩
  rw [step_idle h]
  rcases hphase with hp | hp <;> simp only [tick, hp]

/-! ### Level sources -/

/-- The pending bit of a source of the first word is set. -/
theorem evcPend_pending (s : State) {src : Nat} (h : src < 32) : bit ((evcPend s src).reg (Ad.EVC_PEND 0)) src = true := by
  have hw : src / 32 = 0 := by omega
  have hb : src % 32 = src := by omega
  have hpend : bit ((s.setRegBit (Ad.EVC_PEND 0) src).reg (Ad.EVC_PEND 0)) src = true := by
    rw [reg_setRegBit, if_pos rfl, bit_or, bit_w32_two_pow]
    simp [h]
  unfold evcPend
  rw [hw, hb]
  dsimp only
  split
  · rwa [reg_setRegBit, if_neg (by decide)]
  · exact hpend

theorem fltSummary_congr {s t : State} (hf : t.flt = s.flt) (h0 : t.reg Ad.FLT_RAISED_0 = s.reg Ad.FLT_RAISED_0)
    (h1 : t.reg Ad.FLT_RAISED_1 = s.reg Ad.FLT_RAISED_1) (hv : t.reg Ad.FLT_LOCKVIOL = s.reg Ad.FLT_LOCKVIOL) :
    fltSummary t = fltSummary s := by
  simp only [fltSummary, hf, h0, h1, hv]

theorem levelsSet_flt (s : State) : (levelsSet s).flt = s.flt :=
  List.foldlRecOn (motive := fun (u : State) => u.flt = s.flt) _ _ rfl
    (fun u hu src _ => by rw [eq_of_maskEvt (maskEvt_evcPend u src)]; exact hu)

/-- A level source set pending changes no level source's condition. -/
theorem levelOn_levelsSet (s : State) (src : Nat) : levelOn (levelsSet s) src = levelOn s src := by
  have hr := levelsSet_regsBut s
  have hsum : fltSummary (levelsSet s) = fltSummary s :=
    fltSummary_congr (levelsSet_flt s) (hr _ (by decide)) (hr _ (by decide)) (hr _ (by decide))
  simp only [levelOn, hr Ad.ISL_LATCH (by decide), hr Ad.ISL_LATCH_OVF (by decide), hsum]

/-- Once level sources are set, each whose condition holds is pending (R657). -/
theorem levelsPending_levelsSet (s : State) : LevelsPending (levelsSet s) := by
  intro _ src hsrc hon
  rw [levelOn_levelsSet] at hon
  have hmem : src ∈ levelsOn s := List.mem_filter.mpr ⟨List.mem_range.mpr hsrc, hon⟩
  obtain ⟨l1, l2, hl⟩ := List.append_of_mem hmem
  rw [levelsSet, hl, List.foldl_append, List.foldl_cons]
  exact List.foldlRecOn (motive := fun (u : State) => bit (u.reg (Ad.EVC_PEND 0)) src = true) l2 _ (evcPend_pending _ hsrc)
    (fun u hu x _ => evcPend_keeps u x hu)

/-- What follows a command ends with the level sources set, but in a state in which TB does not run. -/
theorem levelsPending_follow (s0 s : State) : LevelsPending (follow s0 s) := by
  unfold follow
  dsimp only
  split
  case h_1 => exact levelsPending_levelsSet _
  case h_2 => exact levelsPending_levelsSet _
  case h_3 hrun hwarm => exact fun hphase => (hphase.elim hrun hwarm).elim

/-- The queue and the variant have no part in the level sources. -/
theorem levelsPending_finish (s0 s : State) : LevelsPending (finish s0 s) := levelsPending_follow s0 s

theorem levelsPending_tick {s : State} (h : LevelsPending s) : LevelsPending (tick s) := by
  unfold tick
  split
  · exact levelsPending_finish _ _
  · split
    · exact h
    · exact levelsPending_finish _ _
  · exact h

/-- Settles O4: every command, and every cycle that passes, ends with the level sources set, and a cycle that does not pass keeps them. -/
theorem levelSourcesStayPending : Obligations.LevelSourcesStayPending := by
  unfold Obligations.LevelSourcesStayPending
  intro s t h hstep
  cases hp : s.pending with
  | nil =>
    rw [step_idle hp] at hstep
    cases hstep
    exact levelsPending_tick h
  | cons c rest =>
    obtain ⟨u, hu⟩ := exec_eq_finish c (s.withPending rest)
    rw [step_front hp, hu] at hstep
    cases hstep
    exact levelsPending_finish _ u

/-- Settles O5: no latch is set and nothing is raised or contained at reset, so no level source's condition holds. -/
theorem resetIsCanonicalAndPending : Obligations.ResetIsCanonicalAndPending := by
  unfold Obligations.ResetIsCanonicalAndPending
  refine ⟨fun _ => ?_, by decide +kernel, rfl, by decide +kernel⟩
  decide +kernel

/-- Settles O6: the values are read from the register file at reset, on both variants, and from the ball map. -/
theorem registersAtReset : Obligations.RegistersAtReset := by
  unfold Obligations.RegistersAtReset
  decide +kernel

end Sys2Proof.Machine
end

section
/-!
PROOF. What a report (an event, a wake latch, a count, an offer, a raise) may do to the registers, stated once for every relation between
states: one that allows the registers which reports write, and event bits set in those and in the counters' overflow registers, allows a raise.
-/
namespace Sys2Proof.Machine

/-- The registers that a raise writes, or sets event bits in, beside the overflow registers of the performance counters. -/
def ReportKey (k : Nat) : Prop :=
  k ∈ evcKeys ∨ (0xD00000 ≤ k ∧ k < 0xD00400) ∨ k = Ad.EVS_EVT ∨ k = Ad.EVS_BUSY_COUNT ∨ k = Ad.ISL_LATCH ∨ k = Ad.ISL_LATCH_OVF

/-- A relation that allows what a report does: it sees registers alone, and allows writes of the registers that reports write and event bits
set in them and in whatever register a counter's number names as its overflow register. -/
structure ReportRel (R : State → State → Prop) : Prop where
  trans : ∀ {s t u}, R s t → R t u → R s u
  of_regs : ∀ {s t : State}, t.regs = s.regs → R s t
  setReg : ∀ (s : State) {k : Nat} (v : Word), ReportKey k → R s (s.setReg k v)
  sqOvf : ∀ (s : State) (n bits : Nat), R s (sqBits s (Ad.PCU_OVF n) bits)

namespace ReportRel

variable {R : State → State → Prop} (hR : ReportRel R)

theorem ite (_ : ReportRel R) {s t u : State} {p : Prop} [Decidable p] (ht : R s t) (hu : R s u) : R s (if p then t else u) := by
  split
  · exact ht
  · exact hu

include hR

theorem refl (s : State) : R s s := hR.of_regs rfl

theorem foldl {α : Type} {f : State → α → State} (hf : ∀ s x, R s (f s x)) (l : List α) (s : State) : R s (l.foldl f s) := by
  induction l generalizing s with
  | nil => exact hR.refl s
  | cons x l ih => exact hR.trans (hf s x) (ih _)

/-- A step from a state that has the same registers. -/
theorem of_same {s t u : State} (h : R t u) (hr : t.regs = s.regs) : R s u := hR.trans (hR.of_regs hr) h

theorem later (s : State) (e : Effect) : R s (s.later e) := hR.of_regs rfl

theorem inc (s : State) {k : Nat} (h : ReportKey k) : R s (s.inc k) := by
  unfold State.inc
  exact hR.ite (hR.refl s) (hR.setReg s _ h)

theorem sqBits (s : State) {k : Nat} (bits : Nat) (h : ReportKey k) : R s (sqBits s k bits) := hR.setReg s _ h

theorem evcPend (s : State) {src : Nat} (h : src < 256) : R s (evcPend s src) := by
  have hi : src / 32 < 8 := by omega
  have hp : R s (s.setRegBit (Ad.EVC_PEND (src / 32)) (src % 32)) := hR.setReg s _ (.inl (evcPend_mem_evcKeys hi))
  unfold Machine.evcPend
  exact hR.ite (hR.trans hp (hR.setReg _ _ (.inl (evcMask_mem_evcKeys hi)))) hp

theorem evcDropped (s : State) : R s (evcDropped s) :=
  hR.trans (hR.trans (hR.inc s (.inl (by decide))) (hR.sqBits _ _ (.inl (by decide)))) (hR.evcPend _ (by decide))

theorem evcQueueWith {drop : State → State} (hd : ∀ s, R s (drop s)) (t k src info : Nat) (l : List AgentRec) (s : State) :
    R s (evcQueueWith drop t k src info l s) := by
  refine hR.foldl (fun s r => ?_) l s
  unfold evcQueueOne
  exact hR.ite (hR.of_regs rfl) (hR.of_same (hd _) rfl)

theorem evcDropTold (s : State) : R s (evcDropTold s) := by
  unfold Machine.evcDropTold
  exact hR.ite (hR.trans (hR.evcDropped s) (hR.evcQueueWith hR.evcDropped _ _ _ _ _ _)) (hR.evcDropped s)

theorem evcSet (s : State) (src info : Nat) : R s (evcSet s src info) := by
  unfold Machine.evcSet
  split
  · exact hR.refl s
  · rename_i hr
    have hsrc : src < 256 := by
      simp only [evcReserved, Bool.or_eq_true, decide_eq_true_eq] at hr
      omega
    exact hR.ite (hR.trans (hR.evcPend s hsrc) (hR.evcQueueWith hR.evcDropTold _ _ _ _ _ _)) (hR.evcPend s hsrc)

/-- The events of a register in which the relation allows event bits. -/
theorem sqEvt {s : State} {k bits : Nat} (h : R s (Machine.sqBits s k bits)) : R s (sqEvt s k bits) := by
  unfold Machine.sqEvt
  dsimp only
  split
  · exact hR.trans h (hR.evcSet _ _ _)
  · exact h

theorem startIsl (s : State) (i : Nat) : R s (startIsl s i) := by
  unfold Machine.startIsl
  exact hR.ite (hR.refl s) (hR.of_regs rfl)

theorem setLatch (s : State) (b : Nat) : R s (setLatch s b) := by
  have hovf : R s (Machine.sqBits s Ad.ISL_LATCH_OVF (2 ^ b)) := hR.sqBits s _ (by simp [ReportKey])
  have hset : R s (Machine.sqBits s Ad.ISL_LATCH (2 ^ b)) := hR.sqBits s _ (by simp [ReportKey])
  have htold (p : Prop) [Decidable p] (info : Nat) : R s
      (if p then Machine.sqBits s Ad.ISL_LATCH_OVF (2 ^ b) else Machine.evcSet (Machine.sqBits s Ad.ISL_LATCH_OVF (2 ^ b)) 27 info) :=
    hR.ite hovf (hR.trans hovf (hR.evcSet _ _ _))
  unfold Machine.setLatch
  exact hR.ite (hR.refl s) (hR.ite (hR.ite (hR.trans (htold _ _) (hR.later _ _)) (htold _ _))
    (hR.trans (hR.trans hset (hR.evcSet _ _ _)) (hR.later _ _)))

theorem pcuAdd (s : State) (n k : Nat) : R s (pcuAdd s n k) := by
  unfold Machine.pcuAdd
  exact hR.ite (hR.of_regs rfl) (hR.of_same (hR.sqEvt (hR.sqOvf _ _ _)) rfl)

theorem pcu (ev q k : Nat) (s : State) : R s (pcu ev q k s) := by
  unfold Machine.pcu
  exact hR.ite (hR.refl s) (hR.foldl (fun s c => hR.ite (hR.pcuAdd s _ _) (hR.refl s)) _ s)

theorem evsPush (s : State) (h : Bool) (typ : Nat) (p : List Byte) (log : Option Nat) : R s (evsPush s h typ p log) :=
  hR.of_same (hR.sqEvt (hR.sqBits (k := Ad.EVS_EVT) _ _ (by simp [ReportKey]))) rfl

theorem evsOffer (s : State) (typ : Nat) (p : List Byte) (log : Option Nat) : R s (evsOffer s typ p log).1 := by
  have hstart : R s (Machine.startIsl (Machine.startIsl s 31) 30) := hR.trans (hR.startIsl s _) (hR.startIsl _ _)
  unfold Machine.evsOffer
  split
  · exact hR.of_same (hR.setLatch _ _) rfl
  · dsimp only
    split
    · exact hR.trans (hR.trans hstart (hR.inc _ (by simp [ReportKey]))) (hR.pcu _ _ _ _)
    · exact hR.trans hstart (hR.evsPush _ _ _ _ _)

theorem fltContain (s : State) (u : Nat) : R s (fltContain s u) := by
  unfold Machine.fltContain
  exact hR.ite (hR.refl s) (hR.ite (hR.of_regs rfl) (hR.of_regs rfl))

theorem fltRecorded (s : State) (n : Nat) : R s (fltRecorded s n) := by
  have hk : ReportKey (Ad.FLT_LOG (n % 16) 0) := .inr (.inl (by simp only [Ad.FLT_LOG]; omega))
  unfold Machine.fltRecorded
  exact hR.ite (hR.setReg s _ hk) (hR.refl s)

theorem fltOffer (s : State) (p : List Byte) (n : Nat) : R s (fltOffer s p n) := by
  unfold Machine.fltOffer
  split
  · have h := hR.evsOffer s 6 p (some n)
    split <;> rename_i e <;> rw [e] at h
    · exact hR.trans h (hR.fltRecorded _ n)
    · exact h
    · exact hR.trans h (hR.of_regs rfl)
  · exact hR.ite (hR.of_regs rfl) (hR.sqEvt (hR.sqBits s _ (.inr (.inl (by decide)))))

theorem fltLog (s : State) (c act info : Nat) : R s (fltLog s c act info) := by
  have he : s.fld Ad.FLT_LOG_STATUS 3 0 < 16 := Nat.mod_lt _ (by decide)
  have hlog (t : State) {j : Nat} (v : Word) (hj : j < 4) : R t (t.setReg (Ad.FLT_LOG (s.fld Ad.FLT_LOG_STATUS 3 0) j) v) :=
    hR.setReg t v (.inr (.inl (by simp only [Ad.FLT_LOG]; omega)))
  have hstatus (t : State) (v : Word) : R t (t.setReg Ad.FLT_LOG_STATUS v) := hR.setReg t v (.inr (.inl (by decide)))
  unfold Machine.fltLog
  extract_lets tot e s1 s2 s3 s4 s5
  have h1 : R s s1 := hR.ite (hR.sqEvt (hR.sqBits s _ (.inr (.inl (by decide))))) (hR.refl s)
  have h3 : R s s3 := hR.trans (hR.trans h1 (hlog s1 _ (by decide))) (hlog s2 _ (by decide))
  have h5 : R s s5 := hR.trans (hR.trans h3 (hlog s3 _ (by decide))) (hlog s4 _ (by decide))
  exact hR.trans h5 (hstatus s5 _)

theorem fltLevel (b : Word) (s : State) : R s (fltLevel b s) := by
  unfold Machine.fltLevel
  exact hR.ite (hR.evcSet s _ _) (hR.refl s)

theorem raiseCounted (s : State) {c : Nat} (h : c ≤ 40) : R s (raiseCounted s c) := by
  have hraised : R s (if c < 24 then Machine.sqBits s Ad.FLT_RAISED_0 (2 ^ c) else Machine.sqBits s Ad.FLT_RAISED_1 (2 ^ (c - 24))) :=
    hR.ite (hR.sqBits s _ (.inr (.inl (by decide)))) (hR.sqBits s _ (.inr (.inl (by decide))))
  have hcnt : ReportKey (Ad.FLT_CNT (c / 4)) := .inr (.inl (by simp only [Ad.FLT_CNT]; omega))
  exact hR.trans (hR.trans hraised (hR.setReg _ _ hcnt)) (hR.of_regs rfl)

theorem raiseActed (s : State) {c : Nat} (info : Nat) (h : c ≤ 40) : R s (raiseActed s c info) := by
  have hcon : R s (raiseContained s c info) :=
    hR.ite (hR.raiseCounted s h) (hR.trans (hR.raiseCounted s h) (hR.foldl hR.fltContain _ _))
  exact hR.ite (hR.trans hcon (hR.of_regs rfl)) hcon

/-- A raise of a class of Table 19-1. -/
theorem raise (s : State) {c : Nat} (info : Nat) (h : c ≤ 40) : R s (raise s c info) := by
  unfold Machine.raise
  extract_lets before s1 cnt s2 f2 s3 act s4 began f4 s5 wrapped num s6 s7
  have h5 : R s s5 := hR.raiseActed s info h
  have h6 : R s s6 := hR.trans (hR.trans (hR.trans h5 (hR.fltLog s5 c act info)) (hR.evcSet _ _ _)) (hR.fltLevel _ _)
  have h7 : R s s7 := hR.ite (hR.trans h6 (hR.setLatch _ _)) h6
  exact hR.ite (hR.trans h7 (hR.fltOffer _ _ _)) h7

/-- A lock violation: its causes and its word recorded, and LOCK_VIOL raised. -/
theorem lockViol (s : State) (causes src key : Nat) : R s (lockViol s causes src key) := by
  unfold Machine.lockViol
  have h1 : R s (Machine.sqEvt s Ad.FLT_LOCKVIOL (causes ||| 2 ^ src)) := hR.sqEvt (hR.sqBits s _ (.inr (.inl (by decide))))
  exact hR.trans (hR.trans (hR.trans h1 (hR.setReg _ _ (.inr (.inl (by decide))))) (hR.raise _ _ (by decide))) (hR.fltLevel _ _)

end ReportRel

/-! ### Registers that no report takes a set bit from -/

/-- No bit of a register's low 24 that was set is lost. -/
def BitsKept (k : Nat) (s t : State) : Prop := ∀ b, b < 24 → bit (s.reg k) b = true → bit (t.reg k) b = true

/-- Reports take no bit away from a register that they do not write, not even one that a counter's number names. -/
theorem bitsKept_reportRel {k : Nat} (hk : ¬ReportKey k) : ReportRel (BitsKept k) where
  trans h1 h2 := fun b hb h => h2 b hb (h1 b hb h)
  of_regs hr := fun _ _ h => by rwa [State.reg, hr]
  setReg s j v h := fun b _ hb => by
    have hne : k ≠ j := fun e => hk (e ▸ h)
    rwa [reg_setReg_ne s v hne]
  sqOvf s n bits := fun b hb h => by
    rw [reg_sqBits]
    split
    · rename_i e
      rw [bit_setBf_other _ _ (.inl hb), bit_or, ← e, h, Bool.true_or]
    · exact h

end Sys2Proof.Machine
end

section
/-!
PROOF. Which keys a register write treats as any other: no block writes the register in a way of its own, none takes bits of the word from the
write, and none goes on from the new word. Each is decided by the key.
-/
namespace Sys2Proof.Machine

/-- No block writes the register in a way of its own. -/
def ownless (k : Nat) : Bool :=
  k != Ad.ISL_RC_CTRL && k != Ad.ACQ_TDAC && !decide (0xC00000 ≤ k ∧ k < 0xC000C0) && !decide (0xB00000 ≤ k ∧ k < 0xB00200)
    && (inArr k (Ad.DAC_DATA 0) 4 16).isNone && (inArr k (Ad.CVU_CTRL 0) 0x40 8).isNone && (inArr k (Ad.PCU_CNT_LO 0) 0x10 32).isNone
    && (inArr k (Ad.PCU_CNT_HI 0) 0x10 32).isNone

/-- Every bit of the register takes a write as its field's type says. -/
def ungated (k : Nat) : Bool :=
  !lthGuardKey k && !lthRamKey k && !decide (0x410000 ≤ k ∧ k < 0x450000) && k != Ad.TMM_CMD && !otpKey k
    && !decide (0xB00000 ≤ k ∧ k < 0xB00200) && !decide (0xC00000 ≤ k ∧ k < 0xC00800)
    && (inArr k (Ad.ACQ_BUF_CTRL 0) 0x20 9).isNone && (inArr k (Ad.ACQ_BUF_BASE 0) 0x20 9).isNone
    && (inArr k (Ad.ACQ_BUF_SIZE 0) 0x20 9).isNone

/-- No block goes on from the register's new word. -/
def unhooked (k : Nat) : Bool :=
  !([Ad.CP_VALLEY, Ad.TMM_CMD, Ad.TMM_CTRL, Ad.PAS_CMD, Ad.EVS_X_CTRL, Ad.OTP_CMD, Ad.FLT_RAISED_0, Ad.FLT_RAISED_1].contains k)
    && !lthRamKey k && (inArr k (Ad.EVS_REC_CTRL 0) 0x20 4).isNone && (inArr k (Ad.ACQ_BUF_CTRL 0) 0x20 9).isNone
    && (inArr k (Ad.PCU_CFG 0) 0x10 32).isNone && (inArr k (Ad.PCU_BW_CFG 0) 0x20 16).isNone

theorem ownWrite_of_ownless {k : Nat} (h : ownless k = true) (s : State) (src : Src) (mask w : Word) : ownWrite s src k mask w = none := by
  simp only [ownless, Bool.and_eq_true, bne_iff_ne, Bool.not_eq_true', decide_eq_false_iff_not, Option.isNone_iff_eq_none] at h
  obtain ⟨⟨⟨⟨⟨⟨⟨h1, h2⟩, h3⟩, h4⟩, h5⟩, h6⟩, h7⟩, h8⟩ := h
  simp only [ownWrite, if_neg h1, if_neg h2, if_neg h4, h5, h6, h7, h8]
  rw [if_neg (by omega), if_neg (by omega), if_neg (by omega), if_neg (by omega)]

theorem lthIgnores_of_ungated {k : Nat} (h : ungated k = true) (s : State) : lthIgnores s k = false := by
  simp only [ungated, Bool.and_eq_true, Bool.not_eq_true'] at h
  obtain ⟨⟨⟨⟨⟨⟨⟨⟨⟨h1, h2⟩, -⟩, -⟩, -⟩, -⟩, -⟩, -⟩, -⟩, -⟩ := h
  simp only [lthIgnores, h1, h2, Bool.false_and, Bool.or_false]

theorem writeGate_of_ungated {k : Nat} (h : ungated k = true) (s : State) (w : Word) : writeGate s k w = 0 := by
  have hl := lthIgnores_of_ungated h s
  simp only [ungated, Bool.and_eq_true, bne_iff_ne, Bool.not_eq_true', decide_eq_false_iff_not, Option.isNone_iff_eq_none] at h
  obtain ⟨⟨⟨⟨⟨⟨⟨⟨⟨-, -⟩, h3⟩, h4⟩, h5⟩, h6⟩, h7⟩, h8⟩, h9⟩, h10⟩ := h
  have hmask : ¬(Ad.EVC_MASK 0 ≤ k ∧ k ≤ Ad.EVC_MASK 7) := by simp only [Ad.EVC_MASK]; omega
  have hroute : ¬(Ad.EVC_ROUTE 0 ≤ k ∧ k ≤ Ad.EVC_ROUTE 255) := by simp only [Ad.EVC_ROUTE]; omega
  simp only [writeGate, if_neg h3, hl, Bool.false_eq_true, if_false, if_neg h4, h5, if_neg hmask, if_neg hroute, h8, h9, h10]
  exact if_neg (fun hc => h6 ⟨hc.1, hc.2.1⟩)

theorem writeIgnored_of_ungated {k : Nat} (h : ungated k = true) (s : State) : writeIgnored s k = s := by
  have hl := lthIgnores_of_ungated h s
  simp only [ungated, Bool.and_eq_true, bne_iff_ne, Bool.not_eq_true', decide_eq_false_iff_not] at h
  obtain ⟨⟨⟨⟨⟨⟨⟨⟨⟨-, -⟩, -⟩, h4⟩, h5⟩, h6⟩, -⟩, -⟩, -⟩, -⟩ := h
  have hotp : k ≠ Ad.OTP_CMD := by
    rintro rfl
    cases h5
  have hcvu (p q : Prop) : ¬(0xB00000 ≤ k ∧ k < 0xB00200 ∧ p ∧ q) := fun hc => h6 ⟨hc.1, hc.2.1⟩
  simp only [writeIgnored, hl, Bool.false_eq_true, if_false, h4, hotp, false_and, if_neg (hcvu _ _)]

theorem regHook_of_unhooked {k : Nat} (h : unhooked k = true) (mask w : Word) (s0 s : State) : regHook k mask w s0 s = s := by
  simp only [unhooked, Bool.and_eq_true, Bool.not_eq_true', Option.isNone_iff_eq_none, List.contains_eq_mem, decide_eq_false_iff_not,
    List.mem_cons, List.not_mem_nil, or_false, not_or] at h
  obtain ⟨⟨⟨⟨⟨⟨h1, h2, h3, h4, h5, h6, h7, h8⟩, h9⟩, h10⟩, h11⟩, h12⟩, h13⟩ := h
  simp only [regHook, if_neg h1, if_neg h2, if_neg h3, if_neg h4, if_neg h5, if_neg h6, if_neg h7, if_neg h8, h9, h10, h11, h12, h13,
    Bool.false_eq_true, if_false]

/-- A word written to a register that nothing sets apart: its fields, and then its commands. -/
theorem regWrite_plain {s : State} {src : Src} {k : Nat} {w v : Word} {r : RegRow} {ix : List Nat} {l : List (Nat × Nat)}
    (hown : ownless k = true) (hgate : ungated k = true) (hhook : unhooked k = true)
    (hr : regAt k = some (r, ix)) (hc : src = .cp ∨ cpOnly k = false) (ht : ¬(0xF10000 ≤ k ∧ k < 0xF50000))
    (ha : fieldsAcc s src k r (-1) w = ⟨v, s.stg k, l, 0, false, false⟩) :
    ∃ b, Written k v s b ∧ (regWrite s src k none w).1 = (cmdSeq k l).foldl (regCmd k) b := by
  obtain ⟨b, hb, hw⟩ := regWrite_common hr hc ht (ownWrite_of_ownless hown s src _ w) (writeGate_of_ungated hgate s w)
    (writeIgnored_of_ungated hgate s) (by rw [ha]) (by rw [ha]) (by rw [ha]) (by rw [ha]) (by rw [ha])
  rw [regHook_of_unhooked hhook] at hw
  exact ⟨b, hb, hw⟩

end Sys2Proof.Machine
end

section
/-!
PROOF. Writes of a word and of a single bit (R100): lock domains (R134, R137), raised bits and their counts (R689), and the OTP
registers (R716).
-/
namespace Sys2Proof.Machine

/-! ### The write of a listed register, by word or by bit -/

/-- What a write comes to at its fields: the state after them, and the judged accumulator. -/
def fieldsOf (s : State) (src : Src) (k : Nat) (one : Option Nat) (w : Word) (r : RegRow) (ix : List Nat) : State × WAcc :=
  fieldsWrite (writeIgnored s k) src k r ix one.isSome (writeGate s k (aliasMask one w).2) (aliasMask one w).1 (aliasMask one w).2

/-- A write of a listed register that its block does not write in a way of its own: its fields, what its block does with the new word, and its
commands; it is answered LOCKED for a lock violation. -/
theorem regWrite_fields {s : State} {src : Src} {k : Nat} {one : Option Nat} {w : Word} {r : RegRow} {ix : List Nat}
    (hr : regAt k = some (r, ix)) (hc : cpOnly k = false) (ht : ¬(0xF10000 ≤ k ∧ k < 0xF50000))
    (ho : ownWrite s src k (aliasMask one w).1 (aliasMask one w).2 = none) :
    let x := fieldsOf s src k one w r ix
    (regWrite s src k one w).1 =
        (cmdSeq k x.2.cmds).foldl (regCmd k) (regHook k (aliasMask one w).1 (aliasMask one w).2 s x.1) ∧
      (regWrite s src k one w).2.1 = (decide (x.2.causes ≠ 0) || otpRowViol s x.1 k) := by
  have h1 : ¬(src ≠ .cp ∧ cpOnly k = true) := by simp [hc]
  have h2 : ¬(0xF10000 ≤ k ∧ k < 0xF50000 ∧ (!tblOpen s) = true) := fun h => ht ⟨h.1, h.2.1⟩
  unfold regWrite fieldsOf
  rw [hr]
  simp only [if_neg h1, if_neg h2, ho, and_self]

/-- A write that stages nothing writes its register alone, and reports a lock violation where a field's lock has barred it. -/
theorem fieldsWrite_judged {s : State} {src : Src} {key : Nat} {r : RegRow} {ix : List Nat} {one : Bool} {gate mask w : Word}
    (ht : (fieldsJudge s src key r one gate mask w).took = false) (hs : (fieldsJudge s src key r one gate mask w).stg = s.stg key) :
    let a := fieldsJudge s src key r one gate mask w
    ∃ b, Written key a.reg s b ∧
      fieldsWrite s src key r ix one gate mask w = (if a.causes = 0 then b else lockViol b a.causes (srcBit src) key, a) := by
  refine ⟨((parWritten s key r (mask &&& ~~~gate)).setReg key _).setStg key _, ?_, by simp only [fieldsWrite, ht]; rfl⟩
  obtain ⟨l, hl, hsub⟩ := parWritten_shape s key r (mask &&& ~~~gate)
  rw [hl, hs]
  refine ⟨by simp, fun j h => ?_, fun j => ?_, fun e h => hsub e h, rfl⟩
  · rw [reg_setStg, reg_setReg_ne _ _ h]
    rfl
  · rw [stg_setStg]
    split
    · rename_i h
      rw [h]
    · rfl

/-- A block without a gate on a register has its fields judged one after the other. -/
theorem fieldsJudge_open (s : State) (src : Src) (key : Nat) (r : RegRow) (one : Bool) (mask w : Word) :
    fieldsJudge s src key r one 0 mask w = r.fields.foldl (fldWrite s src one mask w) ⟨s.reg key, s.stg key, [], 0, false, false⟩ := by
  have hm : mask &&& ~~~(0 : Word) = mask := by rw [show ~~~(0 : Word) = BitVec.allOnes 32 from rfl, BitVec.and_allOnes]
  simp only [fieldsJudge, hm, true_or, if_true]

/-! ### Lock domains -/

/-- Nothing but the register and the causes of a lock violation has been judged, no bit that was set is lost, and no cause either. -/
structure SetBitsStay (a b : WAcc) : Prop where
  reg : ∀ i, bit a.reg i = true → bit b.reg i = true
  causes : a.causes ≠ 0 → b.causes ≠ 0
  rest : b = { a with reg := b.reg, causes := b.causes }

theorem SetBitsStay.refl (a : WAcc) : SetBitsStay a a := ⟨fun _ h => h, id, rfl⟩

theorem SetBitsStay.trans {a b c : WAcc} (h1 : SetBitsStay a b) (h2 : SetBitsStay b c) : SetBitsStay a c :=
  ⟨fun i h => h2.reg i (h1.reg i h), fun h => h2.causes (h1.causes h), by rw [h2.rest, h1.rest]⟩

/-- The bits of a merged word: those of the mask are the new word's. -/
theorem bit_merge (old m w : Word) {i : Nat} (hi : i < 32) : bit (merge old m w) i = if bit m i = true then bit w i else bit old i := by
  simp only [merge, bit_eq, BitVec.getLsbD_or, BitVec.getLsbD_and, BitVec.getLsbD_not, hi, decide_true, Bool.true_and]
  by_cases hm : m.getLsbD i = true <;> simp [hm]

theorem bit_of_ge (w : Word) {i : Nat} (hi : 32 ≤ i) : bit w i = false := BitVec.getLsbD_of_ge _ _ hi

/-- A merge with a mask that has no set bit of the word loses none. -/
theorem bit_merge_of_unset {old m w : Word} (hm : ∀ i, bit m i = true → bit old i = false) {i : Nat} (h : bit old i = true) :
    bit (merge old m w) i = true := by
  have hi : i < 32 := Nat.lt_of_not_le (fun hge => by rw [bit_of_ge _ hge] at h; cases h)
  rw [bit_merge _ _ _ hi, if_neg (fun hmi => by rw [hm i hmi] at h; cases h), h]

/-- A WO field whose reset value is 0 loses no set bit, whatever is written (R134). -/
theorem setBitsStay_fldWrite_wo (s : State) (src : Src) (one : Bool) (mask w : Word) (a : WAcc) {f : Fld} (ht : f.ty = .wo)
    (hr : f.reset = 0) : SetBitsStay a (fldWrite s src one mask w a f) := by
  simp only [fldWrite, ht, hr]
  split
  · exact .refl a
  · split
    · exact .refl a
    · split
      · rename_i hold
        refine ⟨fun i h => bit_merge_of_unset (fun j hj => ?_) h, id, rfl⟩
        rw [bit_and, bit_eq, getLsbD_fmask, Bool.and_eq_true, Bool.and_eq_true, decide_eq_true_eq, decide_eq_true_eq] at hj
        obtain ⟨⟨-, hlo, hhi⟩, -⟩ := hj
        have hz : (bf a.reg f.hi f.lo).testBit (j - f.lo) = false := by rw [hold, Nat.zero_testBit]
        rw [testBit_bf, show f.lo + (j - f.lo) = j by omega, decide_eq_true (by omega), Bool.true_and] at hz
        exact hz
      · exact ⟨fun _ h => h, fun _ => by simp, rfl⟩

theorem setBitsStay_fold {s : State} {src : Src} {one : Bool} {mask w : Word} {l : List Fld} (hl : ∀ f ∈ l, f.ty = .wo ∧ f.reset = 0)
    (a : WAcc) : SetBitsStay a (l.foldl (fldWrite s src one mask w) a) := by
  induction l generalizing a with
  | nil => exact .refl a
  | cons f l ih =>
    obtain ⟨ht, hr⟩ := hl f (List.mem_cons_self ..)
    exact (setBitsStay_fldWrite_wo s src one mask w a ht hr).trans (ih (fun g hg => hl g (List.mem_cons_of_mem _ hg)) _)

/-- A word that would clear a set bit of one of the fields meets a lock violation. -/
theorem causes_of_cleared {s : State} {src : Src} {w : Word} {l : List Fld} {d : Nat} (hd : d < 32)
    (hl : ∀ f ∈ l, f.ty = .wo ∧ f.reset = 0) (hf : ∃ f ∈ l, f.hi = d ∧ f.lo = d) {a : WAcc} (hset : bit a.reg d = true)
    (hw : bit w d = false) : (l.foldl (fldWrite s src false (-1) w) a).causes ≠ 0 := by
  obtain ⟨f, hmem, hhi, hlo⟩ := hf
  obtain ⟨l1, l2, rfl⟩ := List.append_of_mem hmem
  obtain ⟨ht, hr⟩ := hl f (by simp)
  have hkept : bit (l1.foldl (fldWrite s src false (-1) w) a).reg d = true := (setBitsStay_fold (fun g hg => hl g (by simp [hg])) a).reg d hset
  have hold : bf (l1.foldl (fldWrite s src false (-1) w) a).reg f.hi f.lo = 1 := by rw [hhi, hlo, bf_bit, hkept]; rfl
  have hnew : bf w f.hi f.lo = 0 := by rw [hhi, hlo, bf_bit, hw]; rfl
  rw [List.foldl_append, List.foldl_cons]
  refine (setBitsStay_fold (fun g hg => hl g (by simp [hg])) _).causes ?_
  rw [fldWrite_wo _ _ _ _ ht (by omega) (by omega), hold, hnew, hr, if_neg (by decide), if_neg (by decide)]
  simp

/-- The rows of CP_LOCK and CP_LOCK_STRICT in the register index. -/
def cpLockRow : RegRow :=
  ⟨"CP_LOCK", 0x1000000C, [], 2, 0, 8, true,
    [⟨0, 0, "DOMAIN_0", .wo, 16, .none, 0⟩, ⟨1, 1, "DOMAIN_1", .wo, 16, .none, 0⟩, ⟨2, 2, "DOMAIN_2", .wo, 16, .none, 0⟩,
     ⟨3, 3, "DOMAIN_3", .wo, 16, .none, 0⟩, ⟨4, 4, "DOMAIN_4", .wo, 16, .none, 0⟩, ⟨5, 5, "DOMAIN_5", .wo, 16, .none, 0⟩,
     ⟨6, 6, "DOMAIN_6", .wo, 16, .none, 0⟩, ⟨7, 7, "DOMAIN_7", .wo, 16, .none, 0⟩, ⟨8, 8, "DOMAIN_8", .wo, 16, .none, 0⟩,
     ⟨9, 9, "DOMAIN_9", .wo, 16, .none, 0⟩, ⟨10, 10, "DOMAIN_10", .wo, 16, .none, 0⟩]⟩

def cpLockStrictRow : RegRow := ⟨"CP_LOCK_STRICT", 0x10000014, [], 2, 0, 8, true, [⟨0, 0, "STRICT", .wo, 16, .none, 0⟩]⟩

/-- The two registers of chapter 4's locks, with their rows. -/
inductive LockReg : Nat → RegRow → Prop
  | lock : LockReg Ad.CP_LOCK cpLockRow
  | strict : LockReg Ad.CP_LOCK_STRICT cpLockStrictRow

namespace LockReg

variable {k : Nat} {r : RegRow} (h : LockReg k r)
include h

theorem key : k = Ad.CP_LOCK ∨ k = Ad.CP_LOCK_STRICT := by
  cases h
  · exact .inl rfl
  · exact .inr rfl

theorem regAt : regAt k = some (r, []) := by cases h <;> decide +kernel

theorem fields : ∀ f ∈ r.fields, f.ty = .wo ∧ f.reset = 0 := by cases h <;> decide

theorem plain : Machine.cpOnly k = false ∧ ownless k = true ∧ ungated k = true ∧ unhooked k = true ∧ k ∉ evcKeys := by cases h <;> decide

theorem not_reportKey : ¬ReportKey k := by
  obtain ⟨-, -, -, -, hev⟩ := h.plain
  rintro (h1 | h1 | h1 | h1 | h1 | h1)
  · exact hev h1
  all_goals rcases h.key with rfl | rfl <;> revert h1 <;> decide

/-- What a write of a lock register comes to: its fields, and the lock violation where one bars it. -/
theorem fieldsOf (s : State) (src : Src) (one : Option Nat) (w : Word) :
    let a := r.fields.foldl (fldWrite s src one.isSome (aliasMask one w).1 (aliasMask one w).2) ⟨s.reg k, s.stg k, [], 0, false, false⟩
    ∃ b, Written k a.reg s b ∧ fieldsOf s src k one w r [] = (if a.causes = 0 then b else lockViol b a.causes (srcBit src) k, a) := by
  have hrest := (setBitsStay_fold (s := s) (src := src) (one := one.isSome) (mask := (aliasMask one w).1) (w := (aliasMask one w).2) h.fields
    ⟨s.reg k, s.stg k, [], 0, false, false⟩).rest
  have hj := fieldsJudge_open s src k r one.isSome (aliasMask one w).1 (aliasMask one w).2
  rw [← hj] at hrest ⊢
  obtain ⟨-, -, hgate, -, -⟩ := h.plain
  rw [Machine.fieldsOf, writeIgnored_of_ungated hgate, writeGate_of_ungated hgate]
  exact fieldsWrite_judged (by rw [hrest]) (by rw [hrest])

/-- A write of a lock register clears no bit that is set, and a word that would is answered LOCKED. -/
theorem regWrite_stays (s : State) (src : Src) (one : Option Nat) (w : Word) :
    BitsKept k s (regWrite s src k one w).1 ∧
      ∀ d, d < 32 → (∃ f ∈ r.fields, f.hi = d ∧ f.lo = d) → bit (s.reg k) d = true → one = none → bit w d = false →
        (regWrite s src k one w).2.1 = true := by
  obtain ⟨b, hb, hx⟩ := h.fieldsOf s src one w
  have hstay := setBitsStay_fold (s := s) (src := src) (one := one.isSome) (mask := (aliasMask one w).1) (w := (aliasMask one w).2) h.fields
    ⟨s.reg k, s.stg k, [], 0, false, false⟩
  obtain ⟨hcp, hown, -, hhook, -⟩ := h.plain
  obtain ⟨hreg, hviol⟩ := regWrite_fields (s := s) (src := src) (one := one) (w := w) h.regAt hcp
    (by rcases h.key with rfl | rfl <;> decide) (ownWrite_of_ownless hown s src _ _)
  rw [hx, regHook_of_unhooked hhook, hstay.rest] at hreg
  obtain ⟨hb', -, -, -, -⟩ := hb
  have hkept : BitsKept k s b := fun d _ hd => by rw [hb']; exact hstay.reg d hd
  have hR := bitsKept_reportRel h.not_reportKey
  constructor
  · rw [hreg]
    have hnone : cmdSeq k [] = [] := by simp [cmdSeq]
    rw [hnone]
    exact hR.ite hkept (hR.trans hkept (hR.lockViol _ _ _ _))
  · intro d hd hf hset hone hw
    subst hone
    have hcauses := causes_of_cleared (s := s) (src := src) hd h.fields hf (a := ⟨s.reg k, s.stg k, [], 0, false, false⟩) hset hw
    rw [hviol, hx]
    simp only [Bool.or_eq_true, decide_eq_true_eq]
    exact .inl hcauses

end LockReg

/-- Settles O22: the fields are write-once with reset value 0, and a lock violation takes no bit away. -/
theorem lockDomainsHold : Obligations.LockDomainsHold := by
  unfold Obligations.LockDomainsHold
  intro s src one w d hd hset
  obtain ⟨hstay, hanswer⟩ := LockReg.lock.regWrite_stays s src one w
  obtain ⟨hstrict, -⟩ := LockReg.strict.regWrite_stays s src one w
  have hf : ∃ f ∈ cpLockRow.fields, f.hi = d ∧ f.lo = d := (by decide : ∀ d < 11, ∃ f ∈ cpLockRow.fields, f.hi = d ∧ f.lo = d) d hd
  exact ⟨hstay d (by omega) hset, fun _ hone hw => hanswer d (by omega) hf hset hone hw, hstrict 0 (by decide)⟩

end Sys2Proof.Machine
end

section
/-!
PROOF. FLT_RAISED_0 and FLT_RAISED_1 (R689): a write, by word or by bit, clears raised bits, and the count of a class goes to zero with its bit.
-/
namespace Sys2Proof.Machine

/-! ### The counts of the classes whose bits a write has cleared -/

/-- The class's count, cleared or not by a write of another byte of FLT_CNT. -/
theorem fltCnt_setFld (s : State) (m n : Nat) :
    fltCnt (s.setFld (Ad.FLT_CNT (m / 4)) (8 * (m % 4) + 7) (8 * (m % 4)) 0) n = if m = n then 0 else fltCnt s n := by
  have hfield : 8 * (n % 4) + 7 < 32 := by omega
  simp only [fltCnt]
  by_cases hw : m / 4 = n / 4
  · rw [hw]
    split
    · rename_i h
      subst h
      rw [fld_setFld_self _ _ _ hfield]
      simp
    · exact fld_setFld_other _ _ _ (by omega)
  · rw [if_neg (fun h => hw (by rw [h])), State.fld, reg_setFld, if_neg (by simp only [Ad.FLT_CNT]; omega)]
    rfl

/-- The counts of the classes of a list cleared: those classes' and no others. -/
theorem fltCnt_cleared (base n : Nat) (l : List Nat) (s : State) :
    fltCnt (l.foldl (fun s b => s.setFld (Ad.FLT_CNT ((base + b) / 4)) (8 * ((base + b) % 4) + 7) (8 * ((base + b) % 4)) 0) s) n =
      if n ∈ l.map (base + ·) then 0 else fltCnt s n := by
  induction l generalizing s with
  | nil => simp
  | cons b l ih =>
    rw [List.foldl_cons, ih, fltCnt_setFld]
    simp only [List.map_cons, List.mem_cons]
    by_cases hl : n ∈ l.map (base + ·)
    · rw [if_pos hl, if_pos (.inr hl)]
    · by_cases hb : base + b = n
      · rw [if_neg hl, if_pos hb, if_pos (.inl hb.symm)]
      · rw [if_neg hl, if_neg hb, if_neg (fun h => h.elim (fun e => hb e.symm) hl)]

theorem fltCnt_fltCleared (s : State) (base bits c : Nat) (hc : c < 24) :
    fltCnt (fltCleared s base bits) (base + c) = if bits.testBit c = true then 0 else fltCnt s (base + c) := by
  have hmem : base + c ∈ ((List.range 24).filter (fun b => bits.testBit b)).map (base + ·) ↔ bits.testBit c = true := by
    simp only [List.mem_map, List.mem_filter, List.mem_range, Nat.add_left_cancel_iff, exists_eq_right, hc, true_and]
  rw [fltCleared, fltCnt_cleared]
  simp only [hmem]

/-- Counts cleared leave the registers below FLT_CNT. -/
theorem fltCleared_reg (s : State) (base bits : Nat) {k : Nat} (hk : k < 0xD00040) : (fltCleared s base bits).reg k = s.reg k := by
  refine foldl_reg (fun s b => ?_) _ s
  rw [reg_setFld, if_neg (by simp only [Ad.FLT_CNT]; omega)]

/-! ### The write of an SQ register's fields -/

/-- Fields of types SEQ and SQ judge the register alone. -/
theorem fldWrite_sq (s : State) (src : Src) (one : Bool) (mask w : Word) (a : WAcc) {f : Fld} (hf : f.ty = .seq ∨ f.ty = .sq) :
    ∃ v, fldWrite s src one mask w a f = { a with reg := v } := by
  rcases hf with ht | ht <;> simp only [fldWrite, ht]
  · exact ⟨a.reg, ite_self _⟩
  · split
    · exact ⟨a.reg, rfl⟩
    · split
      · exact ⟨_, rfl⟩
      · exact ⟨a.reg, rfl⟩

theorem fldWrites_sq (s : State) (src : Src) (one : Bool) (mask w : Word) {l : List Fld} (hl : ∀ f ∈ l, f.ty = .seq ∨ f.ty = .sq) (a : WAcc) :
    ∃ v, l.foldl (fldWrite s src one mask w) a = { a with reg := v } := by
  induction l generalizing a with
  | nil => exact ⟨a.reg, rfl⟩
  | cons f l ih =>
    obtain ⟨v, hv⟩ := fldWrite_sq s src one mask w a (hl f (List.mem_cons_self ..))
    obtain ⟨u, hu⟩ := ih (fun g hg => hl g (List.mem_cons_of_mem _ hg)) { a with reg := v }
    exact ⟨u, by rw [List.foldl_cons, hv, hu]⟩

/-- FLT_RAISED_0 and FLT_RAISED_1 in the register index: the first class of each, and how many classes it has. -/
def fltRaisedRow (hi : Bool) : RegRow :=
  if hi then ⟨"FLT_RAISED_1", 0xD0000C, [], 1, 0, 8, false, [⟨31, 24, "SEQ", .seq, 16, .none, 0⟩, ⟨16, 0, "RAISED", .sq, 16, .none, 0⟩]⟩
  else ⟨"FLT_RAISED_0", 0xD00008, [], 1, 0, 8, false, [⟨31, 24, "SEQ", .seq, 16, .none, 0⟩, ⟨23, 0, "RAISED", .sq, 16, .none, 0⟩]⟩

/-- The register of a class's raised bit. -/
def fltRaisedKey (hi : Bool) : Nat := if hi then Ad.FLT_RAISED_1 else Ad.FLT_RAISED_0

/-- A write of a FLT_RAISED register is a write of its fields, and of the counts of the classes whose bits are gone. -/
theorem regWrite_fltRaised (s : State) (src : Src) (one : Option Nat) (w : Word) (hi : Bool) :
    let k := fltRaisedKey hi
    ∃ b v, Written k v s b ∧ (regWrite s src k one w).1 = fltCleared b (if hi then 24 else 0) (s.reg k &&& ~~~v).toNat ∧
      v = ((fltRaisedRow hi).fields.foldl (fldWrite s src one.isSome (aliasMask one w).1 (aliasMask one w).2) ⟨s.reg k, s.stg k, [], 0, false, false⟩).reg := by
  intro k
  have hr : regAt k = some (fltRaisedRow hi, []) := by cases hi <;> decide +kernel
  have hkey : ownless k = true ∧ ungated k = true ∧ cpOnly k = false := by cases hi <;> decide
  obtain ⟨hown, hgate, hcp⟩ := hkey
  have hty : ∀ f ∈ (fltRaisedRow hi).fields, f.ty = .seq ∨ f.ty = .sq := by cases hi <;> decide
  obtain ⟨v, hv⟩ : ∃ v, (fltRaisedRow hi).fields.foldl (fldWrite s src one.isSome (aliasMask one w).1 (aliasMask one w).2)
      ⟨s.reg k, s.stg k, [], 0, false, false⟩ = ⟨v, s.stg k, [], 0, false, false⟩ := fldWrites_sq s src _ _ _ hty _
  have hj := (fieldsJudge_open s src k (fltRaisedRow hi) one.isSome (aliasMask one w).1 (aliasMask one w).2).trans hv
  obtain ⟨b, hb, hx⟩ := fieldsWrite_judged (s := s) (src := src) (key := k) (r := fltRaisedRow hi) (ix := []) (one := one.isSome) (gate := 0)
    (mask := (aliasMask one w).1) (w := (aliasMask one w).2) (by rw [hj]) (by rw [hj])
  rw [hj] at hb hx
  refine ⟨b, v, hb, ?_, by rw [hv]⟩
  obtain ⟨hreg, -⟩ := regWrite_fields (s := s) (src := src) (one := one) (w := w) hr hcp (by cases hi <;> decide)
    (ownWrite_of_ownless hown s src _ _)
  rw [fieldsOf, writeIgnored_of_ungated hgate, writeGate_of_ungated hgate, hx, if_pos rfl] at hreg
  have hbv : b.reg k = v := by
    obtain ⟨hbv, -⟩ := hb
    exact hbv
  have hnil : cmdSeq k [] = [] := by simp [cmdSeq]
  rw [hreg, hnil, List.foldl_nil, ← hbv]
  cases hi <;> rfl

/-- Settles O59: the classes whose bits the write has cleared are those whose counts it clears. -/
theorem raisedClearZeroesItsCount : Obligations.RaisedClearZeroesItsCount := by
  unfold Obligations.RaisedClearZeroesItsCount
  intro s src one w hi c hc r n u cnt
  obtain ⟨b, v, hb, hu, -⟩ := regWrite_fltRaised s src one w hi
  obtain ⟨hbv, hother, -⟩ := hb
  have hc24 : c < 24 := by cases hi <;> simp at hc <;> omega
  have hr : u.reg r = v := by
    have hlow : r < 0xD00040 := by cases hi <;> decide
    exact (congrArg (State.reg · r) hu).trans ((fltCleared_reg _ _ _ hlow).trans hbv)
  have hcnt : cnt u = if bit (s.reg r &&& ~~~v) c = true then 0 else cnt s := by
    have hsame : fltCnt b n = fltCnt s n := by
      have hne : Ad.FLT_CNT (n / 4) ≠ r := by cases hi <;> simp only [Ad.FLT_CNT, Ad.FLT_RAISED_0, Ad.FLT_RAISED_1, r] <;> simp <;> omega
      exact congrArg (bf · _ _) (hother _ hne)
    exact (congrArg (fltCnt · n) hu).trans ((fltCnt_fltCleared b _ _ c hc24).trans (by rw [hsame]; rfl))
  have hbit : bit (s.reg r &&& ~~~v) c = (bit (s.reg r) c && !bit v c) := by
    rw [bit_and]
    simp only [bit_eq, BitVec.getLsbD_not, show c < 32 by omega, decide_true, Bool.true_and]
  rw [hr, hcnt, hbit]
  constructor
  · intro hset hclear
    rw [hset, hclear]
    rfl
  · intro hsame
    rw [hsame]
    simp

end Sys2Proof.Machine
end

section
/-!
PROOF. Why a command's IGN need not stay clear (R716) where counters' numbers are any numbers: a device has 32 counters, but a state may list one
with any number, and the overflow register that the model gives such a counter may be OTP_CMD_STATUS.
-/
namespace Sys2Proof.Machine

/-- The number of a counter whose overflow register would be OTP_CMD_STATUS. -/
def strayCounter : Nat := 16 * 0xA0012

/-- A device in strict mode without a genesis, whose counter of refused offers (event 0x61) has a number that no counter has and is about to wrap. -/
def strayCounterState : State :=
  { State.reset with
    pcu := { State.reset.pcu with on := [⟨strayCounter, 0x61, false, true, 0, false⟩], cnt := [(strayCounter, 2 ^ 48 - 1)] }
    regs := stSet regReset State.reset.regs Ad.CP_LOCK_STRICT 1 }

/-- PROGRAM of a row that is programmed is a lock violation, whose record is refused and counted: the count's wrap sets IGN. -/
theorem strayCounter_sets_ign : bit ((regWrite strayCounterState .cp Ad.OTP_CMD none 0x10001).1.reg Ad.OTP_CMD_STATUS) 24 = true := by
  decide +kernel

/-- Refutes O60: PROGRAM of row VARIANT, written while no command runs, leaves IGN set in a device whose counter has the number of no counter;
the statement lets a counter's number be any number. -/
theorem not_otpWritesWhileBusyChangeNothing : ¬ Obligations.OtpWritesWhileBusyChangeNothing := by
  unfold Obligations.OtpWritesWhileBusyChangeNothing
  intro h
  obtain ⟨-, hidle⟩ := h strayCounterState .cp none 0x10001 0
  exact absurd (hidle (by decide) (by decide +kernel) (by decide)) (by rw [strayCounter_sets_ign]; decide)

end Sys2Proof.Machine
end

section
/-!
PROOF. What a reset leaves (Table 2-7): the registers it keeps, the blocks it clears, what the evidence store, the OTP rows and the DAC rows
lose where it cuts an operation short, and what the pins show while it holds the device.
-/
namespace Sys2Proof.Machine

/-! ### Registers -/

theorem stGet_filter {α : Type} (d : Nat → α) (p : Nat → Bool) (m : Store α) (k : Nat) :
    stGet d (m.filter (fun e => p e.1)) k = if p k = true then stGet d m k else d k := by
  induction m with
  | nil => simp [stGet]
  | cons e m ih =>
    obtain ⟨a, v⟩ := e
    by_cases hpa : p a = true
    · rw [List.filter_cons_of_pos (by simpa using hpa), stGet, stGet, ih]
      by_cases hak : a = k
      · subst hak; simp [hpa]
      · simp [hak]
    · rw [List.filter_cons_of_neg (by simpa using hpa), ih, stGet]
      by_cases hak : a = k
      · subst hak; simp [hpa]
      · simp [hak]

theorem reg_maskVariant (s : State) {k : Nat} (hk : k ≠ Ad.EVC_MASK 1) : (maskVariant s).reg k = s.reg k := by
  unfold maskVariant
  split
  · exact reg_setReg_ne _ _ hk
  · rfl

theorem maskVariant_eq (s : State) : maskVariant s = { s with regs := (maskVariant s).regs } := by
  unfold maskVariant
  split <;> rfl

/-- The registers of a reset: those that it keeps as they were, the others at their reset values; but for the mask of sources that the
variant does not have (R656). -/
theorem reg_regsReset (s : State) (warm : Bool) {k : Nat} (hk : k ≠ Ad.EVC_MASK 1) :
    (regsReset s warm).reg k =
      if (if warm then keptWarm k else keptCold k || lthRamKey k) = true then s.reg k else regReset k := by
  unfold regsReset
  rw [reg_maskVariant _ hk]
  exact stGet_filter regReset (fun j => if warm then keptWarm j else keptCold j || lthRamKey j) s.regs k

/-- A reset of the registers reaches no block. -/
theorem regsReset_eq (s : State) (warm : Bool) :
    regsReset s warm = { s with
      regs := (regsReset s warm).regs, staged := (regsReset s warm).staged, parErr := (regsReset s warm).parErr } := by
  unfold regsReset
  rw [maskVariant_eq]

/-- A fold of writes to registers changes the registers alone. -/
theorem foldl_setReg_eq {α : Type} (key : α → Nat) (val : State → α → Word) (l : List α) (s : State) :
    l.foldl (fun s x => s.setReg (key x) (val s x)) s =
      { s with regs := (l.foldl (fun (s : State) x => s.setReg (key x) (val s x)) s).regs } :=
  List.foldlRecOn (motive := fun (u : State) => u = { s with regs := u.regs }) l _ rfl
    (fun u hu _ _ => by
      generalize val u _ = v
      rw [hu]
      rfl)

/-- A fold of writes of one value: each register written reads it. -/
theorem foldl_setReg_mem {α : Type} (key : α → Nat) (v : Word) {l : List α} {x : α} (h : x ∈ l) (s : State) :
    (l.foldl (fun (s : State) x => s.setReg (key x) v) s).reg (key x) = v := by
  obtain ⟨l1, l2, rfl⟩ := List.append_of_mem h
  rw [List.foldl_append, List.foldl_cons]
  refine List.foldlRecOn (motive := fun (u : State) => u.reg (key x) = v) l2 _ (reg_setReg_self _ _ _) (fun u hu y _ => ?_)
  by_cases he : key y = key x
  · rw [he, reg_setReg_self]
  · rwa [reg_setReg_ne _ _ (fun e => he e.symm)]

/-! ### What a reset cuts short -/

/-- Only the flash differs, and the free values that stand in it. -/
def FlashOnly (s t : State) : Prop := t = { s with flash := t.flash, free := t.free }

theorem FlashOnly.refl (s : State) : FlashOnly s s := rfl

theorem FlashOnly.trans {s t u : State} (h1 : FlashOnly s t) (h2 : FlashOnly t u) : FlashOnly s u := by
  unfold FlashOnly at *
  rw [h2, h1]

theorem flashOnly_slotProgram (s : State) (seq : Nat) (l : List Byte) : FlashOnly s (slotProgram s seq l) := by
  unfold slotProgram
  split <;> rfl

theorem flashOnly_flashProgram (s : State) (cs a : Nat) (l : List Byte) : FlashOnly s (flashProgram s cs a l) := rfl

/-- The evidence store's stop reaches the flash alone (R67, R443). -/
theorem flashOnly_evsStop (s : State) (warm : Bool) : FlashOnly s (evsStop s warm) := by
  unfold evsStop
  extract_lets prog s1 s2
  have hprog : ∀ (u : State) (f : List Byte → State → State) (l : List Byte), (∀ l u, FlashOnly u (f l u)) → FlashOnly u (prog u f l) := by
    intro u f l hf
    unfold prog
    split
    · exact hf l u
    · exact FlashOnly.trans (t := { u with free := u.free + l.length }) rfl (hf _ _)
  have h1 : FlashOnly s s1 := by
    unfold s1
    split
    · split
      · exact hprog _ _ _ (fun l u => flashOnly_slotProgram u _ l)
      · rfl
    · rfl
  have h2 : FlashOnly s1 s2 := by
    unfold s2
    split
    · split
      · exact hprog _ _ _ (fun l u => flashOnly_flashProgram u _ _ l)
      · split
        · rfl
        · rfl
    · rfl
  refine (h1.trans h2).trans ?_
  split
  · rfl
  · rfl

theorem otpCut_idle {s : State} (h : s.otp.cmd = none) : otpCut s = s := by
  unfold otpCut
  rw [h]

/-- An OTP command cut short leaves rows and free values alone to differ (R721). -/
theorem otpCut_eq (s : State) : otpCut s = { s with otp := (otpCut s).otp, free := (otpCut s).free } := by
  unfold otpCut
  split <;> rfl

/-- A row program cut short reaches the DAC's rows alone (R584). -/
theorem dacCut_eq (s : State) : dacCut s = { s with dac := (dacCut s).dac, free := (dacCut s).free } := by
  unfold dacCut
  split <;> rfl

/-- An increment cut short reaches the counter alone (R423). -/
theorem ctrCut_eq (s : State) :
    ctrCut s = { s with otp := { s.otp with ctr := (ctrCut s).otp.ctr, incs := (ctrCut s).otp.incs }, free := (ctrCut s).free } := by
  unfold ctrCut
  dsimp only
  split <;> rfl

theorem dacAborted_eq (was s : State) : dacAborted was s = { s with regs := (dacAborted was s).regs } := by
  unfold dacAborted
  split <;> rfl

theorem dacAborted_reg (was s : State) {k : Nat} (h : k ≠ Ad.DAC_MTP_CMD) : (dacAborted was s).reg k = s.reg k := by
  unfold dacAborted
  split
  · exact reg_setReg_ne _ _ h
  · rfl

/-! ### A power-on reset -/

/-- High impedance, as DAC_OUT_n reads it. -/
def hizWord : Word := 0x40000000

/-- What an operation cut short by a loss of power leaves. -/
def powerCut (s : State) : State := otpCut (dacCut (evsStop (ctrCut s) false))

/-- A loss of power reaches OTP, the DAC's rows and the flash. -/
theorem powerCut_eq (s : State) :
    powerCut s = { s with
      otp := (powerCut s).otp, dac := (powerCut s).dac, flash := (powerCut s).flash, free := (powerCut s).free } := by
  unfold powerCut
  rw [otpCut_eq, dacCut_eq, flashOnly_evsStop (ctrCut s) false, ctrCut_eq]

/-- With no OTP command under way its rows stay. -/
theorem powerCut_rows {s : State} (h : s.otp.cmd = none) : (powerCut s).otp.rows = s.otp.rows := by
  have h3 : (dacCut (evsStop (ctrCut s) false)).otp = { s.otp with ctr := (ctrCut s).otp.ctr, incs := (ctrCut s).otp.incs } := by
    rw [dacCut_eq, flashOnly_evsStop (ctrCut s) false, ctrCut_eq]
  unfold powerCut
  rw [otpCut_idle (by rw [h3]; exact h), h3]

/-- The blocks after a power-on reset, before the DAC's outputs go to high impedance. -/
def porstCleared (s : State) : State := { regsReset (blocksReset (powerCut s)) false with mot := motReset }

theorem porstCleared_eq (s : State) :
    porstCleared s = { blocksReset (powerCut s) with
      mot := motReset, regs := (porstCleared s).regs, staged := (porstCleared s).staged, parErr := (porstCleared s).parErr } := by
  unfold porstCleared
  rw [regsReset_eq]

/-- The DAC's outputs at high impedance, one after the other. -/
def outputsOff (s : State) : State := (List.range 16).foldl (fun (s : State) n => s.setReg (Ad.DAC_OUT n) hizWord) s

theorem outputsOff_eq (s : State) : outputsOff s = { s with regs := (outputsOff s).regs } :=
  foldl_setReg_eq Ad.DAC_OUT (fun _ _ => hizWord) _ s

theorem outputsOff_reg (s : State) {k : Nat} (h : ∀ n, n < 16 → k ≠ Ad.DAC_OUT n) : (outputsOff s).reg k = s.reg k :=
  List.foldlRecOn (motive := fun (v : State) => v.reg k = s.reg k) _ _ rfl
    (fun v hv n hn => by rw [reg_setReg_ne _ _ (h n (List.mem_range.mp hn)), hv])

theorem outputsOff_out (s : State) {n : Nat} (h : n < 16) : (outputsOff s).reg (Ad.DAC_OUT n) = hizWord :=
  foldl_setReg_mem Ad.DAC_OUT hizWord (List.mem_range.mpr h) s

/-- The blocks of a power-on reset. -/
theorem porstBlocks_outputs (s : State) :
    porstBlocks s = outputsOff (dacAborted s { porstCleared s with dac := { (porstCleared s).dac with ilim := [] } }) := rfl

/-- The DAC's part of a power-on reset changes registers, and ends the current limits. -/
theorem porstBlocks_eq (s : State) :
    porstBlocks s = { porstCleared s with dac := { (porstCleared s).dac with ilim := [] }, regs := (porstBlocks s).regs } := by
  rw [porstBlocks_outputs, outputsOff_eq, dacAborted_eq]

@[simp] theorem islHold_reg (s : State) (p : Phase) (done : Bool) (runs : BitVec 34) (wip : Bool) (k : Nat) :
    (islHold s p done runs wip).reg k = s.reg k := rfl

/-- A register that a power-on reset does not keep reads its reset value (Table 2-7). -/
theorem porst_reg (s : State) {k : Nat} (hmask : k ≠ Ad.EVC_MASK 1) (hcmd : k ≠ Ad.DAC_MTP_CMD) (hout : ∀ n, n < 16 → k ≠ Ad.DAC_OUT n)
    (hcold : (keptCold k || lthRamKey k) = false) : (porst s).reg k = regReset k := by
  rw [porst, islHold_reg, porstBlocks_outputs, outputsOff_reg _ hout]
  rw [dacAborted_reg _ _ hcmd]
  show (regsReset (blocksReset (powerCut s)) false).reg k = regReset k
  rw [reg_regsReset _ _ hmask, if_neg (by simp [hcold])]

/-- Every DAC output is at high impedance (R66). -/
theorem porst_dacOut (s : State) {n : Nat} (h : n < 16) : (porst s).reg (Ad.DAC_OUT n) = hizWord := by
  rw [porst, islHold_reg, porstBlocks_outputs, outputsOff_out _ h]

/-- What a power-on reset leaves: `u` is held in it, `s` was the state before (Table 2-7). -/
structure PowerOff (s u : State) : Prop where
  phase : u.isl.phase = .porst
  runs : u.isl.runs = 1
  regs : ∀ k, k ∈ [Ad.CP_LOCK, Ad.CP_LOCK_STRICT] → u.reg k = 0
  flt : u.flt = fltFresh
  effects : u.effects = []
  dram : u.dram = s.dram
  rows : s.otp.cmd = none → u.otp.rows = s.otp.rows
  out : ∀ n, n < 16 → u.reg (Ad.DAC_OUT n) = hizWord
  sdo : u.cp.sdo = none
  flashUp : u.evs.flashUp = false

@[simp] theorem islHold_flt (s : State) (p : Phase) (done : Bool) (runs : BitVec 34) (wip : Bool) :
    (islHold s p done runs wip).flt = s.flt := rfl
@[simp] theorem islHold_effects (s : State) (p : Phase) (done : Bool) (runs : BitVec 34) (wip : Bool) :
    (islHold s p done runs wip).effects = s.effects := rfl
@[simp] theorem islHold_dram (s : State) (p : Phase) (done : Bool) (runs : BitVec 34) (wip : Bool) :
    (islHold s p done runs wip).dram = s.dram := rfl
@[simp] theorem islHold_otp (s : State) (p : Phase) (done : Bool) (runs : BitVec 34) (wip : Bool) :
    (islHold s p done runs wip).otp = s.otp := rfl
@[simp] theorem islHold_cp (s : State) (p : Phase) (done : Bool) (runs : BitVec 34) (wip : Bool) :
    (islHold s p done runs wip).cp = s.cp := rfl
@[simp] theorem islHold_evs (s : State) (p : Phase) (done : Bool) (runs : BitVec 34) (wip : Bool) :
    (islHold s p done runs wip).evs = s.evs := rfl

/-- The blocks of a power-on reset are those that every reset clears, but for motion, the DAC and the registers. -/
theorem porstBlocks_cleared (s : State) :
    ∃ r st pe d, porstBlocks s =
      { blocksReset (powerCut s) with mot := motReset, regs := r, staged := st, parErr := pe, dac := d } := by
  rw [porstBlocks_eq, porstCleared_eq]
  exact ⟨_, _, _, _, rfl⟩

theorem PowerOff.porst (s : State) : PowerOff s (porst s) := by
  obtain ⟨r, st, pe, d, hb⟩ := porstBlocks_cleared s
  refine
    { phase := rfl
      runs := rfl
      regs := ?regs
      flt := ?flt
      effects := ?effects
      dram := ?dram
      rows := ?rows
      out := fun _ h => porst_dacOut s h
      sdo := ?sdo
      flashUp := ?flashUp }
  case regs =>
    intro k hk
    simp only [List.mem_cons, List.not_mem_nil, or_false] at hk
    rcases hk with rfl | rfl
    · exact porst_reg s (by decide) (by decide) (by decide) (by decide)
    · exact porst_reg s (by decide) (by decide) (by decide) (by decide)
  case rows =>
    intro h
    rw [Machine.porst, islHold_otp, hb]
    exact powerCut_rows h
  case dram =>
    rw [Machine.porst, islHold_dram, hb]
    show (powerCut s).dram = s.dram
    rw [powerCut_eq]
  case flt => rw [Machine.porst, islHold_flt, hb]; rfl
  case effects => rw [Machine.porst, islHold_effects, hb]; rfl
  case sdo => rw [Machine.porst, islHold_cp, hb]; rfl
  case flashUp => rw [Machine.porst, islHold_evs, hb]; rfl

/-- What a loss of the main supplies takes beyond a power-on reset (R58, R64). -/
def mainsLost (s : State) : State :=
  { s with
    regs := s.regs.filter (fun e => !lthRamKey e.1)
    isl := { s.isl with vio := false }
    lth := s.lth.map (fun (l : LthSt) => { l with ramErr := [], ramLoss := l.ramLoss + 1, ramSet := [] }) }

theorem supplyLoss_mains (s : State) : supplyLoss s = mainsLost (porst s) := by
  unfold supplyLoss
  generalize porst s = p
  rfl

/-- A loss of the main supplies changes no register beyond the list RAMs (R64). -/
theorem mainsLost_reg (s : State) {k : Nat} (h : lthRamKey k = false) : (mainsLost s).reg k = s.reg k := by
  have hr : (mainsLost s).reg k = stGet regReset (s.regs.filter (fun e => !lthRamKey e.1)) k := rfl
  rw [hr, stGet_filter regReset (fun j => !lthRamKey j), if_pos (by simp [h])]
  rfl

theorem PowerOff.mainsLost {s u : State} (h : PowerOff s u) : PowerOff s (mainsLost u) where
  phase := h.phase
  runs := h.runs
  regs := by
    intro k hk
    have hram : ∀ j, j ∈ [Ad.CP_LOCK, Ad.CP_LOCK_STRICT] → lthRamKey j = false := by decide
    rw [mainsLost_reg u (hram k hk), h.regs k hk]
  flt := h.flt
  effects := h.effects
  dram := h.dram
  rows := h.rows
  out := by
    intro n hn
    have hram : ∀ j, j < 16 → lthRamKey (Ad.DAC_OUT j) = false := by decide
    rw [mainsLost_reg u (hram n hn), h.out n hn]
  sdo := h.sdo
  flashUp := h.flashUp

/-- Nothing follows a command in a power-on reset: the blocks have no consequence left. -/
theorem PowerOff.finish {s u : State} (h : PowerOff s u) :
    finish s u = { u with pending := s.pending, variant := s.variant } := by
  simp only [Machine.finish, follow, effectsRun_nil h.effects, h.phase]

theorem PowerOff.queued {s u : State} (h : PowerOff s u) : PowerOff s { u with pending := s.pending, variant := s.variant } :=
  { h with }

/-- Only AON is clocked. -/
theorem PowerOff.running {s u : State} (h : PowerOff s u) (i : Nat) : u.running i = decide (i = 0) := by
  unfold State.running
  rw [h.runs]
  exact BitVec.getLsbD_one.trans (by simp)

/-- The pins in a power-on reset (R66). -/
theorem PowerOff.pins {s u : State} (h : PowerOff s u) :
    (∀ n, n < 16 → bit (u.reg (Ad.DAC_OUT n)) 30 = true ∧ pinDac u n = .highZ) ∧ (∀ n, n < 4 → pinRng u n = 0) ∧
      pinRefOut u = .highZ ∧ (∀ i, pinSdo u i = none) ∧ pinXsRst u = ioPin u .low ∧ pinFault u = ioPin u .low ∧
      pinIrq u = ioPin u .highZ := by
  have hana : u.running 32 = false := by rw [h.running]; rfl
  have hhiz : bit hizWord 30 = true := by decide
  refine ⟨fun n hn => ?_, fun n _ => ?_, ?_, fun i => ?_, ?_, ?_, ?_⟩
  · refine ⟨by rw [h.out n hn, hhiz], ?_⟩
    simp only [pinDac, h.out n hn, hhiz, if_true]
  · simp [pinRng, hana]
  · simp [pinRefOut, hana]
  · simp [pinSdo, h.sdo]
  · simp [pinXsRst, h.flashUp]
  · simp [pinFault, faultOut, h.phase, pullDown]
  · simp [pinIrq, h.phase, pullDown]

/-- Settles O8: both commands leave a state held in power-on reset, in which nothing follows. -/
theorem powerOnResetLeaves : Obligations.PowerOnResetLeaves := by
  unfold Obligations.PowerOnResetLeaves
  intro s c low hc
  have hoff : ∃ u, PowerOff s u ∧ exec c s = .next (finish s u) := by
    rcases hc with ⟨rfl, hlow⟩ | rfl
    · refine ⟨porst s, PowerOff.porst s, ?_⟩
      show Host.Outcome.next (finish s (porstAssert s low)) = _
      rw [porstAssert, if_neg (by omega)]
    · refine ⟨mainsLost (porst s), (PowerOff.porst s).mainsLost, ?_⟩
      rw [← supplyLoss_mains]
      rfl
  obtain ⟨u, hu, hexec⟩ := hoff
  have ht := hu.queued
  rw [hu.finish] at hexec
  exact ⟨_, hexec, ht.phase, ht.running, ht.regs _ (by decide), ht.regs _ (by decide), ht.flt, ht.effects, ht.dram, ht.rows, rfl, ht.pins⟩

end Sys2Proof.Machine
end

section
/-!
PROOF. What a warm reset leaves (R67, R68, R697): the registers that keep their values, and the blocks and the fault collector cleared.
-/
namespace Sys2Proof.Machine

/-! ### The DAC's copy of its rows -/

/-- The registers of the DAC that the copy of the rows writes (R578, R590). -/
def dacCopyKeys : List Nat :=
  (List.range 16).map Ad.DAC_OUT ++ (List.range 16).map Ad.DAC_MTP_ROW ++ (List.range 16).map Ad.DAC_MTP_WEAR ++
    (List.range 16).map Ad.DAC_CH_CFG

theorem dacCopyKeys_mem {n : Nat} (h : n < 16) : Ad.DAC_OUT n ∈ dacCopyKeys ∧ Ad.DAC_MTP_ROW n ∈ dacCopyKeys ∧
    Ad.DAC_MTP_WEAR n ∈ dacCopyKeys ∧ Ad.DAC_CH_CFG n ∈ dacCopyKeys :=
  (by decide : ∀ j, j < 16 → Ad.DAC_OUT j ∈ dacCopyKeys ∧ Ad.DAC_MTP_ROW j ∈ dacCopyKeys ∧
    Ad.DAC_MTP_WEAR j ∈ dacCopyKeys ∧ Ad.DAC_CH_CFG j ∈ dacCopyKeys) n h

/-- The DAC's own state, its registers and free values alone differ; no register beyond those of the copy. -/
def DacOnly (s t : State) : Prop :=
  t = { s with regs := t.regs, staged := t.staged, dac := t.dac, free := t.free } ∧ RegsBut dacCopyKeys s t

theorem DacOnly.trans {s t u : State} (h1 : DacOnly s t) (h2 : DacOnly t u) : DacOnly s u :=
  ⟨by rw [h2.1, h1.1], h1.2.trans h2.2⟩

theorem DacOnly.setReg {k : Nat} (s : State) (v : Word) (h : k ∈ dacCopyKeys) : DacOnly s (s.setReg k v) := ⟨rfl, .setReg s v h⟩

theorem DacOnly.setStg {k : Nat} (s : State) (v : Word) : DacOnly s (s.setStg k v) := ⟨rfl, fun _ _ => rfl⟩

theorem dacOnly_dacOut (s : State) {n : Nat} (h : n < 16) (code : Nat) (span flt hiz : Bool) : DacOnly s (dacOut s n code span flt hiz) :=
  .setReg s _ (dacCopyKeys_mem h).1

theorem dacOnly_setDac (s : State) (n : Nat) (f : DacCh → DacCh) : DacOnly s (setDac s n f) := ⟨rfl, fun _ _ => rfl⟩

theorem dacOnly_puLoad (s : State) {n : Nat} (h : n < 16) : DacOnly s (puLoad s n) := by
  obtain ⟨-, -, -, hcfg⟩ := dacCopyKeys_mem h
  unfold puLoad
  split
  · exact ⟨rfl, .refl _ s⟩
  · dsimp only
    have ht : DacOnly s (dacTakes s n) := dacOnly_setDac s n _
    split
    · exact ht.trans (dacOnly_dacOut _ h _ _ _ _)
    · exact ((ht.trans (dacOnly_dacOut _ h _ _ _ _)).trans (.setReg _ _ hcfg)).trans (.setStg _ _)

/-- The rows' copy reaches the DAC alone. -/
theorem dacOnly_dacCopy (s : State) : DacOnly s (dacCopy s) := by
  unfold dacCopy
  extract_lets s1
  refine List.foldlRecOn (motive := fun (u : State) => DacOnly s u) _ _ ⟨rfl, fun _ _ => rfl⟩ (fun u hu n hn => ?_)
  obtain ⟨-, hrow, hwear, -⟩ := dacCopyKeys_mem (List.mem_range.mp hn)
  have hn := List.mem_range.mp hn
  refine hu.trans ?_
  extract_lets r s1 s2
  have h1 : DacOnly u s1 := dacOnly_setDac u n _
  have h2 : DacOnly s1 s2 := by
    unfold s2
    split
    · exact DacOnly.trans (t := s1.fresh) ⟨rfl, fun _ _ => rfl⟩ (.setReg _ _ hrow)
    · exact .setReg _ _ hrow
  exact (((h1.trans h2).trans (dacOnly_dacOut s2 hn _ _ _ _)).trans (.setReg _ _ hwear)).trans (dacOnly_puLoad _ hn)

/-! ### A warm reset of a running device -/

/-- What an operation cut short by a warm reset leaves. -/
def warmCut (s : State) : State := dacCut (evsStop (ctrCut s) true)

theorem warmCut_eq (s : State) :
    warmCut s = { s with
      otp := (warmCut s).otp, dac := (warmCut s).dac, flash := (warmCut s).flash, free := (warmCut s).free } := by
  unfold warmCut
  rw [dacCut_eq, flashOnly_evsStop (ctrCut s) true, ctrCut_eq]

/-- The blocks and registers after a warm reset, the DAC's rows copied. -/
def warmCleared (s : State) (cause : Nat) : State :=
  dacCopy (dacAborted s (evcMirror (regsReset (blocksReset (warmCut (sqBits s Ad.ISL_RESET_CAUSE cause))) true)))

/-- The same, with the correction curve's loss reported where one was active (R747). -/
def warmTold (s : State) (cause : Nat) : State :=
  if (tblBody s 7).isSome then motNoCurve (warmCleared s cause) else warmCleared s cause

theorem wrst_run {s : State} (cause : Nat) (h : s.isl.phase = .run) :
    wrst s cause = islHold { warmTold s cause with effects := [] } .warm true 3 false := by
  unfold wrst
  rw [h]
  rfl

/-- Registers that a warm reset writes anew, and those of the events that it raises. -/
def warmKeys : List Nat := [Ad.ISL_RESET_CAUSE, Ad.DAC_MTP_CMD, Ad.MOT_EVT] ++ evcKeys ++ dacCopyKeys

@[simp] theorem blocksReset_flt (s : State) : (blocksReset s).flt = fltFresh := rfl
@[simp] theorem evcMirror_flt (s : State) : (evcMirror s).flt = s.flt := setReg_flt ..
theorem regsReset_flt (s : State) (warm : Bool) : (regsReset s warm).flt = s.flt := by rw [regsReset_eq]
theorem dacAborted_flt (was s : State) : (dacAborted was s).flt = s.flt := by rw [dacAborted_eq]
theorem dacCopy_flt (s : State) : (dacCopy s).flt = s.flt := by rw [(dacOnly_dacCopy s).1]

theorem warmCleared_flt (s : State) (cause : Nat) : (warmCleared s cause).flt = fltFresh := by
  unfold warmCleared
  rw [dacCopy_flt, dacAborted_flt, evcMirror_flt, regsReset_flt, blocksReset_flt]

theorem sqEvt_flt (s : State) (k bits : Nat) : (sqEvt s k bits).flt = s.flt := by rw [eq_of_maskEvt (maskEvt_sqEvt s k bits)]

theorem warmTold_flt (s : State) (cause : Nat) : (warmTold s cause).flt = fltFresh := by
  unfold warmTold
  split
  · rw [motNoCurve, sqEvt_flt, warmCleared_flt]
  · exact warmCleared_flt s cause

/-- A register as a warm reset leaves it (R12, R747). -/
theorem warmCleared_reg (s : State) (cause : Nat) {k : Nat} (h : k ∉ warmKeys) :
    (warmCleared s cause).reg k = if keptWarm k = true then s.reg k else regReset k := by
  simp only [warmKeys, List.mem_append, not_or] at h
  obtain ⟨⟨h0, hevc⟩, hdac⟩ := h
  simp only [List.mem_cons, List.not_mem_nil, or_false, not_or] at h0
  obtain ⟨hcause, hcmd, -⟩ := h0
  have hmask : k ≠ Ad.EVC_MASK 1 := fun e => hevc (e ▸ by decide)
  have hpend : k ≠ Ad.EVC_PEND 0 := fun e => hevc (e ▸ by decide)
  unfold warmCleared
  rw [(dacOnly_dacCopy _).2 k hdac, dacAborted_reg _ _ hcmd, evcMirror, reg_setReg_ne _ _ hpend, reg_regsReset _ _ hmask]
  have hb : (blocksReset (warmCut (sqBits s Ad.ISL_RESET_CAUSE cause))).reg k = (warmCut (sqBits s Ad.ISL_RESET_CAUSE cause)).reg k := rfl
  have hc : (warmCut (sqBits s Ad.ISL_RESET_CAUSE cause)).reg k = (sqBits s Ad.ISL_RESET_CAUSE cause).reg k := by
    rw [warmCut_eq]
    rfl
  rw [hb, hc, sqBits, reg_setReg_ne _ _ hcause]
  rfl

theorem warmTold_reg (s : State) (cause : Nat) {k : Nat} (h : k ∉ warmKeys) :
    (warmTold s cause).reg k = if keptWarm k = true then s.reg k else regReset k := by
  unfold warmTold
  split
  · have hk : k ∉ Ad.MOT_EVT :: evcKeys := fun hm => h (by
      simp only [warmKeys, List.mem_append, List.mem_cons] at hm ⊢
      rcases hm with hm | hm
      · simp [hm]
      · simp [hm])
    rw [motNoCurve, sqEvt_regsBut _ _ _ k hk, warmCleared_reg s cause h]
  · exact warmCleared_reg s cause h

/-- A warm reset of a running device ends with the level sources set, and nothing else follows. -/
theorem finish_wrst {s : State} (cause : Nat) (h : s.isl.phase = .run) :
    finish s (wrst s cause) = { levelsSet (wrst s cause) with pending := s.pending, variant := s.variant } := by
  have heff : (wrst s cause).effects = [] := by rw [wrst_run cause h]; rfl
  have hphase : (wrst s cause).isl.phase = .warm := by rw [wrst_run cause h]; rfl
  simp only [finish, follow, effectsRun_nil heff, hphase]

theorem levelsSet_isl (s : State) : (levelsSet s).isl = s.isl :=
  List.foldlRecOn (motive := fun (u : State) => u.isl = s.isl) _ _ rfl
    (fun u hu src _ => by rw [eq_of_maskEvt (maskEvt_evcPend u src)]; exact hu)

/-- The islands that are clocked in a warm reset: AON and TB. -/
theorem warm_runs (i : Nat) : (3 : BitVec 34).getLsbD i = decide (i ≤ 1) := by
  by_cases hi : i < 34
  · exact (by decide : ∀ j, j < 34 → (3 : BitVec 34).getLsbD j = decide (j ≤ 1)) i hi
  · rw [BitVec.getLsbD_of_ge _ _ (by omega)]
    simp
    omega

/-- The registers that hold what the fault collector clears, and the locks. -/
theorem warm_key {k : Nat} (h : k ∉ warmKeys) {s t : State} (hphase : s.isl.phase = .run)
    (ht : t = { levelsSet (wrst s 2) with pending := s.pending, variant := s.variant }) :
    t.reg k = if keptWarm k = true then s.reg k else regReset k := by
  have hevc : k ∉ evcKeys := fun hm => h (by simp only [warmKeys, List.mem_append]; exact .inl (.inr hm))
  have hreg : t.reg k = (levelsSet (wrst s 2)).reg k := by rw [ht]; rfl
  rw [hreg, levelsSet_regsBut _ k hevc, wrst_run 2 hphase, islHold_reg]
  exact warmTold_reg s 2 h

/-- Settles O9: a warm reset keeps what `keptWarm` names, and clears the fault collector with its registers. -/
theorem warmResetKeepsLocks : Obligations.WarmResetKeepsLocks := by
  unfold Obligations.WarmResetKeepsLocks
  intro s low hlow hphase
  have hexec : exec (.wrstNAssert low) s = .next (finish s (wrst s 2)) := by
    show Host.Outcome.next (finish s (wrstAssert s low)) = _
    rw [wrstAssert, if_neg (by omega)]
  rw [finish_wrst 2 hphase] at hexec
  refine ⟨_, hexec, ?_⟩
  generalize ht : ({ levelsSet (wrst s 2) with pending := s.pending, variant := s.variant } : State) = t
  have hreg : ∀ k, k ∉ warmKeys → t.reg k = if keptWarm k = true then s.reg k else regReset k :=
    fun k hk => warm_key hk hphase ht.symm
  have hflt : t.flt = fltFresh := by
    rw [← ht]
    exact (levelsSet_flt _).trans (by rw [wrst_run 2 hphase, islHold_flt]; exact warmTold_flt s 2)
  have hisl : t.isl = (wrst s 2).isl := by
    rw [← ht]
    exact levelsSet_isl _
  have hkept : ∀ k, k ∈ [Ad.CP_LOCK, Ad.CP_LOCK_STRICT] → k ∉ warmKeys ∧ keptWarm k = true := by decide +kernel
  have hlock : ∀ k, k ∈ [Ad.CP_LOCK, Ad.CP_LOCK_STRICT] → t.reg k = s.reg k := fun k hk => by
    rw [hreg k (hkept k hk).1, if_pos (hkept k hk).2]
  have hgone : ∀ k, k ∈ [Ad.FLT_RAISED_0, Ad.FLT_RAISED_1, Ad.FLT_LOCKVIOL] ++ (List.range 11).map Ad.FLT_CNT →
      k ∉ warmKeys ∧ keptWarm k = false ∧ regReset k = 0 := by decide +kernel
  have hzero : ∀ k, k ∈ [Ad.FLT_RAISED_0, Ad.FLT_RAISED_1, Ad.FLT_LOCKVIOL] ++ (List.range 11).map Ad.FLT_CNT → t.reg k = 0 := fun k hk => by
    obtain ⟨hw, hk, h0⟩ := hgone k hk
    rw [hreg k hw, hk, h0]
    rfl
  have hr0 : t.reg Ad.FLT_RAISED_0 = 0 := hzero _ (by decide)
  have hr1 : t.reg Ad.FLT_RAISED_1 = 0 := hzero _ (by decide)
  have hlv : t.reg Ad.FLT_LOCKVIOL = 0 := hzero _ (by decide)
  refine ⟨?_, ?_, hlock _ (by decide), hlock _ (by decide), ?_, ?_, ?_, ?_, ?_, hr0, hr1, hlv, ?_⟩
  · rw [hisl, wrst_run 2 hphase]
    rfl
  · intro i
    unfold State.running
    rw [hisl, wrst_run 2 hphase]
    exact warm_runs i
  · rw [hflt]; rfl
  · rw [hflt]; rfl
  · rw [hflt]; rfl
  · rw [hflt]; rfl
  · simp only [fltSummary, hflt, hr0, hr1, hlv]
    decide
  · intro c hc
    have hmem : Ad.FLT_CNT (c / 4) ∈ (List.range 11).map Ad.FLT_CNT := List.mem_map_of_mem (List.mem_range.mpr (by omega))
    rw [fltCnt, State.fld, hzero _ (List.mem_append_right _ hmem)]
    simp [bf]

end Sys2Proof.Machine
end

section
/-!
PROOF. The control port's frames (chapter 3): a frame with a wrong CCRC, a frame of one word, and what each frame command does where it acts.
-/
namespace Sys2Proof.Machine

/-! ### Status bits and the answer -/

theorem cpStatusSet_regsBut (s : State) (bits : Nat) : RegsBut [Ad.CP_STATUS] s (cpStatusSet s bits) := by
  unfold cpStatusSet
  split
  · exact .refl _ s
  · exact .setReg s _ (List.mem_cons_self ..)

theorem cpStatusSet_eq (s : State) (bits : Nat) : cpStatusSet s bits = { s with regs := (cpStatusSet s bits).regs } := by
  unfold cpStatusSet
  split <;> rfl

theorem errCount_regsBut (s : State) (lo : Nat) : RegsBut [Ad.CP_ERRCNT] s (errCount s lo) :=
  .setReg s _ (List.mem_cons_self ..)

theorem frameResp_driven {f : CpFrame} (h : f.late = false) (data : List Byte) :
    frameResp f data = data ++ [frameStatus f, crc8 (frameHdr f ++ data ++ [frameStatus f])] := by
  unfold frameResp
  rw [h]
  rfl

@[simp] theorem sdoAnswer_resp (s : State) (f : CpFrame) (resp : List Byte) : (sdoAnswer s f resp).cp.resp = resp := rfl

/-- Settles O17: a wrong CCRC sets a status bit, counts, and answers. -/
theorem badCcrcAccessesNothing : Obligations.BadCcrcAccessesNothing := by
  unfold Obligations.BadCcrcAccessesNothing
  intro s opc tag len addr words ccrc late hans hframe f hcrc
  refine ⟨_, rfl, ?_⟩
  have hgo : ¬ (!cpAnswers s ∨ s.cp.frame.isSome) := by simp [hans, hframe]
  have hrun : cpFrame s opc tag len addr words ccrc late =
      sdoAnswer (errCount (cpStatusSet (csFall s) (2 + if late then 128 else 0)) 0) { f with code := 8 }
        (frameResp { f with code := 8 } (if opc % 16 = 1 then List.replicate (4 * (len % 16 + 1)) 0 else [])) := by
    unfold cpFrame
    rw [if_neg hgo]
    exact if_neg hcrc
  rw [hrun]
  refine ⟨fun k hstat herr => ?_, ?_, fun hlate hopc => ?_⟩
  · exact (errCount_regsBut _ 0 k (by simpa using herr)).trans (cpStatusSet_regsBut _ _ k (by simpa using hstat))
  · rw [cpStatusSet_eq]
    rfl
  · rw [if_neg hopc, frameResp_driven hlate]
    rfl

/-! ### The end of a frame -/

theorem cpLast_regsBut (s : State) (f : CpFrame) (pend : Bool) : RegsBut [Ad.CP_LAST] s (cpLast s f pend) := by
  unfold cpLast
  split
  · exact .refl _ s
  · exact fun k hk => reg_setReg_ne _ _ (by simpa using hk)

theorem frameKeep_reg (s : State) (f : CpFrame) (k : Nat) : (frameKeep s f).reg k = s.reg k := by
  unfold frameKeep
  split <;> rfl

/-- The end of a frame changes the two registers that describe it (R94). -/
theorem frameEnd_regsBut (s : State) (f : CpFrame) (done : Bool) : RegsBut [Ad.CP_STATUS, Ad.CP_LAST] s (frameEnd s f done) := by
  intro k hk
  simp only [List.mem_cons, List.not_mem_nil, or_false, not_or] at hk
  have hlast : (cpLast (cpStatusSet s (f.bits + if f.late then 128 else 0)) f false).reg k = s.reg k :=
    (cpLast_regsBut _ f false k (by simpa using hk.2)).trans (cpStatusSet_regsBut s _ k (by simpa using hk.1))
  unfold frameEnd
  dsimp only
  split
  · exact (frameKeep_reg _ f k).trans hlast
  · exact hlast

/-- The response of a frame that ends with its words accessed. -/
theorem frameEnd_resp (s : State) (f : CpFrame) : (frameEnd s f true).cp.resp = frameResp f (frameData f) := by
  simp [frameEnd, setCp]

/-- What CP_SDO has shown when a frame that was driven has ended: its wait bytes, as many as a free value gives, and its response (R88). -/
theorem frameEnd_sdo {s : State} {f : CpFrame} (hlate : f.late = false) (hexp : f.expired = false) :
    ∃ n, 1 ≤ n ∧ n ≤ stallMax s ∧ (frameEnd s f true).cp.sdo = some (sdoWaits f n ++ [0xA5] ++ (frameEnd s f true).cp.resp) := by
  let s1 : State := frameKeep (cpLast (cpStatusSet s (f.bits + if f.late then 128 else 0)) f false) f
  have hcfg : s1.reg Ad.CP_CFG = s.reg Ad.CP_CFG :=
    (frameKeep_reg _ f _).trans ((cpLast_regsBut _ f false _ (by decide)).trans (cpStatusSet_regsBut s _ _ (by decide)))
  have hmax : stallMax s1 = stallMax s := by simp only [stallMax, State.fld, hcfg]
  have hpos : 0 < stallMax s := by simp only [stallMax]; omega
  refine ⟨waitBytes s1 f, ?_, ?_, ?_⟩
  · simp [waitBytes, hexp]
  · have := Nat.mod_lt (Config.freeNat s1.free) hpos
    simp only [waitBytes, hexp, hmax]
    simp only [Bool.false_eq_true, if_false]
    omega
  · simp [frameEnd, setCp, sdoAnswer, hlate, s1]

/-! ### A frame of one word -/

/-- A word of the map's first region lies in no window. -/
theorem cpWindow_direct {w : Nat} (h : w < 0x100) : cpWindow w = none := by
  unfold cpWindow
  rw [if_neg (by omega), if_neg (by omega)]

/-- A frame after its first word, which ended with a code and a value. -/
def wordDone (f : CpFrame) (c : Nat) (v : Word) : CpFrame := { frameCode f c with out := [v], idx := 1 }

theorem frameCode_len (f : CpFrame) (c : Nat) : (frameCode f c).len = f.len := by
  unfold frameCode
  split <;> rfl

/-- A frame of one word ends once its word has been accessed, but where its island does not run. -/
theorem frameGo_word {s s1 : State} {f : CpFrame} {c : Nat} {v : Word} (hw : f.addr < 0x100) (hlen : f.len = 0) (hidx : f.idx = 0)
    (hout : f.out = []) (h : frameWord s f = .done s1 c v) (hc : c ≠ 5) :
    ∃ b, frameGo s f = frameEnd s1 { wordDone f c v with base := b } true := by
  have hwin : winAfter s1 (f.addr + f.idx) f.base c = s1 := by
    rw [hidx, winAfter, cpWindow_direct (by omega)]
  have hrun : frameRun 17 s f = (s1, { wordDone f c v with base := frameBase s1 (wordDone f c v) }, true) := by
    rw [frameRun, if_neg (by omega), h]
    dsimp only
    rw [if_neg hc, hwin, hidx, hout, frameRun, if_pos (by simp [frameCode_len, hlen])]
    rfl
  exact ⟨_, by rw [frameGo, hrun]⟩

/-- A read of this register has no effect of its own. -/
def plainRead (k : Nat) : Bool :=
  k != Ad.TBU_TIME_LO && k != Ad.MOT_DIST_LO && k != Ad.HA_POISON_LAST_0 && (inArr k (Ad.CVU_RESULT 0) 0x40 8).isNone
    && (inArr k (Ad.PCU_CNT_LO 0) 0x10 32).isNone

theorem regTake_of_plainRead (s : State) {k : Nat} (h : plainRead k = true) (r : RegRow) : regTake s k r = (s, regView s k r) := by
  simp only [plainRead, Bool.and_eq_true, bne_iff_ne, ne_eq, Option.isNone_iff_eq_none] at h
  obtain ⟨⟨⟨⟨h1, h2⟩, h3⟩, h4⟩, h5⟩ := h
  simp only [regTake, readFx, h1, h2, h3, h4, h5, if_false]

/-- The direct words are read without an effect, and OTP_STAGE is none of them (Table 3-5). -/
theorem directKey_plain {w k : Nat} (hw : w < 0x100) (h : directKey w = some k) :
    plainRead k = true ∧ ¬ (Ad.OTP_STAGE 0 ≤ k ∧ k ≤ Ad.OTP_STAGE 15) := by
  have hall : ∀ w, w < 0x100 → (directKey w).all (fun k =>
      plainRead k && decide (¬ (Ad.OTP_STAGE 0 ≤ k ∧ k ≤ Ad.OTP_STAGE 15))) = true := by decide +kernel
  have := hall w hw
  rw [h] at this
  simpa only [Option.all_some, Bool.and_eq_true, decide_eq_true_eq] using this

theorem cpTarget_direct {s : State} {w k : Nat} (hw : w < 0x100) (h : directKey w = some k) (base : Nat) :
    cpTarget s w base = some (k, none) := by
  rw [cpTarget, if_pos hw, h]
  rfl

/-- A direct word of a clocked island is read at once. -/
theorem cpReadWord_direct {s : State} {w k : Nat} {r : RegRow} {ix : List Nat} (hw : w < 0x100) (hk : directKey w = some k)
    (hr : regHere s k = some (r, ix)) (hclk : Clocked s (rowIsland r ix)) (hgood : readBad s k r = none) (base : Nat) :
    cpReadWord s w base = .done s 0 (regTake s k r).2 := by
  obtain ⟨hrun, hst⟩ := hclk
  obtain ⟨hplain, hotp⟩ := directKey_plain hw hk
  simp only [cpReadWord, cpTarget_direct hw hk, hr, hrun, hst, hotp, hgood, regTake_of_plainRead s hplain]
  simp

/-- A direct word of a clocked island is written at once. -/
theorem cpWriteWord_direct {s : State} {w k : Nat} {r : RegRow} {ix : List Nat} (hw : w < 0x100) (hk : directKey w = some k)
    (hr : regHere s k = some (r, ix)) (hclk : Clocked s (rowIsland r ix)) (base : Nat) (v : Word) :
    cpWriteWord s w base v =
      .done (regWrite s .cp k none v).1 (if (regWrite s .cp k none v).2.1 then 1 else 0) 0 := by
  obtain ⟨hrun, hst⟩ := hclk
  simp only [cpWriteWord, cpTarget_direct hw hk, hr, hrun, hst]
  simp

/-- Settles O18: the word is accessed at once, and the frame ends. -/
theorem frameReadsAndWritesAWord : Obligations.FrameReadsAndWritesAWord := by
  unfold Obligations.FrameReadsAndWritesAWord
  intro s tag w k v r ix htag hw _ hk hr hclk hgood _ _
  refine ⟨?_, ?_⟩
  · intro f
    have hword : frameWord s f = .done s 0 (regTake s k r).2 := cpReadWord_direct hw hk hr hclk hgood 0
    obtain ⟨b, hgo⟩ := frameGo_word hw rfl rfl rfl hword (by decide)
    have hresp : (frameGo s f).cp.resp = toBytesLE 4 (regTake s k r).2.toNat ++ [BitVec.ofNat 8 (16 * tag)] ++
        [crc8 (frameHdr f ++ toBytesLE 4 (regTake s k r).2.toNat ++ [BitVec.ofNat 8 (16 * tag)])] := by
      rw [hgo, frameEnd_resp, frameResp_driven rfl]
      simp [frameData, frameStatus, frameHdr, wordDone, frameCode, f, Nat.mul_comm tag 16]
    refine ⟨hresp, ?_⟩
    obtain ⟨n, h1, h2, hsdo⟩ := frameEnd_sdo (s := s) (f := { wordDone f 0 (regTake s k r).2 with base := b }) rfl rfl
    rw [← hgo] at hsdo
    exact ⟨n, h1, h2, hsdo⟩
  · intro f x
    have hword : frameWord s f = .done x.1 (if x.2.1 then 1 else 0) 0 := cpWriteWord_direct hw hk hr hclk 0 v
    obtain ⟨b, hgo⟩ := frameGo_word hw rfl rfl rfl hword (by split <;> decide)
    refine ⟨_, hgo, fun j h1 h2 => frameEnd_regsBut _ _ _ j (by simp [h1, h2]), ?_⟩
    rw [frameEnd_resp]
    cases x.2.1
    · rw [frameResp_driven rfl]
      simp [frameData, frameStatus, wordDone, frameCode, f, Nat.mul_comm tag 16]
    · rw [frameResp_driven rfl]
      simp [frameData, frameStatus, wordDone, frameCode, f, Nat.mul_comm tag 16]

end Sys2Proof.Machine
end

section
/-!
PROOF. What each frame command does where it acts (chapter 3).
-/
namespace Sys2Proof.Machine

theorem csFall_cp (s : State) : (csFall s).cp = s.cp := by
  rw [csFall, eq_of_maskRep ((maskRep_startIsl (setLatch s 16) 2).trans (maskRep_setLatch s 16))]

/-- The frame of a command phase, before anything of it is judged. -/
def frameOf (opc tag len addr : Nat) (words : List Word) (ccrc : Byte) (late : Bool) : CpFrame :=
  ⟨opc % 16, tag % 16, len % 16, addr % 4096, if opc = 2 then (words ++ List.replicate 16 0).take (len % 16 + 1) else [], ccrc, 0, [], 0, 0,
    0, false, late, false, 0⟩

/-- The bytes that the CCRC covers. -/
def crcBytes (f : CpFrame) : List Byte := frameHdr f ++ f.words.flatMap (fun (w : Word) => toBytesLE 4 w.toNat)

/-- A frame with a right CCRC, where the port answers and none is in its stall phase. -/
theorem cpFrame_good {s : State} {opc tag len addr : Nat} {words : List Word} {ccrc : Byte} {late : Bool} (hans : cpAnswers s = true)
    (hnone : s.cp.frame = none) (hcrc : crc8 (crcBytes (frameOf opc tag len addr words ccrc late)) = ccrc) :
    cpFrame s opc tag len addr words ccrc late = frameGood (csFall s) (frameOf opc tag len addr words ccrc late) := by
  have hgo : ¬ (!cpAnswers s ∨ s.cp.frame.isSome) := by simp [hans, hnone]
  unfold cpFrame
  rw [if_neg hgo]
  exact if_pos hcrc

/-- The frame as `frameGood` takes it: CP_CFG.DUP_EN as it stands. -/
def withDup (s : State) (f : CpFrame) : CpFrame := { f with dup := bit (s.reg Ad.CP_CFG) 0 }

/-- A frame that repeats none, and to which no frame-level code applies (Table 3-4). -/
theorem frameGood_judged (s : State) (f : CpFrame) (hopc : f.opc ≠ 2) :
    frameGood s f =
      if frameJudge s (withDup s f) ≠ 0 then frameRefuse s (withDup s f) (frameJudge s (withDup s f))
      else if f.opc = 3 then frameEnd s (withDup s f) true
      else frameGo (timeCopy s (withDup s f)) { withDup s f with base := frameBase (timeCopy s (withDup s f)) (withDup s f) } := by
  unfold frameGood
  extract_lets dup f1 same st s1 code s2
  have hs1 : s1 = s := if_neg (fun h => hopc h.1)
  rw [if_neg (fun h => hopc h.1)]
  subst s2 code
  rw [hs1]
  rfl

/-- A frame of an undefined OPC, or whose words run across regions, or that an access under way holds back, ends there; any other has its words
accessed. -/
theorem frameJudge_ok {s : State} {f : CpFrame} (hopc : f.opc = 1 ∨ f.opc = 2) (hlen : cpLenOk f.addr f.len = true)
    (hpend : s.cp.pendAcc = none) : frameJudge s f = 0 := by
  have hp : cpPend s = false := by simp [cpPend, hpend]
  unfold frameJudge
  rw [if_neg (by omega), if_neg (by simp [hlen]), if_neg (by simp [hp])]

theorem frameJudge_undefined {s : State} {f : CpFrame} (h : f.opc = 0 ∨ 3 < f.opc) : frameJudge s f = 9 := if_pos h

theorem frameJudge_nop {s : State} {f : CpFrame} (h : f.opc = 3) : frameJudge s f = 0 := by
  have hc : frameCrosses s f = false := by simp [frameCrosses, h]
  unfold frameJudge
  rw [if_neg (by omega), if_neg (by simp [h]), if_neg (by simp [hc])]

/-- A WR frame while DUP_EN is 0: what was kept is given up, and the words are written. -/
theorem frameGood_write {s : State} {f : CpFrame} (hopc : f.opc = 2) (hdup0 : f.dup = false) (hlen : cpLenOk f.addr f.len = true)
    (hpend : s.cp.pendAcc = none) (hdup : bit (s.reg Ad.CP_CFG) 0 = false) :
    frameGood s f = frameGo { s with cp := { s.cp with kept := none, pendWr := false } }
      { f with base := frameBase { s with cp := { s.cp with kept := none, pendWr := false } } f } := by
  have hf : ({ f with dup := bit (s.reg Ad.CP_CFG) 0 } : CpFrame) = f := by rw [hdup, ← hdup0]
  unfold frameGood
  extract_lets dup f1 same st s1 code s2
  have hdup1 : dup = false := hdup
  have hf1 : f1 = f := hf
  have hs1 : s1 = { s with cp := { s.cp with kept := none, pendWr := false } } := if_pos ⟨hopc, by rw [hdup1]; rfl⟩
  have hcode : code = 0 := frameJudge_ok (f := f1) (.inr hopc) hlen (by rw [hs1]; exact hpend)
  have hs2 : s2 = s1 := if_neg (fun h => absurd (hopc.symm.trans h.1) (by decide))
  rw [if_neg (by simp [hdup1]), if_neg (by simp [hcode]), if_neg (by rw [hf1, hopc]; decide), hs2, hs1, hf1]

/-- Settles O16: each clause is the command's own branch. -/
theorem frameCommandsAct : Obligations.FrameCommandsAct := by
  unfold Obligations.FrameCommandsAct
  intro s opc tag len addr words ccrc late
  refine ⟨fun hans hnone => ⟨?_, ?_, ?_, ?_, ?_, ?_⟩, fun f hf => ⟨?_, fun hclk => ?_⟩, fun f s1 c v hclk hacc hexp hword => ?_, fun hclk hacc => ?_⟩
  · intro f hcrc
    have h := cpFrame_good (opc := 3) (tag := tag) (len := len) (addr := addr) (words := []) (late := late) hans hnone
      (by simpa [crcBytes, frameOf, f] using hcrc)
    show Host.Outcome.next (finish s (cpFrame s 3 tag len addr [] ccrc late)) = _
    rw [h, frameGood_judged _ _ (by simp [frameOf]), frameJudge_nop rfl]
    rfl
  · intro f g hcrc hlen hpend
    have h := cpFrame_good (opc := 1) (tag := tag) (len := len) (addr := addr) (words := []) (late := late) hans hnone
      (by simpa [crcBytes, frameOf, f] using hcrc)
    show Host.Outcome.next (finish s (cpFrame s 1 tag len addr [] ccrc late)) = _
    rw [h, frameGood_judged _ _ (by simp [frameOf]), frameJudge_ok (.inl rfl) hlen (by rw [csFall_cp, hpend])]
    rfl
  · intro f hcrc hlen hpend hdup
    have h := cpFrame_good (opc := 2) (tag := tag) (len := len) (addr := addr) (words := words) (late := late) hans hnone hcrc
    show Host.Outcome.next (finish s (cpFrame s 2 tag len addr words ccrc late)) = _
    rw [h, frameGood_write rfl rfl hlen (by rw [csFall_cp, hpend]) hdup]
    rfl
  · intro hopc f hcrc
    have hmod : opc % 16 = opc := by omega
    have hf : frameOf opc tag len addr [] ccrc late = f := by
      rw [frameOf, hmod, if_neg (by omega)]
    have h := cpFrame_good (opc := opc) (tag := tag) (len := len) (addr := addr) (words := []) (late := late) hans hnone
      (by rw [hf]; simpa [crcBytes, f] using hcrc)
    show Host.Outcome.next (finish s (cpFrame s opc tag len addr [] ccrc late)) = _
    have hopc9 : frameJudge (csFall s) (withDup (csFall s) f) = 9 := frameJudge_undefined (by show opc = 0 ∨ 3 < opc; omega)
    rw [h, hf, frameGood_judged _ _ (by show opc ≠ 2; omega), hopc9]
    rfl
  · show Host.Outcome.next (finish s (cpEarly s)) = _
    rw [cpEarly, if_neg (by simp [hans, hnone])]
  · show Host.Outcome.next (finish s (cpLate s opc tag len addr words ccrc)) = _
    rw [cpLate, hnone]
  · show Host.Outcome.next (finish s (cpLate s opc tag len addr words ccrc)) = _
    rw [cpLate, hf]
    rfl
  · intro f1 s1
    refine ⟨next_onIsl hclk ?_, next_onIsl hclk ?_⟩
    · rw [cpStall, hf]
      rfl
    · rw [cpStall, hf]
      rfl
  · refine next_onIsl hclk ?_
    simp only [cpPendDone, hacc, hexp, hword, if_true]
    rfl
  · refine next_onIsl hclk (if_pos ?_)
    cases hp : s.cp.pendAcc with
    | none => exact absurd hp hacc
    | some f => simp [cpPend, hp]

end Sys2Proof.Machine
end

section
/-!
PROOF. What each reset and supply command does where it acts (chapter 2).
-/
namespace Sys2Proof.Machine

theorem porstAssert_long (s : State) {low : Nat} (h : 200 ≤ low) : porstAssert s low = porst s := if_neg (by omega)

theorem wrstAssert_long (s : State) {low : Nat} (h : 200 ≤ low) : wrstAssert s low = wrst s 2 := if_neg (by omega)

/-- The release of PORST_N: Table 2-6 where the TCXO is found, else its step 1 (R65). -/
theorem porstRelease_held {s : State} (h : s.isl.phase = .porst) (tcxo : Bool) (ticks cause : Nat) :
    porstRelease s tcxo ticks cause =
      let s1 := rtcRun (sqBits { s with isl := { s.isl with vbat := true, vio := true } } Ad.ISL_RESET_CAUSE
        (1 + cause + 4 * b2n s.isl.rtcGone)) ticks
      if tcxo then porSteps (tbStep2 s1) else islHold s1 .hold false 0x200000005 false :=
  if_neg (fun hn => hn h)

/-- The release of WRST_N after Table 2-6 has completed: its steps 5 to 7 again (R67). -/
theorem wrstRelease_warm {s : State} (h : s.isl.phase = .warm) (hpor : s.isl.warmInPor = false) (tcxo : Bool) (ticks : Nat) :
    ∃ u, u.isl.phase = .run ∧ wrstRelease s tcxo ticks = dacReport (bootReset (acqAnaStart u)) := by
  let s1 := otpLoad (otpFinish s)
  refine ⟨{ s1 with
    isl := { islFresh (islAll s1) (-1) with supplyOut := s1.isl.supplyOut, rtcGone := s1.isl.rtcGone, vbat := s1.isl.vbat }
    evs := evsResetSt s1.evs.hwm (otpGood s1 6) }, rfl, ?_⟩
  rw [wrstRelease, if_neg (fun hn => hn h), if_neg (by simp [hpor])]

theorem droop_reset {s : State} {level dur : Nat} (hdur : 5000 < dur) (hlevel : level < droopAt) (h : s.isl.phase ≠ .porst) (tcxo : Bool)
    (ticks : Nat) : droop s level dur tcxo ticks = porstRelease (porst s) tcxo ticks 8 := by
  rw [droop, if_neg (by omega), if_neg h]

/-- A list RAM loses its words with the main supplies. -/
theorem mainsLost_lth (s : State) : (mainsLost s).lth.map LthSt.ramLoss = s.lth.map (fun l => l.ramLoss + 1) := by
  simp [mainsLost, List.map_map, Function.comp_def]

theorem vbatLoss_reg (s : State) (k : Nat) : (vbatLoss s).reg k = if keptCold k = true then regReset k else s.reg k := by
  have h : (vbatLoss s).reg k = stGet regReset (s.regs.filter (fun e => !keptCold e.1)) k := rfl
  rw [h, stGet_filter regReset (fun j => !keptCold j)]
  cases keptCold k <;> rfl

/-- A monitored supply's bit: set once it has left its band, clear once it is back (R726). -/
theorem supplyBit_set (x : BitVec 4) {n : Nat} (h : n < 4) : (x ||| (1#4 <<< n)).getLsbD n = true := by
  simp [h]

theorem supplyBit_clear (x : BitVec 4) {n : Nat} (h : n < 4) : (x &&& ~~~(1#4 <<< n)).getLsbD n = false := by
  simp [h]

theorem supplyEvent_leaves {s : State} {code : Nat} (h1 : 35 ≤ code) (h2 : code ≤ 38) (hphase : s.isl.phase ≠ .porst)
    (hin : s.isl.supplyOut.getLsbD (code - 35) = false) :
    supplyEvent s code =
      raise (setLatch { s with isl := { s.isl with supplyOut := s.isl.supplyOut ||| (1#4 <<< (code - 35)) } } 22) 5 code :=
  if_neg (by simp [hin, hphase]; omega)

theorem supplyReturn_back {s : State} {code : Nat} (h1 : 35 ≤ code) (h2 : code ≤ 38) :
    supplyReturn s code = { s with isl := { s.isl with
      supplyOut := s.isl.supplyOut &&& ~~~(1#4 <<< (code - 35)), vbat := s.isl.vbat || code == 38, vio := s.isl.vio || code == 36 } } :=
  if_neg (by omega)

/-- Settles O7: each clause is the command's own branch. -/
theorem resetAndSupplyCommandsAct : Obligations.ResetAndSupplyCommandsAct := by
  unfold Obligations.ResetAndSupplyCommandsAct
  intro s low level dur ticks code tcxo
  refine ⟨fun hlow => ?_, fun v hv hphase => ?_, fun hphase => ?_, fun hlow hphase => ?_, fun hphase hpor => ?_, fun hdur hlevel hphase => ?_,
    ?_, ?_, fun h1 h2 hphase hin => ?_, fun h1 h2 => ?_⟩
  · show Host.Outcome.next (finish s (porstAssert s low)) = _
    rw [porstAssert_long s hlow]
  · refine ⟨?_, ?_⟩
    · show Host.Outcome.next (finish s (porstRelease s true ticks 0)) = _
      simp only [porstRelease_held hphase, hv, Nat.add_zero, if_true]
    · show Host.Outcome.next (finish s (porstRelease s false ticks 0)) = _
      simp only [porstRelease_held hphase, hv, Nat.add_zero, Bool.false_eq_true, if_false]
  · show Host.Outcome.next (finish s (tcxoTimeout s)) = _
    rw [tcxoTimeout, if_pos hphase]
  · refine ⟨?_, by rw [wrst_run 2 hphase]; rfl⟩
    show Host.Outcome.next (finish s (wrstAssert s low)) = _
    rw [wrstAssert_long s hlow]
  · obtain ⟨u, hu, hrel⟩ := wrstRelease_warm hphase hpor tcxo ticks
    refine ⟨u, hu, ?_⟩
    show Host.Outcome.next (finish s (wrstRelease s tcxo ticks)) = _
    rw [hrel]
  · show Host.Outcome.next (finish s (droop s level dur tcxo ticks)) = _
    rw [droop_reset hdur hlevel hphase]
  · refine ⟨mainsLost (porst s), ?_, ?_, fun k hk => mainsLost_reg _ hk, mainsLost_lth _⟩
    · rw [← supplyLoss_mains]
      rfl
    · generalize porst s = p
      rfl
  · refine ⟨vbatLoss s, rfl, rfl, rfl, rfl, fun k hk => ?_, fun k hk => ?_⟩
    · rw [vbatLoss_reg, if_pos hk]
    · rw [vbatLoss_reg, if_neg (by simp [hk])]
  · refine ⟨{ s with isl := { s.isl with supplyOut := s.isl.supplyOut ||| (1#4 <<< (code - 35)) } }, ?_, supplyBit_set _ (by omega), fun k => rfl⟩
    show Host.Outcome.next (finish s (supplyEvent s code)) = _
    rw [supplyEvent_leaves h1 h2 hphase hin]
  · refine ⟨_, congrArg (fun u => Host.Outcome.next (finish s u)) (supplyReturn_back h1 h2), supplyBit_clear _ (by omega), fun k => rfl⟩

end Sys2Proof.Machine
end

section
/-!
PROOF. What each TAP and debug command does where it acts (R69, R70, Table 2-8).
-/
namespace Sys2Proof.Machine

/-- The TAP while a data register scan of DBG_ACCESS captures the last operation's answer. -/
def accScanned (s : State) : State :=
  { s with tap := { s.tap with ir := 0x22, dr := s.tap.accStatus * 2 ^ 32 + s.tap.accData.toNat } }

/-- Under a grant with its bit an access that can begin does what it is for. -/
theorem dbgAccess_open {s : State} {g : Nat} (f : State → State) (h : s.tap.grant ≠ 0) (ha : s.tap.acc = none)
    (hb : s.tap.grant.testBit g = true) : dbgAccess s g f = f (accScanned s) := by
  simp [dbgAccess, h, tapIr, setTap, ha, hb, accScanned]

/-- A response that passes every check offers its record, and waits for the carve unless the store refuses it (R69). -/
theorem tapResp_accepted {s : State} {grant : Word} {sig key c : List Byte} (hc : s.tap.chal = some c)
    (hj : unlockJudge s grant sig key = 0) {s1 : State} {p : List Byte}
    (hs1 : s1 = { s with tap := { s.tap with ir := 0x21, chal := none, status := 0 } })
    (hp : p = pad128 (toBytesLE 4 grant.toNat ++ List.replicate 12 0 ++ sha256 c)) (hoff : (evsOffer s1 7 p none).2 ≠ .busy) :
    tapResp s grant sig key = { (evsOffer s1 7 p none).1 with tap := { (evsOffer s1 7 p none).1.tap with waiting := some p } } := by
  have hs : setTap s (fun t => { t with ir := 0x21, chal := none, status := 0 }) = s1 := hs1.symm
  unfold tapResp
  simp only [hj, hc, hs, Option.getD_some, ← hp, ne_eq, not_true, if_false]
  rfl

/-- A response that fails a check leaves its STATUS. -/
theorem tapResp_refused {s : State} {grant : Word} {sig key : List Byte} (hj : unlockJudge s grant sig key ≠ 0) :
    tapResp s grant sig key = { s with tap := { s.tap with ir := 0x21, chal := none, status := unlockJudge s grant sig key } } :=
  if_pos hj

/-- In a running device the command's effect is its own. -/
theorem next_onRun {s u : State} {f : State → State} (h : s.isl.phase = .run) (hf : f s = u) :
    (Host.Outcome.next (finish s (onRun f s)) : Host.Outcome State Fault Refusal) = .next (finish s u) := by
  rw [onRun_run f h, hf]

/-- Settles O13: outside DBG_ACCESS each command is a change of the TAP; an operation of DBG_ACCESS goes through its open GRANT bit. -/
theorem tapCommandsAct : Obligations.TapCommandsAct := by
  unfold Obligations.TapCommandsAct
  intro s grant d sig key a n ticks tcxo
  refine ⟨rfl, rfl, rfl, ⟨_, rfl⟩, ⟨_, rfl⟩, ⟨_, ?_, rfl⟩, rfl, fun hrun => ⟨fun c hc hj hoff => ?_, fun hj => ?_, fun hw => ?_,
    fun hgrant hacc => ⟨fun hb => ?_, fun hb => ?_, fun hb => ?_, fun hb => ?_, fun hb => ⟨?_, ?_, fun hh => ?_, fun hh => ?_, fun hh h1 h2 => ?_⟩,
      fun hb => ?_⟩⟩⟩
  · simp
  · exact next_onRun hrun (tapResp_accepted hc hj rfl rfl hoff)
  · exact next_onRun hrun (tapResp_refused hj)
  · exact next_onRun hrun (if_pos hw)
  · exact next_onRun hrun (dbgAccess_open _ hgrant hacc hb)
  · exact next_onRun hrun (dbgAccess_open _ hgrant hacc hb)
  · exact next_onRun hrun (dbgAccess_open _ hgrant hacc hb)
  · exact next_onRun hrun (dbgAccess_open _ hgrant hacc hb)
  · exact next_onRun hrun (dbgAccess_open _ hgrant hacc hb)
  · exact next_onRun hrun (dbgAccess_open _ hgrant hacc hb)
  · exact next_onRun hrun ((dbgAccess_open _ hgrant hacc hb).trans (if_pos hh))
  · have hne : ¬ (!(accScanned s).rc.halted) = true := by simpa [accScanned] using hh
    exact next_onRun hrun ((dbgAccess_open _ hgrant hacc hb).trans ((if_neg hne).trans (if_pos rfl)))
  · have hne : ¬ (!(accScanned s).rc.halted) = true := by simpa [accScanned] using hh
    exact next_onRun hrun ((dbgAccess_open _ hgrant hacc hb).trans ((if_neg hne).trans ((if_neg (by omega)).trans (if_pos h2))))
  · exact next_onRun hrun (dbgAccess_open _ hgrant hacc hb)

end Sys2Proof.Machine
end

section
/-!
PROOF. What each command of the check-value units and of the performance counters does where it acts (chapter 17).
-/
namespace Sys2Proof.Machine

/-! ### Registers whose write is their block's own operation -/

/-- A write that is the block's own operation: parity errors of the word may end with it, and no more. -/
theorem regWrite_own {s s1 : State} {src : Src} {k : Nat} {w : Word} {r : RegRow} {ix : List Nat} (hat : regAt k = some (r, ix))
    (hc : cpOnly k = false) (ht : ¬(0xF10000 ≤ k ∧ k < 0xF50000)) (ho : ownWrite s src k (-1) w = some s1) :
    ∃ l, (regWrite s src k none w).1 = { s1 with parErr := l } := by
  obtain ⟨l, hl, -⟩ := parWritten_shape s1 k r (-1)
  refine ⟨l, ?_⟩
  unfold regWrite
  rw [hat]
  dsimp only [aliasMask]
  rw [if_neg (by simp [hc]), if_neg (fun hn => ht ⟨hn.1, hn.2.1⟩), ho]
  exact hl

theorem rowWrite_own {s s1 : State} {src : Src} {k : Nat} {w : Word} (h : Takes s src k) (hc : cpOnly k = false)
    (ht : ¬(0xF10000 ≤ k ∧ k < 0xF50000)) (ho : ownWrite s src k (-1) w = some s1) : ∃ l, rowWrite s src k w = { s1 with parErr := l } := by
  rw [rowWrite_takes w h]
  obtain ⟨-, r, ix, hr, -⟩ := h
  have hat : regAt k = some (r, ix) := by
    unfold regHere at hr
    split at hr
    · cases hr
    · exact hr
  exact regWrite_own hat hc ht ho

/-! ### Check units -/

theorem ownWrite_cvuDataB {n : Nat} (h : n < 8) (s : State) (src : Src) (m w : Word) :
    ownWrite s src (Ad.CVU_DATA_B n) m w = some (cvuWrite s n (toBytesLE 1 w.toNat)) := by
  interval_cases n <;> rfl

theorem ownWrite_cvuDataH {n : Nat} (h : n < 8) (s : State) (src : Src) (m w : Word) :
    ownWrite s src (Ad.CVU_DATA_H n) m w = some (cvuWrite s n (toBytesLE 2 w.toNat)) := by
  interval_cases n <;> rfl

theorem ownWrite_cvuDataW {n : Nat} (h : n < 8) (s : State) (src : Src) (m w : Word) :
    ownWrite s src (Ad.CVU_DATA_W n) m w = some (cvuWrite s n (toBytesLE 4 w.toNat)) := by
  interval_cases n <;> rfl

theorem ownWrite_cvuCtrl {n : Nat} (h : n < 8) (s : State) (src : Src) (m w : Word) :
    ownWrite s src (Ad.CVU_CTRL n) m w = some (cvuCtrl s n w) := by
  interval_cases n <;> rfl

/-- The written registers of the check units are every source's, and none is a table word. -/
theorem cvuKeys_open {n : Nat} (h : n < 8) {k : Nat} (hk : k ∈ [Ad.CVU_DATA_B n, Ad.CVU_DATA_H n, Ad.CVU_DATA_W n, Ad.CVU_CTRL n]) :
    cpOnly k = false ∧ ¬(0xF10000 ≤ k ∧ k < 0xF50000) :=
  (by decide : ∀ n, n < 8 → ∀ k ∈ [Ad.CVU_DATA_B n, Ad.CVU_DATA_H n, Ad.CVU_DATA_W n, Ad.CVU_CTRL n],
    cpOnly k = false ∧ ¬(0xF10000 ≤ k ∧ k < 0xF50000)) n h k hk

/-- An enabled, written channel without a limit takes every byte (R630, R631). -/
theorem cvuWrite_takes {s : State} {n : Nat} (x : List Byte) (hwr : bit (s.reg (Ad.CVU_CFG n)) 16 = false) (hen : cvuEn s n = true)
    (hlim : s.reg (Ad.CVU_LIMIT n) = 0) :
    cvuWrite s n x = pcu 0x79 n x.length (setCvu s n (fun (q : CvuCh) => { q with
      crc := some (x.foldl (crcByte (cvuPar s n)) (q.crc.getD (cvuPar s n).init)), count := q.count + x.length })) := by
  have hroom : cvuRoom s n x.length = x.length := by simp [cvuRoom, hlim]
  rw [cvuWrite, if_neg (by simp [hwr, hen]), if_neg (by omega), cvuTake]
  simp [hroom, hlim]

/-- Any other channel sets IGN. -/
theorem cvuWrite_ignored {s : State} {n : Nat} (x : List Byte) (h : ¬(bit (s.reg (Ad.CVU_CFG n)) 16 = false ∧ cvuEn s n = true)) :
    cvuWrite s n x = s.setRegBit (Ad.CVU_STATUS n) 0 := by
  refine if_pos ?_
  simp only [Bool.or_eq_true, Bool.not_eq_true']
  by_cases hwr : bit (s.reg (Ad.CVU_CFG n)) 16 = true
  · exact .inl hwr
  · refine .inr ?_
    rw [Bool.not_eq_true] at hwr
    simpa [hwr] using h

theorem w32_toNat {v : Nat} (h : v < 2 ^ 32) : (w32 v).toNat = v := by
  rw [w32, BitVec.toNat_ofNat, Nat.mod_eq_of_lt h]

/-- Each of the three feeds is a write of its bytes to the channel. -/
theorem exec_feed {s : State} {src : Src} {n : Nat} {v1 : Byte} {v2 : BitVec 16} {w : Word} {c : Instr} {k : Nat} {x : List Byte} (hn : n < 8)
    (hc : (c, k, x) ∈ [(Instr.cvuDataB src n v1, Ad.CVU_DATA_B n, toBytesLE 1 v1.toNat),
      (.cvuDataH src n v2, Ad.CVU_DATA_H n, toBytesLE 2 v2.toNat), (.cvuDataW src n w, Ad.CVU_DATA_W n, toBytesLE 4 w.toNat)])
    (ht : Takes s src k) : ∃ l, exec c s = .next (finish s { cvuWrite s n x with parErr := l }) := by
  have hmod : n % 8 = n := Nat.mod_eq_of_lt hn
  have h1 : (w32 v1.toNat).toNat = v1.toNat := w32_toNat (by have := v1.isLt; omega)
  have h2 : (w32 v2.toNat).toNat = v2.toNat := w32_toNat (by have := v2.isLt; omega)
  simp only [List.mem_cons, Prod.mk.injEq, List.not_mem_nil, or_false] at hc
  rcases hc with ⟨rfl, rfl, rfl⟩ | ⟨rfl, rfl, rfl⟩ | ⟨rfl, rfl, rfl⟩
  · obtain ⟨hcp, htb⟩ := cvuKeys_open hn (k := Ad.CVU_DATA_B n) (by simp)
    obtain ⟨l, hl⟩ := rowWrite_own ht hcp htb (ownWrite_cvuDataB hn s src (-1) (w32 v1.toNat))
    refine ⟨l, ?_⟩
    show Host.Outcome.next (finish s (rowWrite s src (Ad.CVU_DATA_B (n % 8)) (w32 v1.toNat))) = _
    rw [hmod, hl, h1]
  · obtain ⟨hcp, htb⟩ := cvuKeys_open hn (k := Ad.CVU_DATA_H n) (by simp)
    obtain ⟨l, hl⟩ := rowWrite_own ht hcp htb (ownWrite_cvuDataH hn s src (-1) (w32 v2.toNat))
    refine ⟨l, ?_⟩
    show Host.Outcome.next (finish s (rowWrite s src (Ad.CVU_DATA_H (n % 8)) (w32 v2.toNat))) = _
    rw [hmod, hl, h2]
  · obtain ⟨hcp, htb⟩ := cvuKeys_open hn (k := Ad.CVU_DATA_W n) (by simp)
    obtain ⟨l, hl⟩ := rowWrite_own ht hcp htb (ownWrite_cvuDataW hn s src (-1) w)
    refine ⟨l, ?_⟩
    show Host.Outcome.next (finish s (rowWrite s src (Ad.CVU_DATA_W (n % 8)) w)) = _
    rw [hmod, hl]

/-- A write of a channel's CTRL. -/
theorem rowWrite_cvuCtrl {s : State} {src : Src} {n : Nat} (hn : n < 8) (ht : Takes s src (Ad.CVU_CTRL n)) (w : Word) :
    ∃ l, rowWrite s src (Ad.CVU_CTRL (n % 8)) w = { cvuCtrl s n w with parErr := l } := by
  obtain ⟨hcp, htb⟩ := cvuKeys_open hn (k := Ad.CVU_CTRL n) (by simp)
  rw [Nat.mod_eq_of_lt hn]
  exact rowWrite_own ht hcp htb (ownWrite_cvuCtrl hn s src (-1) w)

theorem readFx_cvuResult {n : Nat} (h : n < 8) (s : State) : readFx s (Ad.CVU_RESULT n) = cvuCapture s n := by
  interval_cases n <;> rfl

/-! ### Counters and monitors -/

theorem readFx_pcuCntLo {m : Nat} (h : m < 32) (s : State) : readFx s (Ad.PCU_CNT_LO m) = (pcuCntRead s m).1 := by
  interval_cases m <;> rfl

theorem ownWrite_pcuCntLo {m : Nat} (h : m < 32) (s : State) (src : Src) (mask w : Word) :
    ownWrite s src (Ad.PCU_CNT_LO m) mask w = some (pcuCntWrite s m false w) := by
  interval_cases m <;> rfl

theorem ownWrite_pcuCntHi {m : Nat} (h : m < 32) (s : State) (src : Src) (mask w : Word) :
    ownWrite s src (Ad.PCU_CNT_HI m) mask w = some (pcuCntWrite s m true w) := by
  interval_cases m <;> rfl

theorem pcuCntKeys_open {m : Nat} (h : m < 32) {k : Nat} (hk : k ∈ [Ad.PCU_CNT_LO m, Ad.PCU_CNT_HI m]) :
    cpOnly k = false ∧ ¬(0xF10000 ≤ k ∧ k < 0xF50000) :=
  (by decide : ∀ m, m < 32 → ∀ k ∈ [Ad.PCU_CNT_LO m, Ad.PCU_CNT_HI m], cpOnly k = false ∧ ¬(0xF10000 ≤ k ∧ k < 0xF50000)) m h k hk

/-- The counters after a write of one half of a count. -/
theorem pcuCntWrite_cnt (s : State) (m : Nat) (hi : Bool) (w : Word) (j : Nat) :
    stGet (fun _ => 0) (pcuCntWrite s m hi w).pcu.cnt j =
      if j = m then (if hi then (w.toNat % 65536) * 2 ^ 32 + stGet (fun _ => 0) s.pcu.cnt m % 2 ^ 32
        else stGet (fun _ => 0) s.pcu.cnt m / 2 ^ 32 * 2 ^ 32 + w.toNat)
      else stGet (fun _ => 0) s.pcu.cnt j := by
  have hcnt : (pcuCntWrite s m hi w).pcu.cnt = stSet (fun _ => 0) s.pcu.cnt m
      (if hi then (w.toNat % 65536) * 2 ^ 32 + stGet (fun _ => 0) s.pcu.cnt m % 2 ^ 32
        else stGet (fun _ => 0) s.pcu.cnt m / 2 ^ 32 * 2 ^ 32 + w.toNat) := by
    unfold pcuCntWrite
    cases hi <;> rfl
  rw [hcnt]
  by_cases hj : j = m
  · rw [if_pos hj, hj, stGet_set_self]
  · rw [if_neg hj, stGet_set_ne _ _ _ hj]

theorem exec_pcuCntWrite {s : State} {src : Src} {m : Nat} {hi : Bool} {w : Word} (hm : m < 32)
    (ht : Takes s src (if hi then Ad.PCU_CNT_HI m else Ad.PCU_CNT_LO m)) :
    ∃ l, exec (.pcuCntWrite src m hi w) s = .next (finish s { pcuCntWrite s m hi w with parErr := l }) := by
  have hmod : m % 32 = m := Nat.mod_eq_of_lt hm
  cases hi with
  | false =>
    obtain ⟨hcp, htb⟩ := pcuCntKeys_open hm (k := Ad.PCU_CNT_LO m) (by simp)
    obtain ⟨l, hl⟩ := rowWrite_own ht hcp htb (ownWrite_pcuCntLo hm s src (-1) w)
    refine ⟨l, ?_⟩
    show Host.Outcome.next (finish s (rowWrite s src (Ad.PCU_CNT_LO (m % 32)) w)) = _
    rw [hmod]
    exact congrArg (fun u => Host.Outcome.next (finish s u)) hl
  | true =>
    obtain ⟨hcp, htb⟩ := pcuCntKeys_open hm (k := Ad.PCU_CNT_HI m) (by simp)
    obtain ⟨l, hl⟩ := rowWrite_own ht hcp htb (ownWrite_pcuCntHi hm s src (-1) w)
    refine ⟨l, ?_⟩
    show Host.Outcome.next (finish s (rowWrite s src (Ad.PCU_CNT_HI (m % 32)) w)) = _
    rw [hmod]
    exact congrArg (fun u => Host.Outcome.next (finish s u)) hl

/-- The end of an enabled monitor's window, its registers read before any is written (R643). -/
theorem bwWindow_enabled {s : State} {m : Nat} (hm : m < 16) (hen : bit (s.reg (Ad.PCU_BW_CFG m)) 31 = true) (hrun : s.running 3 = true) :
    bwWindow s m =
      let k := min 0xFFFFFFFF (bwCount s m)
      let s1 := (((bwDrop s m).setReg (Ad.PCU_BW_LAST m) (w32 k)).setReg
        (Ad.PCU_BW_MAX m) (w32 (max k (s.reg (Ad.PCU_BW_MAX m)).toNat))).setReg
        (Ad.PCU_BW_MIN m) (w32 (min k (s.reg (Ad.PCU_BW_MIN m)).toNat))
      let t := (s.reg (Ad.PCU_BW_THR m)).toNat
      if t ≠ 0 ∧ t < k then sqEvt (s1.inc (Ad.PCU_BW_WINDOWS m)) Ad.PCU_EVT (2 ^ m) else s1.inc (Ad.PCU_BW_WINDOWS m) := by
  obtain ⟨h1, h2, h3⟩ := (by decide : ∀ j, j < 16 → Ad.PCU_BW_MAX j ≠ Ad.PCU_BW_LAST j ∧ Ad.PCU_BW_MIN j ≠ Ad.PCU_BW_MAX j ∧
    Ad.PCU_BW_MIN j ≠ Ad.PCU_BW_LAST j) m hm
  have hdrop : ∀ k, (bwDrop s m).reg k = s.reg k := fun _ => rfl
  rw [bwWindow, if_neg (by simp [hen, hrun])]
  simp only [reg_setReg_ne _ _ h1, reg_setReg_ne _ _ h2, reg_setReg_ne _ _ h3, hdrop]

/-- The row of a monitor's configuration in the register index. -/
def pcuBwCfgRow : RegRow :=
  ⟨"PCU_BW_CFG", 0xB80400, [(16, 0x20)], 3, 0, 8, false,
    [⟨31, 31, "EN", .rw, 16, .none, 0⟩, ⟨30, 30, "CLEAR", .cmd, 16, .none, 0⟩, ⟨29, 28, "DIR", .rw, 16, .none, 0⟩,
      ⟨24, 24, "UNIT", .rw, 16, .none, 0⟩, ⟨19, 0, "WINDOW", .rw, 16, .none, 0x3E8⟩]⟩

theorem pcuBwCfg_key {m : Nat} (h : m < 16) : regAt (Ad.PCU_BW_CFG m) = some (pcuBwCfgRow, [m]) ∧ cpOnly (Ad.PCU_BW_CFG m) = false ∧
    ¬(0xF10000 ≤ Ad.PCU_BW_CFG m ∧ Ad.PCU_BW_CFG m < 0xF50000) ∧ ownless (Ad.PCU_BW_CFG m) = true ∧ ungated (Ad.PCU_BW_CFG m) = true :=
  (by decide +kernel : ∀ j, j < 16 → regAt (Ad.PCU_BW_CFG j) = some (pcuBwCfgRow, [j]) ∧ cpOnly (Ad.PCU_BW_CFG j) = false ∧
    ¬(0xF10000 ≤ Ad.PCU_BW_CFG j ∧ Ad.PCU_BW_CFG j < 0xF50000) ∧ ownless (Ad.PCU_BW_CFG j) = true ∧ ungated (Ad.PCU_BW_CFG j) = true) m h

/-- A write with CLEAR: the configuration, and one command. -/
theorem fieldsAcc_pcuBwCfg (s : State) (src : Src) (k : Nat) {w : Word} (h : bf w 30 30 = 1) :
    ∃ v, fieldsAcc s src k pcuBwCfgRow (-1) w = ⟨v, s.stg k, [(30, 1)], 0, false, false⟩ := by
  have hall : (-1 : Word) = 4294967295#32 := rfl
  simp only [fieldsAcc, pcuBwCfgRow, List.foldl_cons, List.foldl_nil, hall]
  rw [fldWrite_rw _ _ _ _ _ _ _ _ (by decide) (by decide), fldWrite_cmd _ _ _ _ _ _ _ _ (by decide) (by decide),
    fldWrite_rw _ _ _ _ _ _ _ _ (by decide) (by decide), fldWrite_rw _ _ _ _ _ _ _ _ (by decide) (by decide),
    fldWrite_rw _ _ _ _ _ _ _ _ (by decide) (by decide), h]
  exact ⟨_, rfl⟩

theorem regCmd_bwClear {m : Nat} (h : m < 16) (s : State) (c : Nat × Nat) : regCmd (Ad.PCU_BW_CFG m) s c = bwClear s m := by
  interval_cases m <;> rfl

/-- CLEAR acts last. -/
theorem rowWrite_bwClear {s : State} {src : Src} {m : Nat} (hm : m < 16) (ht : Takes s src (Ad.PCU_BW_CFG m)) {w : Word}
    (h : bf w 30 30 = 1) : ∃ b, rowWrite s src (Ad.PCU_BW_CFG m) w = bwClear b m := by
  obtain ⟨hat, hcp, htb, hown, hgate⟩ := pcuBwCfg_key hm
  obtain ⟨v, hacc⟩ := fieldsAcc_pcuBwCfg s src (Ad.PCU_BW_CFG m) h
  obtain ⟨b, -, hw⟩ := regWrite_common hat (.inr hcp) htb (ownWrite_of_ownless hown s src _ w) (writeGate_of_ungated hgate s w)
    (writeIgnored_of_ungated hgate s) rfl (l := [(30, 1)]) (by rw [hacc]) (by rw [hacc]) (by rw [hacc]) (by rw [hacc])
  have hne : Ad.PCU_BW_CFG m ≠ Ad.FLT_CTRL := (by decide : ∀ j, j < 16 → Ad.PCU_BW_CFG j ≠ Ad.FLT_CTRL) m hm
  rw [rowWrite_takes w ht, hw, cmdSeq, if_neg hne, List.foldl_cons, List.foldl_nil, regCmd_bwClear hm]
  exact ⟨_, rfl⟩


/-! ### The sample buffer -/

theorem setTag_tagOf (s : State) (ha : Bool) (t : TagSt) : tagOf (setTag s ha t) ha = t := by
  cases ha <;> rfl

theorem setTag_pcu (s : State) (ha : Bool) (t : TagSt) :
    (setTag s ha t).pcu.sbWr = s.pcu.sbWr ∧ (setTag s ha t).pcu.sbCount = s.pcu.sbCount ∧ (setTag s ha t).pcu.eseq = s.pcu.eseq := by
  cases ha <;> exact ⟨rfl, rfl, rfl⟩

/-- Words written to an array of registers, each to its own. -/
theorem foldl_setReg_array (key : Nat → Nat) (hkey : ∀ i j, key i = key j → i = j) (val : Nat → Word) {n i : Nat} (h : i < n) (s : State) :
    ((List.range n).foldl (fun (s : State) i => s.setReg (key i) (val i)) s).reg (key i) = val i := by
  obtain ⟨l1, l2, hl⟩ := List.append_of_mem (List.mem_range.mpr h)
  rw [hl, List.foldl_append, List.foldl_cons]
  refine List.foldlRecOn (motive := fun (u : State) => u.reg (key i) = val i) l2 _ (reg_setReg_self _ _ _) (fun u hu j _ => ?_)
  by_cases he : j = i
  · rw [he, reg_setReg_self]
  · rwa [reg_setReg_ne _ _ (fun e => he (hkey _ _ e).symm)]

/-- The words of a sample entry. -/
def sampleStored (s : State) (at0 : Nat) (l : List Nat) : State :=
  (List.range 8).foldl (fun (s : State) i => s.setReg (Ad.PCU_SBUF (8 * at0 + i)) (w32 (l.getD i 0))) s

theorem sampleStored_eq (s : State) (at0 : Nat) (l : List Nat) : sampleStored s at0 l = { s with regs := (sampleStored s at0 l).regs } :=
  foldl_setReg_eq (fun i => Ad.PCU_SBUF (8 * at0 + i)) (fun _ i => w32 (l.getD i 0)) _ s

theorem sampleStored_reg (s : State) (at0 : Nat) (l : List Nat) {i : Nat} (h : i < 8) :
    (sampleStored s at0 l).reg (Ad.PCU_SBUF (8 * at0 + i)) = w32 (l.getD i 0) :=
  foldl_setReg_array (fun i => Ad.PCU_SBUF (8 * at0 + i)) (fun i j e => by simp only [Ad.PCU_SBUF] at e; omega) (fun i => w32 (l.getD i 0)) h s

theorem tagDone_full {s : State} {ha : Bool} {k f id time : Nat} (flags : Nat) (d : List Nat) (hfly : (tagOf s ha).fly = some (k, f, id, time))
    (hfull : 64 ≤ s.pcu.sbCount ∧ bit (s.reg Ad.PCU_TAG_CFG) 28 = false) :
    tagDone s ha flags d = sqEvt (setTag s ha { tagOf s ha with fly := none }) Ad.PCU_EVT 65536 := by
  unfold tagDone
  simp only [hfly]
  exact if_pos ⟨hfull.1, by rw [hfull.2]; rfl⟩

/-- A sample entry taken into the buffer. -/
def sampleTaken (s : State) (l : List Nat) : State :=
  let s2 := sampleStored s s.pcu.sbWr l
  { s2 with pcu := { s2.pcu with eseq := (s.pcu.eseq + 1) % 256, sbWr := (s.pcu.sbWr + 1) % 64, sbCount := min 64 (s.pcu.sbCount + 1) } }

theorem sampleTaken_fly (s : State) (l : List Nat) (ha : Bool) : (tagOf (sampleTaken s l) ha).fly = (tagOf s ha).fly := by
  unfold sampleTaken
  rw [sampleStored_eq]
  cases ha <;> rfl

theorem sampleTaken_reg (s : State) (l : List Nat) {n i : Nat} (hn : n = s.pcu.sbWr) (h : i < 8) :
    (sampleTaken s l).reg (Ad.PCU_SBUF (8 * n + i)) = w32 (l.getD i 0) := by
  rw [hn, ← sampleStored_reg s s.pcu.sbWr l h]
  rfl

theorem tagDone_stored {s : State} {ha : Bool} {k f id time : Nat} (flags : Nat) (d : List Nat)
    (hfly : (tagOf s ha).fly = some (k, f, id, time)) (hroom : ¬(64 ≤ s.pcu.sbCount ∧ bit (s.reg Ad.PCU_TAG_CFG) 28 = false)) :
    tagDone s ha flags d =
      sampleTaken (setTag s ha { tagOf s ha with fly := none }) (tagWords k (f ||| flags % 256) s.pcu.eseq id time d) := by
  unfold tagDone
  simp only [hfly]
  exact if_neg (fun h => hroom ⟨h.1, by simpa using h.2⟩)

/-- The row of PCU_SBUF_CTRL in the register index. -/
def pcuSbufCtrlRow : RegRow := ⟨"PCU_SBUF_CTRL", 0xB80614, [], 3, 0, 8, false, [⟨0, 0, "CLEAR", .cmd, 16, .none, 0⟩]⟩

theorem regAt_pcuSbufCtrl : regAt Ad.PCU_SBUF_CTRL = some (pcuSbufCtrlRow, []) := by decide +kernel

theorem rowWrite_sbufClear {s : State} {src : Src} (ht : Takes s src Ad.PCU_SBUF_CTRL) :
    ∃ b, Written Ad.PCU_SBUF_CTRL (s.reg Ad.PCU_SBUF_CTRL) s b ∧
      rowWrite s src Ad.PCU_SBUF_CTRL 1 = { b with pcu := { s.pcu with sbWr := 0, sbCount := 0 } } := by
  have hacc : fieldsAcc s src Ad.PCU_SBUF_CTRL pcuSbufCtrlRow (-1) 1 =
      ⟨s.reg Ad.PCU_SBUF_CTRL, s.stg Ad.PCU_SBUF_CTRL, [(0, 1)], 0, false, false⟩ := by
    have hall : (-1 : Word) = 4294967295#32 := rfl
    simp only [fieldsAcc, pcuSbufCtrlRow, List.foldl_cons, List.foldl_nil, hall]
    rw [fldWrite_cmd _ _ _ _ _ _ _ _ (by decide) (by decide)]
    rfl
  obtain ⟨b, hb, hw⟩ := regWrite_plain (by decide) (by decide) (by decide) regAt_pcuSbufCtrl (.inr (by decide)) (by decide) hacc
  have hpcu : b.pcu = s.pcu := by
    obtain ⟨-, -, -, -, he⟩ := hb
    rw [he]
  refine ⟨b, hb, ?_⟩
  rw [rowWrite_takes 1 ht, hw, ← hpcu]
  rfl

/-- Settles O57: each clause is the command's own branch. -/
theorem checkUnitAndCounterCommandsAct : Obligations.CheckUnitAndCounterCommandsAct := by
  unfold Obligations.CheckUnitAndCounterCommandsAct
  intro s src n m en ha hi v1 v2 w flags d
  refine ⟨fun hn => ⟨fun c k x hc ht => ⟨fun hfed hlim => ?_, fun hfed => ?_⟩, fun ht => ⟨?_, ?_⟩, fun hclk => ?_⟩,
    fun hm => ⟨fun hclk => ?_, fun ht => ?_⟩, fun hm => ⟨fun hclk hen => ?_, fun ht => ?_⟩, fun hclk k f id time hfly => ?_, fun ht => ?_⟩
  · obtain ⟨l, hl⟩ := exec_feed hn hc ht
    exact ⟨l, by rw [hl, cvuWrite_takes x hfed.1 hfed.2 hlim]⟩
  · obtain ⟨l, hl⟩ := exec_feed hn hc ht
    exact ⟨l, by rw [hl, cvuWrite_ignored x hfed]⟩
  · obtain ⟨l, hl⟩ := rowWrite_cvuCtrl hn ht (w32 (2 + b2n en))
    refine ⟨l, (congrArg (fun u => Host.Outcome.next (finish s u)) hl).trans ?_⟩
    cases en <;> rfl
  · obtain ⟨l, hl⟩ := rowWrite_cvuCtrl hn ht (w32 (b2n en))
    refine ⟨l, (congrArg (fun u => Host.Outcome.next (finish s u)) hl).trans ?_⟩
    cases en <;> rfl
  · refine next_onIsl hclk ?_
    rw [Nat.mod_eq_of_lt hn, readFx_cvuResult hn]
    rfl
  · refine next_onIsl hclk ?_
    rw [Nat.mod_eq_of_lt hm, readFx_pcuCntLo hm]
    rfl
  · obtain ⟨l, hl⟩ := exec_pcuCntWrite hm ht
    refine ⟨_, hl, (pcuCntWrite_cnt s m hi w m).trans (if_pos rfl), fun j hj => (pcuCntWrite_cnt s m hi w j).trans (if_neg hj)⟩
  · exact next_onIsl hclk (bwWindow_enabled hm hen hclk.1)
  · have hne : Ad.PCU_BW_MAX m ≠ Ad.PCU_BW_MIN m ∧ Ad.PCU_BW_MAX m ≠ Ad.PCU_BW_WINDOWS m ∧ Ad.PCU_BW_MIN m ≠ Ad.PCU_BW_WINDOWS m :=
      (by decide : ∀ j, j < 16 → Ad.PCU_BW_MAX j ≠ Ad.PCU_BW_MIN j ∧ Ad.PCU_BW_MAX j ≠ Ad.PCU_BW_WINDOWS j ∧
        Ad.PCU_BW_MIN j ≠ Ad.PCU_BW_WINDOWS j) m hm
    obtain ⟨h1, h2, h3⟩ := hne
    obtain ⟨b, hb⟩ := rowWrite_bwClear hm ht (w := setBit w 30 true) (bf_setBf_self w 1 (by decide))
    refine ⟨bwClear b m, ?_, ?_, ?_, ?_⟩
    · show Host.Outcome.next (finish s (rowWrite s src (Ad.PCU_BW_CFG (m % 16)) (setBit w 30 true))) = _
      rw [Nat.mod_eq_of_lt hm, hb]
    · rw [bwClear, reg_setReg_ne _ _ h2, reg_setReg_ne _ _ h1, reg_setReg_self]
    · rw [bwClear, reg_setReg_ne _ _ h3, reg_setReg_self]
    · rw [bwClear, reg_setReg_self]
  · refine ⟨fun hfull => next_onIsl hclk (tagDone_full flags d hfly hfull), fun hroom => ?_⟩
    obtain ⟨hwr, hcount, -⟩ := setTag_pcu s ha { tagOf s ha with fly := none }
    refine ⟨_, next_onIsl hclk (tagDone_stored flags d hfly hroom), ?_, congrArg (fun n => (n + 1) % 64) hwr,
      congrArg (fun n => min 64 (n + 1)) hcount, fun i hi8 => sampleTaken_reg _ _ hwr.symm hi8⟩
    rw [sampleTaken_fly, setTag_tagOf]
  · obtain ⟨b, hb, hw⟩ := rowWrite_sbufClear ht
    exact ⟨b, hb, congrArg (fun u => Host.Outcome.next (finish s u)) hw⟩

end Sys2Proof.Machine
end

section
/-!
PROOF. Why an Event need not be reported where agents' IDs are any numbers: no attach grants an ID above 254 (R187), but a state may hold one, and
HA_UNRESP as the model reads it for such an ID can lie on the register that the Event's own arrival sets.
-/
namespace Sys2Proof.Machine

/-- EVC_EVT.BAD_MSG, where a command has completed. -/
def badMsgAfter : Host.Outcome State Fault Refusal → Option Bool
  | .next t => some (bit (t.reg Ad.EVC_EVT) 1)
  | _ => none

theorem accepts_strayEvent : Accepts strayState 0 (.other 0x32 5 strayId 0) := by decide +kernel

/-- The message completes the attach, and with it is discarded as that of an unresponsive agent. -/
theorem strayEvent_discarded : badMsgAfter (exec (.event 0 strayId) strayState) = some false := by decide +kernel

/-- The statement has it reported. -/
theorem strayEvent_reported :
    badMsgAfter (.next (finish strayState (creditFree (sqEvt (arrived strayState 0 (.other 0x32 5 strayId 0)) Ad.EVC_EVT 2) 0 5))) = some true := by
  decide +kernel

/-- Refutes O58: an Event that an ACTIVE port takes is discarded without BAD_MSG, where the statement has BAD_MSG set; the statement lets an
agent's ID be any number, and this one's message completes the attach and thereby reads as unresponsive. -/
theorem not_eventFaultAndOtpCommandsAct : ¬ Obligations.EventFaultAndOtpCommandsAct := by
  unfold Obligations.EventFaultAndOtpCommandsAct
  intro h
  obtain ⟨-, hevent, -⟩ := h strayState .cp 0 0 strayId false false 0 0
  have hbad := congrArg badMsgAfter (hevent accepts_strayEvent)
  exact absurd ((strayEvent_discarded.symm.trans hbad).trans strayEvent_reported) (by decide)

end Sys2Proof.Machine
end

section
/-!
PROOF. What each command and event of a Lathe does where it acts (chapter 16).
-/
namespace Sys2Proof.Machine

/-- Commands that leave the same state end alike. -/
theorem next_congr {s u v : State} (h : u = v) : (Host.Outcome.next (finish s u) : Host.Outcome State Fault Refusal) = .next (finish s v) := by
  rw [h]

/-! ### A Lathe replaced -/

theorem lthOf_setLth {s : State} {n : Nat} (h : n < s.lth.length) (f : LthSt → LthSt) : lthOf (setLth s n f) n = f (lthOf s n) := by
  simp [lthOf, setLth, upd, List.getD_eq_getElem?_getD, h]

theorem setLth_setLth (s : State) (n : Nat) (f g : LthSt → LthSt) : setLth (setLth s n f) n g = setLth s n (fun l => g (f l)) := by
  have h : upd (upd s.lth n f) n g = upd s.lth n (fun l => g (f l)) := by
    apply List.ext_getElem?
    intro i
    simp only [upd, List.getElem?_modify]
    cases s.lth[i]? with
    | none => rfl
    | some l => by_cases hi : n = i <;> simp [hi]
  unfold setLth
  simp only [h]

/-- Only what is done to the Lathe as it is counts. -/
theorem setLth_congr {s : State} {n : Nat} {f g : LthSt → LthSt} (h : f (lthOf s n) = g (lthOf s n)) : setLth s n f = setLth s n g := by
  have hl : upd s.lth n f = upd s.lth n g := by
    apply List.ext_getElem?
    intro i
    simp only [upd, List.getElem?_modify]
    by_cases hi : n = i
    · subst hi
      cases hx : s.lth[n]? with
      | none => rfl
      | some l =>
        have : lthOf s n = l := by simp [lthOf, List.getD_eq_getElem?_getD, hx]
        rw [this] at h
        simp [h]
    · simp [hi]
  unfold setLth
  rw [hl]

/-- A Lathe in another mode than IDLE is one of the device's. -/
theorem lth_lt {s : State} {n : Nat} (h : (lthOf s n).mode ≠ .idle) : n < s.lth.length := by
  by_contra hn
  refine h ?_
  have hnone : s.lth[n]? = none := List.getElem?_eq_none (by omega)
  simp [lthOf, List.getD_eq_getElem?_getD, hnone, lthFresh]

/-! ### The commands of LTH_CTRL -/

/-- The row of LTH_CTRL in the register index. -/
def lthCtrlRow : RegRow :=
  ⟨"LTH_CTRL", 0xA00000, [(4, 0x40000)], 32, 0, 8, false,
    [⟨3, 3, "CLEAR", .cmd, 16, .none, 0⟩, ⟨2, 2, "ABORT", .cmd, 16, .none, 0⟩, ⟨1, 1, "STOP", .cmd, 16, .none, 0⟩,
      ⟨0, 0, "START", .cmd, 16, .none, 0⟩]⟩

theorem lthCtrl_key {n : Nat} (h : n < 4) : regAt (Ad.LTH_CTRL n) = some (lthCtrlRow, [n]) ∧ cpOnly (Ad.LTH_CTRL n) = false ∧
    ¬(0xF10000 ≤ Ad.LTH_CTRL n ∧ Ad.LTH_CTRL n < 0xF50000) ∧ ownless (Ad.LTH_CTRL n) = true ∧ ungated (Ad.LTH_CTRL n) = true ∧
    unhooked (Ad.LTH_CTRL n) = true ∧ Ad.LTH_CTRL n ≠ Ad.FLT_CTRL :=
  (by decide +kernel : ∀ j, j < 4 → regAt (Ad.LTH_CTRL j) = some (lthCtrlRow, [j]) ∧ cpOnly (Ad.LTH_CTRL j) = false ∧
    ¬(0xF10000 ≤ Ad.LTH_CTRL j ∧ Ad.LTH_CTRL j < 0xF50000) ∧ ownless (Ad.LTH_CTRL j) = true ∧ ungated (Ad.LTH_CTRL j) = true ∧
    unhooked (Ad.LTH_CTRL j) = true ∧ Ad.LTH_CTRL j ≠ Ad.FLT_CTRL) n h

theorem fieldsAcc_lthCtrl (s : State) (src : Src) (k : Nat) {i : Nat} (hi : i < 4) :
    fieldsAcc s src k lthCtrlRow (-1) (w32 (2 ^ i)) = ⟨s.reg k, s.stg k, [(i, 1)], 0, false, false⟩ := by
  have hall : (-1 : Word) = 4294967295#32 := rfl
  simp only [fieldsAcc, lthCtrlRow, List.foldl_cons, List.foldl_nil, hall]
  rw [fldWrite_cmd _ _ _ _ _ _ _ _ (by decide) (by decide), fldWrite_cmd _ _ _ _ _ _ _ _ (by decide) (by decide),
    fldWrite_cmd _ _ _ _ _ _ _ _ (by decide) (by decide), fldWrite_cmd _ _ _ _ _ _ _ _ (by decide) (by decide)]
  interval_cases i <;> rfl

theorem regCmd_lthCtrl {n : Nat} (h : n < 4) (s : State) (i : Nat) : regCmd (Ad.LTH_CTRL n) s (i, 1) =
    if i = 0 then lthStart s n else if i = 1 then lthStop s n else if i = 2 then cmdAbort s n else lthClear s n := by
  interval_cases n <;> rfl

/-- One bit of LTH_CTRL written: its command. -/
theorem rowWrite_lthCtrl {s : State} {src : Src} {n i : Nat} (hn : n < 4) (hi : i < 4) (ht : Takes s src (Ad.LTH_CTRL n)) :
    ∃ b, Written (Ad.LTH_CTRL n) (s.reg (Ad.LTH_CTRL n)) s b ∧ rowWrite s src (Ad.LTH_CTRL (n % 4)) (w32 (2 ^ i)) =
      if i = 0 then lthStart b n else if i = 1 then lthStop b n else if i = 2 then cmdAbort b n else lthClear b n := by
  obtain ⟨hat, hcp, htb, hown, hgate, hhook, hne⟩ := lthCtrl_key hn
  obtain ⟨b, hb, hw⟩ := regWrite_plain hown hgate hhook hat (.inr hcp) htb (fieldsAcc_lthCtrl s src _ hi)
  refine ⟨b, hb, ?_⟩
  rw [Nat.mod_eq_of_lt hn, rowWrite_takes _ ht, hw, cmdSeq, if_neg hne, List.foldl_cons, List.foldl_nil, regCmd_lthCtrl hn]

/-- A register written with what it holds: every register reads as before, and no block has changed. -/
theorem Written.same {k : Nat} {s b : State} (h : Written k (s.reg k) s b) : ∀ j, b.reg j = s.reg j := by
  obtain ⟨hself, hother, -⟩ := h
  intro j
  by_cases hj : j = k
  · rw [hj, hself]
  · exact hother j hj

theorem Written.blocks {k : Nat} {v : Word} {s b : State} (h : Written k v s b) :
    b.lth = s.lth ∧ b.flt = s.flt ∧ b.dac = s.dac ∧ b.acq = s.acq ∧ b.isl = s.isl := by
  obtain ⟨-, -, -, -, he⟩ := h
  rw [he]
  exact ⟨rfl, rfl, rfl, rfl, rfl⟩

/-- START is judged by the Lathe, its tables, its channels and the escalation, none of which the write of LTH_CTRL changes. -/
theorem startRefuse_written {n : Nat} {s b : State} (h : Written (Ad.LTH_CTRL n) (s.reg (Ad.LTH_CTRL n)) s b) :
    startRefuse b n = startRefuse s n := by
  obtain ⟨hlth, hflt, -⟩ := h.blocks
  have hreg := h.same
  have hl : lthOf b n = lthOf s n := by rw [lthOf, lthOf, hlth]
  have howns : lthOwns b n = lthOwns s n := by simp only [lthOwns, ownerCfg, State.fld, hreg]
  have hfetched : fetched b n = fetched s n := by rw [fetched, fetched, hreg]
  have hdepth : b.depth = s.depth := by rw [State.depth, State.depth, State.fld, State.fld, hreg]
  rw [startRefuse, startRefuse, hl, hflt, howns, hfetched, hdepth]

theorem lthStart_refused {s : State} {n r : Nat} (h : startRefuse s n = r) (hr : r ≠ 0) :
    lthStart s n = lthEvt (s.setFld (Ad.LTH_STATUS n) 27 24 r) n 4 := by
  unfold lthStart
  rw [h]
  exact if_pos hr

theorem lthStart_runs {s : State} {n : Nat} (h : startRefuse s n = 0) :
    lthStart s n = nextPoint (fetchAhead 8 n (fetchReset (setLth s n (fun (l : LthSt) => { l with
      mode := .run, idx := 0, pass := 0, point := none, begun := false, meas := false, ended := false, out := [] })) n 0)) n 0 := by
  unfold lthStart
  rw [h]
  exact if_neg (by decide)

/-- The reasons of R611, in their order. -/
theorem startRefuse_busy {s : State} {n : Nat} (h : (lthOf s n).mode ≠ .idle) : startRefuse s n = 1 := if_pos h

theorem startRefuse_escalated {s : State} {n : Nat} (h : (lthOf s n).mode = .idle) (he : s.flt.esc.isSome = true) : startRefuse s n = 2 := by
  rw [startRefuse, if_neg (by simp [h]), if_pos he]

theorem startRefuse_noTable {s : State} {n : Nat} (h : (lthOf s n).mode = .idle) (he : s.flt.esc = none)
    (ht : (lthOf s n).tblR = none ∨ (lthOf s n).tblC = none) : startRefuse s n = 3 := by
  rw [startRefuse, if_neg (by simp [h]), if_neg (by simp [he])]
  rcases ht with ht | ht
  · rw [ht]
  · rw [ht]
    cases (lthOf s n).tblR <;> rfl

/-- With both tables. -/
theorem startRefuse_tables {s : State} {n : Nat} {r c : List Byte} (h : (lthOf s n).mode = .idle) (he : s.flt.esc = none)
    (hr : (lthOf s n).tblR = some r) (hc : (lthOf s n).tblC = some c) :
    startRefuse s n = if nRange r ≠ nRange c then 4 else if !lthOwns s n then 5 else if fetched s n ∧ 2 ≤ s.depth then 6 else 0 := by
  rw [startRefuse, if_neg (by simp [h]), if_neg (by simp [he])]
  simp only [hr, hc]

/-- STOP of a Lathe whose dwell has not ended lets it end (R620). -/
theorem lthStop_runs {s : State} {n : Nat} (h : (lthOf s n).mode = .run) (he : (lthOf s n).ended = false) :
    lthStop s n = setLth s n (fun (l : LthSt) => { l with mode := .stopping }) := by
  have hlt : n < s.lth.length := lth_lt (by simp [h])
  rw [lthStop, if_pos h, lthGoOn]
  exact if_pos (.inl (by rw [lthOf_setLth hlt]; simp [he]))

/-- CLEAR of a TRIPPED Lathe at rest (R618). -/
theorem lthClear_rests {s : State} {n : Nat} (h : (lthOf s n).mode = .tripped) (hc : contained s (48 + n) = false)
    (ht : (lthOf s n).trans = none) (hs : (lthOf s n).toSafe = false) :
    lthClear s n = setLth s n (fun (l : LthSt) => { l with mode := .idle, clr := false, point := none, begun := false }) := by
  have hlt : n < s.lth.length := lth_lt (by simp [h])
  rw [lthClear, if_pos ⟨h, by simp [hc]⟩, clearCheck, lthOf_setLth hlt, if_pos ⟨h, rfl, by simp [ht], by simp [hs]⟩, setLth_setLth]

/-! ### Measuring, dwell ends, steps and fetches -/

theorem measureStart_opens {s : State} {n : Nat} {p : Point} (hp : (lthOf s n).point = some p) (hb : (lthOf s n).begun = true)
    (hm : (lthOf s n).meas = false) (ht : (lthOf s n).trans = none) (hr : (lthOf s n).mode = .run) (hi : p.iadc = false) (ha : p.acq = false)
    (hd : (lthOf s n).iadcDue = false) : measureStart s n = setLth s n (fun (l : LthSt) => { l with meas := true, m0 := s.now }) := by
  have hlt : n < s.lth.length := lth_lt (by simp [hr])
  have hset : setLth s n (fun (l : LthSt) => { l with meas := true, m0 := s.now, iadcDue := l.iadcDue || (p.iadc && l.iadcVal.isNone) }) =
      setLth s n (fun (l : LthSt) => { l with meas := true, m0 := s.now }) := setLth_congr (by simp [hi, hd])
  rw [measureStart, hp]
  dsimp only
  rw [if_neg (by simp [hb, hm, ht, hr]), hset, ha, if_neg (by decide), lthIadcGo]
  exact if_pos (by rw [lthOf_setLth hlt]; simp [hd])

theorem dwellEnd_finishes {s : State} {n : Nat} (hb : (lthOf s n).begun = true) (he : (lthOf s n).ended = false)
    (ht : (lthOf s n).trans = none) (hr : (lthOf s n).mode = .run ∨ (lthOf s n).mode = .stopping) (hd : (lthOf s n).iadcDue = false)
    (hmiss : missing s n = false) : dwellEnd s n = finishPoint (setLth s n (fun (l : LthSt) => { l with ended := true })) n := by
  have hlt : n < s.lth.length := lth_lt (by rcases hr with hr | hr <;> simp [hr])
  have hl := lthOf_setLth hlt (fun (l : LthSt) => { l with ended := true })
  have hmiss1 : missing (setLth s n (fun (l : LthSt) => { l with ended := true })) n = false := by
    rw [← hmiss]
    simp only [missing, follows, lastOf, hl]
    rfl
  have hrun : ¬((lthOf s n).mode ≠ .run ∧ (lthOf s n).mode ≠ .stopping) := fun h => hr.elim h.1 h.2
  rw [dwellEnd, if_neg (by rcases hr with hr | hr <;> simp [hb, he, ht, hr]), lthGoOn, hl, if_neg (by simp; tauto)]
  simp only [hb, hd, hmiss1]
  simp

theorem stepEnd_next {s : State} {n x w : Nat} {r : List Nat} {t : Trans} (ht : (lthOf s n).trans = some t) (hs : (lthOf s n).toSafe = false)
    (hsteps : t.steps = x :: w :: r) :
    stepEnd s n = setLth s n (fun (l : LthSt) => { l with pattern := w % 8, trans := some { t with steps := w :: r } }) := by
  simp only [stepEnd, ht, hs, hsteps]
  simp

theorem stepEnd_last {s : State} {n x : Nat} {t : Trans} (ht : (lthOf s n).trans = some t) (hs : (lthOf s n).toSafe = false)
    (hsteps : t.steps = [x]) : stepEnd s n = transEnd s n t := by
  simp only [stepEnd, ht, hs, hsteps]
  simp

theorem fetchReturn_taken {s s1 : State} {n : Nat} (h : fetchTake s n = some (s1, true)) :
    fetchReturn s n = lthGoOn (fetchAhead 8 n s1) n := by rw [fetchReturn, h]

theorem fetchReturn_refused {s s1 : State} {n : Nat} (h : fetchTake s n = some (s1, false)) (hi : (lthOf s1 n).mode ≠ .idle) :
    fetchReturn s n = lthAbort s1 n 32 := by
  rw [fetchReturn, h]
  exact if_neg hi

theorem underrun_aborts {s : State} {n : Nat} (he : (lthOf s n).ended = true) (hb : (lthOf s n).begun = true)
    (hd : (lthOf s n).iadcDue = false) (hmiss : missing s n = true) : underrun s n = lthAbort s n 32 := by simp [underrun, he, hb, hd, hmiss]

theorem resAck_answered {s : State} {n : Nat} {a : Ag0Rsp}
    (h : s.ha.ag0.find? (fun r => match r.who with | .lthRes k _ => k == n | _ => false) = some a) : resAck s n =
      if a.kind = .retry then lthAbort (setLth (ag0Drop s a.who) n (fun (l : LthSt) => { l with resOut := l.resOut - 1 })) n 32
      else passCheck (setLth (ag0Drop s a.who) n (fun (l : LthSt) => { l with resOut := l.resOut - 1 })) n := by
  unfold resAck
  split
  next hnone => exact nomatch hnone.symm.trans h
  next b hb =>
    cases Option.some.inj (hb.symm.trans h)
    rfl

theorem analogTrip_aborts {s : State} {n : Nat} (ho : (dacCh s (4 * n)).owner = n + 1) (hm : (lthOf s n).mode ≠ .tripped)
    (hf : faulted s (4 * n) = false) : analogTrip s n = lthAbort s n 1 := by
  rw [analogTrip, if_neg (by simp [ho]), if_neg hm, if_neg (by simp [hf])]

/-! ### Aborts -/

theorem tagReq_tagged (m : ReqMsg) (s : State) : Tagged s (tagReq m s) := .ite (.refl s) (.tagItem true _ _ _ s)

/-- As many Lathes as before, and the registers below theirs unchanged. -/
structure LowKept (s t : State) : Prop where
  count : t.lth.length = s.lth.length
  reg : ∀ k, k < 0xA00000 → t.reg k = s.reg k

namespace LowKept

theorem refl (s : State) : LowKept s s := ⟨rfl, fun _ _ => rfl⟩

theorem trans {s t u : State} (h1 : LowKept s t) (h2 : LowKept t u) : LowKept s u :=
  ⟨h2.count.trans h1.count, fun k hk => (h2.reg k hk).trans (h1.reg k hk)⟩

theorem setLth (s : State) (n : Nat) (f : LthSt → LthSt) : LowKept s (setLth s n f) := by
  refine ⟨?_, fun _ _ => rfl⟩
  simp only [Machine.setLth, upd, List.length_modify]

theorem setReg (s : State) {k : Nat} (v : Word) (h : 0xA00000 ≤ k) : LowKept s (s.setReg k v) :=
  ⟨rfl, fun j hj => reg_setReg_ne _ _ (by omega)⟩

theorem tagReq (m : ReqMsg) (s : State) : LowKept s (tagReq m s) := by
  obtain ⟨hregs, hrest⟩ := tagReq_tagged m s
  refine ⟨by rw [hrest], fun k hk => hregs k ?_⟩
  simp only [tagKeys, Ad.PCU_TAG_SEED, Ad.PCU_TAG_SKIP, List.mem_cons, List.not_mem_nil, or_false]
  omega

theorem ag0Req (s : State) (w : Ag0Who) (k : ReqKind) (tenant line : Nat) (peek : Bool) (d : Line) (mask : BitVec 64) :
    LowKept s (ag0Req s w k tenant line peek d mask) := by
  unfold Machine.ag0Req
  dsimp only
  split
  · exact ⟨rfl, fun _ _ => rfl⟩
  · obtain ⟨hcount, hreg⟩ := tagReq ⟨k, 0, 0, 0, 0, 0, peek, tenant, line % 2 ^ 32, 0, d, mask⟩
      { s with ha := { s.ha with arrivals := s.ha.arrivals + 1,
                                  wait := s.ha.wait ++ [⟨s.ha.arrivals, 0, ⟨k, 0, 0, 0, 0, 0, peek, tenant, line % 2 ^ 32, 0, d, mask⟩, some w,
                                    false, false, false, false⟩] } }
    exact ⟨hcount, hreg⟩

theorem resFlush (s : State) (n : Nat) : LowKept s (resFlush s n) := by
  unfold Machine.resFlush
  dsimp only
  split
  · exact .refl s
  · exact (setLth s n _).trans (ag0Req ..)

theorem resPut (s : State) (n i : Nat) (b : List Byte) : LowKept s (resPut s n i b) := by
  unfold Machine.resPut
  split
  · have h0 : LowKept s (if ((lthOf s n).out.any (fun x => x.1 / 4 != i / 4)) then Machine.resFlush s n else s) := by
      split
      · exact resFlush s n
      · exact refl s
    have h1 := h0.trans (setLth _ n (fun (l : LthSt) => { l with out := l.out ++ [(i, b)] }))
    dsimp only
    split
    · exact h1.trans (resFlush _ n)
    · exact h1
  · exact List.foldlRecOn (motive := fun t => LowKept s t) _ _ (refl s)
      (fun t ht w _ => ht.trans (setReg t _ (by simp only [Ad.LTH_RES]; omega)))

theorem iadcCancel (s : State) : LowKept s (iadcCancel s) := by
  unfold Machine.iadcCancel
  split <;> exact ⟨rfl, fun _ _ => rfl⟩

end LowKept

/-! ### Fault loads -/

@[simp] theorem dacTakes_reg (s : State) (c k : Nat) : (dacTakes s c).reg k = s.reg k := rfl
@[simp] theorem dacTakes_lth (s : State) (c : Nat) : (dacTakes s c).lth = s.lth := rfl

theorem dacOut_reg (s : State) (c code : Nat) (span flt hiz : Bool) {k : Nat} (h : k ≠ Ad.DAC_OUT c) :
    (dacOut s c code span flt hiz).reg k = s.reg k := reg_setReg_ne _ _ h

/-- A fault load is a load of the fault code, with FAULTED (R579). -/
theorem dacFault_out (s : State) (c : Nat) : ∃ code span hiz, dacFault s c = dacTakes (dacOut s c code span true hiz) c := by
  unfold dacFault
  dsimp only
  split
  · exact ⟨_, _, _, rfl⟩
  · exact ⟨_, _, _, rfl⟩

theorem dacFault_reg (s : State) (c : Nat) {k : Nat} (h : k ≠ Ad.DAC_OUT c) : (dacFault s c).reg k = s.reg k := by
  obtain ⟨code, span, hiz, hout⟩ := dacFault_out s c
  rw [hout, dacTakes_reg, dacOut_reg _ _ _ _ _ _ h]

theorem dacOut_faulted (s : State) (c code : Nat) (span hiz : Bool) : faulted (dacOut s c code span true hiz) c = true := by
  rw [faulted, dacOut, reg_setReg, if_pos rfl, bit_w32, Nat.testBit_eq_decide_div_mod_eq]
  cases span <;> cases hiz <;> simp [b2n] <;> omega

theorem dacFault_faulted (s : State) (c : Nat) : faulted (dacFault s c) c = true := by
  obtain ⟨code, span, hiz, hout⟩ := dacFault_out s c
  rw [hout, faulted, dacTakes_reg]
  exact dacOut_faulted s c code span hiz

theorem faulted_foldl (l : List Nat) (c : Nat) : ∀ s : State, faulted s c = true ∨ c ∈ l → faulted (l.foldl dacFault s) c = true := by
  induction l with
  | nil => exact fun s h => h.elim id (fun h => absurd h (by simp))
  | cons a l ih =>
    refine fun s h => ih _ ?_
    by_cases hca : c = a
    · exact .inl (hca ▸ dacFault_faulted s c)
    · refine h.imp (fun hf => ?_) (fun hm => (List.mem_cons.mp hm).resolve_left hca)
      rw [faulted, dacFault_reg s a (by simp only [Ad.DAC_OUT]; omega)]
      exact hf

theorem dacEvt_faulted (s : State) (b c : Nat) (hc : c < 16) : faulted (dacEvt s b) c = faulted s c := by
  have hne : Ad.DAC_OUT c ≠ Ad.DAC_EVT := by simp only [Ad.DAC_OUT, Ad.DAC_EVT]; omega
  have hevc : Ad.DAC_OUT c ∉ evcKeys := fun h => by
    have := evcKeys_ge h
    simp only [Ad.DAC_OUT] at this
    omega
  rw [faulted, faulted, dacEvt, sqEvt_regsBut s Ad.DAC_EVT (2 ^ b) _ (by simp [hne, hevc])]

theorem faultLoads_faulted (s : State) {l : List Nat} {c : Nat} (h : c ∈ l) (hc : c < 16) : faulted (faultLoads s l) c = true := by
  have hne : l.isEmpty = false := by cases l <;> simp_all
  rw [faultLoads, hne, if_neg (by simp), dacEvt_faulted _ _ _ hc]
  exact faulted_foldl l c s (.inr h)

theorem foldl_dacFault_lth (l : List Nat) (s : State) : (l.foldl dacFault s).lth = s.lth := by
  refine List.foldlRecOn (motive := fun (t : State) => t.lth = s.lth) l _ rfl (fun t ht c _ => ?_)
  obtain ⟨code, span, hiz, hout⟩ := dacFault_out t c
  rw [hout, dacTakes_lth, dacOut, setReg_lth, ht]

theorem sqEvt_lth (s : State) (k bits : Nat) : (sqEvt s k bits).lth = s.lth := by rw [eq_of_maskEvt (maskEvt_sqEvt s k bits)]

theorem faultLoads_lth (s : State) (l : List Nat) : (faultLoads s l).lth = s.lth := by
  unfold faultLoads
  split
  · rfl
  · rw [dacEvt, sqEvt_lth, foldl_dacFault_lth]

/-! ### What follows the trip -/

/-- What follows an abort's trip of Lathe `n` leaves its mode, its cause and the registers below the Lathes'. -/
structure TripKept (n : Nat) (s t : State) : Prop where
  mode : (lthOf t n).mode = (lthOf s n).mode
  meas : (lthOf t n).meas = (lthOf s n).meas
  count : t.lth.length = s.lth.length
  reg : ∀ k, k < 0xA00000 ∨ k = Ad.LTH_TRIP_INFO n → t.reg k = s.reg k

namespace TripKept

theorem refl (n : Nat) (s : State) : TripKept n s s := ⟨rfl, rfl, rfl, fun _ _ => rfl⟩

theorem trans {n : Nat} {s t u : State} (h1 : TripKept n s t) (h2 : TripKept n t u) : TripKept n s u :=
  ⟨h2.mode.trans h1.mode, h2.meas.trans h1.meas, h2.count.trans h1.count, fun k hk => (h2.reg k hk).trans (h1.reg k hk)⟩

theorem of_lth {n : Nat} {s t : State} (h : t.lth = s.lth) (hr : ∀ k, k < 0xA00000 ∨ k = Ad.LTH_TRIP_INFO n → t.reg k = s.reg k) :
    TripKept n s t := by
  have hl : lthOf t n = lthOf s n := by rw [lthOf, lthOf, h]
  exact ⟨by rw [hl], by rw [hl], by rw [h], hr⟩

theorem setReg {n : Nat} (s : State) {j : Nat} (v : Word) (h : 0xA00000 ≤ j ∧ j ≠ Ad.LTH_TRIP_INFO n) : TripKept n s (s.setReg j v) :=
  of_lth rfl (fun k hk => reg_setReg_ne _ _ (by omega))

theorem sqEvt {n : Nat} (hn : n < 4) (s : State) {j : Nat} (bits : Nat) (h : 0xA00000 ≤ j ∧ j ≠ Ad.LTH_TRIP_INFO n) :
    TripKept n s (sqEvt s j bits) := by
  refine of_lth (sqEvt_lth s j bits) (fun k hk => sqEvt_regsBut s j bits k ?_)
  have hlt : k < 0xC00000 := by
    simp only [Ad.LTH_TRIP_INFO] at hk
    omega
  refine fun hm => (List.mem_cons.mp hm).elim (by omega) (fun he => ?_)
  have := evcKeys_ge he
  omega

theorem pcu {n : Nat} (hn : n < 4) (s : State) (ev q k : Nat) : TripKept n s (pcu ev q k s) := by
  refine of_lth (by rw [eq_of_maskRep (maskRep_pcu ev q k s)]) (fun j hj => pcu_reg _ _ _ _ ?_)
  simp only [Ad.LTH_TRIP_INFO, Ad.PCU_OVF] at *
  omega

theorem setLth {n : Nat} {s : State} {f : LthSt → LthSt} (hlt : n < s.lth.length) (hmode : (f (lthOf s n)).mode = (lthOf s n).mode)
    (hmeas : (f (lthOf s n)).meas = (lthOf s n).meas) : TripKept n s (setLth s n f) := by
  have hl := lthOf_setLth hlt f
  exact ⟨by rw [hl, hmode], by rw [hl, hmeas], (LowKept.setLth s n f).count, fun _ _ => rfl⟩

theorem inc {n : Nat} (s : State) {j : Nat} (h : 0xA00000 ≤ j ∧ j ≠ Ad.LTH_TRIP_INFO n) : TripKept n s (s.inc j) := by
  refine of_lth ?_ (fun k hk => inc_regsBut (l := [j]) s (by simp) k (by simp; omega))
  unfold State.inc
  split <;> rfl

theorem toSafe {n : Nat} (hn : n < 4) {s : State} (hlt : n < s.lth.length) : TripKept n s (toSafe s n) := by
  unfold Machine.toSafe
  dsimp only
  split
  · exact setLth hlt rfl rfl
  · split
    · exact refl n s
    · unfold transStart
      dsimp only
      split
      · exact (setLth hlt rfl rfl).trans (sqEvt hn _ _ (by simp only [Ad.LTH_EVT, Ad.LTH_TRIP_INFO]; omega))
      · exact setLth hlt rfl rfl

end TripKept

/-- The results of an abort are put before the Lathe trips. -/
def abortPuts (s : State) (n : Nat) (l : LthSt) : State :=
  if (l.mode == .run || l.mode == .stopping) && l.begun then resFlush (resPut s n l.idx (resBytes s n true)) n
  else if (l.mode == .run || l.mode == .stopping) && l.trans.isSome then resFlush (resPut s.fresh n l.idx (resUnbegun s n)) n
  else resFlush s n

theorem abortPuts_low (s : State) (n : Nat) (l : LthSt) : LowKept s (abortPuts s n l) := by
  unfold abortPuts
  split
  · exact (LowKept.resPut ..).trans (.resFlush ..)
  · split
    · exact LowKept.trans (t := s.fresh) ⟨rfl, fun _ _ => rfl⟩ ((LowKept.resPut ..).trans (.resFlush ..))
    · exact .resFlush s n

/-- The trip itself. -/
def abortTrips (s : State) (n : Nat) : State := setLth s n (fun (l : LthSt) => { l with
  mode := .tripped, meas := false, ended := false, begun := false, held := [], asked := [], fetchEnd := true })

theorem abortRaise_quiet (s : State) (n : Nat) : abortRaise s n 4 = s := rfl

/-- What an abort records of its trip. -/
def abortTold (s : State) (n now : Nat) : State :=
  pcu 0x6C n 1 (lthEvt (((s.setReg (Ad.LTH_TRIP_TIME_LO n) (w32 now)).setReg (Ad.LTH_TRIP_TIME_HI n) (w32 (now / 2 ^ 32))).inc
    (Ad.LTH_TRIP_COUNT n)) n 2)

/-- ABORT of a Lathe that has not tripped: fault loads, results, the trip, what is recorded of it, and the run to SAFE. -/
theorem cmdAbort_eq {s : State} {n : Nat} (h : (lthOf s n).mode ≠ .tripped) :
    ∃ s2 x, LowKept (faultLoads s ((lthChans n).filter (fun c => (dacCh s c).owner == n + 1))) s2 ∧
      cmdAbort s n = toSafe (abortTold ((lthTables (abortTrips s2 n) n).setReg (Ad.LTH_TRIP_INFO n) (w32 (x % 65536 * 65536 + 4))) n s.now) n := by
  unfold cmdAbort lthAbort lthAbortAs
  extract_lets l s1 s2 going s3 s4 s5 s6 s7
  have h2 : LowKept s1 s2 := by
    unfold s2
    split
    · exact .iadcCancel s1
    · exact .refl s1
  refine ⟨s3, pointNo s n l.idx, h2.trans (abortPuts_low s2 n l), ?_⟩
  rw [if_neg h, abortRaise_quiet]
  rfl

/-- What ABORT leaves (R617, R621). -/
theorem cmdAbort_trips {s : State} {n : Nat} (hn : n < 4) (hlt : n < s.lth.length) (h : (lthOf s n).mode ≠ .tripped) :
    (lthOf (cmdAbort s n) n).mode = .tripped ∧ (lthOf (cmdAbort s n) n).meas = false ∧
    bf ((cmdAbort s n).reg (Ad.LTH_TRIP_INFO n)) 7 0 = 4 ∧
    ∀ c, c ∈ lthChans n → (dacCh s c).owner = n + 1 → faulted (cmdAbort s n) c = true := by
  obtain ⟨s2, x, hlow, heq⟩ := cmdAbort_eq h
  have hlt2 : n < s2.lth.length := by rw [hlow.count, faultLoads_lth]; exact hlt
  have htrip : lthOf (abortTrips s2 n) n = { lthOf s2 n with
      mode := .tripped, meas := false, ended := false, begun := false, held := [], asked := [], fetchEnd := true } := lthOf_setLth hlt2 _
  have hlt3 : n < (abortTrips s2 n).lth.length := by rw [abortTrips, (LowKept.setLth s2 n _).count]; exact hlt2
  have htables : TripKept n (abortTrips s2 n) (lthTables (abortTrips s2 n) n) := .setLth hlt3 rfl rfl
  generalize hs4 : lthTables (abortTrips s2 n) n = s4 at heq htables
  have htold : TripKept n (s4.setReg (Ad.LTH_TRIP_INFO n) (w32 (x % 65536 * 65536 + 4))) (cmdAbort s n) := by
    rw [heq]
    generalize hs5 : s4.setReg (Ad.LTH_TRIP_INFO n) (w32 (x % 65536 * 65536 + 4)) = s5
    have h5 : n < s5.lth.length := by rw [← hs5, setReg_lth, htables.count]; exact hlt3
    have h7 : TripKept n s5 (abortTold s5 n s.now) :=
      ((((TripKept.setReg s5 _ (by simp only [Ad.LTH_TRIP_TIME_LO, Ad.LTH_TRIP_INFO]; omega)).trans
        (.setReg _ _ (by simp only [Ad.LTH_TRIP_TIME_HI, Ad.LTH_TRIP_INFO]; omega))).trans
        (.inc _ (by simp only [Ad.LTH_TRIP_COUNT, Ad.LTH_TRIP_INFO]; omega))).trans
        (.sqEvt hn _ _ (by simp only [Ad.LTH_EVT, Ad.LTH_TRIP_INFO]; omega))).trans (.pcu hn _ _ _ _)
    exact h7.trans (.toSafe hn (by rw [h7.count]; exact h5))
  have hl : lthOf (s4.setReg (Ad.LTH_TRIP_INFO n) (w32 (x % 65536 * 65536 + 4))) n = lthOf s4 n := rfl
  refine ⟨?_, ?_, ?_, fun c hc ho => ?_⟩
  · rw [htold.mode, hl, htables.mode, htrip]
  · rw [htold.meas, hl, htables.meas, htrip]
  · rw [htold.reg _ (.inr rfl), reg_setReg, if_pos rfl, bf_w32 _ (by decide)]
    omega
  · have hc16 : c < 16 := by
      simp only [lthChans, List.mem_cons, List.not_mem_nil, or_false] at hc
      omega
    have hout : Ad.DAC_OUT c < 0xA00000 := by simp only [Ad.DAC_OUT]; omega
    have hkept : (cmdAbort s n).reg (Ad.DAC_OUT c) =
        (faultLoads s ((lthChans n).filter (fun c => (dacCh s c).owner == n + 1))).reg (Ad.DAC_OUT c) := by
      rw [htold.reg _ (.inl hout), reg_setReg_ne _ _ (by simp only [Ad.LTH_TRIP_INFO]; omega), htables.reg _ (.inl hout)]
      exact hlow.reg _ hout
    rw [faulted, hkept]
    exact faultLoads_faulted s (List.mem_filter.mpr ⟨hc, by simp [ho]⟩) hc16

/-! ### The obligation -/

/-- Settles O56: a command of LTH_CTRL is the write of one bit, and START's checks exclude each other in their order. -/
theorem latheCommandsAct : Obligations.LatheCommandsAct := by
  unfold Obligations.LatheCommandsAct
  intro s src n held hn l
  refine ⟨fun ht => ?_, fun hclk => ?_⟩
  · intro B no
    have hstart : ∃ b, B b ∧ exec (.start src n) s = .next (finish s (lthStart b n)) := by
      obtain ⟨b, hb, hw⟩ := rowWrite_lthCtrl hn (i := 0) (by decide) ht
      exact ⟨b, hb, next_congr hw⟩
    have hno : ∀ r, r ≠ 0 → startRefuse s n = r → no r := by
      intro r hr hrefuse
      obtain ⟨b, hb, hx⟩ := hstart
      exact ⟨b, hb, by rw [hx, lthStart_refused ((startRefuse_written hb).trans hrefuse) hr]⟩
    refine ⟨fun h => hno 1 (by decide) (startRefuse_busy h), fun h he => hno 2 (by decide) (startRefuse_escalated h he),
      fun h he htab => hno 3 (by decide) (startRefuse_noTable h he htab), fun r c h he hr hc => ?_, fun h he => ?_, fun h hlt => ?_,
      fun h hc htr hs => ?_⟩
    · have htab := startRefuse_tables h he hr hc
      refine ⟨fun hne => hno 4 (by decide) ?_, fun heq ho => hno 5 (by decide) ?_, fun heq ho hf hd => hno 6 (by decide) ?_,
        fun heq ho hf => ?_⟩
      · rw [htab, if_pos hne]
      · rw [htab, if_neg (by simp [heq]), ho]
        rfl
      · rw [htab, if_neg (by simp [heq]), ho, if_neg (by decide), if_pos ⟨hf, hd⟩]
      · have hgo : startRefuse s n = 0 := by
          rw [htab, if_neg (by simp [heq]), ho, if_neg (by decide), if_neg]
          rintro ⟨hf', hd⟩
          rcases hf with hf | hf
          · exact absurd hf' (by simp [hf])
          · omega
        obtain ⟨b, hb, hx⟩ := hstart
        exact ⟨b, hb, by rw [hx, lthStart_runs ((startRefuse_written hb).trans hgo)]⟩
    · obtain ⟨b, hb, hw⟩ := rowWrite_lthCtrl hn (i := 1) (by decide) ht
      have hl : lthOf b n = l := by simp only [l, lthOf, hb.blocks.1]
      exact ⟨b, hb, next_congr (hw.trans (lthStop_runs (by rw [hl]; exact h) (by rw [hl]; exact he)))⟩
    · obtain ⟨b, hb, hw⟩ := rowWrite_lthCtrl hn (i := 2) (by decide) ht
      obtain ⟨hlth, -, hdac, -⟩ := hb.blocks
      have hl : lthOf b n = l := by simp only [l, lthOf, hlth]
      obtain ⟨hmode, hmeas, hinfo, hout⟩ := cmdAbort_trips hn (hlth ▸ hlt) (by rw [hl]; exact h)
      refine ⟨cmdAbort b n, next_congr hw, hmode, hmeas, hinfo, fun c hc ho => hout c hc ?_⟩
      simp only [dacCh, hdac]
      exact ho
    · obtain ⟨b, hb, hw⟩ := rowWrite_lthCtrl hn (i := 3) (by decide) ht
      obtain ⟨hlth, hflt, -⟩ := hb.blocks
      have hl : lthOf b n = l := by simp only [l, lthOf, hlth]
      have hcon : contained b (48 + n) = false := by simp only [contained, hflt] at hc ⊢; exact hc
      exact ⟨b, hb, next_congr (hw.trans (lthClear_rests (by rw [hl]; exact h) hcon (by rw [hl]; exact htr)
        (by rw [hl]; exact hs)))⟩
  · refine ⟨fun p hp hb hm htr hr hi ha hd => next_onIsl hclk (measureStart_opens hp hb hm htr hr hi ha hd),
      fun hb he htr hr hd hmiss => next_onIsl hclk (dwellEnd_finishes hb he htr hr hd hmiss),
      fun t x htr hs => ⟨fun w r hsteps => next_onIsl hclk (stepEnd_next htr hs hsteps), fun hsteps => next_onIsl hclk (stepEnd_last htr hs hsteps)⟩,
      fun s1 h1 => next_onIsl hclk (fetchReturn_taken h1), fun s1 h1 hi => next_onIsl hclk (fetchReturn_refused h1 hi),
      fun he hb hd hmiss => next_onIsl hclk (underrun_aborts he hb hd hmiss), ?_,
      fun hheld ho hm hf => next_onIsl hclk ((if_neg (by omega)).trans (analogTrip_aborts ho hm hf))⟩
    intro a ha s1
    exact next_onIsl hclk (resAck_answered ha)

end Sys2Proof.Machine
end

section
/-!
PROOF. What each valley, wake and PLL command does where it acts (chapter 2, Tables 2-3 to 2-5 and 2-17).
-/
namespace Sys2Proof.Machine

/-! ### CP_VALLEY written -/

/-- The row of CP_VALLEY in the register index. -/
def cpValleyRow : RegRow :=
  ⟨"CP_VALLEY", 0x10000010, [], 1, 0, 8, false,
    [⟨15, 8, "WAKE_SRC", .ro, 16, .none, 0xFF⟩, ⟨7, 7, "ABANDONED", .ro, 16, .none, 0⟩, ⟨6, 6, "BUSY", .ro, 16, .none, 0⟩,
      ⟨5, 4, "CURRENT", .ro, 16, .none, 0⟩, ⟨2, 2, "ANA_GLEN", .rw, 16, .none, 0⟩, ⟨1, 0, "TARGET", .rw, 16, .none, 0⟩]⟩

theorem cpValley_key : regAt Ad.CP_VALLEY = some (cpValleyRow, []) ∧ ownless Ad.CP_VALLEY = true ∧ ungated Ad.CP_VALLEY = true := by
  decide +kernel

/-- The word that a write of CP_VALLEY leaves: ANA_GLEN and TARGET as written. -/
def valleyWord (old w : Word) : Word := setBf (setBf old 2 2 (bf w 2 2)) 1 0 (bf w 1 0)

theorem fieldsAcc_cpValley (s : State) (w : Word) :
    fieldsAcc s .cp Ad.CP_VALLEY cpValleyRow (-1) w = ⟨valleyWord (s.reg Ad.CP_VALLEY) w, s.stg Ad.CP_VALLEY, [], 0, false, false⟩ := by
  have hall : (-1 : Word) = 4294967295#32 := rfl
  simp only [fieldsAcc, cpValleyRow, List.foldl_cons, List.foldl_nil, hall]
  rw [fldWrite_ro, fldWrite_ro, fldWrite_ro, fldWrite_ro, fldWrite_rw _ _ _ _ _ _ _ _ (by decide) (by decide),
    fldWrite_rw _ _ _ _ _ _ _ _ (by decide) (by decide)]
  rfl

theorem rowWrite_cpValley {s : State} {w : Word} (ht : Takes s .cp Ad.CP_VALLEY) :
    ∃ b, Written Ad.CP_VALLEY (valleyWord (s.reg Ad.CP_VALLEY) w) s b ∧ rowWrite s .cp Ad.CP_VALLEY w = targetWrite b (bf w 1 0) := by
  obtain ⟨hat, hown, hgate⟩ := cpValley_key
  have ha := fieldsAcc_cpValley s w
  obtain ⟨b, hb, hw⟩ := regWrite_common hat (.inl rfl) (by decide) (ownWrite_of_ownless hown s .cp _ w) (writeGate_of_ungated hgate s w)
    (writeIgnored_of_ungated hgate s) (by rw [ha]) (by rw [ha]) (by rw [ha]) (by rw [ha]) (by rw [ha])
  refine ⟨b, hb, ?_⟩
  have htarget : b.fld Ad.CP_VALLEY 1 0 = bf w 1 0 := by
    rw [State.fld, hb.1, valleyWord, bf_setBf_self _ _ (by decide), bf_mod_self]
  have hhook : regHook Ad.CP_VALLEY (-1) w s b = targetWrite b (bf w 1 0) := by
    rw [← htarget]
    rfl
  rw [rowWrite_takes _ ht, hw, hhook]
  rfl

/-! ### The record core's writes of ISL_RC_CTRL -/

/-- The row of ISL_RC_CTRL in the register index. -/
def islRcCtrlRow : RegRow :=
  ⟨"ISL_RC_CTRL", 0x100040, [], 1, 0, 8, false, [⟨1, 1, "WAKE_REQ", .rw, 16, .none, 0⟩, ⟨0, 0, "RC_READY", .rw, 16, .none, 0⟩]⟩

theorem regWrite_rcCtrl (s : State) (w : Word) :
    ∃ l, (regWrite s .rc Ad.ISL_RC_CTRL none w).1 = { rcCtrlReg s w with parErr := l } := by
  obtain ⟨hat, hcp⟩ := (by decide +kernel : regAt Ad.ISL_RC_CTRL = some (islRcCtrlRow, []) ∧ cpOnly Ad.ISL_RC_CTRL = false)
  exact regWrite_own hat hcp (by decide) rfl

/-- A store of the record core to ISL_RC_CTRL, its store buffer empty: RC_READY and WAKE_REQ act (R45, R406). -/
theorem icStore_rcCtrl {s : State} (w : Word) (hclk : Clocked s 29) (hfree : rcFree s = true) (hsb : s.rc.sb = []) : ∃ B l,
    Begun (.icStore Ad.ISL_RC_CTRL w) s B ∧ onIsl 29 (fun s => rvRun s (.icStore Ad.ISL_RC_CTRL w)) s =
      setRc { rcCtrlReg B w with parErr := l } (fun c => { c with cur := none }) := by
  have hB := rvBegin_begun (.icStore Ad.ISL_RC_CTRL w) hfree
  obtain ⟨l, hl⟩ := regWrite_rcCtrl (rvBegin s (.icStore Ad.ISL_RC_CTRL w)) w
  refine ⟨_, l, hB, ?_⟩
  rw [onIsl_clocked _ hclk, rvRun_free _ hfree, rcTry_icStore _ (hB.sb.trans hsb) hB.cur, hl]

/-- RC_READY written alone. -/
theorem rcCtrlReg_ready (s : State) : rcCtrlReg s 1 = s.setFld Ad.ISL_RC_CTRL 0 0 1 := rfl

/-- A wake at rest starts an exit (R45). -/
theorem wakeTo_idle {s : State} {d : Nat} (src : Nat) (hi : s.isl.stage = .idle) (hd : d < s.depth) :
    wakeTo s d src false = exitBegin (vTarget (s.setFld Ad.CP_VALLEY 15 8 src) d) d := by
  rw [wakeTo, wakeAs, hi]
  exact if_pos hd

theorem exitBegin_stage (s : State) (d : Nat) : (exitBegin s d).isl.stage = .exit := rfl
theorem exitBegin_goal (s : State) : (exitBegin s 0).isl.goal = 0 := rfl

/-- WAKE_SRC of an exit that a wake began. -/
theorem exitBegin_wakeSrc (s : State) (v src d : Nat) (h : src < 256) :
    (exitBegin (vTarget (s.setFld Ad.CP_VALLEY 15 8 src) v) d).fld Ad.CP_VALLEY 15 8 = src := by
  have hready (t : State) : (readyClear t).fld Ad.CP_VALLEY 15 8 = t.fld Ad.CP_VALLEY 15 8 :=
    congrArg (bf · 15 8) (reg_setReg_ne _ _ (by decide))
  calc ((readyClear (vTarget (s.setFld Ad.CP_VALLEY 15 8 src) v)).setFld Ad.CP_VALLEY 6 6 1).fld Ad.CP_VALLEY 15 8
    _ = (readyClear (vTarget (s.setFld Ad.CP_VALLEY 15 8 src) v)).fld Ad.CP_VALLEY 15 8 := fld_setFld_other _ _ _ (by decide)
    _ = (s.setFld Ad.CP_VALLEY 15 8 src).fld Ad.CP_VALLEY 15 8 := (hready _).trans (fld_setFld_other _ _ _ (by decide))
    _ = src := (fld_setFld_self _ _ _ (by decide)).trans (Nat.mod_eq_of_lt h)

/-- WAKE_REQ in a deeper depth at rest starts the exit to Open (R45). -/
theorem rcCtrlWrite_wakes {s : State} (ready : Bool) (hi : s.isl.stage = .idle) (hd : s.depth ≠ 0) : ∃ t : State,
    rcCtrlWrite s ready true = exitBegin (vTarget (t.setFld Ad.CP_VALLEY 15 8 0xFD) 0) 0 := by
  unfold rcCtrlWrite
  extract_lets s1
  have hisl : s1.isl = s.isl := setFld_isl ..
  have hdepth : s1.depth = s.depth := congrArg (bf · 5 4) (reg_setReg_ne _ _ (by decide))
  clear_value s1
  generalize hs2 : s1.setFld Ad.ISL_RC_CTRL 1 1 1 = s2
  have hisl2 : s2.isl = s1.isl := by rw [← hs2, setFld_isl]
  have hdepth2 : s2.depth = s1.depth := by
    rw [← hs2]
    exact congrArg (bf · 5 4) (reg_setReg_ne _ _ (by decide))
  exact ⟨s2, (if_neg (by simp)).trans ((if_neg (fun h => hd h.1)).trans
    (wakeTo_idle (d := 0) 0xFD (by rw [hisl2, hisl]; exact hi) (by omega)))⟩

theorem rcCtrlReg_wakes {s : State} (ready : Bool) (hi : s.isl.stage = .idle) (hd : s.depth ≠ 0) :
    (rcCtrlReg s (w32 (2 + b2n ready))).isl.stage = .exit ∧ (rcCtrlReg s (w32 (2 + b2n ready))).isl.goal = 0 ∧
    (rcCtrlReg s (w32 (2 + b2n ready))).fld Ad.CP_VALLEY 15 8 = 0xFD := by
  have hreq : bit (w32 (2 + b2n ready)) 1 = true := by cases ready <;> rfl
  obtain ⟨t, ht⟩ := rcCtrlWrite_wakes (bit (w32 (2 + b2n ready)) 0) hi hd
  rw [rcCtrlReg, hreq, ht]
  exact ⟨exitBegin_stage _ 0, exitBegin_goal _, exitBegin_wakeSrc t 0 0xFD 0 (by decide)⟩

/-! ### The end of an exit -/

theorem vAt_current (s : State) (cur busy : Nat) : (vAt s cur busy).fld Ad.CP_VALLEY 5 4 = cur % 4 := by
  rw [vAt, fld_setFld_other _ _ _ (by decide), fld_setFld_self _ _ _ (by decide)]
  rfl

theorem vAt_busy (s : State) (cur busy : Nat) : (vAt s cur busy).fld Ad.CP_VALLEY 6 6 = busy % 2 := by
  rw [vAt, fld_setFld_self _ _ _ (by decide)]
  rfl

theorem startIsl_keptTarget (s : State) (i : Nat) : (startIsl s i).isl.keptTarget = s.isl.keptTarget := by
  unfold startIsl
  split <;> rfl

/-- An exit to Glen with no kept TARGET ends at rest in Glen (R54). -/
theorem exitComplete_glen {s : State} (he : s.isl.stage = .exit) (hr : exitReady s = true) (hg : s.isl.goal = 2)
    (hk : s.isl.keptTarget = none) :
    (exitComplete s).isl.stage = .idle ∧ (exitComplete s).depth = 2 ∧ vBusy (exitComplete s) = false := by
  unfold exitComplete
  rw [if_neg (by simp [he, hr])]
  extract_lets g deep t s1 s2 s3 next isl3 s4
  have hk2 : s2.isl.keptTarget = none := by
    have h1 : s1.isl.keptTarget = none := by
      unfold s1
      rw [if_neg (by simp [g, hg])]
      split
      · exact hk
      · rw [startIsl_keptTarget]
        exact hk
    exact h1
  have hs3 : s3.isl = s2.isl ∧ s3.reg Ad.CP_VALLEY = s2.reg Ad.CP_VALLEY := by
    unfold s3
    split
    · exact ⟨rfl, rfl⟩
    · exact ⟨by rw [eq_of_maskEvt (maskEvt_evcSet s2 25 0)], evcSet_regsBut s2 25 0 _ (by decide)⟩
  obtain ⟨hisl, hreg⟩ := hs3
  have hk4 : s4.isl.keptTarget = none := by
    show s3.isl.keptTarget = none
    rw [hisl, hk2]
  have hreg4 : s4.reg Ad.CP_VALLEY = s2.reg Ad.CP_VALLEY := hreg
  have hends : ∀ x, x = s4 → x.isl.stage = .idle ∧ x.depth = 2 ∧ vBusy x = false := by
    rintro _ rfl
    refine ⟨?_, ?_, ?_⟩
    · show s3.isl.stage = .idle
      rw [hisl]
      rfl
    · rw [State.depth, State.fld, hreg4]
      exact (vAt_current _ g 0).trans (by rw [show g = 2 from hg])
    · rw [vBusy, State.fld, hreg4]
      exact congrArg (· == 1) (vAt_busy _ g 0)
  refine hends _ ?_
  rw [hk4]
  exact if_neg (by simp [g, hg])

/-! ### PLLs, and step 9 of an entry -/

theorem pllLock_locks {s : State} {k : Nat} (hrun : s.isl.phase = .run) (hk : k < 2 + nPorts s) (hp : s.isl.pll.getLsbD k = false)
    (hd : s.depth ≠ 3) : pllLock s k = { s with isl := { s.isl with pll := s.isl.pll ||| (1#18 <<< k) } } := by
  rw [pllLock, if_neg (by simp [hrun, hp, hd]; omega)]
  exact if_neg (fun h => hd h.2.1)

theorem basinOk_stage {s : State} (h : basinOk s = true) : s.isl.stage = .waitWfi := by
  simp only [basinOk, Bool.and_eq_true, beq_iff_eq] at h
  obtain ⟨⟨⟨⟨hstage, -⟩, -⟩, -⟩, -⟩ := h
  exact hstage

/-! ### Wakes -/

theorem wakeEdge_pin {s : State} {src width : Nat} {rising : Bool} (hw : 20 ≤ width) (hp : pinsOk s = true) (hs : src < 16)
    (he : bit (s.reg Ad.ISL_WAKE_EDGE) (2 * src + b2n (!rising)) = true) : wakeEdge s src rising width = setLatch s src := by
  have hne : src ≠ 16 := by omega
  have hlt : ¬width < 20 := by omega
  simp only [wakeEdge, hs, hne, hp, he, hlt, if_true, if_false, false_and, Bool.not_true, Bool.false_eq_true, or_self]

theorem wakeEdge_select {s : State} {width : Nat} (hw : 20 ≤ width) (hp : pinsOk s = true) :
    wakeEdge s 16 false width = setLatch (if s.isl.phase = .run then startIsl s 2 else s) 16 := by
  have hlt : ¬width < 20 := by omega
  simp [wakeEdge, hp, hlt]

theorem wakeEdge_pps {s : State} {width : Nat} {rising : Bool} (hw : 20 ≤ width) (hp : pinsOk s = true)
    (hr : rising = !bit (s.reg Ad.TBU_SRV_CFG) 0) : wakeEdge s 17 rising width = setLatch s 17 := by
  have hlt : ¬width < 20 := by omega
  simp [wakeEdge, hp, hlt, hr]

/-! ### The obligation -/

/-- Settles O11: a TARGET write is the write of CP_VALLEY and what follows from it; the record core's writes go through its store; the
other commands act by their own guards. -/
theorem valleyCommandsAct : Obligations.ValleyCommandsAct := by
  unfold Obligations.ValleyCommandsAct
  intro s w ready rising src width k isl
  refine ⟨fun ht => ?_, fun hclk hfree hsb => ⟨?_, fun hi hd => ?_⟩, fun hrun => ?_, fun hclk hw hp => ?_, fun hclk ho => ?_⟩
  · obtain ⟨b, hb, hx⟩ := rowWrite_cpValley (w := w) ht
    exact ⟨b, hb, next_congr hx⟩
  · obtain ⟨B, l, hB, hx⟩ := icStore_rcCtrl 1 hclk hfree hsb
    refine ⟨_, next_congr hx, ?_, ?_, rfl⟩
    · rw [rcCtrlReg_ready]
      exact bit_setFld_self B Ad.ISL_RC_CTRL 1 (by decide)
    · show B.isl = s.isl
      rw [hB.rest]
  · obtain ⟨B, l, hB, hx⟩ := icStore_rcCtrl (w32 (2 + b2n ready)) hclk hfree hsb
    have hisl : B.isl = s.isl := by rw [hB.rest]
    obtain ⟨hstage, hgoal, hsrc⟩ := rcCtrlReg_wakes ready (by rw [hisl]; exact hi) (by rw [hB.depth]; exact hd)
    exact ⟨_, next_congr hx, hstage, hgoal, hsrc⟩
  · refine ⟨fun hs hd => next_onRun hrun (by rw [drainDone, hs]; exact if_pos hd),
      fun hs hg => next_onRun hrun (by rw [drainDone, hs]; exact if_pos hg), fun hs => next_onRun hrun (if_pos hs),
      fun hs => next_onRun hrun (by rcases hs with hs | hs | hs <;> rw [drainLimit, hs]), fun hk hp hd => ?_, fun hk hp => ?_,
      fun hs hp => next_onRun hrun (by rw [entryComplete, hs]; exact if_pos hp), fun hb => ?_, fun hs hr => ?_, fun hb hd hi => ?_,
      fun ha ho hc hd hb hi => ?_⟩
    · exact ⟨_, next_onRun hrun (pllLock_locks hrun hk hp hd), rfl⟩
    · exact next_onRun hrun (if_neg (by simp [hrun, hp]; omega))
    · exact next_onRun hrun (by rw [entryComplete, basinOk_stage hb]; exact if_pos hb)
    · exact ⟨next_onRun hrun rfl, fun hg hk => exitComplete_glen hs hr hg hk⟩
    · exact next_onRun hrun (if_pos ⟨hrun, by simp [hb], hd, hi⟩)
    · exact next_onRun hrun (if_pos ⟨ha, by simp [ho], hc, hd, by simp [hb], hi⟩)
  · exact ⟨fun hs he => next_onIsl hclk (wakeEdge_pin hw hp hs he), next_onIsl hclk (wakeEdge_select hw hp),
      fun hr => next_onIsl hclk (wakeEdge_pps hw hp hr)⟩
  · exact next_onIsl hclk (if_pos ho)

end Sys2Proof.Machine
end

section
/-!
PROOF. What each register, update, lock, parity and table command does where it acts (chapter 4).
-/
namespace Sys2Proof.Machine

/-! ### Words of the control port that hold commands alone -/

/-- The row of CP_UPDATE in the register index. -/
def cpUpdateRow : RegRow :=
  ⟨"CP_UPDATE", 0x10000008, [], 2, 0, 8, false, [⟨15, 8, "PEND", .ro, 16, .none, 0⟩, ⟨7, 0, "STROBE", .cmd, 16, .none, 0⟩]⟩

theorem cpUpdate_key : regAt Ad.CP_UPDATE = some (cpUpdateRow, []) ∧ cpOnly Ad.CP_UPDATE = false ∧ ownless Ad.CP_UPDATE = true ∧
    ungated Ad.CP_UPDATE = true ∧ unhooked Ad.CP_UPDATE = true := by decide +kernel

theorem fieldsAcc_cpUpdate (s : State) (src : Src) {w : Word} (hw : bf w 7 0 ≠ 0) : fieldsAcc s src Ad.CP_UPDATE cpUpdateRow (-1) w =
    ⟨s.reg Ad.CP_UPDATE, s.stg Ad.CP_UPDATE, [(0, bf w 7 0)], 0, false, false⟩ := by
  have hall : (-1 : Word) = 4294967295#32 := rfl
  simp only [fieldsAcc, cpUpdateRow, List.foldl_cons, List.foldl_nil, hall]
  rw [fldWrite_ro, fldWrite_cmd _ _ _ _ _ _ _ _ (by decide) (by decide), if_neg hw]

/-- Groups written to CP_UPDATE are strobed (R128). -/
theorem rowWrite_cpUpdate {s : State} {src : Src} {g : Byte} (hg : g ≠ 0) (ht : Takes s src Ad.CP_UPDATE) :
    ∃ b, Written Ad.CP_UPDATE (s.reg Ad.CP_UPDATE) s b ∧ rowWrite s src Ad.CP_UPDATE (w32 g.toNat) = cpUpdate b g.toNat := by
  have hbf : bf (w32 g.toNat) 7 0 = g.toNat := by
    have := g.isLt
    rw [bf_w32 _ (by decide)]
    omega
  have hne : bf (w32 g.toNat) 7 0 ≠ 0 := by
    rw [hbf]
    exact fun h => hg (BitVec.eq_of_toNat_eq h)
  obtain ⟨hat, hcp, hown, hgate, hhook⟩ := cpUpdate_key
  obtain ⟨b, hb, hw⟩ := regWrite_plain hown hgate hhook hat (.inr hcp) (by decide) (fieldsAcc_cpUpdate s src hne)
  refine ⟨b, hb, ?_⟩
  rw [rowWrite_takes _ ht, hw, hbf]
  rfl

/-- The row of CP_UPD_TCTRL in the register index. -/
def updTctrlRow : RegRow :=
  ⟨"CP_UPD_TCTRL", 0xF0001C, [], 2, 0, 8, false,
    [⟨9, 9, "LATE", .ro, 16, .none, 0⟩, ⟨8, 8, "ARMED", .ro, 16, .none, 0⟩, ⟨1, 1, "DISARM", .cmd, 16, .none, 0⟩,
      ⟨0, 0, "ARM", .cmd, 16, .none, 0⟩]⟩

theorem updTctrl_key : regAt Ad.CP_UPD_TCTRL = some (updTctrlRow, []) ∧ cpOnly Ad.CP_UPD_TCTRL = false ∧ ownless Ad.CP_UPD_TCTRL = true ∧
    ungated Ad.CP_UPD_TCTRL = true ∧ unhooked Ad.CP_UPD_TCTRL = true := by decide +kernel

theorem fieldsAcc_updTctrl (s : State) (src : Src) {i : Nat} (hi : i < 2) : fieldsAcc s src Ad.CP_UPD_TCTRL updTctrlRow (-1) (w32 (2 ^ i)) =
    ⟨s.reg Ad.CP_UPD_TCTRL, s.stg Ad.CP_UPD_TCTRL, [(i, 1)], 0, false, false⟩ := by
  have hall : (-1 : Word) = 4294967295#32 := rfl
  simp only [fieldsAcc, updTctrlRow, List.foldl_cons, List.foldl_nil, hall]
  rw [fldWrite_ro, fldWrite_ro, fldWrite_cmd _ _ _ _ _ _ _ _ (by decide) (by decide), fldWrite_cmd _ _ _ _ _ _ _ _ (by decide) (by decide)]
  interval_cases i <;> rfl

/-- ARM and DISARM of the scheduled strobe (R132). -/
theorem rowWrite_updTctrl {s : State} {src : Src} {i : Nat} (hi : i < 2) (ht : Takes s src Ad.CP_UPD_TCTRL) :
    ∃ b, Written Ad.CP_UPD_TCTRL (s.reg Ad.CP_UPD_TCTRL) s b ∧
      rowWrite s src Ad.CP_UPD_TCTRL (w32 (2 ^ i)) = if i = 0 then updArm b else updDisarm b := by
  obtain ⟨hat, hcp, hown, hgate, hhook⟩ := updTctrl_key
  obtain ⟨b, hb, hw⟩ := regWrite_plain hown hgate hhook hat (.inr hcp) (by decide) (fieldsAcc_updTctrl s src hi)
  refine ⟨b, hb, ?_⟩
  rw [rowWrite_takes _ ht, hw]
  rfl

/-! ### The lock words -/

/-- The bits of a row's one-bit fields. -/
def bitsMask : List Fld → Word
  | [] => 0
  | f :: l => w32 (2 ^ f.lo) ||| bitsMask l

theorem bit_setBf_self (w : Word) (v : Nat) {b : Nat} (h : b < 32) : bit (setBf w b b v) b = v.testBit 0 := by
  have hb := bf_setBf_self w (hi := b) (lo := b) v h
  rw [bf_bit] at hb
  rw [Nat.testBit_zero]
  cases hx : bit (setBf w b b v) b with
  | false =>
    rw [hx] at hb
    have : 0 = v % 2 := by simpa [b2n] using hb
    simp [← this]
  | true =>
    rw [hx] at hb
    have : 1 = v % 2 := by simpa [b2n] using hb
    simp [← this]

/-- A one-bit WO field that a word does not clear takes its bit (R134). -/
theorem fldWrite_woBit (s : State) (src : Src) (w : Word) (a : WAcc) {f : Fld} (ht : f.ty = .wo) (hr : f.reset = 0) (hf : f.hi = f.lo)
    (h32 : f.lo < 32) (hset : bit a.reg f.lo = true → bit w f.lo = true) :
    fldWrite s src false (-1) w a f = { a with reg := a.reg ||| (w &&& w32 (2 ^ f.lo)) } := by
  have hbits (i : Nat) (hi : i < 32) : bit (a.reg ||| (w &&& w32 (2 ^ f.lo))) i = (bit a.reg i || (bit w i && decide (f.lo = i))) := by
    rw [bit_or, bit_and, bit_w32_two_pow]
    simp [hi]
  rw [fldWrite_wo _ _ _ _ ht (by omega) (by omega), hr, hf, bf_bit, bf_bit]
  have hstays (h : bit w f.lo = bit a.reg f.lo) : a.reg ||| (w &&& w32 (2 ^ f.lo)) = a.reg := by
    refine BitVec.eq_of_getLsbD_eq (fun i hi => (hbits i hi).trans ?_)
    by_cases hfi : f.lo = i
    · subst hfi
      simp [h, bit_eq]
    · simp [hfi, bit_eq]
  have htakes (h : bit a.reg f.lo = false) : a.reg ||| (w &&& w32 (2 ^ f.lo)) = setBf a.reg f.lo f.lo (b2n (bit w f.lo)) := by
    refine BitVec.eq_of_getLsbD_eq (fun i hi => (hbits i hi).trans ?_)
    by_cases hfi : f.lo = i
    · subst hfi
      rw [h, ← bit_eq, bit_setBf_self _ _ hi]
      cases bit w f.lo <;> simp [b2n]
    · rw [← bit_eq, bit_setBf_other _ _ (by omega)]
      simp [hfi]
  cases hw : bit w f.lo with
  | false =>
    have ha : bit a.reg f.lo = false := by
      cases ha : bit a.reg f.lo with
      | false => rfl
      | true => exact absurd (hset ha) (by simp [hw])
    rw [ha, if_pos rfl, hstays (by rw [hw, ha])]
  | true =>
    cases ha : bit a.reg f.lo with
    | false =>
      rw [if_neg (by decide), if_pos (by decide), htakes ha, hw]
    | true => rw [if_pos rfl, hstays (by rw [hw, ha])]

/-- One-bit WO fields that a word does not clear take their bits. -/
theorem foldl_woBits (s : State) (src : Src) (w : Word) (l : List Fld) : ∀ a : WAcc,
    (∀ f ∈ l, f.ty = .wo ∧ f.reset = 0 ∧ f.hi = f.lo ∧ f.lo < 32) → (∀ f ∈ l, bit a.reg f.lo = true → bit w f.lo = true) →
    l.foldl (fldWrite s src false (-1) w) a = { a with reg := a.reg ||| (w &&& bitsMask l) } := by
  induction l with
  | nil =>
    intro a _ _
    have h0 : a.reg ||| (w &&& bitsMask []) = a.reg := by simp [bitsMask]
    rw [h0]
    rfl
  | cons f l ih =>
    intro a hl hset
    obtain ⟨ht, hr, hf, h32⟩ := hl f List.mem_cons_self
    rw [List.foldl_cons, fldWrite_woBit s src w a ht hr hf h32 (hset f List.mem_cons_self), ih _ (fun g hg => hl g (List.mem_cons_of_mem f hg))
      (fun g hg h => ?_)]
    · simp only [bitsMask, BitVec.and_or_distrib_left, BitVec.or_assoc]
    · rw [bit_or, bit_and, Bool.or_eq_true, Bool.and_eq_true] at h
      exact h.elim (hset g (List.mem_cons_of_mem f hg)) (fun h => h.1)

/-- The lock words' fields are one bit each, and make up these bits. -/
theorem LockReg.bits {k : Nat} {r : RegRow} (h : LockReg k r) :
    (∀ f ∈ r.fields, f.ty = .wo ∧ f.reset = 0 ∧ f.hi = f.lo ∧ f.lo < 32) ∧ bitsMask r.fields = if k = Ad.CP_LOCK then 0x7FF else 1 := by
  cases h <;> decide

/-- A word that clears no set lock bit. -/
theorem LockReg.set_of_masked {k : Nat} {r : RegRow} (h : LockReg k r) {old w : Word}
    (hm : old &&& ~~~w &&& (if k = Ad.CP_LOCK then 0x7FF else 1) = 0) : ∀ f ∈ r.fields, bit old f.lo = true → bit w f.lo = true := by
  intro f hf hold
  have hin : bit (if k = Ad.CP_LOCK then 0x7FF else 1 : Word) f.lo = true :=
    (by cases h <;> decide : ∀ f ∈ r.fields, bit (if k = Ad.CP_LOCK then 0x7FF else 1 : Word) f.lo = true) f hf
  obtain ⟨-, -, -, h32⟩ := h.bits.1 f hf
  have hz := congrArg (fun x => bit x f.lo) hm
  simp only [bit_and, hold, hin] at hz
  simpa [bit_eq, h32] using hz

/-- A lock word written with all its set bits takes the word's (R134). -/
theorem rowWrite_lock {k : Nat} {r : RegRow} (h : LockReg k r) {s : State} {src : Src} {w : Word} (ht : Takes s src k)
    (hset : ∀ f ∈ r.fields, bit (s.reg k) f.lo = true → bit w f.lo = true) :
    ∃ b, Written k (s.reg k ||| (w &&& bitsMask r.fields)) s b ∧ rowWrite s src k w = b := by
  obtain ⟨hcp, hown, hgate, hhook, -⟩ := h.plain
  have hacc : fieldsAcc s src k r (-1) w = ⟨s.reg k ||| (w &&& bitsMask r.fields), s.stg k, [], 0, false, false⟩ :=
    foldl_woBits s src w r.fields ⟨s.reg k, s.stg k, [], 0, false, false⟩ h.bits.1 hset
  obtain ⟨b, hb, hw⟩ := regWrite_plain hown hgate hhook h.regAt (.inr hcp) (by rcases h.key with rfl | rfl <;> decide) hacc
  refine ⟨b, hb, ?_⟩
  rw [rowWrite_takes _ ht, hw]
  unfold cmdSeq
  split <;> rfl

/-! ### The commands of CP_TBL_CTRL -/

/-- The row of CP_TBL_CTRL in the register index. -/
def tblCtrlRow : RegRow :=
  ⟨"CP_TBL_CTRL", 0xF00000, [], 2, 0, 8, false,
    [⟨11, 8, "K", .rw, 16, .none, 0⟩, ⟨4, 4, "KEY_CHECK", .cmd, 16, .none, 0⟩, ⟨3, 3, "DISARM", .cmd, 16, .none, 0⟩,
      ⟨2, 2, "CLEAR", .cmd, 16, .none, 0⟩, ⟨1, 1, "ARM", .cmd, 16, .none, 0⟩, ⟨0, 0, "CHECK", .cmd, 16, .none, 0⟩]⟩

theorem tblCtrl_key : regAt Ad.CP_TBL_CTRL = some (tblCtrlRow, []) ∧ cpOnly Ad.CP_TBL_CTRL = false ∧ ownless Ad.CP_TBL_CTRL = true ∧
    ungated Ad.CP_TBL_CTRL = true ∧ unhooked Ad.CP_TBL_CTRL = true := by decide +kernel

/-- The word of one command with its K. -/
def tblCtrlCmd (i k : Nat) : Word := w32 (2 ^ i + 256 * k)

theorem bf_tblCtrlCmd {i k : Nat} (hi : i < 5) (hk : k < 16) :
    bf (tblCtrlCmd i k) 11 8 = k ∧ ∀ j, j < 5 → bf (tblCtrlCmd i k) j j = if j = i then 1 else 0 :=
  (by decide +kernel : ∀ i, i < 5 → ∀ k, k < 16 → bf (tblCtrlCmd i k) 11 8 = k ∧
    ∀ j, j < 5 → bf (tblCtrlCmd i k) j j = if j = i then 1 else 0) i hi k hk

theorem fieldsAcc_tblCtrl (s : State) (src : Src) {i k : Nat} (hi : i < 5) (hk : k < 16) :
    fieldsAcc s src Ad.CP_TBL_CTRL tblCtrlRow (-1) (tblCtrlCmd i k) =
      ⟨setBf (s.reg Ad.CP_TBL_CTRL) 11 8 k, s.stg Ad.CP_TBL_CTRL, [(i, 1)], 0, false, false⟩ := by
  have hall : (-1 : Word) = 4294967295#32 := rfl
  obtain ⟨hkf, hbits⟩ := bf_tblCtrlCmd hi hk
  simp only [fieldsAcc, tblCtrlRow, List.foldl_cons, List.foldl_nil, hall]
  rw [fldWrite_rw _ _ _ _ _ _ _ _ (by decide) (by decide), fldWrite_cmd _ _ _ _ _ _ _ _ (by decide) (by decide),
    fldWrite_cmd _ _ _ _ _ _ _ _ (by decide) (by decide), fldWrite_cmd _ _ _ _ _ _ _ _ (by decide) (by decide),
    fldWrite_cmd _ _ _ _ _ _ _ _ (by decide) (by decide), fldWrite_cmd _ _ _ _ _ _ _ _ (by decide) (by decide), hkf,
    hbits 0 (by decide), hbits 1 (by decide), hbits 2 (by decide), hbits 3 (by decide), hbits 4 (by decide)]
  interval_cases i <;> rfl

/-- One command of CP_TBL_CTRL, with its K. -/
theorem rowWrite_tblCtrl {s : State} {src : Src} {i k : Nat} (hi : i < 5) (hk : k < 16) (ht : Takes s src Ad.CP_TBL_CTRL) :
    ∃ b, Written Ad.CP_TBL_CTRL (setBf (s.reg Ad.CP_TBL_CTRL) 11 8 k) s b ∧ rowWrite s src Ad.CP_TBL_CTRL (tblCtrlCmd i k) =
      if i = 0 then tblCheck b else if i = 1 then tblArm b else if i = 2 then tblClear b else if i = 3 then tblDisarm b else keyCheck b := by
  obtain ⟨hat, hcp, hown, hgate, hhook⟩ := tblCtrl_key
  obtain ⟨b, hb, hw⟩ := regWrite_plain hown hgate hhook hat (.inr hcp) (by decide) (fieldsAcc_tblCtrl s src hi hk)
  refine ⟨b, hb, ?_⟩
  rw [rowWrite_takes _ ht, hw]
  rfl

section
variable {v : Word} {s b : State} (h : Written Ad.CP_TBL_CTRL v s b)
include h

/-- What a write of CP_TBL_CTRL leaves of the table engine. -/
theorem tblEngine_written : b.tbl = s.tbl ∧ tblState b = tblState s ∧ bit (b.reg Ad.CP_TBL_STATUS) 16 = bit (s.reg Ad.CP_TBL_STATUS) 16 := by
  obtain ⟨-, hother, -, -, he⟩ := h
  have hst := hother Ad.CP_TBL_STATUS (by decide)
  refine ⟨by rw [he], ?_, by rw [hst]⟩
  rw [tblState, tblState, State.fld, State.fld, hst]

theorem tblBuf_written (off n : Nat) : tblBuf b off n = tblBuf s off n := by
  have hword (i : Nat) : b.reg (Ad.CP_TBL_BUF (off / 4 + i)) = s.reg (Ad.CP_TBL_BUF (off / 4 + i)) :=
    h.2.1 _ (by simp only [Ad.CP_TBL_BUF, Ad.CP_TBL_CTRL]; omega)
  simp only [tblBuf, hword]

theorem image_written : imgIndex b = imgIndex s ∧ ∀ t, tblRejudge b t = tblRejudge s t := by
  refine ⟨by simp only [imgIndex, tblBuf_written h], fun t => ?_⟩
  have hver : b.reg (Ad.CP_TBL_VER t) = s.reg (Ad.CP_TBL_VER t) :=
    h.2.1 _ (by simp only [Ad.CP_TBL_VER, Ad.CP_TBL_CTRL]; omega)
  have hlock : b.reg Ad.CP_LOCK = s.reg Ad.CP_LOCK := h.2.1 _ (by decide)
  simp only [tblRejudge, imgVersion, tblBuf_written h, hver, locked, hlock]
  rfl

end

theorem keyCheck_starts {s : State} (hb : s.tbl.keyBusy = false) (hk : bit (s.reg Ad.CP_TBL_STATUS) 16 = false) :
    keyCheck s = { s with tbl := { s.tbl with keyBusy := true } } := if_neg (by simp [hb, hk])

theorem tblCheck_starts {s : State} (h : tblState s = 0 ∨ tblState s = 3) : tblCheck s = s.setFld Ad.CP_TBL_STATUS 2 0 1 := if_pos h

theorem tblClear_rests {s : State} (h1 : tblState s ≠ 1) (h4 : tblState s ≠ 4) : tblClear s = s.setFld Ad.CP_TBL_STATUS 2 0 0 :=
  if_neg (fun h => h.elim h1 h4)

theorem tblDisarm_drops {s : State} {k : Nat} (hk : s.fld Ad.CP_TBL_CTRL 11 8 = k) (ha : tblArmed s k = true) : tblDisarm s = tblDropArmed s k := by
  rw [tblDisarm, hk]
  exact if_pos ha

/-- ARM of a checked image whose offer the evidence store takes (R148). -/
theorem tblArm_offered {s : State} {t : Nat} (hs : tblState s = 2) (ht : imgIndex s = some t) (hr : tblRejudge s t = 0)
    (ho : (evsOffer s 3 (tblChange s) none).2 ≠ .busy) : tblArm s = tblSet (evsOffer s 3 (tblChange s) none).1 4 0 := by
  rw [tblArm, ht]
  dsimp only
  rw [if_neg (by simp [hs]), if_neg (by simp [hr])]
  split
  next s1 heq => exact absurd (congrArg Prod.snd heq) ho
  next s1 x hx heq => rw [heq]

/-! ### The ends of the table engine's runs -/

theorem keyCheckDone_ends {s : State} (hb : s.tbl.keyBusy = true) :
    let s1 : State := { s with tbl := { s.tbl with keyBusy := false } }
    let ok := otpGood s 0x0A = true ∧ sha256 (tblKey s) = (List.range 8).flatMap (fun i => toBytesLE 4 (otpWord s 0x0A i).toNat)
    (ok → keyCheckDone s = s1.setFld Ad.CP_TBL_STATUS 16 16 1) ∧ (¬ok → keyCheckDone s = tblEvt s1 6) := by
  intro s1 ok
  unfold keyCheckDone
  rw [if_neg (by simp [hb])]
  refine ⟨fun hok => if_pos ?_, fun hok => if_neg ?_⟩
  · obtain ⟨hgood, hhash⟩ := hok
    rw [hgood, hhash]
    simp
  · rw [Bool.and_eq_true, beq_iff_eq]
    exact hok

theorem tblCheckDone_ends {s : State} (hs : tblState s = 1) : tblCheckDone s =
    if tblReason s = 0 then tblEvt (tblSet s 2 0) 0 else sqEvt (tblSet s 3 (tblReason s)) Ad.CP_TBL_EVT 3 := by
  rw [tblCheckDone, if_neg (by simp [hs])]

theorem sqEvt_tbl (s : State) (k bits : Nat) : (sqEvt s k bits).tbl = s.tbl := by rw [eq_of_maskEvt (maskEvt_sqEvt s k bits)]

/-- A copied table is armed, and the engine is idle (R148, R150). -/
theorem tblArmDone_arms {s : State} {t : Nat} (hs : tblState s = 4) (ht : imgIndex s = some t) :
    tblArmed (tblArmDone s) t = true ∧ tblState (tblArmDone s) = 0 := by
  unfold tblArmDone
  rw [ht]
  dsimp only
  rw [if_neg (by simp [hs])]
  generalize hs2 : ({ tblDropArmed s t with
    tbl := { (tblDropArmed s t).tbl with armed := (tblDropArmed s t).tbl.armed ++ [⟨t, imgVersion s, imgBody s⟩] } } : State) = s2
  have harmed : tblArmed s2 t = true := by
    rw [← hs2]
    simp [tblArmed]
  generalize hs3 : pendSet (s2.setFld Ad.CP_TBL_ARMED t t 1) (tblGroup t) (tblIsland t) = s3
  have harmed3 : s3.tbl.armed = s2.tbl.armed := by
    rw [← hs3]
    rfl
  refine ⟨?_, ?_⟩
  · rw [tblArmed, tblEvt, sqEvt_tbl, setFld_tbl, harmed3]
    exact harmed
  · rw [tblState, State.fld, tblEvt, sqEvt_regsBut _ _ _ _ (by decide)]
    exact fld_setFld_self s3 Ad.CP_TBL_STATUS 0 (by decide)

/-! ### Parity, strobes and the staging buffer -/

theorem parityCheck_reports {s : State} {e : ParErr} (he : e ∈ s.parErr) (hr : e.reported = false)
    (hrun : s.running (keyIsland e.key) = true) (hk : e.key < 0x60000000) : parityCheck s e.key e.staged none = raise
      (({ s with parErr := s.parErr.map (fun (x : ParErr) =>
        if x.key == e.key && x.staged == e.staged then { x with reported := true } else x) } : State).setReg
          Ad.FLT_PARITY_ADDR (parCode e.key)) 0 (parCode e.key).toNat := by
  have hbad : parBad s e.key e.staged = true := List.any_eq_true.mpr ⟨e, he, by simp⟩
  have hnew : s.parErr.any (fun x => x.key == e.key && x.staged == e.staged && !x.reported) = true :=
    List.any_eq_true.mpr ⟨e, he, by simp [hr]⟩
  unfold parityCheck parCheck
  dsimp only
  rw [if_neg (by simp [hbad, hrun]), if_neg (by omega), parReport, if_pos hnew]

/-- The first key past a row. -/
def rowEnd (r : RegRow) : Nat :=
  match r.dims with
  | [] => r.base + 1
  | (c, st) :: _ => r.base + c * st

theorem dimIndex_past {r : RegRow} {k : Nat} (h : rowEnd r ≤ k) (hst : ∀ d ∈ r.dims, 0 < d.2) : dimIndex r.dims (k - r.base) = none := by
  unfold rowEnd at h
  cases hd : r.dims with
  | nil =>
    rw [hd] at h
    obtain ⟨n, hn⟩ := Nat.exists_eq_add_of_lt (show r.base < k from h)
    rw [show k - r.base = n + 1 by omega]
    rfl
  | cons d ds =>
    obtain ⟨c, st⟩ := d
    rw [hd] at h
    refine if_neg (Nat.not_lt.mpr ?_)
    have hpos : 0 < st := hst (c, st) (hd ▸ List.mem_cons_self)
    rw [Nat.le_div_iff_mul_le hpos]
    dsimp only at h
    omega

/-- A key past some rows is looked for in those after them. -/
theorem findReg_past {l1 : List RegRow} (l2 : List RegRow) {k : Nat} (h : ∀ r ∈ l1, rowEnd r ≤ k ∧ ∀ d ∈ r.dims, 0 < d.2) :
    findReg (l1 ++ l2) k = findReg l2 k := by
  induction l1 with
  | nil => rfl
  | cons r l1 ih =>
    obtain ⟨hend, hst⟩ := h r List.mem_cons_self
    rw [List.cons_append, findReg, dimIndex_past hend hst, ih (fun r hr => h r (List.mem_cons_of_mem _ hr))]
    exact ite_self _

/-- The row of CP_TBL_BUF in the register index. -/
def tblBufRow : RegRow := ⟨"CP_TBL_BUF", 0xF10000, [(65536, 0x4)], 2, 0, 8, false, [⟨31, 0, "DATA", .rw, 16, .none, 0⟩]⟩

theorem tableEngine_rows : regsTableEngine0 = regsTableEngine0.dropLast ++ [tblBufRow] ∧
    ∀ r ∈ regsTableEngine0.dropLast, rowEnd r ≤ 0xF10000 ∧ ∀ d ∈ r.dims, 0 < d.2 := by decide +kernel

theorem regAt_tblBuf {k : Nat} (hk : k < 0x10000) : regAt (0xF10000 + 4 * k) = some (tblBufRow, [k]) := by
  have hrows : regRows (0xF10000 + 4 * k) = regsTableEngine0 := by
    unfold regRows
    iterate 17 rw [if_neg (by omega)]
    exact if_pos (by omega)
  obtain ⟨hsplit, hpast⟩ := tableEngine_rows
  rw [regAt, hrows, hsplit, findReg_past _ (fun r hr => ⟨Nat.le_trans (hpast r hr).1 (by omega), (hpast r hr).2⟩)]
  have hdim : dimIndex tblBufRow.dims (0xF10000 + 4 * k - tblBufRow.base) = some [k] := by
    rw [show 0xF10000 + 4 * k - tblBufRow.base = 4 * k by simp only [tblBufRow]; omega]
    simp only [tblBufRow, dimIndex, Nat.mul_div_cancel_left _ (show 0 < 4 by decide), Nat.mul_mod_right, if_pos hk]
    rfl
  rw [findReg, if_pos (by simp only [tblBufRow]; omega), hdim]

theorem inArr_past {k b st c : Nat} (hst : 0 < st) (h : b + st * c ≤ k) : inArr k b st c = none := by
  refine if_neg (fun hc => ?_)
  have := (Nat.div_lt_iff_lt_mul hst).mp hc.2.2
  rw [Nat.mul_comm] at this
  omega

/-- Nothing sets the words of the staging buffer apart. -/
theorem tblBuf_key {k : Nat} (hk : k < 0x10000) : cpOnly (0xF10000 + 4 * k) = false ∧ ownless (0xF10000 + 4 * k) = true ∧
    ungated (0xF10000 + 4 * k) = true ∧ unhooked (0xF10000 + 4 * k) = true := by
  have harr {b st c : Nat} (hst : 0 < st) (h : b + st * c ≤ 0xF10000) : inArr (0xF10000 + 4 * k) b st c = none :=
    inArr_past hst (Nat.le_trans h (by omega))
  refine ⟨?_, ?_, ?_, ?_⟩
  · simp only [cpOnly, List.contains_eq_mem, List.mem_cons, List.not_mem_nil, or_false, Bool.or_eq_false_iff, decide_eq_false_iff_not,
      Ad.FLT_CTRL, Ad.FLT_RELEASE_0, Ad.FLT_RELEASE_1, Ad.FLT_CFG, Ad.EVC_IRQ_CFG, Ad.EVC_ROUTE]
    omega
  · rw [ownless, harr (by decide) (by decide), harr (by decide) (by decide), harr (by decide) (by decide), harr (by decide) (by decide)]
    simp only [Ad.ISL_RC_CTRL, Ad.ACQ_TDAC, Bool.and_eq_true, bne_iff_ne, Bool.not_eq_true', decide_eq_false_iff_not, Option.isNone_none, and_true]
    omega
  · rw [ungated, harr (by decide) (by decide), harr (by decide) (by decide), harr (by decide) (by decide)]
    simp only [lthGuardKey, lthRamKey, otpKey, Ad.TMM_CMD, Ad.OTP_CMD, Ad.OTP_KEYPOL, Ad.OTP_STAGE, Bool.and_eq_true, bne_iff_ne,
      Bool.not_eq_true', decide_eq_false_iff_not, Option.isNone_none, Bool.and_eq_false_iff, Bool.or_eq_false_iff, beq_eq_false_iff_ne, and_true]
    omega
  · rw [unhooked, harr (by decide) (by decide), harr (by decide) (by decide), harr (by decide) (by decide), harr (by decide) (by decide)]
    simp only [lthRamKey, List.contains_eq_mem, List.mem_cons, List.not_mem_nil, or_false, Bool.and_eq_true, Bool.not_eq_true',
      decide_eq_false_iff_not, Option.isNone_none, and_true, Ad.CP_VALLEY, Ad.TMM_CMD, Ad.TMM_CTRL, Ad.PAS_CMD, Ad.EVS_X_CTRL, Ad.OTP_CMD,
      Ad.FLT_RAISED_0, Ad.FLT_RAISED_1]
    omega

theorem setBf_whole (old w : Word) : setBf old 31 0 (bf w 31 0) = w := by
  rw [← merge_eq_setBf, merge, show fmask 31 0 = BitVec.allOnes 32 by decide, BitVec.not_allOnes, BitVec.and_zero,
    BitVec.and_allOnes, BitVec.zero_or]

theorem fieldsAcc_tblBuf (s : State) (src : Src) (k : Nat) (w : Word) : fieldsAcc s src k tblBufRow (-1) w =
    ⟨setBf (s.reg k) 31 0 (bf w 31 0), s.stg k, [], 0, false, false⟩ := by
  have hall : (-1 : Word) = 4294967295#32 := rfl
  simp only [fieldsAcc, tblBufRow, List.foldl_cons, List.foldl_nil, hall]
  rw [fldWrite_rw _ _ _ _ _ _ _ _ (by decide) (by decide)]

/-- A word of the staging buffer, while it takes writes, and while it does not (R144, R153). -/
theorem rowWrite_tblBuf {s : State} {src : Src} {k : Nat} {w : Word} (hk : k < 0x10000) (ht : Takes s src (0xF10000 + 4 * k)) :
    (tblOpen s = true → ∃ b, Written (0xF10000 + 4 * k) w s b ∧ rowWrite s src (0xF10000 + 4 * (k % 0x10000)) w = b) ∧
    (tblOpen s = false → rowWrite s src (0xF10000 + 4 * (k % 0x10000)) w = tblEvt s 4) := by
  obtain ⟨hcp, hown, hgate, hhook⟩ := tblBuf_key hk
  have hreach : ¬(src ≠ .cp ∧ cpOnly (0xF10000 + 4 * k) = true) := by simp [hcp]
  have hrange : 0xF10000 ≤ 0xF10000 + 4 * k ∧ 0xF10000 + 4 * k < 0xF50000 := by omega
  rw [Nat.mod_eq_of_lt hk, rowWrite_takes _ ht]
  unfold regWrite
  rw [regAt_tblBuf hk]
  dsimp only [aliasMask]
  rw [if_neg hreach]
  refine ⟨fun ho => ?_, fun ho => ?_⟩
  · have hacc := fieldsAcc_tblBuf s src (0xF10000 + 4 * k) w
    obtain ⟨hb, hx⟩ := fieldsWrite_written (s := s) (src := src) (key := 0xF10000 + 4 * k) (r := tblBufRow) (ix := [k]) (mask := -1) (w := w)
      (by rw [hacc]) (by rw [hacc]) (by rw [hacc])
    rw [hacc, setBf_whole] at hb
    refine ⟨_, hb, ?_⟩
    rw [if_neg (fun h => absurd h.2.2 (by simp [ho])), ownWrite_of_ownless hown]
    dsimp only [Option.isSome]
    rw [writeIgnored_of_ungated hgate, writeGate_of_ungated hgate, regHook_of_unhooked hhook, hx, hacc]
    unfold cmdSeq
    split <;> rfl
  · rw [if_pos ⟨hrange.1, hrange.2, by simp [ho]⟩]

/-! ### The obligation -/

/-- Settles O19: each command is the write of one word, and goes on as its register's command does; the runs' ends act by their own guards. -/
theorem tableCommandsAct : Obligations.TableCommandsAct := by
  unfold Obligations.TableCommandsAct
  intro s src key k high low w g st
  refine ⟨fun ht => next_congr (rowWrite_takes w ht), fun ht hg => ?_, fun hrun => ⟨?_, ?_, ?_⟩, fun ht => ⟨?_, ?_⟩, fun ht hset => ?_,
    fun ht hset => ?_,
    fun ht => ?_, fun ht hk ha => ?_, fun hclk => ⟨?_, ?_, ?_, ?_⟩, fun ht hk => ?_⟩
  · obtain ⟨b, hb, hx⟩ := rowWrite_cpUpdate hg ht
    exact ⟨b, hb, next_congr hx⟩
  · exact fun hh hl => next_onRun hrun (if_pos ⟨hh, hl⟩)
  · exact fun a ha hd => next_onRun hrun (updDue_due ha hd)
  · rintro e he hr rfl rfl hisl hkey
    exact next_onRun hrun (parityCheck_reports he hr hisl hkey)
  · obtain ⟨b, hb, hx⟩ := rowWrite_updTctrl (i := 0) (by decide) ht
    exact ⟨b, hb, next_congr hx⟩
  · obtain ⟨b, hb, hx⟩ := rowWrite_updTctrl (i := 1) (by decide) ht
    exact ⟨b, hb, next_congr hx⟩
  · obtain ⟨b, hb, hx⟩ := rowWrite_lock .lock ht (LockReg.lock.set_of_masked hset)
    rw [LockReg.lock.bits.2] at hb
    exact ⟨b, hb, next_congr hx⟩
  · have hmasked : s.reg Ad.CP_LOCK_STRICT &&& ~~~w &&& 1 = 0 := by
      refine BitVec.eq_of_getLsbD_eq (fun i hi => ?_)
      rw [← bit_eq, bit_and, bit_and, show bit (1 : Word) i = decide (0 = i) from (bit_w32_two_pow 0 i).trans (by simp [hi])]
      by_cases h0 : 0 = i
      · subst h0
        rcases hset with h | h
        · simp [h, bit_eq]
        · simp [bit_eq] at h ⊢
          simp [h]
      · simp [h0]
    obtain ⟨b, hb, hx⟩ := rowWrite_lock .strict ht (LockReg.strict.set_of_masked hmasked)
    rw [LockReg.strict.bits.2] at hb
    exact ⟨b, hb, next_congr hx⟩
  · intro B
    have hcmd (i : Nat) (hi : i < 5) := rowWrite_tblCtrl (k := 0) hi (by decide) ht
    refine ⟨fun hbusy hok => ?_, fun hs => ?_, fun t hs him hr => ?_, fun h1 h4 => ?_⟩
    · obtain ⟨b, hb, hx⟩ := hcmd 4 (by decide)
      obtain ⟨htbl, -, hst⟩ := tblEngine_written hb
      exact ⟨b, hb, next_congr (hx.trans (keyCheck_starts (by rw [htbl]; exact hbusy) (by rw [hst]; exact hok)))⟩
    · obtain ⟨b, hb, hx⟩ := hcmd 0 (by decide)
      obtain ⟨-, hstate, -⟩ := tblEngine_written hb
      exact ⟨b, hb, next_congr (hx.trans (tblCheck_starts (by rw [hstate]; exact hs)))⟩
    · obtain ⟨b, hb, hx⟩ := hcmd 1 (by decide)
      obtain ⟨-, hstate, -⟩ := tblEngine_written hb
      obtain ⟨hindex, hjudge⟩ := image_written hb
      exact ⟨b, hb, fun ho => next_congr (hx.trans (tblArm_offered (hstate.trans hs) (hindex.trans him) ((hjudge t).trans hr) ho))⟩
    · obtain ⟨b, hb, hx⟩ := hcmd 2 (by decide)
      obtain ⟨-, hstate, -⟩ := tblEngine_written hb
      exact ⟨b, hb, next_congr (hx.trans (tblClear_rests (by rw [hstate]; exact h1) (by rw [hstate]; exact h4)))⟩
  · obtain ⟨b, hb, hx⟩ := rowWrite_tblCtrl (i := 3) (by decide) hk ht
    have hfld : b.fld Ad.CP_TBL_CTRL 11 8 = k := by
      rw [State.fld, hb.1, bf_setBf_self _ _ (by decide)]
      exact Nat.mod_eq_of_lt hk
    refine ⟨b, hb, next_congr ?_⟩
    rw [Nat.mod_eq_of_lt hk]
    exact hx.trans (tblDisarm_drops hfld (by rw [tblArmed, (tblEngine_written hb).1]; exact ha))
  · intro hbusy
    obtain ⟨hok, hbad⟩ := keyCheckDone_ends hbusy
    exact ⟨fun h => next_onIsl hclk (hok h), fun h => next_onIsl hclk (hbad h)⟩
  · exact fun hs hr => next_onIsl hclk ((tblCheckDone_ends hs).trans (if_pos hr))
  · exact fun hs hr => next_onIsl hclk ((tblCheckDone_ends hs).trans (if_neg hr))
  · exact fun t hs him => ⟨_, next_onIsl hclk rfl, tblArmDone_arms hs him⟩
  · obtain ⟨hopen, hclosed⟩ := rowWrite_tblBuf (w := w) hk ht
    refine ⟨fun ho => ?_, fun ho => next_congr (hclosed ho)⟩
    obtain ⟨b, hb, hx⟩ := hopen ho
    exact ⟨b, hb, next_congr hx⟩

end Sys2Proof.Machine
end

section
/-!
PROOF. Why a write that ends a ring's EN need not leave its ACQ_BUF_CTRL alone: under lock domain 0 the control port's write of another TENANT is
a lock violation, though the ring, being enabled, would not have taken it (R135).
-/
namespace Sys2Proof.Machine

/-! ### A quiet device is told by its registers' values -/

/-- Of a state whose record core does not wait, what Quiet says depends on the values of its registers, and not on how they are kept. -/
theorem quiet_of_sameRegs {s t : State} (hreg : ∀ k, t.reg k = s.reg k) (hw : s.rc.wfi = false)
    (ht : t = { s with regs := t.regs, staged := t.staged, parErr := t.parErr }) : Quiet t = Quiet s := by
  have hdepth : t.depth = s.depth := congrArg (bf · 5 4) (hreg Ad.CP_VALLEY)
  have hflt : t.flt = s.flt := by rw [ht]
  have hlevels : levelsOn t = levelsOn s := by
    have hsum : fltSummary t = fltSummary s := fltSummary_congr hflt (hreg _) (hreg _) (hreg _)
    refine List.filter_congr (fun i _ => ?_)
    simp only [levelOn, hreg, hsum]
  have hrc : rcBusy t = rcBusy s := by
    have hrest : t.rc = s.rc := by rw [ht]
    simp only [rcBusy, contained, hflt, hrest, hw, Bool.false_and]
  have hisl : t.isl = s.isl := by rw [ht]
  have hacq : acqBusy t = acqBusy s := by
    have hrest : t.acq = s.acq := by rw [ht]
    simp only [acqBusy, acqStopping, hrest, hisl, State.fld, hreg]
  have hlnk : t.lnk = s.lnk := by rw [ht]
  have hports : (List.range (nPorts t)).all (fun p => ((portOf t p).mode != .disabled) == t.running (13 + p)) =
      (List.range (nPorts s)).all (fun p => ((portOf s p).mode != .disabled) == s.running (13 + p)) := by
    have hvar : t.variant = s.variant := by rw [ht]
    simp only [nPorts, isG2B, hvar, portOf, hlnk, State.running, hisl]
    rfl
  have hrest : haBusy t = haBusy s ∧ tmmBusy t = tmmBusy s ∧ lthBusy t = lthBusy s ∧ valleyBusy t = valleyBusy s := by
    rw [ht]
    exact ⟨rfl, rfl, rfl, rfl⟩
  obtain ⟨hha, htmm, hlth, hvalley⟩ := hrest
  have hblocks : t.effects = s.effects ∧ t.chz = s.chz ∧ t.cp = s.cp ∧ t.tap = s.tap ∧ t.pcu = s.pcu := by
    rw [ht]
    exact ⟨rfl, rfl, rfl, rfl, rfl⟩
  obtain ⟨heff, hchz, hcp, htap, hpcu⟩ := hblocks
  unfold Quiet
  rw [hdepth, hlevels, hrc, hisl, hacq, hports, hha, htmm, hlth, hvalley, heff, hchz, hcp, htap, hpcu]

/-! ### The counterexample -/

/-- Ring 0 is enabled for tenant 0, and lock domain 0 is locked. -/
def ringLocked : State := ((tRc id).setReg (Ad.ACQ_BUF_CTRL 0) 1).setReg Ad.CP_LOCK 1

/-- EN 0, with TENANT 1. -/
def ringEndWord : Word := 0x00010000

/-- LOCK_VIOL (class 2) is raised, where a command has completed. -/
def lockViolAfter : Host.Outcome State Fault Refusal → Option Bool
  | .next t => some (bit (t.reg Ad.FLT_RAISED_0) 2)
  | _ => none

theorem ringLocked_takes : Takes ringLocked .cp (Ad.ACQ_BUF_CTRL 0) := takes_of_eval (by decide +kernel)

/-- The write is a lock violation. -/
theorem ringEnd_violates : lockViolAfter (exec (.acqRingEnableWrite .cp 0 ringEndWord) ringLocked) = some true := by decide +kernel

/-- The statement has EN end, and nothing raised. -/
theorem ringEnd_quiet {b : State} (hb : Written (Ad.ACQ_BUF_CTRL 0) (ringLocked.reg (Ad.ACQ_BUF_CTRL 0)) ringLocked b) :
    lockViolAfter (.next (finish ringLocked (ringOut (b.setFld (Ad.ACQ_BUF_CTRL 0) 0 0 0) 0))) = some false := by
  have hsame := hb.same
  obtain ⟨-, -, -, -, he⟩ := hb
  have hrings : ringOut (b.setFld (Ad.ACQ_BUF_CTRL 0) 0 0 0) 0 = b.setFld (Ad.ACQ_BUF_CTRL 0) 0 0 0 := by
    have hring : ringOf (b.setFld (Ad.ACQ_BUF_CTRL 0) 0 0 0) 0 = ringOf ringLocked 0 := by
      rw [ringOf, setFld_acq, he]
      rfl
    unfold ringOut
    rw [hring]
    exact if_pos (by decide +kernel)
  have hreg (k : Nat) : (b.setFld (Ad.ACQ_BUF_CTRL 0) 0 0 0).reg k = (ringLocked.setFld (Ad.ACQ_BUF_CTRL 0) 0 0 0).reg k := by
    rw [reg_setFld, reg_setFld, hsame, hsame]
  have hrest : b.setFld (Ad.ACQ_BUF_CTRL 0) 0 0 0 = { ringLocked.setFld (Ad.ACQ_BUF_CTRL 0) 0 0 0 with
      regs := (b.setFld (Ad.ACQ_BUF_CTRL 0) 0 0 0).regs, staged := (b.setFld (Ad.ACQ_BUF_CTRL 0) 0 0 0).staged,
      parErr := (b.setFld (Ad.ACQ_BUF_CTRL 0) 0 0 0).parErr } := by
    generalize hR : (b.setFld (Ad.ACQ_BUF_CTRL 0) 0 0 0).regs = R
    have hb1 : b.setFld (Ad.ACQ_BUF_CTRL 0) 0 0 0 = { b with regs := R } := by
      rw [← hR]
      rfl
    rw [hb1, he]
    rfl
  have hquiet : Quiet (b.setFld (Ad.ACQ_BUF_CTRL 0) 0 0 0) = true := by
    rw [quiet_of_sameRegs hreg rfl hrest]
    decide +kernel
  rw [hrings, finish_quiet hquiet (by rw [hrest]; rfl) (by rw [hrest]; rfl), lockViolAfter, hreg]
  decide +kernel

/-- Refutes O55: with domain 0 locked the control port clears EN of ring 0 by a word of another TENANT; LOCK_VIOL is raised, where the statement
has the write leave every register but ACQ_BUF_CTRL as it was. -/
theorem not_acquisitionAndDacCommandsAct : ¬ Obligations.AcquisitionAndDacCommandsAct := by
  unfold Obligations.AcquisitionAndDacCommandsAct
  intro h
  obtain ⟨-, -, hring, -⟩ := h ringLocked .cp false false 0 0 0 0 0 0 0 0 0 ringEndWord
  obtain ⟨-, hends⟩ := hring (by decide) ringLocked_takes
  obtain ⟨b, hb, hx⟩ := hends (by decide +kernel) (by decide +kernel)
  exact absurd ((ringEnd_violates.symm.trans (congrArg lockViolAfter hx)).trans (ringEnd_quiet hb)) (by decide)

end Sys2Proof.Machine
end
